-- ==== Sys2Proof/Word.lean ====
section
/-! DEFINITION. The machine's words: a byte (R5: multi-byte values are little-endian) and the 32-bit word of setter
registers and control-space registers (R10). -/

namespace Sys2Proof

/-- A byte of memory, of a frame on a wire or of a cell's payload. -/
abbrev Byte := BitVec 8

/-- A 32-bit word: a setter register (R35) or a control-space register (R10). -/
abbrev Word := BitVec 32

end Sys2Proof
end

