-- ==== Sys2Proof/Syntax.lean ====
section
/-! DEFINITION. The commands of the block: one constructor of Instr for every row of the operation table, with the
row's operands, and the plain types of those operands. Numbers of units follow R12. -/

namespace Sys2Proof

/-- Setter number 0-15 (R12). -/
abbrev SetterId := Fin 16
/-- General register g0-g15 of a setter (R35). -/
abbrev Reg := Fin 16
/-- Timer tm0-tm7 of a setter (R35). -/
abbrev TimerId := Fin 8
/-- Bay number 0-63 (R12). -/
abbrev BayId := Fin 64
/-- Wing number 0-3 (R12). -/
abbrev Wing := Fin 4
/-- I/O bank number 0-5 (R12). -/
abbrev Bank := Fin 6
/-- Pin index within a bank, 0-21 (R156). -/
abbrev PinId := Fin 22
/-- Wing PLL number 0-7 (R25). -/
abbrev PllId := Fin 8
/-- Queue number (R206). -/
abbrev QueueId := BitVec 16
/-- Event source number 0-639 (R25). -/
abbrev Source := Fin 640
/-- Store master identifier 0-29 (R185). -/
abbrev Master := Fin 30
/-- Packer number 0-31 (R216). -/
abbrev PackerId := Fin 32
/-- Requester port of the hod, 0-18 (R214). -/
abbrev HodPort := Fin 19

/-- The register fields d, a and b of an A-format word (R75). A field that the instruction does not name must be 0. -/
structure Regs where
  d : Reg
  a : Reg
  b : Reg
  deriving DecidableEq, Repr

/-- What the decode check of R76 finds wrong with a word that names no instruction. -/
inductive Illegal where
  /-- The major opcode is reserved: subcode 0. -/
  | reservedOpcode
  /-- The function, mode or op value is reserved for its opcode: subcode 1. -/
  | reservedFunction
  /-- A must-be-zero field is not 0: subcode 5. -/
  | operandRule
  deriving DecidableEq, Repr

/-- The three frame-source registers of R59. -/
inductive FrameReg where
  | fsrc
  | fperiod
  | ftb
  deriving DecidableEq, Repr

/-- The four orthogonal neighbours of a bay in the grid of R139. -/
inductive Dir where
  | left
  | right
  | up
  | down
  deriving DecidableEq, Repr

/-- The sources that assert a regional reset tree (R152). -/
inductive ResetSource where
  | loadHold
  | software
  | userNet
  | reinit
  deriving DecidableEq, Repr

/-- A request of a master to the store (R182, R185): a single access of `bytes` bytes when `beats` is 1, else a burst. -/
structure StoreReq where
  addr  : Word
  beats : Nat
  bytes : Nat
  write : Bool
  lock  : Bool
  key   : Bool
  data  : List Byte
  deriving DecidableEq, Repr

/-- An operation on a queue (R118, R215). -/
inductive HodOp where
  | put (q : QueueId) (v : Word) (eob : Bool)
  | get (q : QueueId)
  | peek (q : QueueId)
  | qst (q : QueueId)
  deriving DecidableEq, Repr

/-- A cell of the chain (R235): the header's fields, the 32 payload bytes and the CRC as received or sent. -/
structure Cell where
  type    : BitVec 4
  cls     : BitVec 2
  dest    : BitVec 12
  src     : BitVec 12
  hop     : Bool
  abt     : Bool
  payload : List Byte
  crc     : Word
  deriving DecidableEq, Repr

/-- The channel a plinth command came from (R308). -/
inductive Channel where
  | queue
  | i2c
  deriving DecidableEq, Repr

/-- Where a host-port frame was when HCS_N rose early (R263). -/
inductive AbortPhase where
  /-- Before the last data byte of a WRITE, or before the length byte of a READ. -/
  | beforeAccess
  /-- In a WRITE's status phase. -/
  | writeStatus
  /-- After a READ's length byte, its access not yet granted. -/
  | readWaiting
  /-- After a READ's access completed. -/
  | readDone
  /-- After a queue GET removed its element, which was this word. -/
  | getDone
  deriving DecidableEq, Repr

/-- The four sources of an image stream (R275), in the coding of IMG_WRSTAT.SOURCE. -/
inductive StreamSource where
  | plinth
  | chain
  | jtag
  | cfg
  deriving DecidableEq, Repr

/-- Why the device starts (R326, code 0x0001). -/
inductive StartCause where
  | powerOn
  | porst
  | brownout
  deriving DecidableEq, Repr

/-- The threshold and enable registers that R320 names. -/
inductive ThresholdReg where
  | sensctl
  | sensen
  | tthr (t : Fin 5)
  | rthr (r : Fin 9)
  | wcur (w : Fin 4)
  deriving DecidableEq, Repr

/-- What one sensor cycle converts (R319): 12-bit temperature codes, rail averages and wing currents. -/
structure SensorInput where
  temps : List (BitVec 12)
  rails : List (BitVec 12)
  cur   : List (BitVec 16)
  deriving DecidableEq, Repr

/-- A power domain that an access can wake in NAP (R343). -/
inductive Domain where
  | bay (b : BayId)
  | setter (s : SetterId)
  | store
  | hod
  deriving DecidableEq, Repr

/-- The commands: one constructor for every row of the operation table, in its order. -/
inductive Instr where
  /-- NOP (R83). Does nothing for 1 setter cycle except advance the PC. -/
  | nop (s : SetterId) (bad : Option Illegal)
  /-- HALT (R83). Stops the setter after itself, sets HALTED and clears RUN. -/
  | halt (s : SetterId) (r : Regs) (svc : BitVec 10)
  /-- FENCE (R84). Waits until every earlier LUTW and TOUTD of this setter has landed in its bay. -/
  | fence (s : SetterId) (r : Regs) (svc : BitVec 10)
  /-- CSRR (R122). Reads a 32-bit control-space register into gd. -/
  | csrr (s : SetterId) (r : Regs) (svc : BitVec 10)
  /-- CSRW (R122). Writes gb to the control-space register at address ga. -/
  | csrw (s : SetterId) (r : Regs) (svc : BitVec 10)
  /-- SLEEP (R127). SYS service that requests DOZE, NAP or DORMANT for the selected domains. -/
  | sleep (s : SetterId) (r : Regs)
  /-- SYS_RESUME (R126). SYS service that ends DOZE of the domains selected for DOZE. -/
  | sysResume (s : SetterId) (r : Regs)
  /-- SYS_TEST (R129). SYS service that starts a self-test slice and returns its result record number. -/
  | sysTest (s : SetterId) (r : Regs)
  /-- SYS_TESTABORT (R129). SYS service that ends a running slice on a block as INCOMPLETE. -/
  | sysTestAbort (s : SetterId) (r : Regs)
  /-- SYS_SWAP (R128). SYS service that requests a background swap of bays and setter programs from a slot. -/
  | sysSwap (s : SetterId) (r : Regs)
  /-- BONDSWAP (R130). SYS service that sets the SWAP bit of the store or chain bond table. -/
  | bondSwap (s : SetterId) (r : Regs)
  /-- SYS_UNDEFINED_SERVICE (R126). A SYS with an undefined service number returns BADSVC as a refusal. -/
  | sysUndefinedService (s : SetterId) (r : Regs) (n : BitVec 10)
  /-- ADD (R85). gd = ga + gb, setting Z N C V. -/
  | add (s : SetterId) (r : Regs)
  /-- ADDC (R85). gd = ga + gb + C, setting Z N C V. -/
  | addc (s : SetterId) (r : Regs)
  /-- SUB (R85). gd = ga − gb, setting Z N C V. -/
  | sub (s : SetterId) (r : Regs)
  /-- SUBB (R85). gd = ga − gb − C, setting Z N C V. -/
  | subb (s : SetterId) (r : Regs)
  /-- AND (R85). gd = ga AND gb, setting Z N. -/
  | and (s : SetterId) (r : Regs)
  /-- OR (R85). gd = ga OR gb, setting Z N. -/
  | or (s : SetterId) (r : Regs)
  /-- XOR (R85). gd = ga XOR gb, setting Z N. -/
  | xor (s : SetterId) (r : Regs)
  /-- ANDN (R85). gd = ga AND NOT gb, setting Z N. -/
  | andn (s : SetterId) (r : Regs)
  /-- SHL (R86). Shifts ga left by gb[4:0]. -/
  | shl (s : SetterId) (r : Regs)
  /-- SHR (R86). Shifts ga right logically by gb[4:0]. -/
  | shr (s : SetterId) (r : Regs)
  /-- SAR (R86). Shifts ga right arithmetically by gb[4:0]. -/
  | sar (s : SetterId) (r : Regs)
  /-- ROL (R86). Rotates ga left by gb[4:0]. -/
  | rol (s : SetterId) (r : Regs)
  /-- MIN (R85). Writes the signed minimum of ga and gb. -/
  | min (s : SetterId) (r : Regs)
  /-- MAX (R85). Writes the signed maximum of ga and gb. -/
  | max (s : SetterId) (r : Regs)
  /-- MINU (R85). Writes the unsigned minimum of ga and gb. -/
  | minu (s : SetterId) (r : Regs)
  /-- MAXU (R85). Writes the unsigned maximum of ga and gb. -/
  | maxu (s : SetterId) (r : Regs)
  /-- CMP (R87). Signed three-way compare of ga and gb, flags as SUB. -/
  | cmp (s : SetterId) (r : Regs)
  /-- CMPU (R87). Unsigned three-way compare of ga and gb, flags as SUB. -/
  | cmpu (s : SetterId) (r : Regs)
  /-- CLZ (R85). Counts leading zeros of ga. -/
  | clz (s : SetterId) (r : Regs)
  /-- POPC (R85). Counts the 1 bits of ga. -/
  | popc (s : SetterId) (r : Regs)
  /-- DIVU (R88). Unsigned quotient in 34 setter cycles, never trapping. -/
  | divu (s : SetterId) (r : Regs)
  /-- DIVS (R88). Signed quotient truncated toward zero in 34 setter cycles. -/
  | divs (s : SetterId) (r : Regs)
  /-- REMU (R88). Unsigned remainder in 34 setter cycles. -/
  | remu (s : SetterId) (r : Regs)
  /-- REMS (R88). Signed remainder with the sign of the dividend in 34 setter cycles. -/
  | rems (s : SetterId) (r : Regs)
  /-- ADDI (R89). Adds an immediate formed by mode to ga. -/
  | addi (s : SetterId) (d : Reg) (a : Reg) (mode : BitVec 2) (imm : BitVec 16)
  /-- ANDI (R89). ANDs ga with an immediate formed by mode. -/
  | andi (s : SetterId) (d : Reg) (a : Reg) (mode : BitVec 2) (imm : BitVec 16)
  /-- ORI (R89). ORs ga with an immediate formed by mode. -/
  | ori (s : SetterId) (d : Reg) (a : Reg) (mode : BitVec 2) (imm : BitVec 16)
  /-- XORI (R89). XORs ga with an immediate formed by mode. -/
  | xori (s : SetterId) (d : Reg) (a : Reg) (mode : BitVec 2) (imm : BitVec 16)
  /-- SHLI (R90). Shifts ga left by an immediate amount. -/
  | shli (s : SetterId) (d : Reg) (a : Reg) (imm : BitVec 16)
  /-- SHRI (R90). Shifts ga right logically by an immediate amount. -/
  | shri (s : SetterId) (d : Reg) (a : Reg) (imm : BitVec 16)
  /-- SARI (R90). Shifts ga right arithmetically by an immediate amount. -/
  | sari (s : SetterId) (d : Reg) (a : Reg) (imm : BitVec 16)
  /-- ROLI (R90). Rotates ga left by an immediate amount. -/
  | roli (s : SetterId) (d : Reg) (a : Reg) (imm : BitVec 16)
  /-- CMPI (R89). Compares ga with a signed or unsigned immediate. -/
  | cmpi (s : SetterId) (d : Reg) (a : Reg) (mode : BitVec 2) (imm : BitVec 16)
  /-- LUI (R89). Loads the immediate into the upper 16 bits of gd. -/
  | lui (s : SetterId) (d : Reg) (a : Reg) (mode : BitVec 2) (imm : BitVec 16)
  /-- MUL (R91). Writes the low 32 bits of ga × gb. -/
  | mul (s : SetterId) (r : Regs) (hi : BitVec 9)
  /-- MULH (R91). Writes the high 32 bits of the signed product. -/
  | mulh (s : SetterId) (r : Regs) (hi : BitVec 9)
  /-- MULHU (R91). Writes the high 32 bits of the unsigned product. -/
  | mulhu (s : SetterId) (r : Regs) (hi : BitVec 9)
  /-- MAC (R91). Adds the signed product of ga and gb to ACC modulo 2^64. -/
  | mac (s : SetterId) (r : Regs) (hi : BitVec 9)
  /-- MACS (R91). Adds the signed product to ACC with saturation. -/
  | macs (s : SetterId) (r : Regs) (hi : BitVec 9)
  /-- ACCRD (R92). Reads ACC shifted, optionally rounded and saturated, into gd. -/
  | accrd (s : SetterId) (r : Regs) (hi : BitVec 9)
  /-- ACCLD (R91). Loads ACC from ga and gb. -/
  | accld (s : SetterId) (r : Regs) (hi : BitVec 9)
  /-- ACCCLR (R91). Clears ACC. -/
  | accclr (s : SetterId) (r : Regs) (hi : BitVec 9)
  /-- LD (R93). Loads a word from local data memory. -/
  | ld (s : SetterId) (d : Reg) (a : Reg) (off : BitVec 14)
  /-- LDH (R93). Loads a sign-extended halfword from local data memory. -/
  | ldh (s : SetterId) (d : Reg) (a : Reg) (off : BitVec 14)
  /-- LDHU (R93). Loads a zero-extended halfword from local data memory. -/
  | ldhu (s : SetterId) (d : Reg) (a : Reg) (off : BitVec 14)
  /-- LDB (R93). Loads a sign-extended byte from local data memory. -/
  | ldb (s : SetterId) (d : Reg) (a : Reg) (off : BitVec 14)
  /-- LDBU (R93). Loads a zero-extended byte from local data memory. -/
  | ldbu (s : SetterId) (d : Reg) (a : Reg) (off : BitVec 14)
  /-- ST (R93). Stores a word to local data memory. -/
  | st (s : SetterId) (d : Reg) (a : Reg) (off : BitVec 14)
  /-- STH (R94). Stores a halfword, merged into its ECC word. -/
  | sth (s : SetterId) (d : Reg) (a : Reg) (off : BitVec 14)
  /-- STB (R94). Stores a byte, merged into its ECC word. -/
  | stb (s : SetterId) (d : Reg) (a : Reg) (off : BitVec 14)
  /-- BLD (R95). B = ga[n]. -/
  | bld (s : SetterId) (r : Regs) (lo : BitVec 9)
  /-- BLDN (R95). B = NOT ga[n]. -/
  | bldn (s : SetterId) (r : Regs) (lo : BitVec 9)
  /-- BAND (R95). B = B AND ga[n]. -/
  | band (s : SetterId) (r : Regs) (lo : BitVec 9)
  /-- BANDN (R95). B = B AND NOT ga[n]. -/
  | bandn (s : SetterId) (r : Regs) (lo : BitVec 9)
  /-- BOR (R95). B = B OR ga[n]. -/
  | bor (s : SetterId) (r : Regs) (lo : BitVec 9)
  /-- BORN (R95). B = B OR NOT ga[n]. -/
  | born (s : SetterId) (r : Regs) (lo : BitVec 9)
  /-- BXOR (R95). B = B XOR ga[n]. -/
  | bxor (s : SetterId) (r : Regs) (lo : BitVec 9)
  /-- BNOT (R95). Inverts B. -/
  | bnot (s : SetterId) (r : Regs) (lo : BitVec 9)
  /-- BPUSH (R96). Pushes B onto the bit stack. -/
  | bpush (s : SetterId) (r : Regs) (lo : BitVec 9)
  /-- BPOP (R96). Pops the bit stack and combines the entry into B. -/
  | bpop (s : SetterId) (r : Regs) (lo : BitVec 9)
  /-- BOUT (R95). Writes B into gd[n]. -/
  | bout (s : SetterId) (r : Regs) (lo : BitVec 9)
  /-- BSET (R95). Sets gd[n] when B is 1. -/
  | bset (s : SetterId) (r : Regs) (lo : BitVec 9)
  /-- BRST (R95). Clears gd[n] when B is 1. -/
  | brst (s : SetterId) (r : Regs) (lo : BitVec 9)
  /-- BEDGE (R95). Turns B into a one-scan edge pulse, keeping the old rung in gd[n]. -/
  | bedge (s : SetterId) (r : Regs) (lo : BitVec 9)
  /-- TMRS (R98). Sets a timer's preset, mode, base and trap bit and presents B as its enable input. -/
  | tmrs (s : SetterId) (r : Regs) (lo : BitVec 12)
  /-- TMRQ (R97). Copies a timer's DONE into B. -/
  | tmrq (s : SetterId) (r : Regs) (lo : BitVec 12)
  /-- TMRC (R97). Clears a timer's count, done, running and input. -/
  | tmrc (s : SetterId) (r : Regs) (lo : BitVec 12)
  /-- TMRRD (R97). Reads a timer's count into gd. -/
  | tmrrd (s : SetterId) (r : Regs) (lo : BitVec 12)
  /-- BR (R100). Branches to a PC-relative target when the condition holds. -/
  | br (s : SetterId) (cond : BitVec 4) (off : BitVec 22)
  /-- BRL (R100). Branches and writes the return address to g15 when taken. -/
  | brl (s : SetterId) (cond : BitVec 4) (off : BitVec 22)
  /-- JMP (R101). Jumps to the address in ga; RET is JMP g15. -/
  | jmp (s : SetterId) (r : Regs)
  /-- LOOP (R102). Decrements gd and branches while it is not zero. -/
  | loop (s : SetterId) (d : Reg) (a : Reg) (mode : BitVec 2) (imm : BitVec 16)
  /-- TIN (R104). Reads the snapshot word of a tap group. -/
  | tin (s : SetterId) (r : Regs) (lo : BitVec 10)
  /-- TOUT (R104). Writes the output-buffer word of a tap group. -/
  | tout (s : SetterId) (r : Regs) (lo : BitVec 10)
  /-- TBIT (R104). Copies one snapshot bit into B. -/
  | tbit (s : SetterId) (r : Regs) (lo : BitVec 10)
  /-- TEDGE (R104). Sets B from an edge between the previous and current snapshot. -/
  | tedge (s : SetterId) (r : Regs) (lo : BitVec 10)
  /-- TIND (R105). Samples a tap's net directly into B, bounded in time. -/
  | tind (s : SetterId) (r : Regs) (lo : BitVec 10) (net : Bool)
  /-- TOUTD (R105). Writes B into the output buffer and sends it straight to the output tap latch. -/
  | toutd (s : SetterId) (r : Regs) (lo : BitVec 10)
  /-- TOUTD_LANDING (R14). A TOUTD bit lands in its output tap latch on a wing clock line 0 edge. -/
  | toutdLanding (s : SetterId)
  /-- FRAME (R45). Commits the output buffer and staged masks, then waits for the next tick and snapshot. -/
  | frame (s : SetterId) (r : Regs) (nets : BitVec 256)
  /-- FCNT (R106). Reads the frame counter into gd. -/
  | fcnt (s : SetterId) (r : Regs)
  /-- LUTW (R108). Writes a live cell's mask immediately. -/
  | lutw (s : SetterId) (r : Regs) (hi : BitVec 13)
  /-- LUTWS (R108). Stages a live cell's mask for the next FRAME commit. -/
  | lutws (s : SetterId) (r : Regs) (hi : BitVec 13)
  /-- LUTW_LANDING (R142). A LUTW mask lands in the live-mask register on regional clock 0 with fresh parity. -/
  | lutwLanding (s : SetterId)
  /-- WEV (R112). Waits for an event latch in a mask, with a timeout, and clears the latches found. -/
  | wev (s : SetterId) (r : Regs) (lo : BitVec 12)
  /-- WEV_TIMEOUT (R112). A WEV reaches its timeout with no latch set and returns 0. -/
  | wevTimeout (s : SetterId)
  /-- SEV (R113). Posts a raise of one of the setter's user event sources. -/
  | sev (s : SetterId) (r : Regs) (lo : BitVec 12)
  /-- EVQ (R113). Reads and clears the event latches selected by ga. -/
  | evq (s : SetterId) (r : Regs) (lo : BitVec 12)
  /-- SLD (R114). Loads a word from the central store. -/
  | sld (s : SetterId) (d : Reg) (a : Reg) (off : BitVec 14)
  /-- SST (R114). Stores a word to the central store. -/
  | sst (s : SetterId) (d : Reg) (a : Reg) (off : BitVec 14)
  /-- SLDQ (R114). Loads 16 bytes from the store into four registers. -/
  | sldq (s : SetterId) (d : Reg) (a : Reg) (off : BitVec 14)
  /-- SSTQ (R114). Stores four registers as 16 bytes to the store. -/
  | sstq (s : SetterId) (d : Reg) (a : Reg) (off : BitVec 14)
  /-- SSWAP (R117). Atomically exchanges a register with a store word by a locked read and write. -/
  | sswap (s : SetterId) (d : Reg) (a : Reg) (off : BitVec 14)
  /-- PUT (R118). Appends gd to a local or remote queue, C reporting refusal. -/
  | put (s : SetterId) (r : Regs) (lo : BitVec 12)
  /-- GET (R118). Removes the head element of a queue into gd and TAG. -/
  | get (s : SetterId) (r : Regs) (lo : BitVec 12)
  /-- PEEK (R118). Reads the head element of a queue without removing it. -/
  | peek (s : SetterId) (r : Regs) (lo : BitVec 12)
  /-- QST (R118). Reads a queue's status word. -/
  | qst (s : SetterId) (r : Regs) (lo : BitVec 12)
  /-- HELD_TRAP_ENTRY (R64). A held overrun, timer or SYS-refusal cause is taken at an instruction boundary once TM is 0. -/
  | heldTrapEntry (s : SetterId)
  /-- TRAP_RETURN (R66). A write to SET_TRET restores flags, clears TM and resumes at the written address. -/
  | trapReturn (s : SetterId) (v : Word)
  /-- SETTER_SRST (R39). Writing SET_CTRL.SRST resets the marked setter state and restarts at vector 0 if running. -/
  | setterSrst (m : Master) (s : SetterId) (nets : BitVec 256)
  /-- SETTER_RUN (R67). Writing RUN = 1 resumes a stopped setter at SET_PC. -/
  | setterRun (m : Master) (s : SetterId) (nets : BitVec 256)
  /-- SETTER_STOP (R67). Writing RUN = 0 stops the setter at the next instruction boundary. -/
  | setterStop (m : Master) (s : SetterId)
  /-- SETTER_STEP (R67). Writing STEP = 1 executes one instruction of a stopped setter. -/
  | setterStep (m : Master) (s : SetterId) (nets : BitVec 256)
  /-- SETTER_STATE_WRITE (R68). A debug write to a setter state register, refused with a bus error while running. -/
  | setterStateWrite (m : Master) (s : SetterId) (off : BitVec 16) (v : Word)
  /-- FRAME_SOURCE_WRITE (R59). A write to SET_FSRC, SET_FPERIOD or SET_FTB, checked and applied at the next tick. -/
  | frameSourceWrite (m : Master) (s : SetterId) (reg : FrameReg) (v : Word)
  /-- PM_DEBUG_WRITE (R69). A write to SET_PMDATA writes program memory when stopped and DBGWR is set. -/
  | pmDebugWrite (m : Master) (s : SetterId) (v : Word)
  /-- PM_DEBUG_READ (R69). A read of SET_PMDATA checks ECC and advances SET_PMADDR. -/
  | pmDebugRead (m : Master) (s : SetterId)
  /-- TIMER_DEBUG_WRITE (R98). A debug write to SET_TMCTLt changing MODE or BASE clears the timer. -/
  | timerDebugWrite (m : Master) (s : SetterId) (t : TimerId) (v : Word)
  /-- FRAME_TIMER_TICK (R49). The setter's frame timer expires and makes a tick on a strobe edge. -/
  | frameTimerTick (s : SetterId) (nets : BitVec 256)
  /-- WING_TICK (R50). A wing tick falls on a strobe edge for every setter of the wing with SRC = 1. -/
  | wingTick (w : Wing) (nets : List (BitVec 256))
  /-- TIME_BASE_TICK (R53). A time-base instant matching PERIOD and PHASE makes a tick. -/
  | timeBaseTick (t : Nat) (nets : List (BitVec 256))
  /-- WING_TICK_WRITE (R51). A write to GLB_WTICKw changes or stops or restarts the wing tick grid. -/
  | wingTickWrite (m : Master) (w : Wing) (v : Word)
  /-- SETTER_TIMER_TICK (R98). One period of a running timer's base advances its count and compares it with the preset. -/
  | setterTimerTick (s : SetterId) (t : TimerId)
  /-- SOFTWARE_RAISE (R26). A write to EVT_SWRAISE raises a source as its hardware would. -/
  | softwareRaise (m : Master) (v : Word)
  /-- EVENT_RAISE (R26). A source raise reaches the event controller and sets its pending bit, delivering if it was clear. -/
  | eventRaise (n : Source)
  /-- PENDING_CLEAR (R27). A W1C write to EVT_PENDk clears pending bits, with a coinciding raise delivering once. -/
  | pendingClear (m : Master) (k : Fin 20) (v : Word) (raised : Word)
  /-- ROUTE_WRITE (R30). A write to EVT_ROUTEn or EVT_NOTEn changes the route for later raises. -/
  | routeWrite (m : Master) (note : Bool) (n : Source) (v : Word)
  /-- LIVE_MASK_CHECK (R143). The bay checker visits one live mask and checks its parity. -/
  | liveMaskCheck (b : BayId)
  /-- BAY_JOINT_SEND (R140). Source logic sends a 32-bit word over a bay joint when BUSY is 0. -/
  | bayJointSend (b : BayId) (dir : Dir) (j : Fin 8) (v : Word)
  /-- BAY_JOINT_ARRIVAL (R140). The word lands in the destination bay's output register and pulses ARRIVED. -/
  | bayJointArrival (b : BayId) (dir : Dir) (j : Fin 8)
  /-- BAY_JOINT_ACK (R140). The acknowledgement lands at the source and clears BUSY. -/
  | bayJointAck (b : BayId) (dir : Dir) (j : Fin 8)
  /-- REGIONAL_CLOCK_WRITE (R151). A write to BAY_RCLKn switches, divides, stops or starts a regional clock. -/
  | regionalClockWrite (m : Master) (b : BayId) (n : Fin 4) (v : Word)
  /-- REGIONAL_CLOCK_SWITCH_DONE (R151). A regional clock switch completes and BUSY falls, releasing held writes. -/
  | regionalClockSwitchDone (b : BayId) (n : Fin 4)
  /-- REGIONAL_RESET_ASSERT (R152). A source asserts a regional reset tree asynchronously. -/
  | regionalResetAssert (b : BayId) (n : Fin 4) (src : ResetSource)
  /-- REGIONAL_RESET_RELEASE (R152). The regional reset deasserts on the second regional clock edge after all sources clear. -/
  | regionalResetRelease (b : BayId) (n : Fin 4) (src : ResetSource)
  /-- PROBE_SELECT (R153). A write to BAY_PROBEn selects a plumb-probe line's source. -/
  | probeSelect (m : Master) (b : BayId) (n : Fin 8) (v : Word)
  /-- WING_PROBE_SELECT (R154). A write to GLB_WPROBEw_j selects the probe line a wing probe pin drives. -/
  | wingProbeSelect (m : Master) (w : Wing) (j : Fin 16) (v : Word)
  /-- PIN_OPTION_WRITE (R157). A run-time change of DRIVE, SLEW, PULL or SCHMITT takes effect within 1 µs. -/
  | pinOptionWrite (m : Master) (k : Bank) (i : PinId) (v : Word)
  /-- BITSLIP (R160). A BITSLIP pulse rotates the deserialiser's word boundary by one bit. -/
  | bitslip (k : Bank) (i : PinId)
  /-- HALT_ASSERT (R162). A qualified low on HALT_N drives every configured output to its safe value. -/
  | haltAssert
  /-- HALT_RELEASE (R162). A qualified high on HALT_N raises source 624 and starts returning pins to the fabric. -/
  | haltRelease
  /-- HALT_PIN_RETURN (R162). Pins not owned by a running setter return to fabric control 1 µs after the release. -/
  | haltPinReturn
  /-- VIO_LOSS (R384). A bank's VIO falls below its band and its pins go unpowered. -/
  | vioLoss (k : Bank)
  /-- VIO_RETURN (R384). A bank's VIO returns and the bank resumes the applicable pin row. -/
  | vioReturn (k : Bank) (band : BitVec 2)
  /-- REFCLK_WINDOW (R167). A 1 µs monitor window ends and REFOK is judged from its edge count. -/
  | refclkWindow (edges : Nat)
  /-- REFCLK_MEAS_WINDOW (R167). A 1 ms window ends and its edge count goes to CLK_REFMEAS. -/
  | refclkMeasWindow (edges : BitVec 16)
  /-- LOCK_WINDOW (R172). A 1,024 f_pfd lock window ends and the detector judges lock from diff. -/
  | lockWindow (p : Fin 10) (fb : Nat)
  /-- PLL_CTRL_WRITE (R176). A write to PLL_CTRLp changes, starts or stops a wing PLL, or is refused with CFGERR. -/
  | pllCtrlWrite (m : Master) (p : PllId) (v : Word)
  /-- PLL_ODIV_WRITE (R170). A write to PLL_ODIVp changes output dividers or enables. -/
  | pllOdivWrite (m : Master) (p : PllId) (v : Word)
  /-- PLL_OUTPUT_START (R171). An enabled PLL output starts runt-free after lock or enable. -/
  | pllOutputStart (p : PllId) (o : Fin 4)
  /-- PLL_OUTPUT_STOP (R171). A PLL output completes its high phase and stays low. -/
  | pllOutputStop (p : PllId) (o : Fin 4)
  /-- STORE_REQUEST_LAND (R188). A master's store request lands in the store island and is checked for form, fence and regions. -/
  | storeRequestLand (m : Master) (q : StoreReq)
  /-- ARBITER_DECISION (R192). Each store cycle the arbiter decides the next data cycle by keystone, slot owner and rank. -/
  | arbiterDecision
  /-- STORE_DATA_BEAT (R184). A granted beat moves data, with ECC checked, corrected or failed. -/
  | storeDataBeat
  /-- ECC_WRITEBACK (R184). A pending corrected half is written back in the first cycle with no data phase. -/
  | eccWriteback
  /-- REQUEST_DROP (R185). A fabric port or the host port drops a raised store request before grant. -/
  | requestDrop (m : Master)
  /-- LOCK_CUTOFF (R198). A locked sequence not released 16 store cycles after its read is cut off. -/
  | lockCutoff (m : Master)
  /-- HOLD_CUTOFF (R198). A piece held more than 8 store cycles is cut off. -/
  | holdCutoff (m : Master)
  /-- STARVATION_LIMIT (R200). A master's wait counter reaches STARVE and the starvation cause is raised once. -/
  | starvationLimit (m : Master)
  /-- REGION_WRITE (R189). A write to a region register takes effect for later requests. -/
  | regionWrite (m : Master) (t : Fin 32) (k : Fin 8) (lim : Bool) (v : Word)
  /-- KEYSTONE_LINE_WRITE (R194). A write to STR_KEYk assigns or moves a keystone line, or is refused with CFGERR. -/
  | keystoneLineWrite (m : Master) (k : Fin 4) (v : Word)
  /-- MASTER_CTRL_WRITE (R197). A write to STR_MCTLm changes a master's rank, fence or starvation limit. -/
  | masterCtrlWrite (m : Master) (t : Fin 32) (v : Word)
  /-- BOND_SWAP_REQUEST (R202). Setting STR_BNDCTL.SWAP starts validation of the inactive store bond table. -/
  | bondSwapRequest (m : Master)
  /-- BOND_VALIDATION_DONE (R202). Validation ends after 66 store cycles, refusing the copy or arming the switch. -/
  | bondValidationDone
  /-- BOND_TABLE_SWITCH (R202). At the wrap from slot 63 the validated copy becomes active and 620 is raised. -/
  | bondTableSwitch
  /-- WINDOW_GET (R215). An 8-byte read at a queue window's +0 performs a GET. -/
  | windowGet (m : Master) (q : QueueId)
  /-- WINDOW_QST (R215). A 4-byte read at a queue window's +4 returns the status word. -/
  | windowQst (m : Master) (q : QueueId)
  /-- WINDOW_PUT (R215). A 4-byte write at a queue window's +0 performs a PUT. -/
  | windowPut (m : Master) (q : QueueId) (v : Word)
  /-- WINDOW_PUT_EOB (R215). A 4-byte write at a queue window's +4 performs a PUT with EOB. -/
  | windowPutEob (m : Master) (q : QueueId) (v : Word)
  /-- HOD_DESCRIPTOR_STEP (R224). A bank completes one ordinary descriptor operation in its bank slot. -/
  | hodDescriptorStep (port : HodPort) (op : HodOp)
  /-- KEY_LANE_STEP (R223). The KEY lane applies a KEY operation's descriptor step on the bank's KEY edge. -/
  | keyLaneStep (port : HodPort) (op : HodOp)
  /-- KEY_PAYLOAD_DONE (R221). A KEY operation's keystone payload beat completes and the lane frees. -/
  | keyPayloadDone (err : Bool)
  /-- QCMD_WRITE (R211). HOD_QCMD WRITE copies the staged words into a disabled queue's descriptor. -/
  | qcmdWrite (m : Master)
  /-- QCMD_ENABLE (R212). HOD_QCMD ENABLE validates a descriptor and sets EN. -/
  | qcmdEnable (m : Master)
  /-- QCMD_DISABLE (R211). HOD_QCMD DISABLE clears EN. -/
  | qcmdDisable (m : Master)
  /-- QCMD_FLUSH (R211). HOD_QCMD FLUSH empties a disabled queue. -/
  | qcmdFlush (m : Master)
  /-- QCMD_READ (R211). HOD_QCMD READ copies a descriptor into the staging words. -/
  | qcmdRead (m : Master)
  /-- QCMD_UNDEFINED (R211). An undefined HOD_QCMD code does nothing and returns RESULT 15. -/
  | qcmdUndefined (m : Master) (code : BitVec 4)
  /-- PACKER_BYTE (R219). A packer accepts a byte, with or without END, into its partial word. -/
  | packerByte (p : PackerId) (v : Byte) (last : Bool)
  /-- PACKER_END_ALONE (R217). A packer takes END with no byte, closing a partial word if one is held. -/
  | packerEndAlone (p : PackerId)
  /-- PACKER_STALL_EXPIRY (R218). A packer's stall timer expires and closes the partial word with BRK. -/
  | packerStallExpiry (p : PackerId)
  /-- PACKER_ROOM_RESUME (R228). A fabric packer waiting for room appends its held word once the queue has room. -/
  | packerRoomResume (p : PackerId)
  /-- COMBINE_IDLE_FLUSH (R220). A combining-buffer entry idle for 16 hod cycles is flushed to the store. -/
  | combineIdleFlush (addr : Nat)
  /-- COMBINE_FLUSH_DONE (R229). A combining-buffer flush completes, faulting its queue if it ended in error. -/
  | combineFlushDone (failAt : Option Nat)
  /-- SKEW_WINDOW_END (R225). A bank-skew window ends, writes the bank counts and may raise a skew event. -/
  | skewWindowEnd
  /-- CELL_FORWARD (R240). A device forwards a transit cell cut-through or from its buffers, checking its CRC. -/
  | cellForward (c : Cell)
  /-- CELL_INSERT (R240). A device inserts its own cell by precedence and bond-table slot. -/
  | cellInsert
  /-- KEY_INTERVAL_EXPIRY (R243). The effective KEY_INTERVAL ends and a held keystone cell may leave. -/
  | keyIntervalExpiry
  /-- QPUT_CELL (R227). A QPUT cell for this device is applied as a PUT by the chain port as master 19. -/
  | qputCell (c : Cell)
  /-- QFAIL_CELL (R227). A QFAIL cell returns to the sender, which raises 440 and writes HOD_RMTFAIL. -/
  | qfailCell (c : Cell)
  /-- NOTE_CELL (R29). A NOTE cell delivers a chain notification element to its queue. -/
  | noteCell (c : Cell)
  /-- STREAM_CELL (R256). A STREAM cell's bytes feed a receive stream's packer or are dropped. -/
  | streamCell (c : Cell)
  /-- TIME_CELL (R254). A TIME cell sets local time from head time, hop delay and CORR, and may validate the time base. -/
  | timeCell (c : Cell)
  /-- ENUM_CELL (R248). A device takes its address and hop delay from an ENUM cell and forwards it. -/
  | enumCell (c : Cell) (flight : BitVec 8) (bypassed : BitVec 8)
  /-- ENUM_RETURN (R248). The head receives its ENUM back with final counts and sends RESUME. -/
  | enumReturn (c : Cell) (lap : Word)
  /-- JOIN_CELL (R251). A JOIN cell opens the bypass of every waiting device. -/
  | joinCell (c : Cell)
  /-- RING_PAUSE (R251). A RING PAUSE cell stops non-keystone insertion and raises 484. -/
  | ringPause (c : Cell)
  /-- RING_RESUME (R248). A RING RESUME cell stores N, S and lap time and resumes service. -/
  | ringResume (c : Cell)
  /-- LINK_CELL_CRC (R244). A LINK cell with reason 1 adds outbound CRC errors and raises 481. -/
  | linkCellCrc (c : Cell)
  /-- LINK_CELL_RETRAINED (R252). A LINK cell with reason 2 reports a re-trained downstream link and raises 483. -/
  | linkCellRetrained (c : Cell)
  /-- LINK_CELL_SEND (R244). Within 100 µs of a first uncounted inbound error a device sends a LINK cell upstream. -/
  | linkCellSend
  /-- IMG_CELL (R275). An IMG cell carries image stream bytes to the update engine. -/
  | imgCell (c : Cell)
  /-- WAKE_CELL (R340). A WAKE cell addressed to this device acts as a chain wake source. -/
  | wakeCell (c : Cell)
  /-- BAD_CELL (R237). A cell with a reserved type or wrong class is removed and counted in IRS_DROP.BAD. -/
  | badCell (c : Cell)
  /-- UNDELIVERED_CELL (R239). A cell reaching the head with HOP = 1 is removed, with a QFAIL for QPUT or NOTE. -/
  | undeliveredCell (c : Cell)
  /-- LINK_LOST (R252). An inbound link is declared lost, raising 482 and starting re-training with TRAIN. -/
  | linkLost
  /-- TRAIN_RECEIVED (R252). A device first sees TRAIN, stops inserting, forwards TRAIN and raises 484. -/
  | trainReceived
  /-- LINK_REALIGNED (R252). An inbound link realigns on a clean signal after re-training. -/
  | linkRealigned
  /-- CHAIN_LISTEN_END (R248). After 100 µs of listening a device waits for JOIN or opens its bypass. -/
  | chainListenEnd (inService : Bool)
  /-- TIME_CELL_DUE (R254). The head's TIME period expires and a TIME cell is due. -/
  | timeCellDue (now : BitVec 64)
  /-- TIME_BASE_TIMEOUT (R255). No TIME cell for 4 periods makes the device declare the time base lost. -/
  | timeBaseTimeout
  /-- HEAD_ENUM (R248). Head command 1 runs ENUM with KEEP = 0 and then RESUME. -/
  | headEnum (m : Master)
  /-- HEAD_ENUM_KEEP (R248). Head command 2 runs ENUM with KEEP = 1 and then RESUME. -/
  | headEnumKeep (m : Master)
  /-- HEAD_JOIN (R251). Head command 3 runs PAUSE, JOIN, re-training, ENUM and RESUME. -/
  | headJoin (m : Master)
  /-- CHAIN_BOND_SWAP (R245). Setting IRS_BNDCTL.SWAP validates and switches the chain bond table at a wrap. -/
  | chainBondSwap (m : Master)
  /-- TX_STREAM_DRAIN (R257). A transmit stream takes an element and sends a STREAM cell at 30 bytes or EOB. -/
  | txStreamDrain (j : Fin 16)
  /-- TX_STREAM_IDLE_FLUSH (R257). A transmit stream whose queue stays empty 10 µs sends its gathered bytes. -/
  | txStreamIdleFlush (j : Fin 16)
  /-- HOST_PORT_READY (R259). The host port starts answering frames 100 µs after PORST_N releases. -/
  | hostPortReady
  /-- HOST_READ (R262). A host READ frame reads words of control space as master 17. -/
  | hostRead (width : BitVec 2) (addr : Word) (len : Byte)
  /-- HOST_WRITE (R262). A host WRITE frame writes words of control space as master 17. -/
  | hostWrite (width : BitVec 2) (addr : Word) (len : Byte) (data : List Word)
  /-- HOST_STATUS (R260). A host STATUS frame returns HST_STATUS without clearing. -/
  | hostStatus (width : BitVec 2)
  /-- HOST_ECHO (R260). A host ECHO frame returns the bytes sent. -/
  | hostEcho (width : BitVec 2) (data : List Byte)
  /-- HOST_BAD_COMMAND (R260). A frame with an unknown operation or W = 3 is ignored and counted in BADCMD. -/
  | hostBadCommand (cmd : Byte)
  /-- HOST_FRAME_ABORT (R263). HCS_N rises before a frame ends, dropping or completing its access per phase. -/
  | hostFrameAbort (at_ : AbortPhase)
  /-- SLOT_WRITE_STREAM (R276). An image stream from any source is checked and programmed into a slot. -/
  | slotWriteStream (src : StreamSource) (slot : BitVec 2) (data : List Byte)
  /-- SLOT_WRITE_STALL (R276). A stream stopping more than 100 ms ends the write with RESULT 7. -/
  | slotWriteStall
  /-- SLOT_WRITE_VERIFY_DONE (R276). Digest and signature checks end, marking the slot VALID or INVALID. -/
  | slotWriteVerifyDone
  /-- BOOT_START (R280). At PORST_N release or brown-out restart the straps are sampled and the boot candidates begin. -/
  | bootStart (mode : BitVec 3) (cause : StartCause)
  /-- LOAD_ATTEMPT (R282). A load attempt checks the slot, applies tables and loads frames and setter memories. -/
  | loadAttempt (slot : BitVec 2)
  /-- LOAD_LOCK_TIMEOUT (R177). A wing PLL not locked within 2 ms of its EN fails the load with cause 8. -/
  | loadLockTimeout (p : PllId)
  /-- GLOBAL_RELEASE (R284). Once all load steps and PLLs are ready, RW-L fields lock and bays, setters and repointers start. -/
  | globalRelease (nets : List (BitVec 256))
  /-- BACKGROUND_DIGEST_DONE (R285). The FAST background digest completes, and a mismatch invalidates the slot and may reload slot 0. -/
  | backgroundDigestDone
  /-- SWAP_RELEASE (R291). When every named bay has reloaded, one swap release ends all holds. -/
  | swapRelease
  /-- SWAP_SETTER_TRANSFER_DONE (R293). New setter programs and data reach their shadow banks. -/
  | swapSetterTransferDone
  /-- SWAP_END (R294). The swap request ends, raising 612 and updating IMG_SWSTAT. -/
  | swapEnd
  /-- REPOINTER_VISIT (R296). The repointer visits one frame, correcting or reloading its configuration latches. -/
  | repointerVisit (w : Wing)
  /-- REPOINTER_HEARTBEAT_RESTART (R298). A repointer whose position has not changed for the heartbeat period is restarted. -/
  | repointerHeartbeatRestart (w : Wing)
  /-- RPT_CTRL_WRITE (R298). A write to RPT_CTRLw by master 16 updates the voted copies and shadow. -/
  | rptCtrlWrite (m : Master) (w : Wing) (v : Word)
  /-- PLINTH_BOOT (R302). The plinth ROM checks and starts a firmware copy, which sets up queues 0–3 and READY. -/
  | plinthBoot
  /-- PLINTH_RESTART (R304). The plinth restarts from its selected firmware copy within 50 ms. -/
  | plinthRestart
  /-- INFO (R313). Plinth command returning firmware version, BOOTCNT and uptime. -/
  | info (ch : Channel) (tag : Byte) (args : List Word)
  /-- RELOAD (R314). Plinth command starting a full boot afresh, with no response. -/
  | reload (ch : Channel) (tag : Byte) (args : List Word)
  /-- SETBOOT (R314). Plinth command writing IMG_BOOT. -/
  | setboot (ch : Channel) (tag : Byte) (args : List Word)
  /-- PLINTH_SWAP (R314). Plinth command requesting a background swap. -/
  | plinthSwap (ch : Channel) (tag : Byte) (args : List Word)
  /-- PLINTH_TEST (R314). Plinth command starting a self-test slice. -/
  | plinthTest (ch : Channel) (tag : Byte) (args : List Word)
  /-- SWBEGIN (R315). Plinth command opening an image, key or firmware stream. -/
  | swbegin (ch : Channel) (tag : Byte) (args : List Word)
  /-- SWDATA (R315). Plinth command carrying stream words inline. -/
  | swdata (ch : Channel) (tag : Byte) (args : List Word)
  /-- SWCHUNK (R315). Plinth command feeding stream bytes read from the central store. -/
  | swchunk (ch : Channel) (tag : Byte) (args : List Word)
  /-- SWABORT (R315). Plinth command closing an open stream. -/
  | swabort (ch : Channel) (tag : Byte) (args : List Word)
  /-- SWSTAT (R313). Plinth command returning IMG_WRSTAT. -/
  | swstat (ch : Channel) (tag : Byte) (args : List Word)
  /-- FIRMSWITCH (R303). Plinth command selecting a firmware copy and restarting the plinth. -/
  | firmswitch (ch : Channel) (tag : Byte) (args : List Word)
  /-- KEYPROG (R318). Plinth command programming the first key slot from inline hashes. -/
  | keyprog (ch : Channel) (tag : Byte) (args : List Word)
  /-- MINSVN (R318). Plinth command raising the fused MINSVN. -/
  | minsvn (ch : Channel) (tag : Byte) (args : List Word)
  /-- CALSET (R322). Plinth command writing a calibration item's user value. -/
  | calset (ch : Channel) (tag : Byte) (args : List Word)
  /-- CALCLEAR (R322). Plinth command clearing the user calibration page. -/
  | calclear (ch : Channel) (tag : Byte) (args : List Word)
  /-- CALGET (R313). Plinth command returning factory, user and effective calibration values. -/
  | calget (ch : Channel) (tag : Byte) (args : List Word)
  /-- LOGREAD (R314). Plinth command returning log records from a SEQ. -/
  | logread (ch : Channel) (tag : Byte) (args : List Word)
  /-- LOGACK (R324). Plinth command marking log records read up to a SEQ. -/
  | logack (ch : Channel) (tag : Byte) (args : List Word)
  /-- LOGSTREAM (R324). Plinth command turning the log stream on queue 2 on or off. -/
  | logstream (ch : Channel) (tag : Byte) (args : List Word)
  /-- SENSSTREAM (R321). Plinth command setting the sensor stream period on queue 3. -/
  | sensstream (ch : Channel) (tag : Byte) (args : List Word)
  /-- FLTCLR (R328). Plinth command clearing lasting fault marks and stored times. -/
  | fltclr (ch : Channel) (tag : Byte) (args : List Word)
  /-- RPTSET (R314). Plinth command writing a repointer's EN and RATE. -/
  | rptset (ch : Channel) (tag : Byte) (args : List Word)
  /-- RPTHB (R314). Plinth command writing the heartbeat period. -/
  | rpthb (ch : Channel) (tag : Byte) (args : List Word)
  /-- PLINTH_BAD_COMMAND (R313). A plinth command with an undefined CMD is answered BADCMD. -/
  | plinthBadCommand (ch : Channel) (hdr : Word)
  /-- COMMAND_BLOCK_TIMEOUT (R306). A command block not completed within 100 ms of its first word is answered FORMAT. -/
  | commandBlockTimeout
  /-- RESPONSE_POST (R307). A waiting response block is posted to queue 1 once it has room, raising 551. -/
  | responsePost
  /-- I2C_WRITE (R312). An I²C write transfer delivers one command block ended by STOP. -/
  | i2cWrite (data : List Byte)
  /-- I2C_READ (R312). An I²C read transfer returns the current response block. -/
  | i2cRead (n : Nat)
  /-- SENSOR_CYCLE (R319). A 1 ms sensor cycle ends, updating temperatures, rails and currents. -/
  | sensorCycle (v : SensorInput)
  /-- THRESHOLD_WRITE (R320). A write to a threshold or enable rearms it. -/
  | thresholdWrite (m : Master) (reg : ThresholdReg) (v : Word)
  /-- LOG_RECORD_WRITE (R323). A log record is written to the non-volatile ring within 10 ms of its cause. -/
  | logRecordWrite
  /-- LOG_STREAM_POST (R324). A log record is posted to queue 2 once it has room for 8 words. -/
  | logStreamPost
  /-- FAULT_REPORT (R328). A fault reaches the plinth and is judged transient or lasting by its window. -/
  | faultReport (c : Fin 6) (u : Nat) (n : Nat) (t : Nat)
  /-- FAULT_WINDOW_WRITE (R329). A write to PLN_FLTCFGc sets W and T for the category's next fault. -/
  | faultWindowWrite (m : Master) (c : Fin 6) (v : Word)
  /-- POWER_REQUEST (R336). A PWR_REQ STATE write requests DOZE, NAP or DORMANT. -/
  | powerRequest (m : Master) (v : Word)
  /-- POWER_RESUME_REQUEST (R336). A PWR_REQ RESUME write ends DOZE. -/
  | powerResumeRequest (m : Master)
  /-- POWER_ENTRY_COMPLETE (R337). Entry steps finish, domains switch off, STATE updates and 552 is raised. -/
  | powerEntryComplete
  /-- WAKE_SOURCE_ACTIVE (R340). An enabled wake source becomes active and is flagged in PWR_WAKESRC. -/
  | wakeSourceActive (i : Fin 20)
  /-- WAKE_TIMER_EXPIRY (R340). PWR_WTIMER counts down to 0 and is active for one AO cycle. -/
  | wakeTimerExpiry
  /-- WAKE_ENABLE_WRITE (R340). A write to PWR_WAKEEN or PWR_WAKEPOL may make a pin active 2 AO cycles later. -/
  | wakeEnableWrite (m : Master) (pol : Bool) (v : Word) (levels : BitVec 16)
  /-- WAKE_TIMER_WRITE (R340). A write to PWR_WTIMER restarts the wake timer. -/
  | wakeTimerWrite (m : Master) (v : Word)
  /-- NAP_WAKE (R341). A flagged source restores every stopped domain in parallel from NAP. -/
  | napWake
  /-- NAP_WAKE_RELEASE (R341). When all domains are ready the wake release returns pins and raises 555. -/
  | napWakeRelease (nets : List (BitVec 256))
  /-- DORMANT_WAKE (R342). A flagged source restarts the buck, PLLs, bays, setters and hod from DORMANT. -/
  | dormantWake
  /-- DORMANT_WAKE_RELEASE (R342). The DORMANT wake release returns the device to RUN and raises 555. -/
  | dormantWakeRelease (nets : List (BitVec 256))
  /-- DOMAIN_WAKE_ACCESS (R343). An access to a gated domain in NAP wakes that domain and stalls the accessor. -/
  | domainWakeAccess (m : Master) (dom : Domain)
  /-- DOMAIN_WAKE_COMPLETE (R343). A domain woken by access is ready and the stalled access proceeds. -/
  | domainWakeComplete (dom : Domain) (nets : BitVec 256)
  /-- POWER_ON (R349). VSUP rises past 1.2 V and the AO regulator and oscillator start. -/
  | powerOn
  /-- BUCK_START (R349). VSUP above 2.65 V for 10 ms starts the buck and VCORE. -/
  | buckStart
  /-- VSUP_EARLY_DROP (R349). VSUP below 2.55 V before stage 3 returns the device to stage 1 without a save. -/
  | vsupEarlyDrop
  /-- PORST_ASSERT (R350). A low PORST_N resets every domain and clears the vault. -/
  | porstAssert
  /-- BROWNOUT_TRIP (R352). VSUP below 2.55 V for 20 µs drives safe values and writes the save set from VHOLD. -/
  | brownoutTrip
  /-- BROWNOUT_SAVE_ABANDON (R352). VHOLD falling to 1.90 V abandons the save, leaving the previous page in force. -/
  | brownoutSaveAbandon
  /-- BROWNOUT_RESTART (R354). After a save, VSUP above 2.65 V for 10 ms resets and reboots the device. -/
  | brownoutRestart
  /-- BROWNOUT_RESTORE_CMD (R354). PWR_BOCTL.RESTORE copies the saved user area and KIND 3 ranges back. -/
  | brownoutRestoreCmd (m : Master)
  /-- BROWNOUT_RESTORE_DONE (R354). The restore completes, sets RESTORED and clears BROWNOUT_RESTORE. -/
  | brownoutRestoreDone
  /-- BROWNOUT_DISCARD (R354). PWR_BOCTL.DISCARD clears BROWNOUT_RESTORE without copying. -/
  | brownoutDiscard (m : Master)
  /-- TEST_BUDGET_EXPIRY (R361). The slice budget runs out and the slice stops INCOMPLETE. -/
  | testBudgetExpiry
  /-- TEST_SLICE_DONE (R367). A slice's work ends, its block is re-initialised and its result record completes. -/
  | testSliceDone (failAt : Option Byte)
  /-- TAP_RESET (R370). The TAP enters Test-Logic-Reset, selecting IDCODE. -/
  | tapReset
  /-- EXTEST (R373). JTAG instruction driving the balls from the boundary register. -/
  | extest (upd : BitVec 441) (seen : BitVec 441)
  /-- SAMPLE_PRELOAD (R371). JTAG instruction sampling the balls and loading the update stage. -/
  | samplePreload (upd : BitVec 441) (seen : BitVec 441)
  /-- IDCODE (R371). JTAG instruction selecting the identification code. -/
  | idcode
  /-- CLAMP (R373). JTAG instruction holding balls from the update stage with bypass selected. -/
  | clamp
  /-- HIGHZ (R373). JTAG instruction turning every scanned output high-Z. -/
  | highz
  /-- BYPASS (R371). JTAG instruction selecting the 1-bit bypass register. -/
  | bypass
  /-- ZIMGCTL_OPEN (R375). ZIMGCTL OPEN opens a JTAG image stream to a slot, or is refused. -/
  | zimgctlOpen (v : Word)
  /-- ZIMGCTL_ABORT (R374). ZIMGCTL ABORT closes the JTAG stream as SWABORT does. -/
  | zimgctlAbort
  /-- ZIMGDATA (R375). ZIMGDATA update passes four stream bytes to the update engine. -/
  | zimgdata (v : Word)
  /-- ZBOOT (R375). ZBOOT GO starts a load of a named slot under MODE1:0 = 3. -/
  | zboot (v : Byte)
  /-- ZPROBESEL (R376). ZPROBESEL writes a bay's BAY_PROBEn when probe access is enabled. -/
  | zprobesel (v : Word)
  /-- ZPROBECAP (R376). ZPROBECAP captures every bay's probe lines through a TCK synchroniser. -/
  | zprobecap (lines : BitVec 512)
  /-- RC_FIELD_READ (R407). A read of an RC field returns its value and clears it, keeping a coinciding record. -/
  | rcFieldRead (m : Master) (addr : Word) (rec : Option Word)
  /-- REGISTER_WRITE (R8). A write to a register with no row of its own, applied by its access code. -/
  | registerWrite (m : Master) (addr : Word) (v : Word)
  /-- VHOLD_CHARGED (R351). VHOLD, charging from VSUP through the 50 mA switch, reaches 2.55 V and PWR_STATUS.HOLDOK rises. -/
  | vholdCharged
  /-- CLEAN_IDLE_RETURNED (R252). During re-training the head sees 2 µs of clean IDLE return on its inbound link and then runs ENUM with KEEP = 1 and RESUME. -/
  | cleanIdleReturned
  deriving DecidableEq, Repr

end Sys2Proof
end

