-- ==== Sys2Proof/WellFormed.lean ====
section
/-! DEFINITION. Which commands are well formed: the list operands have the lengths that the spec gives the things they
stand for (16 setters, 4 setters of a wing, 5 temperatures, 9 rails, 4 wings, 32 payload bytes, words of a frame). -/

namespace Sys2Proof

/-- A cell carries 32 payload bytes (R235). -/
def Cell.wf (c : Cell) : Bool := c.payload.length == 32

/-- A store request has at least one beat and carries the data of a write (R185). -/
def StoreReq.wf (q : StoreReq) : Bool :=
  decide (1 ≤ q.beats) && (q.data.length == (if q.write then (if q.beats = 1 then q.bytes else 16 * q.beats) else 0))

/-- A sensor cycle converts 5 temperatures, 9 rails and 4 wing currents (R319). -/
def SensorInput.wf (v : SensorInput) : Bool := v.temps.length == 5 && v.rails.length == 9 && v.cur.length == 4

/-- A command block carries at most 255 argument words (R306). -/
def argsWf (l : List Word) : Bool := decide (l.length ≤ 255)

/-- The snapshot nets of every setter of the device, or of one wing. -/
def netsWf (n : Nat) (l : List (BitVec 256)) : Bool := l.length == n

/-- The commands whose operands have the lengths they must have. -/
def Instr.wf : Instr → Bool
  | .wingTick _ nets => netsWf 4 nets
  | .timeBaseTick _ nets => netsWf 16 nets
  | .globalRelease nets => netsWf 16 nets
  | .napWakeRelease nets => netsWf 16 nets
  | .dormantWakeRelease nets => netsWf 16 nets
  | .storeRequestLand _ q => q.wf
  | .cellForward c => c.wf
  | .qputCell c => c.wf
  | .qfailCell c => c.wf
  | .noteCell c => c.wf
  | .streamCell c => c.wf
  | .timeCell c => c.wf
  | .enumCell c _ _ => c.wf
  | .enumReturn c _ => c.wf
  | .joinCell c => c.wf
  | .ringPause c => c.wf
  | .ringResume c => c.wf
  | .linkCellCrc c => c.wf
  | .linkCellRetrained c => c.wf
  | .imgCell c => c.wf
  | .wakeCell c => c.wf
  | .badCell c => c.wf
  | .undeliveredCell c => c.wf
  | .hostWrite _ _ len data => data.length == len.toNat + 1
  | .hostEcho _ data => decide (1 ≤ data.length) && decide (data.length ≤ 256)
  | .info _ _ l => argsWf l
  | .reload _ _ l => argsWf l
  | .setboot _ _ l => argsWf l
  | .plinthSwap _ _ l => argsWf l
  | .plinthTest _ _ l => argsWf l
  | .swbegin _ _ l => argsWf l
  | .swdata _ _ l => argsWf l
  | .swchunk _ _ l => argsWf l
  | .swabort _ _ l => argsWf l
  | .swstat _ _ l => argsWf l
  | .firmswitch _ _ l => argsWf l
  | .keyprog _ _ l => argsWf l
  | .minsvn _ _ l => argsWf l
  | .calset _ _ l => argsWf l
  | .calclear _ _ l => argsWf l
  | .calget _ _ l => argsWf l
  | .logread _ _ l => argsWf l
  | .logack _ _ l => argsWf l
  | .logstream _ _ l => argsWf l
  | .sensstream _ _ l => argsWf l
  | .fltclr _ _ l => argsWf l
  | .rptset _ _ l => argsWf l
  | .rpthb _ _ l => argsWf l
  | .sensorCycle v => v.wf
  | _ => true

end Sys2Proof
end

