-- ==== Sys2Proof/Config.lean ====
section
/-! DEFINITION. What one part or one moment fixes and the spec does not: constants of the part and free values. Each is
opaque, so that nothing can be proved about the value; each is named in the assumption log. -/

namespace Sys2Proof.Config

/-! ### What configuration latches can say

The places of these fields in a frame are not in the spec; what each field does is (R131 to R136, R144 to R149, R154, R160). -/

/-- What a routing multiplexer of a bay can select (R135), named within the bay. -/
inductive Net where
  /-- A cell's look-up output, its flip-flop, and in carry mode its sum, CIN and COUT (R131 to R133). -/
  | lut (c : Nat)
  | ff (c : Nat)
  | sum (c : Nat)
  | cin (c : Nat)
  | cout (c : Nat)
  /-- A wire of the bay, driven by its own multiplexer. -/
  | wire (w : Nat)
  /-- The tap wire of a cell (R274). -/
  | tap (c : Nat)
  /-- Bit i of the output of a block-memory port, numbered memory × 2 + port (R145). -/
  | bram (port i : Nat)
  /-- Bit i of a MAC block's ACC, and its OVF (R148). -/
  | acc (k i : Nat)
  | ovf (k : Nat)
  /-- Bit i of the output register of a joint into the bay, its ARRIVED, and BUSY of a joint out of it (R140). -/
  | joint (n i : Nat)
  | arrived (n : Nat)
  | busy (n : Nat)
  /-- A pin's input, and bit i of its deserialiser's word (R156, R160). -/
  | pin (p : Nat)
  | des (p i : Nat)
  /-- READY of a fabric byte port of the bay (R219). -/
  | ready (port : Nat)
  /-- Anything else that the fabric can hear. -/
  | other (k : Nat)
  deriving DecidableEq, Repr, Inhabited

/-- A routing multiplexer (R135, R136): the select of its constant-0 source, its other sources, and their selects. -/
structure Mux where
  zero : Bool
  src  : List Net
  sel  : List Bool
  deriving DecidableEq, Repr, Inhabited

/-- The choices of a flip-flop's D input (R133). -/
inductive DataIn where
  | lut
  | sum
  | dx
  deriving DecidableEq, Repr, Inhabited

/-- A cell's options (R131 to R133): its frame mask, inputs, carry mode, the CIN of position 0, and its flip-flop's. -/
structure CellCfg where
  mask    : BitVec 16
  i0      : Mux
  i1      : Mux
  i2      : Mux
  i3      : Mux
  carry   : Bool
  -- CIN of position 0: the carry-out of the course before it, or this constant
  chain   : Bool
  const   : Bool
  d       : DataIn
  dx      : Mux
  ceTied  : Bool
  ce      : Mux
  sr      : Mux
  srInv   : Bool
  srVal   : Bool
  srAsync : Bool
  rsten   : Bool
  init    : Bool
  clk     : Nat
  deriving DecidableEq, Repr, Inhabited

/-- The modes of a block-memory port (R144). -/
inductive PortMode where
  | x1
  | x2
  | x4
  | x9
  | x18
  | x36
  deriving DecidableEq, Repr, Inhabited

/-- The write modes (R145). -/
inductive WriteMode where
  | readFirst
  | writeFirst
  | noChange
  deriving DecidableEq, Repr, Inhabited

/-- A block-memory port's options and nets (R144, R145). -/
structure PortCfg where
  mode   : PortMode
  wmode  : WriteMode
  outReg : Bool
  en     : Mux
  we     : Mux
  be     : List Mux
  addr   : List Mux
  din    : List Mux
  clk    : Nat
  deriving DecidableEq, Repr, Inhabited

/-- A MAC block's options and nets (R148, R149). -/
structure MacCfg where
  sa   : Bool
  sb   : Bool
  areg : Bool
  breg : Bool
  preg : Bool
  a    : List Mux
  b    : List Mux
  c    : List Mux
  op   : List Mux
  clk  : Nat
  deriving DecidableEq, Repr, Inhabited

/-- A pin's paths from its bay (R156, R157, R160): output, output enable, the serialiser's parallel word from bit 0 on, and the regional
clock of the bay that clocks the pin's registers and the parallel side of its serialiser. -/
structure PinCfg where
  out : Mux
  oe  : Mux
  ser : List Mux
  clk : Fin 4
  deriving DecidableEq, Repr, Inhabited

/-- The options of a cell, from its bay's configuration latches. Log 12. -/
opaque cellCfg : List Byte → Nat → CellCfg

/-- The multiplexer of a wire. Log 12. -/
opaque wireMux : List Byte → Nat → Mux

/-- The options of a block-memory port, numbered memory × 2 + port. Log 12. -/
opaque portCfg : List Byte → Nat → PortCfg

/-- The options of a MAC block. Log 12. -/
opaque macCfg : List Byte → Nat → MacCfg

/-- The paths of a pin, from the latches of the bay that it belongs to. Log 12. -/
opaque pinCfg : List Byte → Nat → PinCfg

/-- The regional clock that a joint out of the bay runs on, and the one that a joint into it lands on (R140). Log 12. -/
opaque jointClk : List Byte → Nat → Fin 4
opaque jointInClk : List Byte → Nat → Fin 4

/-- The wing and output of the probe multiplexer that a pin is named for (R154), from the image's payload. Log 12. -/
opaque probePin : List (Nat × Byte) → Nat → Option (Nat × Nat)

/-- Which bit of a frame's latch row the k-th wrong bit of an upset is (R138): frame, k. Log 6. -/
opaque upsetBit : Nat → Nat → Nat

/-- What the board, or anything else outside the model, shows or does at a moment: the moment, what is asked. Log 11. -/
opaque outside : Nat → Nat → Bool

/-- Whether the board drives a ball at a moment, and the level it then shows, or the level of one that floats: the moment, the ball. Log 11. -/
opaque boardDrives : Nat → Nat → Bool
opaque boardLevel : Nat → Nat → Bool

/-- What may go wrong in a memory at a moment: bits of a configuration row that an upset changes (R138, R296), a plane's record, a word
of a slot's setter areas, a manifest, a place of a target that no longer programs (R276, R286), ECC words of a setter's memories, the
store and a descriptor (R66, R184, R229), a copy of the calibration page (R322). The last number tells how badly. -/
inductive Decay where
  | none
  | row (b : Fin 64) (f : Fin 632) (how : Fin 3)
  | plane (slot : Fin 3) (record : Nat) (double : Bool)
  | area (slot : Fin 3) (w : Fin 24576)
  | manifest (slot : Fin 3)
  | place (target off : Nat)
  | prog (i : Fin 16) (w : Nat) (double : Bool)
  | data (i : Fin 16) (w : Nat) (double : Bool)
  | store (half : Nat) (double : Bool)
  | descriptor (q : BitVec 16) (double : Bool)
  | calPage (k : Fin 2)
  deriving DecidableEq, Repr, Inhabited

/-- What goes wrong at a moment. Log 36. -/
opaque decayAt : Nat → Decay

/-! ### The part and its moments -/

/-- MMARK.MINOR: 'Per part' (R1, R2). Log 2. -/
opaque minor : BitVec 4

/-- The serial number less 1, before it is brought into range (R23: unique per part and never 0). Log 2. -/
opaque serialSeed : Nat

/-- The serial number of MMARK_SER1:MMARK_SER0, never 0 (R23). Log 2. -/
def serial : BitVec 64 := BitVec.ofNat 64 (serialSeed % (2 ^ 64 - 1) + 1)

/-- Calibration item k as the read-only fuse page gives it, before the trim code of item 28 is brought into its 8 bits. Log 2. -/
opaque calSeed : Nat → BitVec 16

/-- The factory value of calibration item k; the oscillator's trim code, item 28, is 0 to 255 (R165, R322). -/
def calFactory (k : Nat) : BitVec 16 := if k = 28 then ((calSeed k).setWidth 8).setWidth 16 else calSeed k

/-- VERSION of the firmware copy as shipped (R313, PLN_FIRMSTAT.VERSION). Log 2. -/
opaque firmVersion : Nat → Word

/-- A SYNC tap's net is launched from a clock derived from its wing's PLL 0 and meets the wing strobe's setup and hold times (R41): the
image's payload, the PLL's control and divider words, the selection and division of the bay's regional clocks, setter × 256 + tap.
Log 35. -/
opaque syncMet : List (Nat × Byte) → Word → Word → List (BitVec 3 × BitVec 4) → Nat → Bool

/-- What the input taps' nets show at a sample that no operand gives. Log 6. -/
opaque freeNets : Nat → BitVec 256

/-- A setter-cycle cost inside a stated range (R105, R122, R124): added modulo the range's width. Log 9. -/
opaque freeCost : Nat → Nat

/-- The store byte at an address that nothing has written since contents were last lost (R183); the first argument counts
the losses. Log 8. -/
opaque storeByte : Nat → Nat → Byte

/-- Whether the first read of such a 64-bit half returns an uncorrectable-error response (R183: it may). Log 8. -/
opaque storeErr : Nat → Nat → Bool

/-- TIME of the log record with this sequence number (R325). Log 10. -/
opaque logTime : Nat → BitVec 64

/-- A sampled level that nothing defines (R388: a floating input, a keeper that was never driven). Log 11. -/
opaque freeLevel : Nat → Bool

/-- SHA-384 of FIPS 180-4 (R267). Log 12. -/
opaque sha384 : List Byte → List Byte

/-- RSASSA-PSS verification with RSA-3072 and SHA-384 (R267): modulus, message, signature. Log 12. -/
opaque rsaPssOk : List Byte → List Byte → List Byte → Bool

/-- SLH-DSA-SHA2-192s verification (R267): public key, message, signature. Log 12. -/
opaque slhDsaOk : List Byte → List Byte → List Byte → Bool

/-- The 12 SEC-DED check bits of a frame's 128 bytes (R271). Log 12. -/
opaque frameCheck : List Byte → BitVec 12

/-- Every routing field of a frame is one-hot, or all zero where no source is required (R137): frame number and 128
bytes. Log 12. -/
opaque frameRoutingOk : Nat → List Byte → Bool

/-- Cumulative coverage, in 0.1 % units, of a segment boundary that R360's table does not print: test, patterns. Log 12. -/
opaque coverage : Nat → Nat → BitVec 10

/-- The bay of its wing whose regional clock a fabric byte port runs on (R219), from the image's payload: payload, port. Log 12. -/
opaque portBay : List (Nat × Byte) → Nat → Nat

/-- The regional clock of its bay that a fabric byte port runs on (R219), from the image's payload: payload, port. Log 12. -/
opaque portClk : List (Nat × Byte) → Nat → Fin 4

/-- The bay that a pin belongs to (R156), from the image's payload, before it is brought into the range of the pin's bank: payload,
pin. Log 12. -/
opaque pinBay : List (Nat × Byte) → Nat → Nat

/-- The pin rules that depend on the frames' routing: no user logic drives a probe pin (R154), and a pin with no output path is
high-Z (R161), from the image's payload and the 132 pin words. Log 12. -/
opaque pinPathsOk : List (Nat × Byte) → List Word → Bool

/-- Own cells that the chain interface's transmit buffer of a class holds, less 1 (R120 names the buffer and states no
size). Log 13. -/
opaque txRoom : Nat → Nat

end Sys2Proof.Config
end

