-- ==== Sys2Proof/Machine/Bits.lean ====
section
/-! DEFINITION. Bit-field, byte-order and table helpers: everything a rule of the spec says in bits [msb:lsb] (R5), the
little-endian joining of bytes (R5), the CRCs of R236 and R271, and the sparse tables in one canonical form that hold
memories (keys strictly rising, no entry that an unlisted key would read as). -/

namespace Sys2Proof.Machine

/-- Bits [hi:lo] of a word, as R5 writes a field. -/
def field {n : Nat} (w : BitVec n) (hi lo : Nat) : BitVec (hi - lo + 1) :=
  w.extractLsb' lo (hi - lo + 1)

/-- `w` with `len` bits from `lo` replaced by the low bits of `v`. -/
def putField {n : Nat} (w : BitVec n) (lo len : Nat) (v : Nat) : BitVec n :=
  let mask : BitVec n := BitVec.ofNat n ((2 ^ len - 1) * 2 ^ lo)
  (w &&& ~~~mask) ||| (BitVec.ofNat n (v % 2 ^ len * 2 ^ lo))

/-- A one-bit value placed at bit `i`. -/
def flagAt (i : Nat) (b : Bool) : Word := if b then BitVec.ofNat 32 (2 ^ i) else 0

/-- A value placed at bit `i` and up. -/
def valAt (i : Nat) (v : Nat) : Word := BitVec.ofNat 32 (v * 2 ^ i)

/-- `v` with bit `i` set to `b`. -/
def setBit {n : Nat} (v : BitVec n) (i : Nat) (b : Bool) : BitVec n :=
  if b then v ||| BitVec.ofNat n (2 ^ i) else v &&& ~~~(BitVec.ofNat n (2 ^ i))

/-- The stored bits where `mask` is 0 and the written bits where `mask` is 1: a write under R8 and R9 to a register whose
writable bits are `mask`. -/
def maskWrite (mask old v : Word) : Word := (old &&& ~~~mask) ||| (v &&& mask)

/-- Add to a saturating counter of `bits` bits (R8: RC counters saturate). -/
def satAdd (bits : Nat) (c n : Nat) : Nat := min (c + n) (2 ^ bits - 1)

/-- Replace entry `i` of a vector. -/
def upd {α : Type} {n : Nat} (v : Vector α n) (i : Fin n) (x : α) : Vector α n := v.set i.val x i.isLt

/-- Change entry `i` of a vector. -/
def updf {α : Type} {n : Nat} (v : Vector α n) (i : Fin n) (f : α → α) : Vector α n := upd v i (f (v.get i))

/-- The entry at a natural index, when there is one. -/
def nth {α : Type} {n : Nat} (v : Vector α n) (i : Nat) : Option α := if h : i < n then some (v.get ⟨i, h⟩) else none

/-- Change the entry at a natural index, when there is one. -/
def nthUpd {α : Type} {n : Nat} (v : Vector α n) (i : Nat) (f : α → α) : Vector α n :=
  if h : i < n then updf v ⟨i, h⟩ f else v

/-- The value listed for a key. -/
def kvGet {α : Type} : List (Nat × α) → Nat → Option α
  | [], _ => none
  | (k, v) :: t, a => if k = a then some v else kvGet t a

/-- Remove a key. -/
def kvDel {α : Type} (a : Nat) (m : List (Nat × α)) : List (Nat × α) := m.filter (fun e => e.1 != a)

/-- List a key: keys stay strictly rising. -/
def kvIns {α : Type} (a : Nat) (x : α) : List (Nat × α) → List (Nat × α)
  | [] => [(a, x)]
  | (k, v) :: t =>
    if a < k then (a, x) :: (k, v) :: t
    else if a = k then (a, x) :: t
    else (k, v) :: kvIns a x t

/-- Write a key: a value that an unlisted key reads as (`drop`) is not listed. -/
def kvPut {α : Type} (drop : α → Bool) (a : Nat) (x : α) (m : List (Nat × α)) : List (Nat × α) :=
  if drop x then kvDel a m else kvIns a x m

/-- Every key of the list is above `lo`. -/
def kvAbove {α : Type} (lo : Nat) (m : List (Nat × α)) : Bool := m.all (fun e => lo < e.1)

/-- The canonical form: keys strictly rising and no entry that an unlisted key reads as. -/
def kvWf {α : Type} (drop : α → Bool) : List (Nat × α) → Bool
  | [] => true
  | (k, v) :: t => !drop v && kvAbove k t && kvWf drop t

/-- A byte memory in which an unlisted byte reads 0. -/
abbrev Mem := List (Nat × Byte)

/-- The byte that an unlisted address of a cleared memory reads as. -/
def isZeroByte (b : Byte) : Bool := b == 0

/-- Read a byte of a memory whose unlisted bytes are 0. -/
def memByte (m : Mem) (a : Nat) : Byte := (kvGet m a).getD 0

/-- Write a byte of such a memory. -/
def memPut (m : Mem) (a : Nat) (b : Byte) : Mem := kvPut isZeroByte a b m

/-- The little-endian number of a list of bytes (R5). -/
def leNat : List Byte → Nat
  | [] => 0
  | b :: t => b.toNat + 256 * leNat t

/-- The `n` low bytes of a number, least significant first (R5). -/
def leBytes (n v : Nat) : List Byte := (List.range n).map (fun i => BitVec.ofNat 8 (v / 256 ^ i))

/-- Read `n` bytes from `a` up. -/
def memRead (m : Mem) (a n : Nat) : List Byte := (List.range n).map (fun i => memByte m (a + i))

/-- Write bytes from `a` up. -/
def memWrite (m : Mem) (a : Nat) : List Byte → Mem
  | [] => m
  | b :: t => memWrite (memPut m a b) (a + 1) t

/-- Read `n` little-endian bytes as a number. -/
def memNat (m : Mem) (a n : Nat) : Nat := leNat (memRead m a n)

/-- Read a little-endian word. -/
def memWord (m : Mem) (a : Nat) : Word := BitVec.ofNat 32 (memNat m a 4)

/-- Write a little-endian word. -/
def memPutWord (m : Mem) (a : Nat) (w : Word) : Mem := memWrite m a (leBytes 4 w.toNat)

/-- One bit step of the reflected CRC-32 register. -/
def crc32Bit (c : Word) : Word := if c.getLsbD 0 then (c >>> 1) ^^^ 0xEDB88320#32 else c >>> 1

/-- One byte step of the CRC-32 register. -/
def crc32Byte (c : Word) (b : Byte) : Word :=
  crc32Bit (crc32Bit (crc32Bit (crc32Bit (crc32Bit (crc32Bit (crc32Bit (crc32Bit (c ^^^ b.setWidth 32))))))))

/-- The CRC-32 of R236: reflected polynomial 0x04C1_1DB7, initial value and final XOR 0xFFFF_FFFF. -/
def crc32 (l : List Byte) : Word := (l.foldl crc32Byte 0xFFFFFFFF#32) ^^^ 0xFFFFFFFF#32

/-- One bit step of the CRC-16 register. -/
def crc16Bit (c : BitVec 16) : BitVec 16 := if c.getLsbD 15 then (c <<< 1) ^^^ 0x1021#16 else c <<< 1

/-- One byte step of the CRC-16 register. -/
def crc16Byte (c : BitVec 16) (b : Byte) : BitVec 16 :=
  crc16Bit (crc16Bit (crc16Bit (crc16Bit (crc16Bit (crc16Bit (crc16Bit (crc16Bit (c ^^^ (b.setWidth 16 <<< 8)))))))))

/-- The CRC-16 of R271: polynomial 0x1021, initial value 0xFFFF, no reflection, no final XOR. -/
def crc16 (l : List Byte) : BitVec 16 := l.foldl crc16Byte 0xFFFF#16

/-- The XOR of a mask's bits: the parity bit of R141. -/
def parity16 (m : BitVec 16) : Bool := (List.range 16).foldl (fun p i => xor p (m.getLsbD i)) false

/-- The value of a two's-complement field of `bits` bits. -/
def signedOf (bits : Nat) (v : Nat) : Int := (BitVec.ofNat bits v).toInt

/-- Clamp an integer between two bounds (R322). -/
def clampInt (v lo hi : Int) : Int := max lo (min v hi)

/-- Bit 31 down to bit 0 of a word's half-open slice `[32 i, 32 i + 32)` of a wide vector. -/
def slice32 {n : Nat} (v : BitVec n) (i : Nat) : Word := v.extractLsb' (32 * i) 32

/-- The wide vector with its 32-bit slice `i` replaced. -/
def putSlice32 {n : Nat} (v : BitVec n) (i : Nat) (w : Word) : BitVec n := putField v (32 * i) 32 w.toNat

end Sys2Proof.Machine
end

