-- ==== Sys2Proof/Machine/State.lean ====
section
/-! DEFINITION. The state of the block, as plain data: every register, memory, queue, buffer, counter, mode and ball that
the spec gives the W9, and the queue of waiting commands; and the state right after reset. -/

namespace Sys2Proof.Machine

/-- Why the machine stops. -/
inductive Fault where
  /-- An access to a place that the spec says does not exist and for which it states no response. No meaning raises it:
  every access of the spec has a response. Safe. -/
  | absentPlace
  deriving DecidableEq, Repr

/-- Why a command has no meaning. -/
inductive Refusal where
  /-- The command's arm has no meaning yet; raised by Dispatch only. Safe. -/
  | notModelled (mnemonic : String)
  deriving DecidableEq, Repr

/-- The response to a bus access as its master sees it. -/
inductive RespCode where
  | none
  | ok
  /-- Bus error (R10, R20) or error response of the store. -/
  | busError
  /-- Region violation (R21, R188). -/
  | region
  /-- Uncorrectable data (R184). -/
  | ecc
  /-- Cut off (R198). -/
  | cutOff
  /-- A queue PUT refused, full or disabled (R215). -/
  | refused
  /-- The access waits for its domain to wake (R343). -/
  | waits
  deriving DecidableEq, Repr

/-- A response: its code and the bytes read. -/
structure Resp where
  code : RespCode
  data : List Byte
  deriving DecidableEq, Repr

/-- An ECC mark on a stored word: one bit wrong, or uncorrectable (R66, R184, R229). -/
inductive MemErr where
  | single
  | double
  deriving DecidableEq, Repr

/-- What an upset made of a frame's latch row (R138, R296, R297): one bit wrong; an error that SEC-DED leaves uncorrected; an error that
it corrects wrongly, to a row that the CRC then catches. -/
inductive RowErr where
  | single
  | double
  | wrong
  deriving DecidableEq, Repr

/-- An access of a bus master that waits for a gated domain, or for another master's lock on its beat (R198, R343). -/
structure BusAccess where
  master : Nat
  dom    : Domain
  addr   : Nat
  write  : Bool
  value  : Word
  -- a queue operation through the window (R215); none for a word access
  op     : Option HodOp
  deriving DecidableEq, Repr

/-! ### Setters (R35) -/

/-- The flags Z, N, C, V, B, Q (R35, R80). -/
structure Flags where
  z : Bool
  n : Bool
  c : Bool
  v : Bool
  b : Bool
  q : Bool
  deriving DecidableEq, Repr

/-- A timer (R61, R97): SET_TMCTLt, SET_TMPRESETt and SET_TMCOUNTt. -/
structure Timer where
  preset  : Word
  count   : Word
  mode    : BitVec 2
  base    : Bool
  trap    : Bool
  done    : Bool
  running : Bool
  inp     : Bool
  deriving DecidableEq, Repr

/-- What a setter is waiting for. -/
inductive SetterWait where
  | none
  /-- FRAME, its commit applied, waits for its tick (R45); the PC its completion sets. -/
  | frame (next : BitVec 14)
  /-- WEV waits for a latch of its mask, or its timeout (R112). -/
  | wev (d : Reg) (mask timeout : Word)
  /-- An instruction's access waits for a gated domain (R22, R343). -/
  | access (dom : Domain) (i : Instr)
  /-- A queue instruction's KEY operation is at the lane (R223); the register the instruction writes. -/
  | lane (d : Reg)
  /-- SYS SLEEP waits for its power-state entry to complete or to be abandoned (R127). -/
  | sleep
  /-- FENCE waits for the landings of the writes outstanding at its issue; the width of its free cost (R84). -/
  | fence (width : Nat)
  deriving DecidableEq, Repr

/-- One setter. -/
structure Setter where
  pc      : BitVec 14
  g       : Vector Word 16
  acc     : BitVec 64
  flags   : Flags
  bdepth  : BitVec 5
  bstk    : BitVec 16
  tag     : BitVec 8
  timers  : Vector Timer 8
  fcnt    : Word
  evl     : Word
  snap    : BitVec 256
  prev    : BitVec 256
  obuf    : BitVec 256
  olat    : BitVec 256
  ilat    : BitVec 256
  -- LUTWS staging: live cell number (bay × 4,096 + cell) and mask, oldest first
  staging : List (Nat × BitVec 16)
  epc     : BitVec 14
  eflags  : BitVec 6
  causeSub : BitVec 8
  causeVec : BitVec 4
  eaddr   : Word
  tm      : Bool
  -- causes held under R64
  heldOvr : Bool
  heldTm  : BitVec 8
  heldSys : Option (BitVec 8 × BitVec 10)
  -- SET_CTRL
  dbgfrz  : Bool
  ovrtrap : Bool
  systrap : Bool
  ovrpol  : Bool
  fen     : Bool
  run     : Bool
  -- SET_STATUS
  swapped : Bool
  cfgerr  : Bool
  tblost  : Bool
  ovr     : Bool
  dbltrap : Bool
  bkpt    : Bool
  halted  : Bool
  stopped : Bool
  -- SET_FSRC, SET_FPERIOD, SET_FTB and the writes that wait for a tick (R59)
  fsrc    : Word
  fperiod : Word
  ftb     : Word
  fsrcW   : Option Word
  fperiodW : Option Word
  ftbW    : Option Word
  -- ticks due and not yet counted; the latest one fell while stopped and is counted; detection armed (R56, R59)
  due     : Nat
  late    : Bool
  armed   : Bool
  overruns : BitVec 16
  missed  : BitVec 16
  -- scan length so far, and SET_SCANLAST, SET_SCANMAX
  scan    : Nat
  scanLast : BitVec 24
  scanMax : BitVec 24
  bkpt0   : Word
  bkpt1   : Word
  pmaddr  : BitVec 14
  -- memories, their ECC marks and the shadow banks of R293
  prog    : List (Nat × Word)
  progErr : List (Nat × MemErr)
  data    : Mem
  dataErr : List (Nat × MemErr)
  shadow  : Option (List (Nat × Word) × Option Mem × Bool)
  wait    : SetterWait
  -- the first instruction after RUN or STEP is not checked against the breakpoints (R67)
  skipBk  : Bool
  -- the instruction at PC has issued, met a wait and issues again only for its access (R64, R116, R343)
  again   : Bool
  -- FRAME has stalled behind a LUTW: the width of the stall's free cost (R107)
  lutStall : Option Nat
  -- the initial snapshot of R38 is still to be taken
  needSnap : Bool
  -- LUTW and TOUTD not yet landed, oldest first (R84)
  lutw    : List (Nat × BitVec 16)
  toutd   : List (Nat × Bool)
  -- interlock memory (R78)
  ilReg   : Option Reg
  ilMac   : Bool
  -- image tables: enable, tap maps, service permissions, DBGWR (R38, R40, R124, R69); SET_FSRC, SET_FPERIOD and SET_FTB (R37, R274)
  enabled : Bool
  tabFsrc : Word
  tabFper : Word
  tabFtb  : Word
  perm    : BitVec 6
  tapIn   : List (Nat × Word)
  tapOut  : List (Nat × Word)
  dbgwr   : Bool
  -- power and isolation
  gated   : Bool
  dozed   : Bool
  isol    : Bool
  -- the self-test controller isolates it at its next instruction boundary (R363)
  testW   : Bool
  deriving DecidableEq, Repr

/-- The setter record of R354: what the vault and a brown-out save keep of a setter. -/
structure SetterRec where
  g       : Vector Word 16
  flags   : Flags
  acc     : BitVec 64
  tag     : BitVec 8
  bdepth  : BitVec 5
  bstk    : BitVec 16
  pc      : BitVec 14
  ctrl    : Word
  fsrc    : Word
  fperiod : Word
  ftb     : Word
  evl     : Word
  fcnt    : Word
  timers  : Vector Timer 8
  obuf    : BitVec 256
  running : Bool
  tm      : Bool
  halted  : Bool
  epc     : BitVec 14
  eflags  : BitVec 6
  cause   : Word
  deriving DecidableEq, Repr

/-! ### Bays (R131 to R153) -/

/-- A regional clock (R150, R151): its register, a write held while BUSY is 1, its divider. -/
structure RClk where
  en    : Bool
  busy  : Bool
  div   : BitVec 4
  sel   : BitVec 3
  heldW : Option Word
  -- rising edges of the line still to come before the one on which the divided clock rises (R150)
  cnt   : BitVec 4
  deriving DecidableEq, Repr

/-- A MAC block (R148, R149): accumulator, input and product registers, overflow output. -/
structure MacBlock where
  acc  : BitVec 48
  areg : BitVec 18
  breg : BitVec 18
  preg : BitVec 36
  ovf  : Bool
  deriving DecidableEq, Repr

/-- A block-memory port's output latch and output register (R145). -/
structure PortOut where
  out : List Bool
  reg : List Bool
  deriving DecidableEq, Repr

/-- A bay joint out of a bay (R140): BUSY, the word in flight, the destination's output register, ARRIVED, and the
acknowledgement on its way back. -/
structure Joint where
  busy    : Bool
  flight  : Option Word
  out     : Word
  arrived : Bool
  ack     : Bool
  deriving DecidableEq, Repr

/-- One bay. -/
structure Bay where
  held    : Bool
  isol    : Bool
  gated   : Bool
  dozed   : Bool
  lperr   : Bool
  lpCount : BitVec 8
  lpCell  : BitVec 12
  rclk    : Vector RClk 4
  rstSw   : BitVec 4
  -- sources asserting each reset tree (bit 0 load hold, 1 software, 2 user net, 3 re-initialisation), and the trees
  rstSrc  : Vector (BitVec 4) 4
  tree    : BitVec 4
  probe   : Vector Word 8
  -- live cells by course: owner (local setter index), mask with its parity in bit 16; courses reported in error
  own     : List (Nat × BitVec 2)
  lmask   : List (Nat × BitVec 17)
  lrep    : List Nat
  chk     : BitVec 8
  -- cells whose flip-flop no longer holds INIT
  ffs     : List Nat
  -- block-memory bits at 1, keyed by memory × 36,864 + bit (R144), and the ports' outputs, keyed by memory × 2 + port
  bram    : List (Nat × Bool)
  ports   : List (Nat × PortOut)
  mac     : Vector MacBlock 4
  -- frames 0-631 whose configuration latches an upset has changed (R138)
  upset   : List (Nat × RowErr)
  joints  : Vector Joint 32
  deriving DecidableEq, Repr

/-! ### I/O (R156 to R163) -/

/-- One I/O bank. -/
structure IoBank where
  -- detected VIO band, none while VIO is absent (R385)
  band    : Option (BitVec 2)
  vio     : BitVec 2
  vioerr  : Bool
  serclk  : Word
  pin     : Vector Word 22
  -- word boundary of each deserialiser (R160)
  slip    : Vector (BitVec 3) 22
  -- the image configures this bank (R158), and its configuration is in effect (after the global release)
  conf    : Bool
  inEffect : Bool
  deriving DecidableEq, Repr

/-- A pin's serialiser and deserialiser (R160): the bit on the line, the bits of the word still to go out, oldest first, and the word that
the parallel side has handed over to follow them; the bits received, newest first, how many of them belong to the word at hand, the
last whole word, and the one that the parallel side shows, both from bit 0 on. -/
structure Serdes where
  line : Bool
  out  : List Bool
  next : List Bool
  hist : List Bool
  n    : Nat
  full : List Bool
  word : List Bool
  deriving DecidableEq, Repr

/-- The I/O banks and the pin controls of R161 to R163. Pins are numbered bank × 22 + index. -/
structure Io where
  bank   : Vector IoBank 6
  halt   : Bool
  -- pins still at their safe value after a HALT_N release (R162), and at their hold value after a hold's release (R291)
  haltW  : BitVec 132
  holdW  : BitVec 132
  -- brown-out safe values in effect (row 2 of R163)
  trip   : Bool
  -- pins that the image gives an I/O configuration (R158, R163)
  pinConf : BitVec 132
  -- what each pin drove when its hold began (R163 row 6): driver on, level
  keptOn  : BitVec 132
  keptLvl : BitVec 132
  -- serialisers by pin
  ser     : List (Nat × Serdes)
  -- the level that each pin's keeper holds (R157, R388), and its input, output and output-enable registers (R157)
  keeper  : BitVec 132
  ireg    : BitVec 132
  oreg    : BitVec 132
  ereg    : BitVec 132
  deriving DecidableEq, Repr

/-! ### Clocks (R165 to R180) -/

/-- A wing PLL: its registers, the lock detector's run of good windows and the outputs that run. -/
structure Pll where
  ctrl  : Word
  odiv  : Word
  lock  : Bool
  cfgerr : Bool
  unlocked : Bool
  diff  : BitVec 8
  ulcnt : BitVec 16
  good  : Nat
  outs  : BitVec 4
  -- outputs whose stop has been requested and is not complete (R171)
  stopW : BitVec 4
  -- ULPOL in effect: a write takes effect at the end of the current window (R176)
  ulpol : Bool
  deriving DecidableEq, Repr

/-- The clock block. -/
structure Clk where
  refok   : Bool
  reflost : Bool
  refctl  : BitVec 2
  refmeas : BitVec 16
  goodWin : Nat
  trim    : BitVec 8
  pll     : Vector Pll 8
  devOn   : Bool
  slock   : Bool
  hlock   : Bool
  sulcnt  : BitVec 8
  hulcnt  : BitVec 8
  sgood   : Nat
  hgood   : Nat
  -- REFCLK frequency declared by the image (TYPE 6), in kHz
  khz     : Option Nat
  deriving DecidableEq, Repr

/-! ### Store and arbiter (R181 to R205) -/

/-- The central store. -/
structure Store where
  -- written bytes only, by address
  mem     : List Host.Cell
  -- how often contents have been lost (R183)
  epoch   : Nat
  -- ECC marks by 64-bit half (address / 8)
  err     : List (Nat × MemErr)
  wb      : Option Nat
  corr    : BitVec 16
  ce      : Bool
  ue      : Bool
  eccaddr : Word
  empty   : BitVec 16
  retn    : Bool
  waking  : Bool
  isol    : Bool
  deriving DecidableEq, Repr

/-- The grant for the coming data cycle: its master, whether it is a keystone beat, the cycles left of its piece, and whether the
request it was decided for is gone, so that the cycle stays empty (R184, R190). -/
structure Grant where
  master : Nat
  key    : Bool
  left   : Nat
  void   : Bool
  deriving DecidableEq, Repr

/-- Where a bond-table swap stands (R202). -/
inductive SwapPhase where
  | idle
  | validating
  | armed
  deriving DecidableEq, Repr

/-- A double-buffered bond table with its status (R201, R202, R245). Entries are 8 bits: KIND in [7:6], OWNER in [4:0]. -/
structure Bond where
  act   : Vector (BitVec 8) 64
  next  : Vector (BitVec 8) 64
  phase : SwapPhase
  ag    : BitVec 7
  gap   : BitVec 8
  slot  : BitVec 6
  code  : BitVec 3
  -- the G found by the validation, taken at the switch
  newG  : BitVec 7
  deriving DecidableEq, Repr

/-- The arbiter (R185 to R203). Vectors of 32 are indexed by master. -/
structure Arb where
  rlock  : Bool
  cfgerr : Bool
  key    : Vector Word 4
  -- the lines and ranks in effect, and those that stood one decision ago (R194, R197)
  keyEff : Vector Word 4
  keyMid : Vector Word 4
  rankEff : Vector (BitVec 3) 32
  rankMid : Vector (BitVec 3) 32
  bond   : Bond
  mctl   : Vector Word 32
  cutcnt : Vector (BitVec 8) 32
  waitmax : Vector (BitVec 16) 32
  mcause : Vector (BitVec 6) 32
  maddr  : Vector Word 32
  rbase  : Vector (Vector Word 8) 32
  rlim   : Vector (Vector Word 8) 32
  -- the regions in effect, and those that stood one store cycle ago (R189): base and limit words
  regEff : Vector (Vector Word 8 × Vector Word 8) 32
  regMid : Vector (Vector Word 8 × Vector Word 8) 32
  ptr    : BitVec 6
  -- raised requests, and those sampled in the store cycle before
  ord    : Vector (Option StoreReq) 32
  kreq   : Vector (Option StoreReq) 32
  sampO  : Vector (Option StoreReq) 32
  sampK  : Vector (Option StoreReq) 32
  -- requests that wait at the closed joint of an isolated store, oldest first (R204)
  joint  : List (Nat × StoreReq)
  -- masters whose sampled ordinary, or keystone, request has been dropped since (R190)
  goneO  : BitVec 32
  goneK  : BitVec 32
  grant  : Option Grant
  park   : Option Nat
  lastGr : Option Nat
  rr     : Vector (BitVec 5) 8
  keyptr : BitVec 2
  -- locks held: the master and the address of its locked access (R198)
  locks  : List (Nat × Nat)
  waitc  : Vector (BitVec 16) 32
  -- starvation already reported in this wait (R200)
  starved : BitVec 32
  deriving DecidableEq, Repr

/-! ### Hod (R206 to R231) -/

/-- A queue descriptor: the four words of HOD_QDESC0 to HOD_QDESC3. -/
structure Desc where
  w0 : Word
  w1 : Word
  w2 : Word
  w3 : Word
  deriving DecidableEq, Repr

/-- An entry of the combining buffer (R220): one beat address, its queue, the halves written. -/
structure CombEntry where
  addr : Nat
  q    : QueueId
  lo   : Option (List Byte)
  hi   : Option (List Byte)
  deriving DecidableEq, Repr

/-- A packer (R216 to R219): the fabric side's buffer, oldest first (a byte, or END alone; with END), the bytes of its partial word, the
break mark owed, the closed word waiting for room (word and tag bits VB, EOB, BRK) and the words dropped. -/
structure Packer where
  fifo : List (Option Byte × Bool)
  part : List Byte
  owed : Bool
  wait : Option (Word × BitVec 8)
  drop : BitVec 16
  deriving DecidableEq, Repr

/-- Who is told the outcome of a KEY operation (R221): a bus master, a setter with the register its instruction writes, or the sender of
a QPUT or NOTE cell. -/
inductive LaneWho where
  | bus (m : Nat)
  | setter (i : SetterId) (d : Reg)
  | cell (c : Cell)
  deriving DecidableEq, Repr

/-- A KEY operation at its port (R214, R223). -/
structure LaneOp where
  port : HodPort
  op   : HodOp
  who  : LaneWho
  deriving DecidableEq, Repr

/-- The payload access that a KEY operation's descriptor step leaves to do (R221, R223): an element's bytes for an address and the TAIL
they were given at, or a read. -/
inductive LanePay where
  | write (addr : Nat) (bytes : List Byte) (tail : Nat)
  | read (addr : Nat)
  deriving DecidableEq, Repr

/-- A command of HOD_QCMD whose descriptor operation has not completed (R211): its writer and code. -/
structure QCmd where
  master : Nat
  code   : Nat
  deriving DecidableEq, Repr

/-- A watermark group's status (HOD_WMSTATg). -/
structure WmStat where
  hi    : Bool
  lo    : Bool
  count : BitVec 6
  q     : QueueId
  deriving DecidableEq, Repr

/-- The hod. -/
structure Hod where
  desc   : List (Nat × Desc)
  -- queues marked faulted (R221, R229) and descriptor ECC marks
  fault  : List Nat
  derr   : List (Nat × MemErr)
  comb   : List CombEntry
  -- entries raised to the store and not yet completed, oldest first
  flush  : List CombEntry
  -- the KEY lane's operation with its payload access, and the KEY operations that wait to be taken, in arrival order (R223)
  lane   : Option (LaneOp × LanePay)
  keyWait : List LaneOp
  -- cells whose PUT waits at the chain port, in order (R214, R227)
  cells  : List Cell
  -- HOD_QCMD.BUSY (R211)
  qbusy  : Option QCmd
  pack   : Vector Packer 32
  bankNow : Vector Nat 4
  bankCnt : Vector Word 4
  keyports : BitVec 19
  qsel   : QueueId
  stg    : Vector Word 4
  result : BitVec 4
  dce    : Bool
  due    : Bool
  skewwin : BitVec 16
  cberr  : Bool
  cbq    : QueueId
  descUe : Bool
  descQ  : QueueId
  rfReason : BitVec 4
  rfDev  : BitVec 12
  rfQ    : QueueId
  wm     : Vector WmStat 48
  gated  : Bool
  waking : Bool
  deriving DecidableEq, Repr

/-! ### Chain and host port (R232 to R264) -/

/-- A transmit stream's gathered bytes (R257). -/
structure TxStream where
  ctl  : Word
  q    : Word
  got  : List Byte
  -- the gathered bytes end with an element with EOB, whose cell waits for room
  last : Bool
  stop : Bool
  deriving DecidableEq, Repr

/-- Where a cell on the output came from: the ring, with whether an own cell of precedence 5 was inserted while it waited (R241), or one
of the device's own queues (R240). -/
inductive CellFrom where
  | transit (seen : Bool)
  | ownKey
  | ownTime
  | ownHead
  | own (k : Fin 4)
  deriving DecidableEq, Repr

/-- A QPUT or NOTE that the device has sent: its type, queue and element, and its destination. -/
structure SentPut where
  type  : BitVec 4
  queue : QueueId
  elem  : Word
  dest  : BitVec 12
  deriving DecidableEq, Repr

/-- The chain interface. -/
structure Irs where
  chen    : Bool
  head    : Bool
  autoenum : Bool
  ken     : Bool
  bypopen : Bool
  waitjoin : Bool
  addrv   : Bool
  inlock  : Bool
  retrain : Bool
  tbvalid : Bool
  kenref  : Bool
  closerr : Bool
  bprun   : Bool
  kicfg   : Bool
  bpout   : BitVec 8
  addr    : BitVec 12
  hop     : Word
  ringS   : BitVec 7
  ringN   : BitVec 12
  lap     : Word
  keyEff  : BitVec 10
  ki      : BitVec 10
  tbper   : BitVec 14
  time    : BitVec 64
  timeHi  : Word
  crcOut  : BitVec 16
  crcIn   : BitVec 16
  thrcnt  : BitVec 16
  ovf     : BitVec 8
  maxfill : BitVec 7
  abOwn   : BitVec 16
  abTran  : BitVec 16
  drStream : BitVec 16
  drBad   : BitVec 16
  bond    : Bond
  crank   : Word
  hbusy   : Bool
  rx      : Vector Word 16
  tx      : Vector TxStream 16
  ptr     : BitVec 6
  crr     : Vector (BitVec 2) 8
  -- own cells waiting: keystone, the head's, and the four classes of R245
  ownKey  : List Cell
  ownHead : List Cell
  ownTime : List Cell
  own     : Vector (List Cell) 4
  -- the PUTs and notes sent, newest first, each once: what a QFAIL that names no device can be about (R227, HOD_RMTFAIL.DEV)
  sent    : List SentPut
  -- a keystone cell was sent and KEY_INTERVAL has not ended (R243)
  keyHold : Bool
  -- transit buffers (R241), and the cell in progress on the output
  keyBuf  : List Cell
  tranBuf : List Cell
  out     : Option (Cell × CellFrom)
  -- how many of the oldest waiting transit cells have seen an own cell of precedence 5 inserted (R241)
  ins5    : Nat
  paused  : Bool
  -- inbound errors not yet reported by a LINK cell (R244); RESUME seen since the last enumeration began; LINK reason 2
  -- owed (R252); TRAIN seen in this re-training
  linkErr : BitVec 16
  resumed : Bool
  retrained : Bool
  sawTrain : Bool
  -- TIME sequence and period last received, and to be sent (R254)
  tmSeq   : BitVec 16
  tmPer   : BitVec 16
  -- the head's own outbound link exceeds the flight limit of R249
  farOut  : Bool
  -- two failed CRCs in a row declare the link lost (R234)
  badRun  : Nat
  deriving DecidableEq, Repr

/-- A READ or WRITE frame whose access is under way (R260, R262): its pieces still to access, each an address and a number of words, the
words still to write, the bytes read; or its queue operation (R215) and whether that has been asked for. `lost`: the frame ended
early, and only the access goes on (R263). -/
structure HostFrame where
  write : Bool
  addr  : Nat
  left  : List (Nat × Nat)
  data  : List Word
  got   : List Byte
  op    : Option HodOp
  asked : Bool
  lost  : Bool
  deriving DecidableEq, Repr

/-- The host port (R259 to R263). -/
structure Hst where
  ready  : Bool
  badcmd : BitVec 8
  aborts : BitVec 8
  lostget : BitVec 8
  errcode : BitVec 4
  erraddr : Word
  -- code 6 is owed to the next frame's status phase
  owe6   : Bool
  -- the bytes the port drives in the frame's status and read phases
  answer : List Byte
  -- frames whose access waits, in order
  frames : List HostFrame
  deriving DecidableEq, Repr

/-! ### Images, loading, repointers (R265 to R300) -/

/-- One image slot: its state, manifest and payload bytes, the records of its planes that have decayed, and the first
unreadable word of its setter areas, programs then data, from 0; whether its manifest has become unreadable (R286). -/
structure Slot where
  state    : BitVec 2
  manifest : Mem
  payload  : Mem
  paylen   : Nat
  planeErr : List (Nat × MemErr)
  areaErr  : Option Nat
  manErr   : Bool
  deriving DecidableEq, Repr

/-- The update engine's stream in progress (R275, R276). -/
structure Stream where
  src    : StreamSource
  ch     : Channel
  target : Nat
  got    : Nat
  buf    : Mem
  -- the slot's state is WRITING, or the stream waits for steps 7 and 8
  begun  : Bool
  verify : Bool
  -- an external or chain-hosted boot waits for this stream (R280)
  boot   : Bool
  -- the stream's manifest equals EXTSLOT's: the rest is ignored (R281)
  ignore : Bool
  deriving DecidableEq, Repr

/-- A vault or brown-out entry of the image (R347). -/
structure VaultEntry where
  kind : Nat
  setter : Nat
  addr : Nat
  len  : Nat
  deriving DecidableEq, Repr

/-- A background swap in progress (R290 to R294). -/
structure Swap where
  slot    : BitVec 2
  bays    : BitVec 64
  setters : BitVec 16
  reload  : Bool
  oldSlot : Vector (BitVec 2) 64
  moved   : Bool
  rel     : Bool
  -- setters still to switch
  left    : BitVec 16
  result  : BitVec 4
  bay     : BitVec 6
  deriving DecidableEq, Repr

/-- The loader, slots, fuses and IMG registers. -/
structure Img where
  slots   : Vector Slot 3
  prog    : BitVec 4
  rev     : BitVec 4
  keyRsa  : Vector (List Byte) 4
  keySlh  : Vector (List Byte) 4
  minsvn  : BitVec 16
  primary : BitVec 2
  trial   : BitVec 2
  extslot : BitVec 2
  noimage : Bool
  fallback : Bool
  digest  : BitVec 2
  strict  : Bool
  mismatch : Bool
  dbgwr   : Bool
  mode    : BitVec 3
  bootslot : BitVec 2
  -- the payload last fully loaded, whose I/O configuration stays through background swaps (R156, R290)
  iopay   : Mem
  failSlot : BitVec 2
  failCause : BitVec 4
  failBay : BitVec 6
  failFrame : BitVec 10
  bayslot : Vector (BitVec 2) 64
  setslot : Vector (BitVec 2) 16
  swap    : Option Swap
  swResult : BitVec 4
  swBay   : BitVec 6
  swSlot  : BitVec 2
  -- places of a target that cannot be programmed: target, payload offset (R276 step 4)
  defects : List (Nat × Nat)
  wrSource : BitVec 2
  wrSlot  : BitVec 2
  wrResult : BitVec 4
  wrBytes : Nat
  stream  : Option Stream
  -- load attempt in progress: its slot; candidates still to try; attempts failed in this boot
  load    : Option (BitVec 2)
  cands   : List (BitVec 2)
  failed  : Nat
  hold    : Bool
  -- RW-L fields are locked (R8, R284); a global release has happened since power-on (R364)
  locked  : Bool
  everRel : Bool
  tableid : List Byte
  ventries : List VaultEntry
  deriving DecidableEq, Repr

/-- One repointer (R295 to R298). -/
structure Rpt where
  copy  : Vector Word 3
  shad  : Word
  bay   : BitVec 4
  frame : BitVec 10
  first : Bool
  pass  : BitVec 16
  reload : BitVec 16
  corr  : BitVec 16
  planeErr : Bool
  skip  : Bool
  restarts : BitVec 8
  votefix : BitVec 8
  planeCorr : BitVec 8
  lastKind : BitVec 2
  lastBay : BitVec 6
  lastFrame : BitVec 10
  deriving DecidableEq, Repr

/-! ### Plinth (R301 to R329) -/

/-- A log record (R325), less its CRC, which is computed. -/
structure LogRec where
  seq   : Word
  boot  : BitVec 16
  code  : BitVec 16
  time  : BitVec 64
  source : BitVec 16
  sev   : BitVec 8
  data0 : Word
  data1 : Word
  deriving DecidableEq, Repr

/-- A firmware copy (R302, R303): as shipped, or the manifest and payload last written with the CRC-32 of its trailer. -/
structure FwCopy where
  shipped : Bool
  man     : Mem
  pay     : Mem
  crc     : Option Word
  deriving DecidableEq, Repr

/-- A copy of the user calibration page (R322): its sequence number and values. -/
structure CalCopy where
  seq : Nat
  val : Vector (BitVec 16) 52
  deriving DecidableEq, Repr

/-- The plinth. -/
structure Pln where
  ready   : Bool
  copy    : Bool
  firmbad : Bool
  romonly : Bool
  fwState : Vector (BitVec 2) 2
  fwVer   : Vector Word 2
  fw      : Vector FwCopy 2
  fwSel   : Bool
  bootcnt : BitVec 16
  i2caddr : BitVec 7
  nacks   : BitVec 8
  cmdenI  : BitVec 6
  cmdenQ  : BitVec 6
  -- a response block waiting for room in queue 1 (R307)
  qresp   : Option (List Word)
  -- a response owed when the stream or the restart of its command ends: channel and header (R303, R315)
  owed    : Option (Channel × Word)
  -- blocks that the plinth is putting into its queues, oldest first: the queue, the words still to put (R307, R321, R324)
  posts   : List (Nat × List Word)
  -- a SWCHUNK's reads still to make, while the store sleeps or its beat is locked (R315)
  chunk   : Option (List (Nat × Nat))
  -- words of queue 0 are discarded up to the next EOB (R306)
  qdrop   : Bool
  -- the channel taken next when commands wait on both (R308)
  turn    : Channel
  -- a restart is in progress (R304)
  going   : Bool
  -- I²C: the command accepted and not yet done, the response, the bytes of the last read transfer
  icmd    : Option (List Word)
  iresp   : Option (List Word)
  iout    : List Byte
  -- sensors
  period  : BitVec 16
  thyst   : BitVec 8
  rhyst   : BitVec 8
  sensen  : Word
  temp    : Vector (BitVec 16) 5
  tmax    : Vector (BitVec 16) 5
  tthr    : Vector Word 5
  rail    : Vector (BitVec 16) 9
  rmin    : Vector (BitVec 16) 9
  rthr    : Vector Word 9
  cur     : Vector (BitVec 16) 4
  cthr    : Vector (BitVec 16) 4
  armed   : BitVec 32
  senCnt  : Nat
  senSeq  : BitVec 16
  -- calibration: the user values in force, and the two copies of their page, none for one that cannot be read (R322)
  calU    : Vector (BitVec 16) 52
  calPg   : Vector (Option CalCopy) 2
  -- event log: the ring (newest first), RAM records (oldest first), last SEQ, last acknowledged SEQ
  ring    : List LogRec
  ram     : List LogRec
  seq     : Word
  acked   : Word
  lost    : BitVec 16
  rais550 : Bool
  logOn   : Bool
  logNext : Word
  -- fault windows: stored times by category × 128 + unit, newest first
  fltT    : Vector (BitVec 5) 6
  fltW    : Vector (BitVec 20) 6
  fltLast : Vector (BitVec 128) 6
  fltCnt  : Vector Word 6
  fltTime : List (Nat × List Nat)
  -- faults on their way from the blocks that detect them: category, unit, count (R327)
  reports : List (Nat × Nat × Nat)
  -- repointers whose restart the firmware still has to log (R298)
  hbOwed  : List Nat
  deriving DecidableEq, Repr

/-! ### Power, self-test, test access port -/

/-- A brown-out save page (R352): the setter records, the user area, the KIND 3 ranges, the log tail. -/
structure SavePage where
  recs  : Vector SetterRec 16
  user  : Mem
  store : List (Nat × List Byte)
  tail  : List LogRec
  noStore : Bool
  deriving DecidableEq, Repr

/-- The stages of R349 before and after start-up. -/
inductive Stage where
  /-- VSUP absent or below 1.2 V. -/
  | off
  /-- Stage 1: AO domain running. -/
  | ao
  /-- Stage 2: VCORE good, held in reset. -/
  | core
  /-- Stage 3 and 4: started. -/
  | run
  /-- Brown-out save in progress or made, held in reset (R352, R354). -/
  | saved
  deriving DecidableEq, Repr

/-- The power controller and vault. -/
structure Pwr where
  stage   : Stage
  state   : BitVec 2
  inflight : Bool
  target  : BitVec 2
  holdok  : Bool
  result  : BitVec 4
  point   : BitVec 2
  -- last entry point passed in an entry in progress: 0-3 for A0-A3 (log 6); a wake in progress
  reached : BitVec 2
  waking  : Bool
  caller  : Option SetterId
  -- gated domains that an access has begun to wake (R343)
  begun   : List Domain
  selbay  : BitVec 64
  selset  : BitVec 17
  -- the selection of bays and setters taken when the request was accepted (R332)
  takenB  : BitVec 64
  takenS  : BitVec 17
  -- VCORE is present: every domain but AO is powered, unless gated in NAP (R330, R332)
  on      : Bool
  wakeen  : BitVec 20
  wakesrc : BitVec 20
  wakepol : BitVec 16
  wtimer  : Word
  wtArmed : Bool
  -- vault: setter records of stopped setters, user area
  recs    : Vector (Option SetterRec) 16
  user    : Mem
  -- brown-out
  bor     : Bool
  incomplete : Bool
  bobusy  : Bool
  restored : Bool
  nostore : Bool
  trips   : BitVec 16
  page    : Option SavePage
  saving  : Option SavePage
  -- the last VSUP reading before the trip, for the log (R326)
  vsup    : BitVec 16
  deriving DecidableEq, Repr

/-- A self-test slice in progress (R361). -/
structure Slice where
  block : BitVec 7
  test  : BitVec 8
  start : BitVec 8
  count : BitVec 8
  recNo : BitVec 8
  -- the lowest PLL of the wing that has unlocked during PLLCNT, which makes the outcome FAIL (R366)
  fail  : Option (BitVec 8)
  deriving DecidableEq, Repr

/-- A self-test result record (BST_RESk). -/
structure TestRec where
  num     : BitVec 8
  outcome : BitVec 2
  fin     : BitVec 2
  test    : BitVec 8
  block   : BitVec 7
  patterns : Word
  count   : BitVec 8
  start   : BitVec 8
  failat  : BitVec 8
  duration : BitVec 16
  cover   : BitVec 10
  deriving DecidableEq, Repr

/-- The self-test controller. -/
structure Bst where
  budget : BitVec 10
  cfgerr : Bool
  next   : BitVec 8
  slice  : Option Slice
  imgen  : Bool
  probeen : Bool
  res    : Vector TestRec 16
  deriving DecidableEq, Repr

/-- The test access port (R370 to R377). -/
structure Tap where
  ir      : BitVec 8
  upd     : BitVec 441
  cap     : BitVec 441
  refused : Bool
  probe   : Word
  dr      : BitVec 512
  -- what the instruction register captured in the last IR scan, shifted out on TDO (R370)
  irOut   : BitVec 8
  -- probe selections that wait for a gated bay to wake, oldest first (R343, R377)
  selW    : List Word
  deriving DecidableEq, Repr

/-- The event controller (R25 to R31): pending bits, routes and notification targets. -/
structure Evt where
  pend  : Vector Word 20
  route : List (Nat × Word)
  note  : List (Nat × Word)
  deriving DecidableEq, Repr

/-- The global block: wing ticks (R50) and wing probe multiplexers (R154). -/
structure Glb where
  wtick  : Vector Word 4
  wprobe : Vector (Vector Word 16) 4
  deriving DecidableEq, Repr

/-- The state of the block. -/
structure State where
  setters : Vector Setter 16
  bays    : Vector Bay 64
  io      : Io
  clk     : Clk
  store   : Store
  arb     : Arb
  hod     : Hod
  irs     : Irs
  hst     : Hst
  img     : Img
  rpt     : Vector Rpt 4
  rptHb   : BitVec 10
  pln     : Pln
  pwr     : Pwr
  bst     : Bst
  tap     : Tap
  evt     : Evt
  glb     : Glb
  -- open-drain balls RSTOUT_N and FAULT_N driven low (R283, R288, R349)
  rstout  : Bool
  faultn  : Bool
  resp    : Vector Resp 32
  stalled : List BusAccess
  -- the model's own: the counter that picks free values (log 6), and the queue of waiting commands (log 1)
  free    : Nat
  pending : List Instr
  deriving DecidableEq, Repr

/-! ### Reset -/

/-- Flags at reset (R37). -/
def Flags.reset : Flags := ⟨false, false, false, false, false, false⟩

/-- A timer at reset (R37): stopped, count 0, preset 0, on-delay, base 1 µs, trap bit 0, done 0. -/
def Timer.reset : Timer := ⟨0, 0, 0, false, false, false, false, false⟩

/-- A setter at reset (R37), with no image. -/
def Setter.reset : Setter where
  pc := 0
  g := Vector.replicate 16 0
  acc := 0
  flags := Flags.reset
  bdepth := 0
  bstk := 0
  tag := 0
  timers := Vector.replicate 8 Timer.reset
  fcnt := 0
  evl := 0
  snap := 0
  prev := 0
  obuf := 0
  olat := 0
  ilat := 0
  staging := []
  epc := 0
  eflags := 0
  causeSub := 0
  causeVec := 0
  eaddr := 0
  tm := false
  heldOvr := false
  heldTm := 0
  heldSys := none
  dbgfrz := false
  ovrtrap := false
  systrap := false
  ovrpol := false
  fen := false
  run := false
  swapped := false
  cfgerr := false
  tblost := false
  ovr := false
  dbltrap := false
  bkpt := false
  halted := false
  stopped := true
  fsrc := 0
  fperiod := 0
  ftb := 0
  fsrcW := none
  fperiodW := none
  ftbW := none
  due := 0
  late := false
  armed := false
  overruns := 0
  missed := 0
  scan := 0
  scanLast := 0
  scanMax := 0
  bkpt0 := 0
  bkpt1 := 0
  pmaddr := 0
  prog := []
  progErr := []
  data := []
  dataErr := []
  shadow := none
  wait := .none
  skipBk := false
  again := false
  lutStall := none
  needSnap := true
  lutw := []
  toutd := []
  ilReg := none
  ilMac := false
  enabled := false
  tabFsrc := 0
  tabFper := 0
  tabFtb := 0
  perm := 0
  tapIn := []
  tapOut := []
  dbgwr := false
  gated := false
  dozed := false
  isol := false
  testW := false

/-- A regional clock at reset: disabled, undivided, line 0. -/
def RClk.reset : RClk := ⟨false, false, 0, 0, none, 0⟩

/-- A MAC block at reset (R149, R164). -/
def MacBlock.reset : MacBlock := ⟨0, 0, 0, 0, false⟩

/-- A bay joint at reset: idle. -/
def Joint.reset : Joint := ⟨false, none, 0, false, false⟩

/-- A bay at reset: every regional reset asserted by the load hold (R152). -/
def Bay.reset : Bay where
  held := false
  isol := false
  gated := false
  dozed := false
  lperr := false
  lpCount := 0
  lpCell := 0
  rclk := Vector.replicate 4 RClk.reset
  rstSw := 0
  rstSrc := Vector.replicate 4 1
  tree := 15
  probe := Vector.replicate 8 0
  own := []
  lmask := []
  lrep := []
  chk := 0
  ffs := []
  bram := []
  ports := []
  mac := Vector.replicate 4 MacBlock.reset
  upset := []
  joints := Vector.replicate 32 Joint.reset

/-- IOB_PINi at reset: SAFE high-Z, OWNER none, every other field 0. -/
def pinReset : Word := 0x9F000000#32

/-- An I/O bank at reset; its VIO stands at 3.3 V (log 4). -/
def IoBank.reset : IoBank where
  band := some 2
  vio := 0
  vioerr := false
  serclk := 0
  pin := Vector.replicate 22 pinReset
  slip := Vector.replicate 22 0
  conf := false
  inEffect := false

/-- The I/O banks at reset, HALT_N not asserted. -/
def Io.reset : Io := ⟨Vector.replicate 6 IoBank.reset, false, 0, 0, false, 0, 0, 0, [], 0, 0, 0, 0⟩

/-- A wing PLL at reset; OEN0 of an even PLL reads 1 (R169). -/
def Pll.reset (even : Bool) : Pll := ⟨0, if even then 0x80#32 else 0, false, false, false, 0, 0, 0, 0, 0, false⟩

/-- Effective calibration at reset of item 28, the oscillator trim (R165): the factory value. -/
def trimReset : BitVec 8 := (Config.calFactory 28).setWidth 8

/-- The clock block at reset. -/
def Clk.reset : Clk where
  refok := false
  reflost := false
  refctl := 0
  refmeas := 0
  goodWin := 0
  trim := trimReset
  pll := Vector.ofFn (fun p : Fin 8 => Pll.reset (p.val % 2 == 0))
  devOn := true
  slock := false
  hlock := false
  sulcnt := 0
  hulcnt := 0
  sgood := 0
  hgood := 0
  khz := none

/-- The store at reset: nothing listed. -/
def Store.reset : Store := ⟨[], 0, [], none, 0, false, false, 0, 0, false, false, false⟩

/-- A bond table at reset: both copies FREE, G 1 (R201). -/
def Bond.reset : Bond :=
  ⟨Vector.replicate 64 0, Vector.replicate 64 0, .idle, 1, 0, 0, 0, 1⟩

/-- The regions of R187: base words. -/
def rbaseReset (m : Nat) : Vector Word 8 :=
  if m = 16 ∨ m = 17 then #v[7, 0, 0, 0, 0, 0, 0, 0]
  else if m = 18 then #v[0x007FC007#32, 0, 0, 0, 0, 0, 0, 0]
  else Vector.replicate 8 0

/-- The regions of R187: limit words. -/
def rlimReset (m : Nat) : Vector Word 8 :=
  if m = 16 ∨ m = 17 then #v[0xFFFFF000#32, 0, 0, 0, 0, 0, 0, 0]
  else if m = 18 then #v[0x007FF000#32, 0, 0, 0, 0, 0, 0, 0]
  else Vector.replicate 8 0

/-- The arbiter at reset. -/
def Arb.reset : Arb where
  rlock := false
  cfgerr := false
  key := Vector.replicate 4 0
  keyEff := Vector.replicate 4 0
  keyMid := Vector.replicate 4 0
  rankEff := Vector.replicate 32 0
  rankMid := Vector.replicate 32 0
  bond := Bond.reset
  mctl := Vector.replicate 32 0xFFFF#32
  cutcnt := Vector.replicate 32 0
  waitmax := Vector.replicate 32 0
  mcause := Vector.replicate 32 0
  maddr := Vector.replicate 32 0
  rbase := Vector.ofFn (fun m : Fin 32 => rbaseReset m.val)
  rlim := Vector.ofFn (fun m : Fin 32 => rlimReset m.val)
  regEff := Vector.ofFn (fun m : Fin 32 => (rbaseReset m.val, rlimReset m.val))
  regMid := Vector.ofFn (fun m : Fin 32 => (rbaseReset m.val, rlimReset m.val))
  ptr := 0
  ord := Vector.replicate 32 none
  kreq := Vector.replicate 32 none
  sampO := Vector.replicate 32 none
  sampK := Vector.replicate 32 none
  joint := []
  goneO := 0
  goneK := 0
  grant := none
  park := none
  lastGr := none
  rr := Vector.replicate 8 0
  keyptr := 0
  locks := []
  waitc := Vector.replicate 32 0
  starved := 0

/-- A descriptor that nothing has written (R230): disabled and zero. -/
def Desc.zero : Desc := ⟨0, 0, 0, 0⟩

/-- A packer at reset. -/
def Packer.reset : Packer := ⟨[], [], false, none, 0⟩

/-- A watermark group at reset. -/
def WmStat.reset : WmStat := ⟨false, false, 0, 0⟩

/-- The hod at reset (R230). -/
def Hod.reset : Hod where
  desc := []
  fault := []
  derr := []
  comb := []
  flush := []
  lane := none
  keyWait := []
  cells := []
  qbusy := none
  pack := Vector.replicate 32 Packer.reset
  bankNow := Vector.replicate 4 0
  bankCnt := Vector.replicate 4 0
  keyports := 0
  qsel := 0
  stg := Vector.replicate 4 0
  result := 0
  dce := false
  due := false
  skewwin := 0
  cberr := false
  cbq := 0
  descUe := false
  descQ := 0
  rfReason := 0
  rfDev := 0
  rfQ := 0
  wm := Vector.replicate 48 WmStat.reset
  gated := false
  waking := false

/-- A transmit stream at reset. -/
def TxStream.reset : TxStream := ⟨0, 0, [], false, false⟩

/-- The chain interface at reset: bypass closed, KEY_INTERVAL 100 µs. -/
def Irs.reset : Irs where
  chen := false
  head := false
  autoenum := false
  ken := false
  bypopen := false
  waitjoin := false
  addrv := false
  inlock := false
  retrain := false
  tbvalid := false
  kenref := false
  closerr := false
  bprun := false
  kicfg := false
  bpout := 0
  addr := 0
  hop := 0
  ringS := 0
  ringN := 0
  lap := 0
  keyEff := 100
  ki := 100
  tbper := 0
  time := 0
  timeHi := 0
  crcOut := 0
  crcIn := 0
  thrcnt := 0
  ovf := 0
  maxfill := 0
  abOwn := 0
  abTran := 0
  drStream := 0
  drBad := 0
  bond := Bond.reset
  crank := 0
  hbusy := false
  rx := Vector.replicate 16 0
  tx := Vector.replicate 16 TxStream.reset
  ptr := 0
  crr := Vector.replicate 8 0
  ownKey := []
  ownHead := []
  ownTime := []
  own := Vector.replicate 4 []
  sent := []
  keyHold := false
  keyBuf := []
  tranBuf := []
  out := none
  ins5 := 0
  paused := false
  linkErr := 0
  resumed := false
  retrained := false
  sawTrain := false
  tmSeq := 0
  tmPer := 0
  farOut := false
  badRun := 0

/-- The host port at reset. -/
def Hst.reset : Hst := ⟨false, 0, 0, 0, 0, 0, false, [], []⟩

/-- A slot as shipped (R265): EMPTY. -/
def Slot.empty : Slot := ⟨0, [], [], 0, [], none, false⟩

/-- The loader and slots of a part as shipped (R265, R406), before any image. -/
def Img.reset : Img where
  slots := Vector.replicate 3 Slot.empty
  prog := 0
  rev := 0
  keyRsa := Vector.replicate 4 []
  keySlh := Vector.replicate 4 []
  minsvn := 0
  primary := 1
  trial := 0
  extslot := 1
  noimage := false
  fallback := false
  digest := 0
  strict := false
  mismatch := false
  dbgwr := false
  mode := 0
  bootslot := 0
  iopay := []
  failSlot := 0
  failCause := 0
  failBay := 0
  failFrame := 0
  bayslot := Vector.replicate 64 0
  setslot := Vector.replicate 16 0
  swap := none
  swResult := 0
  swBay := 0
  swSlot := 0
  defects := []
  wrSource := 0
  wrSlot := 0
  wrResult := 0
  wrBytes := 0
  stream := none
  load := none
  cands := []
  failed := 0
  hold := true
  locked := false
  everRel := false
  tableid := []
  ventries := []

/-- A repointer at reset: EN 0, RATE 1. -/
def Rpt.reset : Rpt where
  copy := Vector.replicate 3 1
  shad := 1
  bay := 0
  frame := 0
  first := true
  pass := 0
  reload := 0
  corr := 0
  planeErr := false
  skip := false
  restarts := 0
  votefix := 0
  planeCorr := 0
  lastKind := 0
  lastBay := 0
  lastFrame := 0

/-- The plinth at reset, its log empty and both firmware copies VALID as shipped (log 3). -/
def Pln.reset : Pln where
  ready := false
  copy := false
  firmbad := false
  romonly := false
  fwState := #v[2, 2]
  fwVer := #v[Config.firmVersion 0, Config.firmVersion 1]
  fw := Vector.replicate 2 ⟨true, [], [], none⟩
  fwSel := false
  bootcnt := 0
  i2caddr := 0x58
  nacks := 0
  cmdenI := 0x3F
  cmdenQ := 0x3F
  qresp := none
  owed := none
  posts := []
  chunk := none
  qdrop := false
  turn := .queue
  going := false
  icmd := none
  iresp := none
  iout := []
  period := 0
  thyst := 32
  rhyst := 50
  sensen := 0
  temp := Vector.replicate 5 0
  tmax := Vector.replicate 5 0x8000
  tthr := Vector.replicate 5 0x08C0FC90
  rail := Vector.replicate 9 0
  rmin := Vector.replicate 9 0xFFFF
  rthr := Vector.replicate 9 0xFFFF0000
  cur := Vector.replicate 4 0
  cthr := Vector.replicate 4 0xFFFF
  armed := 0xFFFFFFFF
  senCnt := 0
  senSeq := 0
  calU := Vector.replicate 52 0
  calPg := #v[some ⟨0, Vector.replicate 52 0⟩, some ⟨1, Vector.replicate 52 0⟩]
  ring := []
  ram := []
  seq := 0
  acked := 0
  lost := 0
  rais550 := false
  logOn := false
  logNext := 0
  fltT := #v[8, 4, 16, 3, 2, 4]
  fltW := #v[600, 36000, 10, 600, 36000, 600]
  fltLast := Vector.replicate 6 0
  fltCnt := Vector.replicate 6 0
  fltTime := []
  reports := []
  hbOwed := []

/-- The power controller at reset, its supplies within their conditions (log 4). -/
def Pwr.reset : Pwr where
  stage := .core
  state := 0
  inflight := false
  target := 0
  holdok := false
  result := 0
  point := 0
  reached := 0
  waking := false
  caller := none
  begun := []
  selbay := 0
  selset := 0
  takenB := 0
  takenS := 0
  on := false
  wakeen := 0
  wakesrc := 0
  wakepol := 0
  wtimer := 0
  wtArmed := false
  recs := Vector.replicate 16 none
  user := []
  bor := false
  incomplete := false
  bobusy := false
  restored := false
  nostore := false
  trips := 0
  page := none
  saving := none
  vsup := 0

/-- A result record at reset: FAILAT 0xFF, every other field 0. -/
def TestRec.reset : TestRec := ⟨0, 0, 0, 0, 0, 0, 0, 0, 0xFF, 0, 0⟩

/-- The self-test controller at reset. -/
def Bst.reset : Bst := ⟨250, false, 0, none, true, false, Vector.replicate 16 TestRec.reset⟩

/-- The test access port in Test-Logic-Reset, IDCODE selected (R370). -/
def Tap.reset : Tap := ⟨2, 0, 0, false, 0, 0, 0, []⟩

/-- No response yet. -/
def Resp.reset : Resp := ⟨.none, []⟩

/-- The machine right after reset: a part as shipped, supplies within their conditions, PORST_N just released. -/
def State.reset : State where
  setters := Vector.replicate 16 Setter.reset
  bays := Vector.replicate 64 Bay.reset
  io := Io.reset
  clk := Clk.reset
  store := Store.reset
  arb := Arb.reset
  hod := Hod.reset
  irs := Irs.reset
  hst := Hst.reset
  img := Img.reset
  rpt := Vector.replicate 4 Rpt.reset
  rptHb := 100
  pln := Pln.reset
  pwr := Pwr.reset
  bst := Bst.reset
  tap := Tap.reset
  evt := ⟨Vector.replicate 20 0, [], []⟩
  glb := ⟨Vector.replicate 4 0, Vector.replicate 4 (Vector.replicate 16 0)⟩
  rstout := true
  faultn := true
  resp := Vector.replicate 32 Resp.reset
  stalled := []
  free := 0
  pending := []

end Sys2Proof.Machine
end

