-- ==== Sys2Proof/Machine/Flags.lean ====
section
/-! DEFINITION. The setter's flags (R80): the flag computations of the ALU, shifts, compares, divisions and the
accumulator, the flags word of SET_FLAGS, and the branch conditions (R81). -/

namespace Sys2Proof.Machine

/-- Z and N of a 32-bit result (R80). -/
def setZN (f : Flags) (r : Word) : Flags := { f with z := r == 0, n := r.msb }

/-- Carry out of bit 31 of an addition with a carry in (R80). -/
def addCarry (a b : Word) (c : Bool) : Bool := decide (2 ^ 32 ≤ a.toNat + b.toNat + c.toNat)

/-- Borrow of a subtraction with a borrow in: the subtrahend plus borrow-in exceeds the minuend (R80). -/
def subBorrow (a b : Word) (c : Bool) : Bool := decide (a.toNat < b.toNat + c.toNat)

/-- Signed overflow of an addition's 32-bit result (R80). -/
def addOverflow (a b : Word) (c : Bool) : Bool :=
  let v := a.toInt + b.toInt + c.toNat
  decide (v < -2 ^ 31) || decide (2 ^ 31 ≤ v)

/-- Signed overflow of a subtraction's 32-bit result (R80). -/
def subOverflow (a b : Word) (c : Bool) : Bool :=
  let v := a.toInt - b.toInt - c.toNat
  decide (v < -2 ^ 31) || decide (2 ^ 31 ≤ v)

/-- The sum of R85 with a carry in. -/
def addRes (a b : Word) (c : Bool) : Word := a + b + BitVec.ofNat 32 c.toNat

/-- The difference of R85 with a borrow in. -/
def subRes (a b : Word) (c : Bool) : Word := a - b - BitVec.ofNat 32 c.toNat

/-- Z N C V of an addition (R80, R85). -/
def addFlags (f : Flags) (a b : Word) (c : Bool) : Flags :=
  { setZN f (addRes a b c) with c := addCarry a b c, v := addOverflow a b c }

/-- Z N C V of a subtraction (R80, R85); the compares set them too (R87). -/
def subFlags (f : Flags) (a b : Word) (c : Bool) : Flags :=
  { setZN f (subRes a b c) with c := subBorrow a b c, v := subOverflow a b c }

/-- Z N of a shift's result, and C as the last bit out when the amount is not 0 (R86). -/
def shiftFlags (f : Flags) (r : Word) (n : Nat) (out : Bool) : Flags :=
  if n = 0 then setZN f r else { setZN f r with c := out }

/-- Z N of a quotient or remainder, and V (R85, R88). -/
def divFlags (f : Flags) (r : Word) (v : Bool) : Flags := { setZN f r with v := v }

/-- The word of SET_FLAGS and SET_EFLAGS: Q B V C N Z in bits 5 to 0. -/
def flagsBits (f : Flags) : BitVec 6 :=
  BitVec.ofNat 6 (f.q.toNat * 32 + f.b.toNat * 16 + f.v.toNat * 8 + f.c.toNat * 4 + f.n.toNat * 2 + f.z.toNat)

/-- The flags that such a word holds. -/
def flagsOf (w : BitVec 6) : Flags :=
  ⟨w.getLsbD 0, w.getLsbD 1, w.getLsbD 2, w.getLsbD 3, w.getLsbD 4, w.getLsbD 5⟩

/-- A branch condition of R81; all sixteen codes are defined. -/
def condHolds (f : Flags) (c : BitVec 4) : Bool :=
  match c.toNat with
  | 0 => true
  | 1 => f.z
  | 2 => !f.z
  | 3 => f.n != f.v
  | 4 => f.n == f.v
  | 5 => f.z || f.n != f.v
  | 6 => !f.z && f.n == f.v
  | 7 => f.c
  | 8 => !f.c
  | 9 => f.c || f.z
  | 10 => !f.c && !f.z
  | 11 => f.n
  | 12 => f.v
  | 13 => f.b
  | 14 => !f.b
  | _ => f.q

end Sys2Proof.Machine
end

