-- ==== Sys2Proof/Machine/Operands.lean ====
section
/-! DEFINITION. The operand forms of the setter's instructions: register reads and writes, the immediate forms of R89, the
effective address of R93 and R114, the PC's wrap (R36, R100), the cell name of R108 and the queue name of R118. -/

namespace Sys2Proof.Machine

/-- Read general register r. -/
def Setter.reg (x : Setter) (r : Reg) : Word := x.g.get r

/-- Write general register r; none is hard-wired (R35). -/
def Setter.setReg (x : Setter) (r : Reg) (v : Word) : Setter := { x with g := upd x.g r v }

/-- The address after the PC, modulo 16,384 (R36). -/
def pcNext (pc : BitVec 14) : BitVec 14 := pc + 1

/-- The setter with its PC at the next instruction. -/
def Setter.adv (x : Setter) : Setter := { x with pc := pcNext x.pc }

/-- A branch target: offset in instructions, modulo 16,384 (R36, R100, R102). -/
def pcRel {n : Nat} (pc : BitVec 14) (off : BitVec n) : BitVec 14 := pc + BitVec.ofInt 14 off.toInt

/-- The operand of ADDI by mode; mode 3 is reserved (R89). -/
def immAdd (mode : BitVec 2) (imm : BitVec 16) : Option Word :=
  match mode.toNat with
  | 0 => some (imm.signExtend 32)
  | 1 => some (imm.setWidth 32)
  | 2 => some (imm.setWidth 32 <<< 16)
  | _ => none

/-- The operand of ANDI, ORI and XORI by mode (R89). -/
def immLogic (mode : BitVec 2) (imm : BitVec 16) : Word :=
  match mode.toNat with
  | 0 => imm.setWidth 32
  | 1 => imm.setWidth 32 ||| 0xFFFF0000#32
  | 2 => imm.setWidth 32 <<< 16
  | _ => (imm.setWidth 32 <<< 16) ||| 0xFFFF#32

/-- The effective address of a local or store access: base plus signed byte offset, modulo 2^32 (R93, R114). -/
def effAddr (base : Word) (off : BitVec 14) : Word := base + off.signExtend 32

/-- Whether an address is a multiple of n. -/
def aligned (a : Word) (n : Nat) : Bool := a.toNat % n == 0

/-- The live cell that ga names (R108): bay [21:16] and cell [11:0]. -/
def cellBay (w : Word) : Nat := (field w 21 16).toNat

/-- The cell number within the bay that ga names (R108). -/
def cellNum (w : Word) : Nat := (field w 11 0).toNat

/-- EADDR of a refused live-cell write: bay × 4,096 + cell (R109). -/
def cellAddr (w : Word) : Word := BitVec.ofNat 32 (cellBay w * 4096 + cellNum w)

/-- A queue operand of R118 in its fields. -/
structure QName where
  remote : Bool
  kc     : Bool
  mbz    : BitVec 2
  dev    : BitVec 12
  queue  : QueueId
  deriving DecidableEq, Repr

/-- The fields of ga in a queue instruction (R118). -/
def queueName (w : Word) : QName :=
  ⟨w.getLsbD 31, w.getLsbD 30, field w 29 28, field w 27 16, field w 15 0⟩

/-- Whether ga breaks a must-be-zero rule of R118; REMOTE is allowed on PUT only (R119). -/
def queueNameBad (w : Word) (isPut : Bool) : Bool :=
  let q := queueName w
  q.mbz != 0 || (q.remote && !isPut) || (!q.remote && (q.kc || q.dev != 0))

/-- EADDR of a trapping queue instruction (R119): the queue's window. -/
def queueAddr (q : QueueId) : Word := BitVec.ofNat 32 (0x10000000 + 8 * q.toNat)

end Sys2Proof.Machine
end

