-- ==== Sys2Proof/Machine/Units.lean ====
section
/-! DEFINITION. Reading and changing one unit of the state: a setter, a bay, the response that a master sees. -/

namespace Sys2Proof.Machine

/-! ### One unit of the state -/

/-- Setter i. -/
def State.st (s : State) (i : SetterId) : Setter := s.setters.get i

/-- Replace setter i. -/
def State.putS (s : State) (i : SetterId) (x : Setter) : State := { s with setters := upd s.setters i x }

/-- Change setter i. -/
def State.modS (s : State) (i : SetterId) (f : Setter → Setter) : State := s.putS i (f (s.st i))

/-- Bay b. -/
def State.bay (s : State) (b : BayId) : Bay := s.bays.get b

/-- Change bay b. -/
def State.modBay (s : State) (b : BayId) (f : Bay → Bay) : State := { s with bays := updf s.bays b f }

/-- Bay b by a natural number, when it exists. -/
def State.bayN (s : State) (b : Nat) : Option Bay := nth s.bays b

/-- Change bay b by a natural number, when it exists. -/
def State.modBayN (s : State) (b : Nat) (f : Bay → Bay) : State := { s with bays := nthUpd s.bays b f }

/-- The next free value's index is used up (log 6). -/
def State.usedFree (s : State) : State := { s with free := s.free + 1 }

/-- The response that master m sees. -/
def State.respond (s : State) (m : Nat) (code : RespCode) (data : List Byte) : State :=
  { s with resp := nthUpd s.resp m (fun _ => ⟨code, data⟩) }

/-- The wing of setter i (R12). -/
def wingOf (i : SetterId) : Nat := i.val / 4

/-- Event source 256 + 8 s + k of setter s (R25). -/
def srcOf (i : SetterId) (k : Nat) : Nat := 256 + 8 * i.val + k

/-- A bay whose user logic runs: not held (R291), not isolated for self-test, its domain on. -/
def Bay.runs (b : Bay) : Bool := !b.held && !b.isol && !b.gated

end Sys2Proof.Machine
end

