-- ==== Sys2Proof/Machine/Lines.lean ====
section
/-! DEFINITION. The wing clock lines and the regional clocks drawn from them (R14, R150, R151): a PLL's fields, which lines and clocks
run, their frequencies, and the bounds that FENCE and a FRAME stall take from them (R15, R84, R107). -/

namespace Sys2Proof.Machine

/-! ### A PLL's fields -/

/-- EN. -/
def Pll.en (x : Pll) : Bool := x.ctrl.getLsbD 31
/-- SRC: 1 is REFCLK. -/
def Pll.src (x : Pll) : Bool := x.ctrl.getLsbD 29
/-- R = RDIV + 1. -/
def Pll.rdiv (x : Pll) : Nat := (field x.ctrl 19 16).toNat + 1
/-- N = NDIV. -/
def Pll.ndiv (x : Pll) : Nat := (field x.ctrl 8 0).toNat
/-- OEN of output o. -/
def Pll.oen (x : Pll) (o : Nat) : Bool := x.odiv.getLsbD (8 * o + 7)
/-- D of output o. -/
def Pll.odv (x : Pll) (o : Nat) : Nat := x.odiv.toNat / 2 ^ (8 * o) % 128 + 1

/-- The reference frequency in kHz; a PLL on REFCLK has the one that the image declares (R168, R274). -/
def fref (khz : Option Nat) (src : Bool) : Option Nat := if src then khz else some 50000

/-! ### Lines and regional clocks -/

/-- The PLL of a wing clock line: output k mod 4 of PLL k div 4 of the wing (R150). -/
def linePll (s : State) (wing k : Nat) : Option Pll := nth s.clk.pll (2 * wing + k / 4)

/-- Wing clock line k runs (R150, R171). -/
def lineRuns (s : State) (wing k : Nat) : Bool :=
  match linePll s wing k with
  | some p => p.outs.getLsbD (k % 4)
  | none => false

/-- Regional clock n of a bay runs (R142, R151, R333): enabled, not switching, not stopped by DOZE, on a line that runs. -/
def clkRuns (s : State) (b : BayId) (n : Fin 4) : Bool :=
  let c := (s.bay b).rclk.get n
  c.en && !c.busy && !(s.bay b).dozed && !(s.bay b).gated && lineRuns s (b.val / 16) c.sel.toNat

/-- A rising edge of wing clock line k falls at this moment: one event for everything on the line (R150). -/
def lineEdge (s : State) (wing k : Nat) : Bool := lineRuns s wing k && Config.outside s.free (4 * (8 * wing + k) + 3)

/-- A rising edge of regional clock n of a bay falls at this moment: on the rising edge of its line that ends a divided period (R150). -/
def edgeNow (s : State) (b : BayId) (n : Nat) : Bool :=
  let c := (s.bay b).rclk.get (Fin.ofNat 4 n)
  clkRuns s b (Fin.ofNat 4 n) && lineEdge s (b.val / 16) c.sel.toNat && c.cnt == 0

/-- The divider of regional clock n of a bay after this moment (R150, R151): a new division takes effect at the end of the period. The phase in
which a clock starts again that has stood for another reason than its line is not stated: it is free (log 35). -/
def divNext (s : State) (b : BayId) (n : Nat) (c : RClk) : RClk :=
  if !clkRuns s b (Fin.ofNat 4 n) || !(s.bay b).runs then
    { c with cnt := BitVec.ofNat 4 (Config.freeCost (s.free + 4 * b.val + n) % (c.div.toNat + 1)) }
  else if lineEdge s (b.val / 16) c.sel.toNat then { c with cnt := if c.cnt = 0 then c.div else c.cnt - 1 }
  else c

/-- The period of regional clock n of a bay, as a fraction of a nanosecond: numerator and denominator (R150, R168). None where
the reference frequency is not declared. -/
def clkPeriod (s : State) (b : BayId) (n : Fin 4) : Option (Nat × Nat) :=
  let c := (s.bay b).rclk.get n
  (linePll s (b.val / 16) c.sel.toNat).bind (fun p =>
    (fref s.clk.khz p.src).map (fun f =>
      (1000000 * p.rdiv * p.odv (c.sel.toNat % 4) * (c.div.toNat + 1), f * p.ndiv)))

/-! ### The bound of a landing -/

/-- ceil(J(T) / 3.333 ns) for T = a / d nanoseconds, J(T) = 3 + 2T (R15, R84). -/
def jointCycles (a d : Nat) : Nat := (9 * d + 6 * a + (10 * d - 1)) / (10 * d)

/-- The bound of one LUTW on its way to a cell: none while its bay's clock 0 stands or its period is not known (R142). -/
def lutwBound (s : State) (cell : Nat) : Option Nat :=
  let b : BayId := Fin.ofNat 64 (cell / 4096)
  if !clkRuns s b 0 then none else
  match clkPeriod s b 0 with
  | some (a, d) => if d = 0 then none else some (jointCycles a d)
  | none => none

/-- The longest of the bounds of a list of writes; none when one of them has none. -/
def longest : List (Option Nat) → Option Nat
  | [] => some 0
  | x :: t => x.bind (fun a => (longest t).map (max a))

/-- The bound of what setter i has outstanding: its LUTWs, and a TOUTD's 3 setter cycles (R84). -/
def landingBound (i : SetterId) (s : State) : Option Nat :=
  longest ((if (s.st i).toutd.isEmpty then some 0 else some (jointCycles 10 3)) :: (s.st i).lutw.map (fun e => lutwBound s e.1))

/-- How many values a cost from 1 to 1 + bound has; 0 stands for no bound (R84). -/
def fenceWidth (i : SetterId) (s : State) : Nat :=
  match landingBound i s with
  | some n => n + 1
  | none => 0

/-- A cost from `lo` on, free among `width` values, or without bound when the width is 0 (log 9). -/
def freeFrom (lo width : Nat) (s : State) : Nat := lo + Config.freeCost s.free % width

end Sys2Proof.Machine
end

