-- ==== Sys2Proof/Machine/Cells.lean ====
section
/-! DEFINITION. What configured fabric does, as functions of its configuration and its inputs: cells, flip-flops and routing
multiplexers (R131 to R136), block-memory ports (R144 to R146) and MAC blocks (R148, R149). -/

namespace Sys2Proof.Machine

/-! ### Cells -/

/-- The look-up output: MASK[8·I3 + 4·I2 + 2·I1 + I0] (R131). -/
def lutOut (mask : BitVec 16) (i : BitVec 4) : Bool := mask.getLsbD i.toNat

/-- Carry mode: sum and carry-out of one cell (R132). -/
def carryCell (mask : BitVec 16) (i : BitVec 4) (cin : Bool) : Bool × Bool :=
  let p := lutOut mask i
  (xor p cin, if p then cin else i.getLsbD 0)

/-- What decides a flip-flop's next value (R133). -/
structure FfInputs where
  rstAsserted : Bool
  rsten  : Bool
  init   : Bool
  sr     : Bool
  srAsync : Bool
  srval  : Bool
  edge   : Bool
  ce     : Bool
  d      : Bool
  deriving DecidableEq, Repr

/-- The flip-flop after these conditions, the first row of R133 that applies. -/
def ffNext (f : FfInputs) (q : Bool) : Bool :=
  if f.rstAsserted && f.rsten then f.init
  else if f.sr && f.srAsync then f.srval
  else if f.edge && f.sr then f.srval
  else if f.edge && f.ce then f.d
  else q

/-- A routing multiplexer: the OR over its sources of select and source (R136). -/
def routeMux (sel src : List Bool) : Bool := (List.zip sel src).any (fun e => e.1 && e.2)

/-! ### Block memories (R144, R145) -/

/-- The memory bit that data bit i of a word is. -/
def modeBit (m : Config.PortMode) (addr i : Nat) : Nat :=
  match m with
  | .x1 => 9 * (addr / 8) + addr % 8
  | .x2 => 9 * ((addr * 2 + i) / 8) + (addr * 2 + i) % 8
  | .x4 => 9 * ((addr * 4 + i) / 8) + (addr * 4 + i) % 8
  | .x9 => 9 * addr + i
  | .x18 => 9 * (addr * 2 + i / 9) + i % 9
  | .x36 => 9 * (addr * 4 + i / 9) + i % 9

/-- The width of a mode. -/
def modeWidth (m : Config.PortMode) : Nat :=
  match m with
  | .x1 => 1
  | .x2 => 2
  | .x4 => 4
  | .x9 => 9
  | .x18 => 18
  | .x36 => 36

/-- The address bits of a mode. -/
def modeAddr (m : Config.PortMode) : Nat :=
  match m with
  | .x1 => 15
  | .x2 => 14
  | .x4 => 13
  | .x9 => 12
  | .x18 => 11
  | .x36 => 10

/-- Byte enables govern the 18- and 36-bit modes: data bit i is enabled. -/
def modeEnabled (m : Config.PortMode) (be : List Bool) (i : Nat) : Bool :=
  match m with
  | .x18 => be.getD (i / 9) false
  | .x36 => be.getD (i / 9) false
  | _ => true

/-- A bit at 0 is not listed. -/
def bitDrop (b : Bool) : Bool := !b

/-- Bit k of block memory `mem` of a bay. -/
def bramBit (l : List (Nat × Bool)) (mem k : Nat) : Bool := (kvGet l (mem * 36864 + k)).getD false

/-- What a port does on an edge that it takes: its address, whether it writes, its byte enables and data. -/
structure PortAct where
  mode  : Config.PortMode
  wmode : Config.WriteMode
  addr  : Nat
  write : Bool
  be    : List Bool
  din   : List Bool
  deriving DecidableEq, Repr

/-- The memory bit of data bit i. -/
def PortAct.bit (p : PortAct) (i : Nat) : Nat := modeBit p.mode p.addr i

/-- Data bit i is written. -/
def PortAct.writes (p : PortAct) (i : Nat) : Bool := p.write && modeEnabled p.mode p.be i

/-- The memory bits that the port writes, with their values. -/
def PortAct.written (p : PortAct) : List (Nat × Bool) :=
  ((List.range (modeWidth p.mode)).filter p.writes).map (fun i => (p.bit i, p.din.getD i false))

/-- The port writes the nine-bit byte that holds memory bit k. -/
def PortAct.hits (p : PortAct) (k : Nat) : Bool := p.written.any (fun e => e.1 / 9 == k / 9)

/-- The two ports' edges collide where both touch a nine-bit byte: a bit that both write holds one of the two values, which `pick`
says (R146). -/
def writeBit (pick : Nat → Bool) (other : Option PortAct) (k : Nat) (v : Bool) : Bool :=
  match other.bind (fun q => q.written.find? (fun e => e.1 == k)) with
  | some e => if pick k then v else e.2
  | none => v

/-- A block memory after the edges that its two ports take within 0.6 ns of each other (R145, R146). -/
def bramEdge (l : List (Nat × Bool)) (mem : Nat) (pick : Nat → Bool) (a b : Option PortAct) : List (Nat × Bool) :=
  let put (l : List (Nat × Bool)) (e : Nat × Bool) : List (Nat × Bool) := kvPut bitDrop (mem * 36864 + e.1) e.2 l
  let la := (a.map PortAct.written).getD []
  let lb := (b.map PortAct.written).getD []
  ((la.map (fun e => (e.1, writeBit pick b e.1 e.2))) ++ lb.filter (fun e => !la.any (fun f => f.1 == e.1))).foldl put l

/-- The old contents that a port shows at data bit i: undefined, which `free` gives, in a byte that the other port writes on a colliding
edge (R146). -/
def oldBit (l : List (Nat × Bool)) (mem : Nat) (free : Nat → Bool) (p : PortAct) (other : Option PortAct) (i : Nat) : Bool :=
  if (other.map (fun q => q.hits (p.bit i))).getD false then free (p.bit i) else bramBit l mem (p.bit i)

/-- A port's output after an edge that it takes (R145): the word read; on a write, by the write mode. -/
def portOut (l : List (Nat × Bool)) (mem : Nat) (free : Nat → Bool) (p : PortAct) (other : Option PortAct) (prev : List Bool) :
    List Bool :=
  let old := (List.range (modeWidth p.mode)).map (oldBit l mem free p other)
  if !p.write then old else
  match p.wmode with
  | .readFirst => old
  | .writeFirst => (List.range (modeWidth p.mode)).map (fun i => if p.writes i then p.din.getD i false else old.getD i false)
  | .noChange => prev

/-! ### MAC blocks (R148, R149) -/

/-- An 18-bit operand's value. -/
def macOperand (signed : Bool) (a : BitVec 18) : Int := if signed then a.toInt else a.toNat

/-- The exact result of an operation, none where ACC stays. C, CASCIN and ACC count as signed. -/
def macExact (op : BitVec 3) (p : Int) (c casc acc : BitVec 48) : Option Int :=
  match op.toNat with
  | 0 => some p
  | 1 => some (acc.toInt + p)
  | 2 => some (acc.toInt - p)
  | 3 => some (c.toInt + p)
  | 4 => some (casc.toInt + p)
  | _ => none

/-- The 36-bit product of two operands. -/
def macProduct (sa sb : Bool) (a b : BitVec 18) : BitVec 36 := BitVec.ofInt 36 (macOperand sa a * macOperand sb b)

/-- A product's value: sign-extended if either operand is signed. -/
def productVal (sa sb : Bool) (p : BitVec 36) : Int := if sa || sb then p.toInt else p.toNat

/-- ACC and OVF after the clock edge, from the product's value. -/
def macEdge (op : BitVec 3) (p : Int) (c casc acc : BitVec 48) : BitVec 48 × Bool :=
  match macExact op p c casc acc with
  | none => (acc, false)
  | some v => (BitVec.ofInt 48 v, decide (v < -2 ^ 47) || decide (2 ^ 47 ≤ v))

/-- CASCIN of block n: ACC of the block before it, 0 for block 0. -/
def macCascin (mac : Vector MacBlock 4) (n : Nat) : BitVec 48 :=
  if n = 0 then 0 else ((nth mac (n - 1)).map MacBlock.acc).getD 0

end Sys2Proof.Machine
end

