-- ==== Sys2Proof/Machine/Manifest.lean ====
section
/-! DEFINITION. What stands in a slot or a firmware copy: the manifest's fields and its checks (R267 to R270, R316), the place of a
frame in a payload (R269), and the checks of a whole payload. -/

namespace Sys2Proof.Machine

/-- MMARK: vendor 0x5A, family 0x57, member 0x09, major 1, minor per part (R2, R23). -/
def mmark : Word := 0x5A570910#32 ||| Config.minor.setWidth 32

/-! ### Manifest (R267, R268) -/

/-- Bytes of the manifest. -/
def manifestLen : Nat := 17920
/-- Bytes of the signed header. -/
def headerLen : Nat := 512
/-- FLAGS. -/
def mFlags (m : Mem) : Word := memWord m 0x0C
/-- SVN. -/
def mSvn (m : Mem) : Nat := memNat m 0x10 4
/-- KEYSLOT. -/
def mKeyslot (m : Mem) : Nat := memNat m 0x14 4
/-- PAYLEN. -/
def mPaylen (m : Mem) : Nat := memNat m 0x18 4
/-- VERSION. -/
def mVersion (m : Mem) : Word := memWord m 0x1C
/-- PDIGEST. -/
def mPdigest (m : Mem) : List Byte := memRead m 0x20 48
/-- TABLEID. -/
def mTableid (m : Mem) : List Byte := memRead m 0x50 48
/-- Offset of directory entry i. -/
def mOff (m : Mem) (i : Nat) : Nat := memNat m (0x80 + 8 * i) 4
/-- Length of directory entry i. -/
def mLen (m : Mem) (i : Nat) : Nat := memNat m (0x84 + 8 * i) 4
/-- CORNER. -/
def fCorner (m : Mem) : Bool := (mFlags m).getLsbD 0
/-- STRICT. -/
def fStrict (m : Mem) : Bool := (mFlags m).getLsbD 1
/-- MISMATCH. -/
def fMismatch (m : Mem) : Bool := (mFlags m).getLsbD 2
/-- DBGWR. -/
def fDbgwr (m : Mem) : Bool := (mFlags m).getLsbD 3

/-- MAGIC and FORMAT. -/
def magicOk (m : Mem) (format : Nat) : Bool := memWord m 0 == 0x4D49575A#32 && memNat m 4 4 == format
/-- TARGET matches MMARK[31:4]. -/
def targetOk (m : Mem) : Bool := field (memWord m 8) 31 4 == field mmark 31 4
/-- No reserved FLAGS bit. -/
def flagsOk (m : Mem) : Bool := decide ((mFlags m).toNat < 16)
/-- A key slot is programmed and not revoked (R278). -/
def keyUsable (i : Img) (k : Nat) : Bool := decide (k < 4) && i.prog.getLsbD k && !i.rev.getLsbD k
/-- KEYSLOT and SVN pass (R276 step 2, R278, R282 step 1). -/
def keyPass (i : Img) (m : Mem) : Bool := keyUsable i (mKeyslot m) && decide (i.minsvn.toNat ≤ mSvn m)

/-- Entries from i on have offset and length 0. -/
def dirRest (m : Mem) (i : Nat) : Bool := (List.range (8 - i)).all (fun k => mOff m (i + k) == 0 && mLen m (i + k) == 0)

/-- The directory of an image (R269). -/
def dirOk (m : Mem) : Bool :=
  let t := mLen m 0
  mOff m 0 == 0 && decide (8 ≤ t) && decide (t ≤ 784896) && t % 4 == 0
    && mOff m 1 == t && mLen m 1 == 1048576
    && mOff m 2 == t + 1048576 && mLen m 2 == 524288
    && mOff m 3 == t + 1572864 && mLen m 3 == 8110080
    && dirRest m 4 && mPaylen m == t + 9682944

/-- The directory of a firmware stream (R316). -/
def dirFwOk (m : Mem) : Bool := mOff m 0 == 0 && mLen m 0 == mPaylen m && decide (mPaylen m ≤ 244224) && dirRest m 1

/-- Where section i begins in a payload. -/
def secAt (m : Mem) (i : Nat) : Nat := mOff m i

/-- Slot n by number. -/
def slotOf (i : Img) (n : Nat) : Slot := (nth i.slots n).getD Slot.empty

/-- The slot a bay's configuration comes from. -/
def baySlot (s : State) (b : Nat) : Slot := slotOf s.img ((nth s.img.bayslot b).getD 0).toNat

/-- Where frame f of bay b begins in a payload (R269). -/
def frameAt (m : Mem) (b f : Nat) : Nat := secAt m 3 + 132 * (960 * b + f)

/-- The first n bytes of a frame's record. -/
def frameBytes (x : Slot) (b f n : Nat) : List Byte := memRead x.payload (frameAt x.manifest b f) n

/-- The payload as a list of bytes. -/
def payBytes (x : Slot) : List Byte := memRead x.payload 0 x.paylen

/-- The stored payload's digest equals PDIGEST (R276, R282, R285); a payload with a record or word that has decayed is not the one whose
digest was taken. -/
def digestOk (x : Slot) : Bool := x.planeErr.isEmpty && x.areaErr.isNone && Config.sha384 (payBytes x) == mPdigest x.manifest

/-- The trailer is right (R270). -/
def trailerOk (m pay : Mem) (t : List Byte) : Bool :=
  let n := mPaylen m
  leNat (t.take 4) == 0x444E455A && leNat ((t.drop 4).take 4) == n
    && leNat ((t.drop 8).take 4) == (crc32 (memRead m 0 manifestLen ++ memRead pay 0 n)).toNat
    && leNat (t.drop 12) == 0

/-- The boot ROM's check of a firmware copy (R302): as shipped, or its header and the CRC-32 over its manifest and payload. -/
def romCheck (c : FwCopy) : Bool :=
  c.shipped || (magicOk c.man 3 && c.crc == some (crc32 (memRead c.man 0 manifestLen ++ memRead c.pay 0 (mPaylen c.man))))

end Sys2Proof.Machine
end

