-- ==== Sys2Proof/Machine/Pads.lean ====
section
/-! DEFINITION. What decides a pin (R156 to R163, R372, R373, R384, R388): which configuration is its own, the row of R163 that applies, the
drive that each row gives, the level on its ball; and the probe lines (R153, R154). What fabric gives a pin comes in as an argument. -/

namespace Sys2Proof.Machine

/-! ### Configuration -/

/-- The register word of pin p (bank × 22 + index), when it exists. -/
def pinWord (io : Io) (p : Nat) : Word :=
  match nth io.bank (p / 22) with
  | some b => (nth b.pin (p % 22)).getD 0
  | none => 0

/-- The bank of a pin. -/
def pinBank (s : State) (p : Nat) : Option IoBank := nth s.io.bank (p / 22)

/-- The entry that configures a pin: the complement of a pair follows the true side's (R159). -/
def pinEntry (s : State) (p : Nat) : Nat :=
  if 88 ≤ p ∧ p % 2 = 1 ∧ (pinWord s.io (p - 1)).getLsbD 23 then p - 1 else p

/-- The register word that governs a pin. -/
def pinCfg (s : State) (p : Nat) : Word := pinWord s.io (pinEntry s p)

/-- A pin's I/O configuration is in effect: the image gives it one, and its bank passed the comparison of R158. -/
def pinLive (s : State) (p : Nat) : Bool :=
  s.io.pinConf.getLsbD (pinEntry s p) && (match pinBank s p with
    | some b => b.inEffect
    | none => false)

/-- The bay that a pin belongs to (R156): of wing b in banks 0 to 3, of wings 0 and 1 in bank 4, of wings 2 and 3 in bank 5. It is the
full load's: a background swap leaves the I/O configuration (R290). -/
def pinBayOf (s : State) (p : Nat) : Nat :=
  let v := Config.pinBay s.img.iopay p
  if p < 88 then p / 22 * 16 + v % 16 else if p < 110 then v % 32 else 32 + v % 32

/-- A bank has no supply that its pins can use: its VIO absent, or, once its configuration is in effect, in a band below the declared one
(R163 row 1, R384). -/
def IoBank.lost (b : IoBank) : Bool :=
  match b.band with
  | none => true
  | some v => b.inEffect && decide (v.toNat < b.vio.toNat)

/-! ### The block that a slice tests (R357, R359) -/

/-- The block codes of R357. -/
inductive TestBlock where
  | bay (b : BayId)
  | setter (s : SetterId)
  | bank (k : Bank)
  | wing (w : Wing)
  | store
  | adc
  | chain
  deriving DecidableEq, Repr

/-- The block that a code names (R357). -/
def testBlock (code : Nat) : Option TestBlock :=
  if h : code < 0x40 then some (.bay ⟨code, h⟩)
  else if h : 0x40 ≤ code ∧ code < 0x50 then some (.setter ⟨code - 0x40, by omega⟩)
  else if h : 0x50 ≤ code ∧ code < 0x56 then some (.bank ⟨code - 0x50, by omega⟩)
  else if h : 0x58 ≤ code ∧ code < 0x5C then some (.wing ⟨code - 0x58, by omega⟩)
  else if code = 0x60 then some .store
  else if code = 0x61 then some .adc
  else if code = 0x62 then some .chain
  else none

/-- The block of the slice in progress. -/
def sliceBlock (s : State) : Option TestBlock := s.bst.slice.bind (fun w => testBlock w.block.toNat)

/-- The self-test controller drives the bank's pins (PADLOOP, R359). -/
def padTest (s : State) (p : Nat) : Bool :=
  match sliceBlock s with
  | some (.bank k) => k.val == p / 22
  | _ => false

/-! ### The row of R163 -/

/-- A hold applies to the pin: its bay held, isolated or gated, or stopped by an entry to NAP (R337), the device in DORMANT, or the return
still to come (R163, R291). -/
def pinHold (s : State) (p : Nat) : Bool :=
  s.io.holdW.getLsbD (pinEntry s p) || s.pwr.state == 3 || (match s.bayN (pinBayOf s p) with
    | some b => b.held || b.isol || b.gated || (b.dozed && s.pwr.inflight && decide (2 ≤ s.pwr.target.toNat))
    | none => false)

/-- A boundary-scan instruction controls the balls: EXTEST, CLAMP or HIGHZ (R371, R373). -/
def scanControls (s : State) : Bool := s.tap.ir = 0 || s.tap.ir = 3 || s.tap.ir = 4

/-- The row of R163 that decides a pin; 8 is the self-test controller's drive of R359. Without VSUP, and in stage 1, every pin is as in
row 1 (R331, R349). -/
def pinRow (s : State) (p : Nat) : Nat :=
  match pinBank s p with
  | none => 1
  | some b =>
    if b.lost || s.pwr.stage == .off || s.pwr.stage == .ao then 1
    else if s.io.trip && pinLive s p then 2
    else if (s.io.halt || s.io.haltW.getLsbD (pinEntry s p)) && pinLive s p then 3
    else if scanControls s then 4
    else if !pinLive s p then 5
    else if padTest s p then 8
    else if pinHold s p then 6
    else 7

/-! ### Drives -/

/-- What drives a pin: nothing, a weak pull, its keeper, its driver, or what the model leaves free. -/
inductive PinDrive where
  | off
  | weak (up : Bool)
  | keeper (v : Bool)
  | level (v : Bool)
  | free
  deriving DecidableEq, Repr

/-- SAFE of a pin. -/
def pinSafe (s : State) (p : Nat) : Nat := (field (pinCfg s p) 31 30).toNat

/-- ODRAIN, which a differential pair ignores (R159). -/
def openDrain (s : State) (p : Nat) : Bool := (pinCfg s p).getLsbD 19 && !(pinCfg s p).getLsbD 23

/-- PULL, which a differential pair ignores (R159). -/
def pinPull (s : State) (p : Nat) : Nat := if (pinCfg s p).getLsbD 23 then 0 else (field (pinCfg s p) 13 12).toNat

/-- A configured pin whose driver is off: its pull or its keeper, or nothing (R157, R388). -/
def idleDrive (s : State) (p : Nat) : PinDrive :=
  match pinPull s p with
  | 1 => .weak true
  | 2 => .weak false
  | 3 => .keeper (s.io.keeper.getLsbD p)
  | _ => .off

/-- The driver is on at the safe value: not for high-Z, and not for a released open-drain 1 (R161). -/
def safeDrives (s : State) (p : Nat) : Bool :=
  pinSafe s p == 0 || (pinSafe s p == 1 && !openDrain s p)

/-- The safe value's drive; the complement of a pair is driven opposite (R161). -/
def safeDrive (s : State) (p : Nat) : PinDrive :=
  if safeDrives s p then .level (xor (pinSafe s p == 1) (pinEntry s p != p)) else idleDrive s p

/-- The weak pull of row 5 (R163, R280): MODE2 says up or down in banks 0 to 3; down in banks 4 and 5. -/
def weakPull (s : State) (p : Nat) : PinDrive := .weak (decide (p < 88) && s.img.mode.getLsbD 2)

/-- The level driven when the hold began (R163 row 6, HOLD = 0). -/
def keptDrive (s : State) (p : Nat) : PinDrive :=
  if s.io.keptOn.getLsbD p then .level (s.io.keptLvl.getLsbD p) else idleDrive s p

/-- The drive of row 4 by the boundary cells (R371, R372): a pair is driven from its even ball's cells, at complementary levels. HIGHZ turns
every driver and pull off. DESIGN CHOICE (log 33): under EXTEST and CLAMP a disabled output shows no pull either. -/
def scanDrive (s : State) (p : Nat) : PinDrive :=
  let e := pinEntry s p
  if s.tap.ir ≠ 4 && s.tap.upd.getLsbD (3 * e + 2) then .level (xor (s.tap.upd.getLsbD (3 * e + 1)) (e != p)) else .off

/-- The drive of row 7 where fabric gives this level and enable: an open-drain pin is released at 1; the complement of a pair is driven
opposite. -/
def fabDrive (s : State) (p : Nat) (v on : Bool) : PinDrive :=
  if !on || (v && openDrain s p) then idleDrive s p else .level (xor v (pinEntry s p != p))

/-- What drives a pin (R163), fabric's drive given. -/
def driveBy (s : State) (p : Nat) (fabric : PinDrive) : PinDrive :=
  match pinRow s p with
  | 2 => safeDrive s p
  | 3 => safeDrive s p
  | 4 => scanDrive s p
  | 5 => weakPull s p
  | 6 => if (pinCfg s p).getLsbD 29 then safeDrive s p else keptDrive s p
  | 7 => fabric
  | 8 => .free
  | _ => .off

/-! ### Levels -/

/-- What is on the ball, when something is: the pin's driver, or, where it is off, what the board drives at this moment (log 11). -/
def onBall (s : State) (p : Nat) (d : PinDrive) : Option Bool :=
  match d with
  | .level v => some v
  | .free => some (Config.boardLevel s.free p)
  | _ => if Config.boardDrives s.free p then some (Config.boardLevel s.free p) else none

/-- The level at the ball: with nothing on it the pull's or the keeper's; one that floats is free (R388). -/
def ballLevel (s : State) (p : Nat) (d : PinDrive) : Bool :=
  (onBall s p d).getD (match d with
    | .weak up => up
    | .keeper v => v
    | _ => Config.boardLevel s.free p)

/-- The level that the pin's input buffer gives; 0 in row 1 (R384). -/
def inputLevel (s : State) (p : Nat) (d : PinDrive) : Bool := pinRow s p != 1 && ballLevel s p d

/-! ### Serialisers and probes -/

/-- What the image names a pin for: an output of a wing's probe multiplexer, none for user logic (R154). -/
def probeOf (s : State) (p : Nat) : Option (Nat × Nat) := Config.probePin s.img.iopay (pinEntry s p)

/-- SER's ratio: 1 when off, else 2, 4 or 8 (R160). -/
def serRatio (s : State) (p : Nat) : Nat := 2 ^ (field (pinCfg s p) 21 20).toNat

/-- The serialiser of a pin or pair. DESIGN CHOICE (log 31): before its first fast edge the line stands at 0 and no word is under way; the
spec states neither that level nor the phase of the first word. -/
def serdesOf (s : State) (p : Nat) : Serdes := (kvGet s.io.ser (pinEntry s p)).getD ⟨false, [], [], [], 0, [], []⟩

/-- The value a probe line of a bay carries, given each cell's look-up output and flip-flop (R153). -/
def probeLine (x : Bay) (n : Nat) (lut ff : Nat → Bool) : Bool :=
  match nth x.probe n with
  | some p => p.getLsbD 31 && (if p.getLsbD 12 then ff (field p 11 0).toNat else lut (field p 11 0).toNat)
  | none => false

/-- What output j of a wing's probe multiplexer drives, given the wing's 128 lines (R154). -/
def wingProbe (s : State) (w : Wing) (j : Fin 16) (line : Nat → Bool) : Bool :=
  let g := (s.glb.wprobe.get w).get j
  g.getLsbD 31 && line ((field g 6 3).toNat * 8 + (field g 2 0).toNat)

end Sys2Proof.Machine
end

