-- ==== Sys2Proof/Machine/Nets.lean ====
section
/-! DEFINITION. What the nets of a bay carry (R131 to R138): the configuration latches with what upsets have made of them, and the value
of a net, read through cells, carry chains and routing multiplexers from flip-flops, memories, MAC blocks, joints, taps and pins. What
each latch means is an uninterpreted function of the frames, whose bit places the spec does not give (log 12). -/

namespace Sys2Proof.Machine

open Config (Net Mux CellCfg)

/-! ### Configuration latches -/

/-- How many bits of a row an upset has changed (R138, R296). -/
def wrongBits : RowErr → Nat
  | .single => 1
  | .double => 2
  | .wrong => 3

/-- Bit i of a row of bytes, inverted. -/
def flipBit (i : Nat) (l : List Byte) : List Byte := l.mapIdx (fun k b => if k = i / 8 then b ^^^ BitVec.ofNat 8 (2 ^ (i % 8)) else b)

/-- The data bits of a frame's latch row: the plane's, less what an upset has changed; its check bits follow them. -/
def latchRow (f : Nat) (e : Option RowErr) (row : List Byte) : List Byte :=
  match e with
  | none => row
  | some e => (List.range (wrongBits e)).foldl (fun l k => flipBit (Config.upsetBit f k % 1036) l) row

/-- The configuration latches of bay b as its plane gives them: frames 0 to 631 (R272). -/
def planeLatches (s : State) (b : Nat) : List Byte :=
  (List.range 632).flatMap (fun f => frameBytes (baySlot s b) b f 128)

/-- The upsets that stand in a bay. -/
def upsetsOf (s : State) (b : Nat) : List (Nat × RowErr) := ((s.bayN b).map Bay.upset).getD []

/-- The configuration latches of bay b as they stand (R138). -/
def latches (s : State) (b : Nat) : List Byte :=
  (List.range 632).flatMap (fun f => latchRow f (kvGet (upsetsOf s b) f) (frameBytes (baySlot s b) b f 128))

/-! ### Multiplexers and cells -/

/-- What a multiplexer drives when its sources carry these values: its constant-0 source is one of them (R135, R136). -/
def muxVal (v : Net → Bool) (m : Mux) : Bool := routeMux (m.zero :: m.sel) (false :: m.src.map v)

/-- Several multiplexers as the bits of a number, the first lowest. -/
def muxBits (v : Net → Bool) (l : List Mux) : Nat := l.foldr (fun m n => (muxVal v m).toNat + 2 * n) 0

/-- The stored mask and parity of a course. -/
def maskOf (b : Bay) (course : Nat) : BitVec 17 := (kvGet b.lmask course).getD 0

/-- A cell's mask: a live cell's register, else its frame's (R131, R141). -/
def cellMask (s : State) (b c : Nat) (g : CellCfg) : BitVec 16 :=
  if c % 16 = 15 then ((s.bayN b).map (fun x => field (maskOf x (c / 16)) 15 0)).getD 0 else g.mask

/-- A cell's four inputs, I0 lowest. -/
def cellIn (v : Net → Bool) (g : CellCfg) : BitVec 4 := BitVec.ofNat 4 (muxBits v [g.i0, g.i1, g.i2, g.i3])

/-- Q of a cell's flip-flop: INIT as the plane gives it, or the other value where Bay.ffs lists the cell. -/
def ffQ (s : State) (b c : Nat) : Bool :=
  xor (Config.cellCfg (planeLatches s b) c).init (((s.bayN b).map (fun x => x.ffs.contains c)).getD false)

/-- The tap wire of a cell: the latch of the output tap that drives it (R40, R274). -/
def tapWire (s : State) (b c : Nat) : Bool :=
  (List.range 4).any (fun j => match nth s.setters (b / 16 * 4 + j) with
    | some x => x.tapOut.any (fun e =>
        e.2.toNat / 2 ^ 30 == 2 && (field e.2 29 26).toNat == b % 16 && (field e.2 25 14).toNat == c && x.olat.getLsbD e.1)
    | none => false)

/-- A joint into bay b, numbered as in its neighbour on that side, whose own joint of the opposite direction it is (R139, R140). -/
def jointInto (s : State) (from_ n : Nat) : Joint := ((s.bayN from_).bind (fun x => nth x.joints n)).getD Joint.reset

/-- CIN of a cell: the carry-out of the position before it; at position 0 that of the course before, or a constant, which course 0
takes (R132). -/
def carryIn (v : Net → Bool) (c : Nat) (g : CellCfg) : Bool :=
  if c % 16 ≠ 0 then v (.cout (c - 1)) else if g.chain && decide (16 ≤ c) then v (.cout (c - 1)) else g.const

/-- COUT of a cell: position 15 passes the carry on; a cell that is not in carry mode forms none, and what its place shows is free. -/
def carryOut (v : Net → Bool) (free : Bool) (c : Nat) (g : CellCfg) : Bool :=
  if c % 16 = 15 then v (.cin c)
  else if !g.carry then free
  else if v (.lut c) then v (.cin c) else (cellIn v g).getLsbD 0

/-- Global column and row of a bay (R139). -/
def bayCol (b : Nat) : Nat := b / 16 % 2 * 4 + b % 4
/-- Global row of a bay (R139). -/
def bayRow (b : Nat) : Nat := b / 16 / 2 * 4 + b % 16 / 4
/-- The bay at a column and row of the 8 × 8 grid. -/
def bayAt (c r : Nat) : Nat := (r / 4 * 2 + c / 4) * 16 + r % 4 * 4 + c % 4

/-- The joint that bay b hears at place n: its neighbour's, and the place there (R139). None at the edge of the grid. -/
def jointSource (b n : Nat) : Option (Nat × Nat) :=
  let c := bayCol b
  let r := bayRow b
  match n / 8 with
  | 0 => if c = 0 then none else some (bayAt (c - 1) r, 8 + n % 8)
  | 1 => if c = 7 then none else some (bayAt (c + 1) r, n % 8)
  | 2 => if r = 0 then none else some (bayAt c (r - 1), 24 + n % 8)
  | _ => if r = 7 then none else some (bayAt c (r + 1), 16 + n % 8)

/-- The joint that bay b hears at place n. -/
def heardJoint (s : State) (b n : Nat) : Joint :=
  match jointSource b n with
  | some (d, k) => jointInto s d k
  | none => Joint.reset

/-- What a block-memory port shows: its output register, where it is used (R145). DESIGN CHOICE (log 31): before its first edge after a load,
a hold or a wake it shows 0 on every bit; the spec does not say what it shows. -/
def portShown (x : Bay) (outReg : Bool) (p : Nat) : List Bool :=
  match kvGet x.ports p with
  | some o => if outReg then o.reg else o.out
  | none => []

/-- EN. -/
def Desc.en (d : Desc) : Bool := d.w0.getLsbD 31
/-- PACK. -/
def Desc.pack (d : Desc) : Bool := d.w0.getLsbD 29
/-- PRODUCER. -/
def Desc.producer (d : Desc) : Nat := (field d.w3 19 15).toNat
/-- Packer p. -/
def packOf (s : State) (p : Nat) : Packer := (nth s.hod.pack p).getD Packer.reset

/-- The enabled PACK queue that names packer p (R216). -/
def packQueue (s : State) (p : Nat) : Option QueueId :=
  (s.hod.desc.find? (fun e => e.2.en && e.2.pack && e.2.producer == p)).map (fun e => BitVec.ofNat 16 e.1)

/-- READY of a fabric byte port (R216, R219). -/
def portReady (s : State) (p : Nat) : Bool := (packQueue s p).isSome && decide ((packOf s p).fifo.length < 4)

/-- What bay b reads of its own registers and of what lies outside its logic. -/
def sourceVal (s : State) (b : Nat) (x : Bay) (net : Net) : Bool :=
  match net with
  | .tap c => tapWire s b c
  | .bram p i => (portShown x (Config.portCfg (latches s b) p).outReg p).getD i false
  | .acc k i => ((nth x.mac k).map (fun m => m.acc.getLsbD i)).getD false
  | .ovf k => ((nth x.mac k).map MacBlock.ovf).getD false
  | .joint n i => (heardJoint s b n).out.getLsbD i
  | .arrived n => (heardJoint s b n).arrived
  | .busy n => ((nth x.joints n).map Joint.busy).getD false
  | .des p i => ((kvGet s.io.ser p).map (fun d => d.word.getD i false)).getD false
  | .ready p => portReady s p
  | .other k => Config.outside s.free (4 * (64 * k + b) + 1)
  | _ => false

/-- The paths of a pin from its bay. -/
def pinPaths (s : State) (p : Nat) : Config.PinCfg :=
  Config.pinCfg (latches s (pinBayOf s (pinEntry s p))) (pinEntry s p)

/-- Line l of the 128 probe lines of wing w, the bays' nets given (R153, R154). -/
def probeLevel (v : Nat → Net → Bool) (s : State) (w l : Nat) : Bool :=
  let b := w * 16 + l / 8
  match s.bayN b with
  | some x => probeLine x (l % 8) (fun c => v b (.lut c)) (fun c => ffQ s b c)
  | none => false

/-- The level that the bays' nets give a pin: the probe line named for it, the serialiser's bit, its output register or its output net
(R154, R157, R160). -/
def padLevel (v : Nat → Net → Bool) (s : State) (p : Nat) : Bool :=
  match probeOf s p with
  | some (w, j) => wingProbe s (Fin.ofNat 4 w) (Fin.ofNat 16 j) (probeLevel v s (w % 4))
  | none =>
    if serRatio s p ≠ 1 then (serdesOf s p).line
    else if (pinCfg s p).getLsbD 15 then s.io.oreg.getLsbD (pinEntry s p)
    else muxVal (v (pinBayOf s (pinEntry s p))) (pinPaths s p).out

/-- The nets, or the enable register, have the pin's driver on; a probe pin is an output (R154, R157). -/
def padOn (v : Nat → Net → Bool) (s : State) (p : Nat) : Bool :=
  (probeOf s p).isSome || (if (pinCfg s p).getLsbD 14 then s.io.ereg.getLsbD (pinEntry s p)
    else muxVal (v (pinBayOf s (pinEntry s p))) (pinPaths s p).oe)

/-- What drives a pin when the bays' nets carry these values (R163). -/
def padDrive (v : Nat → Net → Bool) (s : State) (p : Nat) : PinDrive := driveBy s p (fabDrive s p (padLevel v s p) (padOn v s p))

/-- What fabric hears of a pin: its input register where it has one, else its input level; 0 in row 1 (R157, R384). -/
def pinHeard (s : State) (p : Nat) (level : Bool) : Bool :=
  pinRow s p != 1 && (if (pinCfg s p).getLsbD 16 then s.io.ireg.getLsbD (pinEntry s p) else level)

/-- The value of a net of bay b; `n` is how many cells and multiplexers deep it is read, and what lies deeper is a loop of logic, whose
value is free. -/
def netVal (s : State) : Nat → Nat → Net → Bool
  | 0, b, _ => Config.outside s.free (4 * b + 2)
  | n + 1, b, net =>
    let v := netVal s n b
    match net with
    | .lut c => let g := Config.cellCfg (latches s b) c; lutOut (cellMask s b c g) (cellIn v g)
    | .ff c => ffQ s b c
    | .sum c => xor (v (.lut c)) (v (.cin c))
    | .cin c => carryIn v c (Config.cellCfg (latches s b) c)
    | .cout c => carryOut v (Config.outside s.free (4 * (64 * c + b) + 2)) c (Config.cellCfg (latches s b) c)
    | .wire w => muxVal v (Config.wireMux (latches s b) w)
    | .pin p => let e := pinEntry s p; pinHeard s e (inputLevel s e (padDrive (netVal s n) s e))
    | e => match s.bayN b with
      | some x => sourceVal s b x e
      | none => false

/-- Deep enough for every path of a bay that is no loop: its cells and its wires. -/
def netDepth : Nat := 1000000

/-- The value of a net of bay b (R131 to R138). -/
def netNow (s : State) (b : Nat) (e : Net) : Bool := netVal s netDepth b e

/-! ### The pins now -/

/-- The level that fabric gives a pin. -/
def fabricLevel (s : State) (p : Nat) : Bool := padLevel (netNow s) s p

/-- Fabric has the pin's driver on. -/
def fabricOn (s : State) (p : Nat) : Bool := padOn (netNow s) s p

/-- What drives a pin now (R163). -/
def pinDrive (s : State) (p : Nat) : PinDrive := padDrive (netNow s) s p

/-- The input level of a pin now. -/
def pinLevel (s : State) (p : Nat) : Bool := inputLevel s p (pinDrive s p)

/-- The keepers take what is on their balls; one that nothing drives keeps its level, and where no keeper is enabled, or its bank has no
supply, the level that one would find is not defined (R388). -/
def latchKeepers (s : State) : State :=
  { s with io := { s.io with keeper := (List.range 132).foldl (fun v p =>
      setBit v p ((onBall s p (pinDrive s p)).getD
        (if pinPull s p = 3 ∧ pinRow s p ≠ 1 then s.io.keeper.getLsbD p else Config.boardLevel s.free p))) 0 } }

/-! ### Flip-flops -/

/-- A flip-flop's next value when the edges of its bay's clocks fall (R133). -/
def cellNext (s : State) (b : Nat) (x : Bay) (edge : Nat → Bool) (c : Nat) : Bool :=
  let g := Config.cellCfg (latches s b) c
  let v := netNow s b
  ffNext
    { rstAsserted := x.tree.getLsbD (g.clk % 4), rsten := g.rsten, init := g.init,
      sr := xor (muxVal v g.sr) g.srInv, srAsync := g.srAsync, srval := g.srVal, edge := edge (g.clk % 4),
      ce := g.ceTied || muxVal v g.ce,
      d := match g.d with
        | .lut => v (.lut c)
        | .sum => v (.sum c)
        | .dx => muxVal v g.dx } (ffQ s b c)

end Sys2Proof.Machine
end

