-- ==== Sys2Proof/Machine/Ops.lean ====
section
/-! DEFINITION. The named operations every family uses: reading and changing one unit of the state, raising and delivering
events (R26 to R31), ticks and snapshots (R45, R48, R56, R59), cells for the chain (R235, R236), the region check
(R186, R188), stopping a setter (R67), entering a trap (R64, R65) and returning from one (R66), and issuing an
instruction (R64, R67, R76, R78). -/

namespace Sys2Proof.Machine

/-! ### Ticks -/

/-- SET_FSRC.SRC. -/
def Setter.src (x : Setter) : Nat := (field x.fsrc 1 0).toNat

/-- SET_FSRC.LINE. -/
def Setter.line (x : Setter) : Nat := (field x.fsrc 6 2).toNat

/-- The bay in which the net of a tap of setter i lies (R274). -/
def netBay (i : SetterId) (w : Word) : Nat := wingOf i * 16 + (field w 29 26).toNat

/-- The net that the word of an input tap names in its bay: L, Q or S of a cell (R274). -/
def tapNet (w : Word) : Config.Net :=
  let c := (field w 25 14).toNat
  match (field w 13 12).toNat with
  | 0 => .lut c
  | 1 => .ff c
  | _ => .sum c

/-- A SYNC tap whose net meets its timing: launched from a clock derived from the wing's PLL 0, setup and hold closed for the wing strobe
(R41, log 35). -/
def syncHolds (i : SetterId) (n : Nat) (w : Word) (s : State) : Bool :=
  !w.getLsbD 0 && (match nth s.clk.pll (2 * wingOf i), s.bayN (netBay i w) with
    | some p, some b =>
      Config.syncMet (baySlot s (netBay i w)).payload p.ctrl p.odiv (b.rclk.toList.map (fun c => (c.sel, c.div))) (256 * i.val + n)
    | _, _ => false)

/-- What the latch of input tap n takes from its net on a strobe edge: the net's own value for a SYNC tap that meets its timing; else the
value given, because the instant of an ASYNC tap's sample is not defined and a SYNC tap that breaks its timing is undefined (R41). -/
def netSample (i : SetterId) (n : Nat) (w : Word) (given : Bool) (s : State) : Bool :=
  if syncHolds i n w s then netNow s (netBay i w) (tapNet w) else given

/-- What the input tap latches hold after sampling (R40, R41): unmapped taps 0; a tap whose bay does not run keeps the value
latched before (R292, R334). -/
def sampleTaps (i : SetterId) (nets : BitVec 256) (s : State) : BitVec 256 :=
  (s.st i).tapIn.foldl (fun v e =>
    let on := match s.bayN (netBay i e.2) with
      | some b => b.runs
      | none => false
    setBit v e.1 (if on then netSample i e.1 e.2 (nets.getLsbD e.1) s else (s.st i).ilat.getLsbD e.1)) 0

/-- TBLOST follows the source in effect and the time base (R54, R55): set for source 3 while the time base is not valid,
clear for another source. A valid time base leaves it until the setter joins the grid. -/
def Setter.seeTb (x : Setter) (tbvalid : Bool) : Setter :=
  if x.src ≠ 3 then { x with tblost := false } else if tbvalid then x else { x with tblost := true }

/-- The frame-source writes that wait for a tick take effect after it (R59). -/
def Setter.takeFrameWrites (x : Setter) : Setter :=
  { x with fsrc := x.fsrcW.getD x.fsrc, fperiod := x.fperiodW.getD x.fperiod, ftb := x.ftbW.getD x.ftb,
           fsrcW := none, fperiodW := none, ftbW := none }

/-- A waiting FRAME takes its tick with this sample: previous snapshot, snapshot, FCNT, the next instruction (R45). -/
def Setter.takeTick (x : Setter) (next : BitVec 14) (sample : BitVec 256) : Setter :=
  { x with prev := x.snap, snap := sample, ilat := sample, fcnt := x.fcnt + 1, pc := next, wait := .none,
           armed := true, due := 0, late := false, scan := 0 }

/-- A tick that no FRAME takes: discarded before detection is armed, counted at once while the setter is stopped or in
DOZE, else due (R56, R59). DESIGN CHOICE (log 32): before detection is armed a tick that falls while the setter is stopped or in DOZE
is discarded uncounted; R59's first bullet discards it and its second counts it in MISSED. -/
def Setter.missTick (x : Setter) : Setter :=
  if !x.armed then x
  else if x.stopped || x.dozed then
    { x with missed := BitVec.ofNat 16 (satAdd 16 x.missed.toNat 1), late := true }
  else { x with due := x.due + 1, late := false }

/-- An instruction has completed: a setter whose RUN is 0 stops here (R67). The raise is passed in. DESIGN CHOICE (log 32): the stop
that ends a STEP raises source 5 too; R67 names debug stop, HALT and breakpoint alone. -/
def settleWith (rs : Nat → State → State) (i : SetterId) (s : State) : State :=
  if (s.st i).run then s else rs (srcOf i 5) (s.modS i (fun x => { x with stopped := true }))

/-- What any tick leaves behind: the writes that waited for it are taken, and TBLOST follows the source in effect (R55, R59). -/
def Setter.afterTick (x : Setter) (tbvalid : Bool) : Setter := x.takeFrameWrites.seeTb tbvalid

/-- A tick of setter i's source falls on an edge at which its input taps sample v (R45, R59). A setter whose domain is off sees no
tick. -/
def tickWith (rs : Nat → State → State) (i : SetterId) (v : BitVec 256) (s : State) : State :=
  let x := s.st i
  if x.gated || x.isol then s else
  match x.wait with
  | .frame next =>
    if x.dozed then s.putS i (x.missTick.afterTick s.irs.tbvalid)
    else settleWith rs i (s.putS i ((x.takeTick next v).afterTick s.irs.tbvalid))
  | _ => s.putS i (x.missTick.afterTick s.irs.tbvalid)

/-! ### Events -/

/-- WEV ends: gd takes the latches found, those latches clear, Z and N follow gd (R111, R112). -/
def Setter.endWev (x : Setter) (d : Reg) (found : Word) (cost : Nat) : Setter :=
  { (x.setReg d found).adv with evl := x.evl &&& ~~~found, flags := setZN x.flags found, wait := .none,
                                scan := x.scan + cost }

/-- The setter cycles a WEV took that a latch ended: between 2 and its timeout's (R111), free within that range (log 9). -/
def wevCost (timeout : Word) (k : Nat) : Nat :=
  2 + Config.freeCost k % (if timeout = 0xFFFFFFFF#32 then 2 ^ 64 else 300 * timeout.toNat + 1)

/-- A waiting WEV that finds a latch of its mask ends (R112). -/
def wevWith (rs : Nat → State → State) (i : SetterId) (s : State) : State :=
  let x := s.st i
  match x.wait with
  | .wev d mask timeout =>
    let found := x.evl &&& mask
    if found = 0 then s
    else settleWith rs i ((s.putS i (x.endWev d found (wevCost timeout s.free))).usedFree)
  | _ => s

/-- Source n is an enabled wake source: a sensor source with its PLN_SENSEN bit and PWR_WAKEEN.SENS set (R340). -/
def wakeSource (s : State) (n : Nat) : Bool :=
  decide (512 ≤ n) && decide (n < 544) && s.pln.sensen.getLsbD (n - 512) && s.pwr.wakeen.getLsbD 18

/-- A pulse for a setter whose domain is off: kept with the setter's vault record, which the wake restores (R31, R341). -/
def keepLine (i : SetterId) (line : Nat) (s : State) : State :=
  { s with pwr := { s.pwr with recs := updf s.pwr.recs i (Option.map (fun r => { r with evl := setBit r.evl line true })) } }

/-- A pulse on event line L lands at setter i: the latch is set, an event-line tick falls, a WEV may end (R29, R52, R60,
R112). A setter whose domain is off drops it, unless it comes from an enabled wake source, whose wake finds it (R31, log 6). -/
def lineWith (rs : Nat → State → State) (wake : Bool) (i : SetterId) (line : Nat) (s : State) : State :=
  let x := s.st i
  if x.isol then s
  else if x.gated then (if wake then keepLine i line s else s) else
  let s1 := s.putS i { x with evl := setBit x.evl line true }
  let s2 := if x.fen && x.src == 2 && x.line == line
    then tickWith rs i (sampleTaps i (Config.freeNets s.free) s) s1.usedFree else s1
  wevWith rs i s2

/-- Delivery to the setters of a route's SETMASK, on its LINE (R29). -/
def deliverWith (rs : Nat → State → State) (wake : Bool) (route : Word) (s : State) : State :=
  (List.finRange 16).foldl
    (fun s i => if route.getLsbD i.val then lineWith rs wake i (field route 20 16).toNat s else s) s

/-- The pending bit of source n: bit n mod 32 of EVT_PENDk, k = n div 32. -/
def pendBit (s : State) (n : Nat) : Bool := ((nth s.evt.pend (n / 32)).getD 0).getLsbD (n % 32)

/-- Set or clear the pending bit of source n (R26, R28). -/
def putPend (n : Nat) (b : Bool) (s : State) : State :=
  { s with evt := { s.evt with pend := nthUpd s.evt.pend (n / 32) (fun w => setBit w (n % 32) b) } }

/-- Set the pending bit of source n (R26). -/
def setPend (n : Nat) (s : State) : State := putPend n true s

/-- EVT_ROUTEn. -/
def routeOf (s : State) (n : Nat) : Word := (kvGet s.evt.route n).getD 0

/-- EVT_NOTEn. -/
def noteOf (s : State) (n : Nat) : Word := (kvGet s.evt.note n).getD 0

/-! ### Cells -/

/-- Bring a payload to its 32 bytes (R235, R238: bytes not listed are 0). -/
def padTo (n : Nat) (l : List Byte) : List Byte := (l ++ List.replicate n 0).take n

/-- The header word of a cell (R235). -/
def cellHeader (c : Cell) (hop abt : Bool) : Word :=
  BitVec.ofNat 32 (c.type.toNat * 2 ^ 28 + c.cls.toNat * 2 ^ 26 + c.dest.toNat * 2 ^ 14 + c.src.toNat * 4
    + hop.toNat * 2 + abt.toNat)

/-- The CRC computed over a cell: bytes 0-35 with header bits [1:0] taken as 0 (R236). -/
def cellCrc (c : Cell) : Word := crc32 (leBytes 4 (cellHeader c false false).toNat ++ padTo 32 c.payload)

/-- The device's chain address: the head's is 0 (R239, R248). -/
def Irs.self (r : Irs) : BitVec 12 := if r.head then 0 else r.addr

/-- A cell that this device originates (R235 to R238). -/
def mkCell (s : State) (type cls : Nat) (dest : BitVec 12) (payload : List Byte) : Cell :=
  let c : Cell := ⟨BitVec.ofNat 4 type, BitVec.ofNat 2 cls, dest, s.irs.self, false, false, padTo 32 payload, 0⟩
  { c with crc := cellCrc c }

/-- What a QFAIL can later name of a cell (R227, R238). -/
def sentOf (c : Cell) : SentPut :=
  ⟨c.type, BitVec.ofNat 16 (leNat (c.payload.take 2)), BitVec.ofNat 32 (leNat ((c.payload.drop 4).take 4)), c.dest⟩

/-- A QPUT or NOTE is remembered until its QFAIL could come (HOD_RMTFAIL.DEV). -/
def Irs.remember (r : Irs) (c : Cell) : Irs :=
  if c.type = 1 ∨ c.type = 3 then { r with sent := sentOf c :: r.sent.filter (· != sentOf c) } else r

/-- Hand an own non-keystone cell to the transmit buffer of its class (R245), unless that buffer is full (R120). -/
def sendOwn (k : Fin 4) (c : Cell) (s : State) : Option State :=
  if Config.txRoom k.val + 1 ≤ (s.irs.own.get k).length then none
  else some { s with irs := { s.irs.remember c with own := updf s.irs.own k (· ++ [c]) } }

/-- The NOTE cell of source n (R29, R238): class Hod. -/
def sendNote (n : Nat) (s : State) : Option State :=
  let t := noteOf s n
  sendOwn 2 (mkCell s 3 2 (field t 27 16)
    (leBytes 2 (field t 15 0).toNat ++ [0, 0] ++ leBytes 4 (n + s.irs.self.toNat * 1024))) s

/-- Raise source n, at most `fuel` raises deep (R26, R28, R29): a raise that finds the pending bit set delivers nothing; one
that finds it clear delivers once to every destination of the route. A notification that cannot be delivered raises 440. In
DORMANT raises are recorded and nothing is delivered (R335).
A delivery can end the one instruction of a setter that is to stop, which raises its source 5: each setter stops once, so
20 levels are enough. -/
def raiseF : Nat → Nat → State → State
  | 0, n, s => setPend n s
  | f + 1, n, s =>
    if pendBit s n then s
    else if s.pwr.state = 3 then setPend n s
    else
    let r := routeOf s n
    let s2 := deliverWith (raiseF f) (wakeSource s n) r (setPend n s)
    if r.getLsbD 23 then
      match sendNote n s2 with
      | some s3 => s3
      | none => raiseF f 440 s2
    else s2

/-- Raise event source n (R26). -/
def raise (n : Nat) (s : State) : State := raiseF 20 n s

/-- Raise a source when a condition holds. -/
def raiseIf (c : Bool) (n : Nat) (s : State) : State := if c then raise n s else s

/-- Deliver source n again although its pending bit is set: a raise that coincides with its clear (R27). -/
def redeliver (n : Nat) (s : State) : State :=
  raise n (putPend n false s)

/-- The plinth interrupt: some pending source has PLN set (R29). -/
def plinthIrq (s : State) : Bool := s.pwr.state != 3 && (List.range 640).any (fun n => pendBit s n && (routeOf s n).getLsbD 21)

/-- HIRQ_N is held low: some pending source has HIRQ set (R29). -/
def hirqLow (s : State) : Bool := s.pwr.state != 3 && (List.range 640).any (fun n => pendBit s n && (routeOf s n).getLsbD 22)

/-- A tick of setter i's source, at which its input taps sample v (R45, R48). -/
def tickSetter (i : SetterId) (v : BitVec 256) (s : State) : State := tickWith raise i v s

/-- An instruction has completed: stop if RUN is 0 (R67). -/
def settle (i : SetterId) (s : State) : State := settleWith raise i s

/-- A fault of a unit, detected n times at once, is on its way to the plinth (R327). -/
def reportFault (c u n : Nat) (s : State) : State :=
  { s with pln := { s.pln with reports := s.pln.reports ++ [(c, u, n)] } }

/-! ### Regions -/

/-- Region r of master m, as it is in effect (R189), permits a page (R186). DESIGN CHOICE (log 33): where a locked sequence needs
both R and W, one region must give both; the spec leaves open whether two regions may. -/
def regionHas (s : State) (m r page : Nat) (rd wr : Bool) : Bool :=
  match nth s.arb.regEff m with
  | some (bs, ls) =>
    let b := (nth bs r).getD 0
    let l := (nth ls r).getD 0
    b.getLsbD 0 && (!rd || b.getLsbD 1) && (!wr || b.getLsbD 2)
      && decide ((field b 31 12).toNat ≤ page) && decide (page ≤ (field l 31 12).toNat)
  | none => false

/-- Every byte of an access lies in some enabled region of the master with the bits the access needs (R186). -/
def regionOk (s : State) (m addr len : Nat) (rd wr : Bool) : Bool :=
  (List.range ((addr + (len - 1)) / 4096 - addr / 4096 + 1)).all (fun k =>
    (List.range 8).any (fun r => regionHas s m r (addr / 4096 + k) rd wr))

/-- Set bits of STR_MCAUSEm and raise 448 + m; the address goes to STR_MADDRm (R188, R195, R198). -/
def masterCause (m : Nat) (bits : BitVec 6) (addr : Nat) (s : State) : State :=
  raise (448 + m) { s with arb := { s.arb with
    mcause := nthUpd s.arb.mcause m (· ||| bits), maddr := nthUpd s.arb.maddr m (fun _ => BitVec.ofNat 32 addr) } }

/-- A region violation of master m is recorded (R188). -/
def regionViolation (m addr : Nat) (s : State) : State := masterCause m 1 addr s

/-! ### Stopping, trapping and returning -/

/-- The setter stops before its next instruction: RUN cleared, STOPPED set, source 5 raised (R67). -/
def stopSetter (i : SetterId) (f : Setter → Setter) (s : State) : State :=
  raise (srcOf i 5) (s.modS i (fun x => f { x with run := false, stopped := true }))

/-- Trap entry (R64): the PC and flags saved, cause and address recorded, TM set, the PC at the vector, source 1 raised. The
vector instruction issues 3 setter cycles later. Those cycles, and the handler's, join the scan that they fall in, also when
the entry comes right after FRAME's tick (R58). DESIGN CHOICE (log 32): the spec does not say whether SET_SCANLAST counts
them. -/
def enterTrap (i : SetterId) (vec sub : Nat) (addr : Word) (s : State) : State :=
  raise (srcOf i 1) (s.modS i (fun x =>
    { x with epc := x.pc, eflags := flagsBits x.flags, causeVec := BitVec.ofNat 4 vec, causeSub := BitVec.ofNat 8 sub,
             eaddr := addr, tm := true, pc := BitVec.ofNat 14 vec, scan := x.scan + 3,
             ilReg := none, ilMac := false, again := false, lutStall := none }))

/-- A synchronous cause: the trap of R64, after which a setter whose RUN is 0 stops (R67), or the double trap of R65 when TM
is 1. -/
def syncTrap (i : SetterId) (vec sub : Nat) (addr : Word) (s : State) : State :=
  if (s.st i).tm then
    raise (srcOf i 5) (raise (srcOf i 1) (s.modS i (fun x =>
      { x with run := false, stopped := true, dbltrap := true, halted := false, skipBk := false, again := false })))
  else settle i (enterTrap i vec sub addr (s.modS i (fun x => { x with skipBk := false })))

/-- The held cause that is taken first (R62, R64): SYS refusal, overrun, then the lowest timer; and the setter without it. -/
def Setter.nextHeld (x : Setter) : Option (Nat × Nat × Word × Setter) :=
  match x.heldSys with
  | some (code, svc) => some (7, code.toNat, svc.setWidth 32, { x with heldSys := none })
  | none =>
    if x.heldOvr then some (5, 0, 0, { x with heldOvr := false })
    else match (List.range 8).find? (fun t => x.heldTm.getLsbD t) with
      | some t => some (6, t, 0, { x with heldTm := setBit x.heldTm t false })
      | none => none

/-- Take a held cause at an instruction boundary (R64). No instruction has issued: the first after RUN or STEP is the vector's
(R67). -/
def takeHeld (i : SetterId) (c : Nat × Nat × Word × Setter) (s : State) : State :=
  enterTrap i c.1 c.2.1 c.2.2.1 (s.putS i c.2.2.2)

/-- Return from a trap (R66): the PC from the value written, the flags from EFLAGS, TM cleared. -/
def Setter.trapRet (x : Setter) (v : Word) : Setter :=
  { x with pc := field v 13 0, flags := flagsOf x.eflags, tm := false }

/-! ### Issuing an instruction -/

/-- What an instruction's own work answers. -/
inductive Fate where
  /-- Completed, at this cost; a local load or MUL into a register, or a MAC, for the interlocks of R78. -/
  | done (s : State) (cost : Nat) (load : Option Reg) (mac : Bool)
  /-- Issued, and still in progress (FRAME, WEV). -/
  | going (s : State)
  /-- Not issued, or waiting for its access: nothing more happens yet. -/
  | hold (s : State)
  /-- A synchronous cause: vector, subcode and EADDR (R63). -/
  | trap (s : State) (vec sub : Nat) (addr : Word)
  deriving DecidableEq, Repr

/-- An instruction completes: its cost joins the scan, its interlock memory is kept, a stop request is taken. -/
def retire (i : SetterId) (cost : Nat) (load : Option Reg) (mac : Bool) (s : State) : State :=
  settle i (s.modS i (fun x =>
    { x with scan := x.scan + cost, ilReg := load, ilMac := mac, skipBk := false, again := false, lutStall := none }))

/-- The interlock cycles of R78: a source that the load or MUL just before wrote; an ACCRD right after a MAC. -/
def interlock (x : Setter) (reads : List Reg) (accrd : Bool) : Nat :=
  (match x.ilReg with
    | some r => if reads.contains r then 1 else 0
    | none => 0) + (if accrd && x.ilMac then 1 else 0)

/-- The setter issues instructions now: not stopped, not waiting, its domain on and running, no self-test due (R363). -/
def Setter.issues (x : Setter) : Bool :=
  !x.stopped && x.wait == .none && !x.gated && !x.dozed && !x.isol && !x.testW

/-- An enabled breakpoint stands at the PC and this instruction is checked against it (R67). -/
def Setter.atBreak (x : Setter) : Bool :=
  !x.skipBk && ((x.bkpt0.getLsbD 31 && field x.bkpt0 13 0 == x.pc) || (x.bkpt1.getLsbD 31 && field x.bkpt1 13 0 == x.pc))

/-- Finish what an instruction answered. -/
def finish (i : SetterId) (il : Nat) (f : Fate) : State :=
  match f with
  | .done s cost load mac => retire i (cost + il) load mac s
  | .going s => s.modS i (fun x =>
      { x with scan := x.scan + il, ilReg := none, ilMac := false, skipBk := false, again := false, lutStall := none })
  | .hold s => s
  | .trap s vec sub addr => syncTrap i vec sub addr (s.modS i (fun x => { x with scan := x.scan + il }))

/-- Issue one instruction of setter i. Held causes come first (R64), then breakpoints (R67), then the fetch's ECC (R66),
then the instruction's own work, which is all that an instruction that has issued before goes through again (R116). A setter
that issues nothing now is left as it is (log 1). -/
def issue (i : SetterId) (reads : List Reg) (accrd : Bool) (body : State → Fate) (s : State) : State :=
  let x := s.st i
  if !x.issues then s
  else if x.again then finish i (interlock x reads accrd) (body s) else
  match (if x.tm then none else x.nextHeld) with
  | some c => takeHeld i c s
  | none =>
    if x.atBreak then stopSetter i (fun x => { x with bkpt := true }) s
    else match kvGet x.progErr x.pc.toNat with
      | some .double => syncTrap i 4 0 (BitVec.ofNat 32 (x.pc.toNat * 4)) s
      | some .single =>
        finish i (interlock x reads accrd)
          (body (raise (srcOf i 3) (s.putS i { x with progErr := kvDel x.pc.toNat x.progErr })))
      | none => finish i (interlock x reads accrd) (body s)

/-- Setter cycles that pass in a wait are free (log 9): they join the scan, and nothing else happens. -/
def stall (i : SetterId) (s : State) : State :=
  (s.modS i (fun x => { x with scan := x.scan + Config.freeCost s.free })).usedFree

/-- An instruction that has issued meets a wait: it stays in progress, at its PC, for its access to that domain, and no other issues
before it completes (R116, log 1). -/
def holdOn (i : SetterId) (d : Domain) (ins : Instr) (s : State) : Fate :=
  .hold ((stall i s).modS i (fun x => { x with wait := .access d ins, again := true }))

/-- A cost free within its stated range: `lo` to `lo + width − 1` setter cycles (log 9). -/
def freeIn (lo width : Nat) (s : State) : Nat := lo + Config.freeCost s.free % width

/-- The bays that an entry to a state stops (R332). -/
def stopBays (p : Pwr) (target : Nat) : BitVec 64 := if target = 3 then BitVec.allOnes 64 else p.takenB

/-- The setters that an entry to a state stops (R332). -/
def stopSets (p : Pwr) (target : Nat) : BitVec 16 := if target = 3 then BitVec.allOnes 16 else field p.takenS 15 0

/-- The domain is off, or has not finished waking. -/
def off (d : Domain) (s : State) : Bool :=
  match d with
  | .store => s.store.retn || s.store.waking
  | .hod => s.hod.gated
  | .bay b => (s.bay b).gated
  | .setter i => (s.st i).gated

/-- An entry to NAP or DORMANT has passed A1 and stops this domain: an access that lands now waits at its joint (R339). -/
def stopping (d : Domain) (s : State) : Bool :=
  let t := s.pwr.target.toNat
  s.pwr.inflight && !s.pwr.waking && decide (2 ≤ t) && s.pwr.reached != 0 &&
    (match d with
      | .store => true
      | .hod => t == 3 || s.pwr.takenS.getLsbD 16
      | .bay b => (stopBays s.pwr t).getLsbD b.val
      | .setter i => (stopSets s.pwr t).getLsbD i.val)

/-- The domain is off, or about to be. -/
def shut (d : Domain) (s : State) : Bool := off d s || stopping d s

/-- A domain that an access must wait for: shut, or the store while its joints are closed for self-test (R204, R339, R343). -/
def asleep (d : Domain) (s : State) : Bool := shut d s || (d == .store && s.store.isol)

/-- The first access to a gated domain begins its wake (R22, R343); the store and the hod show it. In DORMANT no domain wakes. -/
def startWake (d : Domain) (s : State) : State :=
  if !off d s || s.pwr.state == 3 || s.pwr.begun.contains d then s else
  let t := { s with pwr := { s.pwr with begun := s.pwr.begun ++ [d] } }
  match d with
  | .store => { t with store := { t.store with retn := false, waking := true } }
  | .hod => { t with hod := { t.hod with waking := true } }
  | .bay _ => t
  | .setter _ => t

/-- An instruction's access meets a gated domain: the domain wakes and the setter waits for it (R22, R343). -/
def waitFor (i : SetterId) (d : Domain) (ins : Instr) (s : State) : Fate := holdOn i d ins (startWake d s)

/-- Must-be-zero fields of an instruction's word (R76): subcode 5 when one is not 0. -/
def needZero (ok : Bool) (body : State → Fate) (s : State) : Fate := if ok then body s else .trap s 1 5 0

/-- An instruction that works on the setter alone. -/
def local1 (i : SetterId) (f : Setter → Setter) (s : State) : Fate := .done (s.modS i (fun x => (f x).adv)) 1 none false

end Sys2Proof.Machine
end

