-- ==== Sys2Proof/Machine/Alu.lean ====
section
/-! DEFINITION. Opcode 0x01: the register ALU, shifts, compares, counts and divisions (R85 to R88). -/

namespace Sys2Proof.Machine

/-- Shift left (R86). -/
def shlRes (a : Word) (n : Nat) : Word := a <<< n
/-- Shift right logically (R86). -/
def shrRes (a : Word) (n : Nat) : Word := a >>> n
/-- Shift right arithmetically (R86). -/
def sarRes (a : Word) (n : Nat) : Word := a.sshiftRight n
/-- Rotate left (R86). -/
def rolRes (a : Word) (n : Nat) : Word := a.rotateLeft n

/-- SHL with its flags (R86). -/
def shlOp (f : Flags) (a : Word) (n : Nat) : Word × Flags := (shlRes a n, shiftFlags f (shlRes a n) n (a.getLsbD (32 - n)))
/-- SHR with its flags (R86). -/
def shrOp (f : Flags) (a : Word) (n : Nat) : Word × Flags := (shrRes a n, shiftFlags f (shrRes a n) n (a.getLsbD (n - 1)))
/-- SAR with its flags (R86). -/
def sarOp (f : Flags) (a : Word) (n : Nat) : Word × Flags := (sarRes a n, shiftFlags f (sarRes a n) n (a.getLsbD (n - 1)))
/-- ROL with its flags (R86). -/
def rolOp (f : Flags) (a : Word) (n : Nat) : Word × Flags :=
  (rolRes a n, shiftFlags f (rolRes a n) n ((rolRes a n).getLsbD 0))

/-- The amount of a register shift: gb[4:0] (R86). -/
def shiftAmt (b : Word) : Nat := b.toNat % 32

/-- The three-way result of CMP (R87). -/
def cmpRes (a b : Word) : Word := if a.toInt < b.toInt then 0xFFFFFFFF#32 else if a = b then 0 else 1
/-- The three-way result of CMPU (R87). -/
def cmpuRes (a b : Word) : Word := if a.toNat < b.toNat then 0xFFFFFFFF#32 else if a = b then 0 else 1

/-- Leading zeros of a word, 0-32 (R85). -/
def clzRes (a : Word) : Word := BitVec.ofNat 32 (if a = 0 then 32 else 31 - Nat.log2 a.toNat)
/-- Number of 1 bits of a word (R85). -/
def popcRes (a : Word) : Word := BitVec.ofNat 32 ((List.range 32).foldl (fun n i => n + (a.getLsbD i).toNat) 0)

/-- Signed division overflows on 0x8000_0000 by −1 (R88). -/
def divOvf (a b : Word) : Bool := a == 0x80000000#32 && b == 0xFFFFFFFF#32

/-- Quotient of DIVU (R88). -/
def divuRes (a b : Word) : Word := if b = 0 then 0xFFFFFFFF#32 else BitVec.ofNat 32 (a.toNat / b.toNat)
/-- Quotient of DIVS, truncated toward zero (R88). -/
def divsRes (a b : Word) : Word :=
  if b = 0 then 0xFFFFFFFF#32 else if divOvf a b then 0x80000000#32 else BitVec.ofInt 32 (a.toInt.tdiv b.toInt)
/-- Remainder of REMU (R88). -/
def remuRes (a b : Word) : Word := if b = 0 then a else BitVec.ofNat 32 (a.toNat % b.toNat)
/-- Remainder of REMS, with the sign of the dividend (R88). -/
def remsRes (a b : Word) : Word :=
  if b = 0 then a else if divOvf a b then 0 else BitVec.ofInt 32 (a.toInt.tmod b.toInt)

/-- An operation on two registers applied to a setter: gd and the flags (R79: sources are read before the write). -/
def Setter.alu (x : Setter) (d : Reg) (y : Word × Flags) : Setter := { x.setReg d y.1 with flags := y.2 }

/-- A register operation: reads ga and gb, writes gd and the flags, costs `cost` setter cycles. -/
def regOp (s : SetterId) (r : Regs) (cost : Nat) (op : Flags → Word → Word → Word × Flags) (st : State) : State :=
  issue s [r.a, r.b] false (fun st =>
    .done (st.modS s (fun x => (x.alu r.d (op x.flags (x.reg r.a) (x.reg r.b))).adv)) cost none false) st

/-- A unary register operation: field b must be 0 (R85). -/
def regOp1 (s : SetterId) (r : Regs) (op : Word → Word) (st : State) : State :=
  issue s [r.a] false (needZero (r.b == 0) (fun st =>
    .done (st.modS s (fun x => (x.alu r.d (op (x.reg r.a), setZN x.flags (op (x.reg r.a)))).adv)) 1 none false)) st

/-- A result whose only flags are Z and N. -/
def znOp (op : Word → Word → Word) (f : Flags) (a b : Word) : Word × Flags := (op a b, setZN f (op a b))

/-- ADD (R85). -/
def execAdd (s : SetterId) (r : Regs) (st : State) : Host.Outcome State Fault Refusal :=
  .next (regOp s r 1 (fun f a b => (addRes a b false, addFlags f a b false)) st)
/-- ADDC (R85). -/
def execAddc (s : SetterId) (r : Regs) (st : State) : Host.Outcome State Fault Refusal :=
  .next (regOp s r 1 (fun f a b => (addRes a b f.c, addFlags f a b f.c)) st)
/-- SUB (R85). -/
def execSub (s : SetterId) (r : Regs) (st : State) : Host.Outcome State Fault Refusal :=
  .next (regOp s r 1 (fun f a b => (subRes a b false, subFlags f a b false)) st)
/-- SUBB (R85). -/
def execSubb (s : SetterId) (r : Regs) (st : State) : Host.Outcome State Fault Refusal :=
  .next (regOp s r 1 (fun f a b => (subRes a b f.c, subFlags f a b f.c)) st)
/-- AND (R85). -/
def execAnd (s : SetterId) (r : Regs) (st : State) : Host.Outcome State Fault Refusal :=
  .next (regOp s r 1 (znOp (fun a b => a &&& b)) st)
/-- OR (R85). -/
def execOr (s : SetterId) (r : Regs) (st : State) : Host.Outcome State Fault Refusal :=
  .next (regOp s r 1 (znOp (fun a b => a ||| b)) st)
/-- XOR (R85). -/
def execXor (s : SetterId) (r : Regs) (st : State) : Host.Outcome State Fault Refusal :=
  .next (regOp s r 1 (znOp (fun a b => a ^^^ b)) st)
/-- ANDN (R85). -/
def execAndn (s : SetterId) (r : Regs) (st : State) : Host.Outcome State Fault Refusal :=
  .next (regOp s r 1 (znOp (fun a b => a &&& ~~~b)) st)
/-- SHL (R85, R86). -/
def execShl (s : SetterId) (r : Regs) (st : State) : Host.Outcome State Fault Refusal :=
  .next (regOp s r 1 (fun f a b => shlOp f a (shiftAmt b)) st)
/-- SHR (R85, R86). -/
def execShr (s : SetterId) (r : Regs) (st : State) : Host.Outcome State Fault Refusal :=
  .next (regOp s r 1 (fun f a b => shrOp f a (shiftAmt b)) st)
/-- SAR (R85, R86). -/
def execSar (s : SetterId) (r : Regs) (st : State) : Host.Outcome State Fault Refusal :=
  .next (regOp s r 1 (fun f a b => sarOp f a (shiftAmt b)) st)
/-- ROL (R85, R86). -/
def execRol (s : SetterId) (r : Regs) (st : State) : Host.Outcome State Fault Refusal :=
  .next (regOp s r 1 (fun f a b => rolOp f a (shiftAmt b)) st)
/-- MIN (R85). -/
def execMin (s : SetterId) (r : Regs) (st : State) : Host.Outcome State Fault Refusal :=
  .next (regOp s r 1 (znOp (fun a b => if a.toInt ≤ b.toInt then a else b)) st)
/-- MAX (R85). -/
def execMax (s : SetterId) (r : Regs) (st : State) : Host.Outcome State Fault Refusal :=
  .next (regOp s r 1 (znOp (fun a b => if a.toInt ≤ b.toInt then b else a)) st)
/-- MINU (R85). -/
def execMinu (s : SetterId) (r : Regs) (st : State) : Host.Outcome State Fault Refusal :=
  .next (regOp s r 1 (znOp (fun a b => if a.toNat ≤ b.toNat then a else b)) st)
/-- MAXU (R85). -/
def execMaxu (s : SetterId) (r : Regs) (st : State) : Host.Outcome State Fault Refusal :=
  .next (regOp s r 1 (znOp (fun a b => if a.toNat ≤ b.toNat then b else a)) st)
/-- CMP (R85, R87). -/
def execCmp (s : SetterId) (r : Regs) (st : State) : Host.Outcome State Fault Refusal :=
  .next (regOp s r 1 (fun f a b => (cmpRes a b, subFlags f a b false)) st)
/-- CMPU (R85, R87). -/
def execCmpu (s : SetterId) (r : Regs) (st : State) : Host.Outcome State Fault Refusal :=
  .next (regOp s r 1 (fun f a b => (cmpuRes a b, subFlags f a b false)) st)
/-- CLZ (R85). -/
def execClz (s : SetterId) (r : Regs) (st : State) : Host.Outcome State Fault Refusal := .next (regOp1 s r clzRes st)
/-- POPC (R85). -/
def execPopc (s : SetterId) (r : Regs) (st : State) : Host.Outcome State Fault Refusal := .next (regOp1 s r popcRes st)
/-- DIVU (R85, R88). -/
def execDivu (s : SetterId) (r : Regs) (st : State) : Host.Outcome State Fault Refusal :=
  .next (regOp s r 34 (fun f a b => (divuRes a b, divFlags f (divuRes a b) (b == 0))) st)
/-- DIVS (R85, R88). -/
def execDivs (s : SetterId) (r : Regs) (st : State) : Host.Outcome State Fault Refusal :=
  .next (regOp s r 34 (fun f a b => (divsRes a b, divFlags f (divsRes a b) (b == 0 || divOvf a b))) st)
/-- REMU (R85, R88). -/
def execRemu (s : SetterId) (r : Regs) (st : State) : Host.Outcome State Fault Refusal :=
  .next (regOp s r 34 (fun f a b => (remuRes a b, divFlags f (remuRes a b) (b == 0))) st)
/-- REMS (R85, R88). -/
def execRems (s : SetterId) (r : Regs) (st : State) : Host.Outcome State Fault Refusal :=
  .next (regOp s r 34 (fun f a b => (remsRes a b, divFlags f (remsRes a b) (b == 0 || divOvf a b))) st)

end Sys2Proof.Machine
end

