-- ==== Sys2Proof/Machine/LiveCells.lean ====
section
/-! DEFINITION. Opcode 0x17: live-mask writes (R44, R108 to R110), the landing of LUTW (R142), and FENCE (R84). Function
[13:1] is the operand `hi`. -/

namespace Sys2Proof.Machine

/-- A FENCE that waits ends when nothing of its setter is outstanding any more (R84). -/
def fenceEnd (i : SetterId) (s : State) : State :=
  match (s.st i).wait with
  | .fence width =>
    if (s.st i).lutw.isEmpty && (s.st i).toutd.isEmpty then
      retire i (freeFrom 1 width s) none false (s.modS i (fun x => { x.adv with wait := .none })).usedFree
    else s
  | _ => s

/-- The owner of the live cell of a course: a local setter index, 0 where the image gives none (R141, R274). -/
def ownerOf (b : Bay) (course : Nat) : Nat := ((kvGet b.own course).getD 0).toNat

/-- The checks of R109 on ga: must-be-zero bits, the wing, a live cell, its owner. -/
def cellOk (i : SetterId) (w : Word) (s : State) : Bool :=
  field w 31 22 == 0 && field w 15 12 == 0 && cellBay w / 16 == wingOf i && cellNum w % 16 == 15
    && (match s.bayN (cellBay w) with
        | some b => ownerOf b (cellNum w / 16) == i.val % 4
        | none => false)

/-- A mask with its parity bit, the XOR of the 16 mask bits, in bit 16 (R141). -/
def maskPar (m : BitVec 16) : BitVec 17 := BitVec.ofNat 17 (m.toNat + (parity16 m).toNat * 65536)

/-- Write a live mask with fresh parity, which cures a parity error (R110). -/
def Bay.writeMask (b : Bay) (course : Nat) (m : BitVec 16) : Bay :=
  { b with lmask := kvPut (fun v => v == 0) course (maskPar m) b.lmask, lrep := b.lrep.filter (· != course) }

/-- A live-mask write takes effect in its bay; discarded while the bay is held, isolated or off (R110, R292). -/
def landMask (cell : Nat) (m : BitVec 16) (s : State) : State :=
  s.modBayN (cell / 4096) (fun b => if b.runs then b.writeMask (cell % 4096 / 16) m else b)

/-- The bay that ga names. -/
def cellBayId (w : Word) : BayId := ⟨cellBay w, (field w 21 16).isLt⟩

/-- LUTW (R108): the write is on its way. -/
def execLutw (s : SetterId) (r : Regs) (hi : BitVec 13) (st : State) : Host.Outcome State Fault Refusal :=
  .next (issue s [r.a, r.b] false (needZero (r.d == 0 && hi == 0) (fun st =>
    let x := st.st s
    let w := x.reg r.a
    if !cellOk s w st then .trap st 2 2 (cellAddr w)
    else if asleep (.bay (cellBayId w)) st then waitFor s (.bay (cellBayId w)) (.lutw s r hi) st
    else .done (st.putS s { x.adv with lutw := x.lutw ++ [((cellAddr w).toNat, field (x.reg r.b) 15 0)] }) 2 none false)) st)

/-- Stage a mask: an entry of the same cell is overwritten, else it joins the end (R44). -/
def stageMask (l : List (Nat × BitVec 16)) (cell : Nat) (m : BitVec 16) : List (Nat × BitVec 16) :=
  if l.any (fun e => e.1 == cell) then l.map (fun e => if e.1 = cell then (cell, m) else e) else l ++ [(cell, m)]

/-- LUTWS (R44, R108): staged until the commit; a 33rd entry takes subcode 4. -/
def execLutws (s : SetterId) (r : Regs) (hi : BitVec 13) (st : State) : Host.Outcome State Fault Refusal :=
  .next (issue s [r.a, r.b] false (needZero (r.d == 0 && hi == 0) (fun st =>
    let x := st.st s
    let w := x.reg r.a
    let l := stageMask x.staging (cellAddr w).toNat (field (x.reg r.b) 15 0)
    if !cellOk s w st then .trap st 2 2 (cellAddr w)
    else if 32 < l.length then .trap st 1 4 0
    else if asleep (.bay (cellBayId w)) st then waitFor s (.bay (cellBayId w)) (.lutws s r hi) st
    else .done (st.putS s { x.adv with staging := l }) 2 none false)) st)

/-- LUTW_LANDING (R142): the oldest LUTW of the setter lands on an edge of regional clock 0, and waits while that clock does
not run; a write to a bay that is held, isolated or off is discarded (R110). -/
def execLutwLanding (s : SetterId) (st : State) : Host.Outcome State Fault Refusal :=
  .next (match (st.st s).lutw with
    | [] => st
    | (cell, m) :: rest =>
      match st.bayN (cell / 4096) with
      | none => st
      | some b =>
        if b.runs && !clkRuns st (Fin.ofNat 64 (cell / 4096)) 0 then st
        else fenceEnd s (landMask cell m ((latchKeepers st).usedFree.modS s (fun x => { x with lutw := rest }))))

/-- FENCE (R84): issues at once, and waits until every earlier LUTW and TOUTD has landed. Its bound is judged by the clocks that run
at its issue (log 9). -/
def execFence (s : SetterId) (r : Regs) (svc : BitVec 10) (st : State) : Host.Outcome State Fault Refusal :=
  .next (issue s [] false (needZero (r.d == 0 && r.a == 0 && r.b == 0 && svc == 0) (fun st =>
    if (st.st s).lutw.isEmpty && (st.st s).toutd.isEmpty then .done (st.modS s Setter.adv) 1 none false
    else .going (st.modS s (fun x => { x with wait := .fence (fenceWidth s st) })))) st)

end Sys2Proof.Machine
end

