-- ==== Sys2Proof/Machine/Frames.lean ====
section
/-! DEFINITION. Opcode 0x16: FRAME and FCNT (R45, R56 to R59, R106, R107), with the commit of outputs and staged masks, the
return of pins (R162, R291) and the switch to a swapped program (R39, R293). -/

namespace Sys2Proof.Machine

/-- Apply staged masks on the commit edge, oldest first (R44, R142). -/
def applyStaged (l : List (Nat × BitVec 16)) (s : State) : State := l.foldl (fun s e => landMask e.1 e.2 s) s

/-- IOB_PINi.OWNER of pin p. -/
def pinOwner (io : Io) (p : Nat) : Nat := (field (pinWord io p) 28 24).toNat

/-- Pins whose waiting bit clears on setter i's commit (R162, R291). -/
def dropOwned (io : Io) (i : SetterId) (w : BitVec 132) : BitVec 132 :=
  if w = 0 then 0
  else (List.range 132).foldl (fun v p => if pinOwner io p = i.val then setBit v p false else v) w

/-- A commit of setter i returns the pins it owns to fabric control, unless HALT_N is asserted again (R162). -/
def returnPins (i : SetterId) (s : State) : State :=
  { s with io := { s.io with haltW := if s.io.halt then s.io.haltW else dropOwned s.io i s.io.haltW,
                             holdW := dropOwned s.io i s.io.holdW } }

/-- The setter switches to its swapped program: memories, vector 0, trap state cleared, SWAPPED (R37, R39, R293). -/
def Setter.switchTo (x : Setter) (p : List (Nat × Word)) (d : Option Mem) (dbgwr : Bool) : Setter :=
  { x with prog := p, progErr := [], data := d.getD x.data, dataErr := if d.isSome then [] else x.dataErr,
           dbgwr := dbgwr, shadow := none, pc := 0, tm := false, epc := 0, eflags := 0, causeSub := 0, causeVec := 0,
           eaddr := 0, swapped := true }

/-- A swapped program whose transfer, and whose swap release, are complete waits for this setter's commit (R293). -/
def takesSwap (i : SetterId) (s : State) : Bool :=
  match s.img.swap with
  | some w => (s.st i).shadow.isSome && w.moved && w.rel && w.left.getLsbD i.val
  | none => false

/-- The swap that the setter takes at this commit (R293). -/
def switchProgram (i : SetterId) (s : State) : State :=
  if !takesSwap i s then s else
  match (s.st i).shadow, s.img.swap with
  | some (p, d, dbg), some w =>
    { (s.modS i (fun x => x.switchTo p d dbg)) with img := { s.img with
        setslot := upd s.img.setslot i w.slot, swap := some { w with left := setBit w.left i.val false } } }
  | _, _ => s

/-- The commit edge of a FRAME: output tap latches, staged masks, pins, program switch (R39, R44, R45, R162). The keepers have seen what the
pins drove until then (R388). -/
def commit (i : SetterId) (s : State) : State :=
  let l := (s.st i).staging
  switchProgram i (returnPins i (applyStaged l ((latchKeepers s).usedFree.modS i (fun x => { x with olat := x.obuf, staging := [] }))))

/-- SET_SCANLAST and SET_SCANMAX at FRAME's issue (they saturate at 24 bits). -/
def Setter.endScan (x : Setter) (cycles : Nat) : Setter :=
  let n := BitVec.ofNat 24 (min cycles (2 ^ 24 - 1))
  { x with scanLast := n, scanMax := if x.scanMax.toNat < n.toNat then n else x.scanMax }

/-- A tick is due when FRAME issues (R56), detection armed (R59); one that fell before FEN was cleared stays due. -/
def Setter.overruns? (x : Setter) : Bool := x.armed && (decide (0 < x.due) || x.late)

/-- FRAME stalls behind a LUTW and has not issued (R107): the width of the stall's free cost is the FENCE bound's (R84). -/
def frameStalls (i : SetterId) (s : State) : State :=
  s.modS i (fun x => { x with lutStall := some (x.lutStall.getD (fenceWidth i s)) })

/-- The setter cycles that a stall of FRAME added before its issue (R107): 0 to the bound, free (log 9). -/
def stallCost (i : SetterId) (s : State) : Nat :=
  match (s.st i).lutStall with
  | some width => freeFrom 0 (if width = 0 then 0 else width + 1) s
  | none => 0

/-- An overrun is counted, flagged and, with OVRTRAP, held for its trap (R56, R58). -/
def Setter.countOverrun (x : Setter) (missed : Nat) : Setter :=
  { x with overruns := BitVec.ofNat 16 (satAdd 16 x.overruns.toNat 1), ovr := true,
           heldOvr := x.heldOvr || x.ovrtrap, missed := BitVec.ofNat 16 (satAdd 16 x.missed.toNat missed) }

/-- FRAME (R45, R107): commits, then waits for its tick; an overrun follows its policy (R56, R57). The PC stays at the FRAME
until its tick. The operand is what the nets show if a late tick is taken at once, before the commit that falls on that edge (R46). -/
def execFrame (s : SetterId) (r : Regs) (nets : BitVec 256) (st : State) : Host.Outcome State Fault Refusal :=
  .next (issue s [] false (needZero (r.d == 0 && r.a == 0 && r.b == 0) (fun st =>
    let x := st.st s
    if !x.lutw.isEmpty then .hold (frameStalls s st)
    else
      let st1 := commit s (st.putS s (x.endScan (x.scan + stallCost s st))).usedFree
      let nxt := if takesSwap s st then 0 else pcNext x.pc
      if x.overruns? then
        if x.ovrpol then
          .going (settle s (raise (srcOf s 0) (st1.modS s (fun y =>
            (y.countOverrun (if x.late then x.due else x.due - 1)).takeTick nxt (sampleTaps s nets st)))))
        else
          .going (raise (srcOf s 0) (st1.modS s (fun y =>
            { y.countOverrun x.due with wait := .frame nxt, due := 0, late := false })))
      else .going (st1.modS s (fun y => { y with wait := .frame nxt, due := 0, late := false })))) st)

/-- FCNT (R106). -/
def execFcnt (s : SetterId) (r : Regs) (st : State) : Host.Outcome State Fault Refusal :=
  .next (issue s [] false (needZero (r.a == 0 && r.b == 0) (local1 s (fun x => x.setReg r.d x.fcnt))) st)

end Sys2Proof.Machine
end

