-- ==== Sys2Proof/Machine/BitUnit.lean ====
section
/-! DEFINITION. Opcode 0x10: the bit unit (R95, R96). Function [8:0] is the operand `lo`: [8:6] must be 0, [5] is F, [4:0] the
bit number n or BPOP's combine code. -/

namespace Sys2Proof.Machine

/-- The bit number n. -/
def bitNo (lo : BitVec 9) : Nat := (field lo 4 0).toNat

/-- Set the B flag. -/
def Setter.setB (x : Setter) (v : Bool) : Setter := { x with flags := { x.flags with b := v } }

/-- B combined with bit n of ga; d, b, [8:6] and F must be 0 (R95). -/
def bitTest (s : SetterId) (r : Regs) (lo : BitVec 9) (f : Bool → Bool → Bool) (st : State) : State :=
  issue s [r.a] false (needZero (r.d == 0 && r.b == 0 && field lo 8 5 == 0) (local1 s (fun x =>
    x.setB (f x.flags.b ((x.reg r.a).getLsbD (bitNo lo)))))) st

/-- Bit n of gd rewritten from B and its old value; a, b, [8:6] and F must be 0 (R95). -/
def bitWrite (s : SetterId) (r : Regs) (lo : BitVec 9) (f : Bool → Bool → Bool) (st : State) : State :=
  issue s [r.d] false (needZero (r.a == 0 && r.b == 0 && field lo 8 5 == 0) (local1 s (fun x =>
    x.setReg r.d (setBit (x.reg r.d) (bitNo lo) (f x.flags.b ((x.reg r.d).getLsbD (bitNo lo))))))) st

/-- BLD (R95). -/
def execBld (s : SetterId) (r : Regs) (lo : BitVec 9) (st : State) : Host.Outcome State Fault Refusal :=
  .next (bitTest s r lo (fun _ v => v) st)
/-- BLDN (R95). -/
def execBldn (s : SetterId) (r : Regs) (lo : BitVec 9) (st : State) : Host.Outcome State Fault Refusal :=
  .next (bitTest s r lo (fun _ v => !v) st)
/-- BAND (R95). -/
def execBand (s : SetterId) (r : Regs) (lo : BitVec 9) (st : State) : Host.Outcome State Fault Refusal :=
  .next (bitTest s r lo (fun b v => b && v) st)
/-- BANDN (R95). -/
def execBandn (s : SetterId) (r : Regs) (lo : BitVec 9) (st : State) : Host.Outcome State Fault Refusal :=
  .next (bitTest s r lo (fun b v => b && !v) st)
/-- BOR (R95). -/
def execBor (s : SetterId) (r : Regs) (lo : BitVec 9) (st : State) : Host.Outcome State Fault Refusal :=
  .next (bitTest s r lo (fun b v => b || v) st)
/-- BORN (R95). -/
def execBorn (s : SetterId) (r : Regs) (lo : BitVec 9) (st : State) : Host.Outcome State Fault Refusal :=
  .next (bitTest s r lo (fun b v => b || !v) st)
/-- BXOR (R95). -/
def execBxor (s : SetterId) (r : Regs) (lo : BitVec 9) (st : State) : Host.Outcome State Fault Refusal :=
  .next (bitTest s r lo (fun b v => xor b v) st)
/-- BNOT (R95): no field is used. -/
def execBnot (s : SetterId) (r : Regs) (lo : BitVec 9) (st : State) : Host.Outcome State Fault Refusal :=
  .next (issue s [] false (needZero (r.d == 0 && r.a == 0 && r.b == 0 && lo == 0)
    (local1 s (fun x => x.setB (!x.flags.b)))) st)
/-- BPUSH (R96): no field is used; at depth 16 subcode 2. -/
def execBpush (s : SetterId) (r : Regs) (lo : BitVec 9) (st : State) : Host.Outcome State Fault Refusal :=
  .next (issue s [] false (needZero (r.d == 0 && r.a == 0 && r.b == 0 && lo == 0) (fun st =>
    if 16 ≤ (st.st s).bdepth.toNat then .trap st 1 2 0
    else local1 s (fun x =>
      { x with bstk := setBit x.bstk x.bdepth.toNat x.flags.b, bdepth := x.bdepth + 1 }) st)) st)
/-- BPOP (R96): combine code in [4:0], 3-31 break the operand rule; at depth 0 subcode 3. -/
def execBpop (s : SetterId) (r : Regs) (lo : BitVec 9) (st : State) : Host.Outcome State Fault Refusal :=
  .next (issue s [] false (needZero (r.d == 0 && r.a == 0 && r.b == 0 && decide (lo.toNat < 3)) (fun st =>
    if (st.st s).bdepth.toNat = 0 then .trap st 1 3 0
    else local1 s (fun x =>
      let p := x.bdepth.toNat - 1
      let v := x.bstk.getLsbD p
      let b := if lo.toNat = 0 then v else if lo.toNat = 1 then x.flags.b && v else x.flags.b || v
      { x.setB b with bstk := setBit x.bstk p false, bdepth := x.bdepth - 1 }) st)) st)
/-- BOUT (R95). -/
def execBout (s : SetterId) (r : Regs) (lo : BitVec 9) (st : State) : Host.Outcome State Fault Refusal :=
  .next (bitWrite s r lo (fun b _ => b) st)
/-- BSET (R95). -/
def execBset (s : SetterId) (r : Regs) (lo : BitVec 9) (st : State) : Host.Outcome State Fault Refusal :=
  .next (bitWrite s r lo (fun b v => b || v) st)
/-- BRST (R95). -/
def execBrst (s : SetterId) (r : Regs) (lo : BitVec 9) (st : State) : Host.Outcome State Fault Refusal :=
  .next (bitWrite s r lo (fun b v => !b && v) st)
/-- BEDGE (R95): F in [5]; gd[n] keeps the old rung and B becomes the edge pulse. -/
def execBedge (s : SetterId) (r : Regs) (lo : BitVec 9) (st : State) : Host.Outcome State Fault Refusal :=
  .next (issue s [r.d] false (needZero (r.a == 0 && r.b == 0 && field lo 8 6 == 0) (local1 s (fun x =>
    let m := (x.reg r.d).getLsbD (bitNo lo)
    let b := if lo.getLsbD 5 then !x.flags.b && m else x.flags.b && !m
    (x.setReg r.d (setBit (x.reg r.d) (bitNo lo) x.flags.b)).setB b))) st)

end Sys2Proof.Machine
end

