-- ==== Sys2Proof/Machine/TimerUnit.lean ====
section
/-! DEFINITION. Opcode 0x12: the timers (R61, R97 to R99). Function [11:0] is the operand `lo`: [11:7] must be 0, [6:4] is the
timer, [3] TRAP, [2] BASE, [1:0] MODE. -/

namespace Sys2Proof.Machine

/-- TMRC, and a change of MODE or BASE: COUNT, DONE, RUNNING and IN become 0 (R97, R98). -/
def Timer.clear (t : Timer) : Timer := { t with count := 0, done := false, running := false, inp := false }

/-- Apply the enable input (the mode table of R98, and its rules for a preset of 0). -/
def Timer.enable (t : Timer) (v : Bool) : Timer :=
  let u : Timer := match t.mode.toNat with
    | 0 =>
      if v then
        (if !t.running && !t.done then
          (if t.preset = 0 then { t with count := 0, done := true } else { t with count := 0, running := true })
        else t)
      else { t with count := 0, done := false, running := false }
    | 1 =>
      if v then { t with done := true, count := 0, running := false }
      else if t.done && !t.running then
        (if t.preset = 0 then { t with count := 0, done := false } else { t with count := 0, running := true })
      else t
    | 2 =>
      if v && !t.inp && !t.running then
        (if t.preset = 0 then { t with count := 0, done := false } else { t with done := true, count := 0, running := true })
      else t
    | _ => { t with running := v }
  { u with inp := v }

/-- One period of the base of a running timer (R98). -/
def Timer.tick (t : Timer) : Timer :=
  if !t.running then t else
  let c := t.count + 1
  match t.mode.toNat with
  | 0 => if t.preset.toNat ≤ c.toNat then { t with count := c, done := true, running := false } else { t with count := c }
  | 1 => if t.preset.toNat ≤ c.toNat then { t with count := c, done := false, running := false } else { t with count := c }
  | 2 => if t.preset.toNat ≤ c.toNat then { t with count := c, done := false, running := false } else { t with count := c }
  | _ => { t with count := c, done := t.done || c == t.preset }

/-- A new setting of MODE or BASE clears the timer first (R98). -/
def Timer.setup (t : Timer) (mode : BitVec 2) (base trap : Bool) : Timer :=
  let u := if t.mode ≠ mode ∨ t.base ≠ base then t.clear else t
  { u with mode := mode, base := base, trap := trap }

/-- Put timer t of a setter from `old` to `new`: a rise of DONE with TRAP = 1 holds the timer's trap (R99). -/
def Setter.putTimer (x : Setter) (t : TimerId) (old new : Timer) : Setter :=
  { x with timers := upd x.timers t new,
           heldTm := if !old.done && new.done && new.trap then setBit x.heldTm t.val true else x.heldTm }

/-- The timer number of a timer instruction. -/
def timerNo (lo : BitVec 12) : TimerId := ⟨(field lo 6 4).toNat, (field lo 6 4).isLt⟩

/-- TMRS (R97, R98). DESIGN CHOICE (log 32): where a change of MODE or BASE clears a DONE of 1 and the enable input raises it
again in the same instruction, DONE has risen and the trap of R99 is held. -/
def execTmrs (s : SetterId) (r : Regs) (lo : BitVec 12) (st : State) : Host.Outcome State Fault Refusal :=
  .next (issue s [r.a] false (needZero (r.d == 0 && r.b == 0 && field lo 11 7 == 0) (local1 s (fun x =>
    let t := timerNo lo
    let u := { (x.timers.get t).setup (field lo 1 0) (lo.getLsbD 2) (lo.getLsbD 3) with preset := x.reg r.a }
    x.putTimer t u (u.enable x.flags.b)))) st)
/-- TMRQ (R97). -/
def execTmrq (s : SetterId) (r : Regs) (lo : BitVec 12) (st : State) : Host.Outcome State Fault Refusal :=
  .next (issue s [] false (needZero (r.d == 0 && r.a == 0 && r.b == 0 && field lo 11 7 == 0 && field lo 3 0 == 0)
    (local1 s (fun x => x.setB (x.timers.get (timerNo lo)).done))) st)
/-- TMRC (R97). -/
def execTmrc (s : SetterId) (r : Regs) (lo : BitVec 12) (st : State) : Host.Outcome State Fault Refusal :=
  .next (issue s [] false (needZero (r.d == 0 && r.a == 0 && r.b == 0 && field lo 11 7 == 0 && field lo 3 0 == 0)
    (local1 s (fun x => { x with timers := updf x.timers (timerNo lo) Timer.clear }))) st)
/-- TMRRD (R97). -/
def execTmrrd (s : SetterId) (r : Regs) (lo : BitVec 12) (st : State) : Host.Outcome State Fault Refusal :=
  .next (issue s [] false (needZero (r.a == 0 && r.b == 0 && field lo 11 7 == 0 && field lo 3 0 == 0)
    (local1 s (fun x => x.setReg r.d (x.timers.get (timerNo lo)).count))) st)

/-- Timers run but while the setter is stopped with DBGFRZ set, or its domain is off (R61). -/
def Setter.timersRun (x : Setter) : Bool := !(x.stopped && x.dbgfrz) && !x.gated && !x.isol

/-- SETTER_TIMER_TICK (R98): one period of a running timer's base. -/
def execSetterTimerTick (s : SetterId) (t : TimerId) (st : State) : Host.Outcome State Fault Refusal :=
  .next (st.modS s (fun x =>
    if x.timersRun then x.putTimer t (x.timers.get t) (x.timers.get t).tick else x))

end Sys2Proof.Machine
end

