-- ==== Sys2Proof/Machine/SetterRegs.lean ====
section
/-! DEFINITION. The setter's control and debug registers (R39, R59, R67 to R70, R98): what a read returns and what a write
does, once the access has reached the block. -/

namespace Sys2Proof.Machine

/-- What a write's moment supplies: the nets at a snapshot it starts, raises that coincide with it (R27), pin levels it
meets (R340). -/
structure WriteEnv where
  nets   : BitVec 256
  raised : Word
  levels : BitVec 16
  deriving DecidableEq, Repr

/-- The moment of a write whose command gives none of them: free nets and levels, nothing coincides (log 6). -/
def freeEnv (s : State) : WriteEnv := ⟨Config.freeNets s.free, 0, field (Config.freeNets (s.free + 1)) 15 0⟩

/-- An unlisted program word reads 0 (log 7). -/
def wordDrop (w : Word) : Bool := w == 0

/-- The field of a coinciding record (R407). -/
def recField (rec : Word) (bits lo : Nat) : BitVec bits := rec.extractLsb' lo bits

/-! ### Frame source (R59) -/

/-- SET_FPERIOD holds a value that R59 refuses. -/
def periodBad (fperiod : Word) : Bool := field fperiod 15 0 == 0

/-- SET_FTB holds a value that R59 refuses. -/
def ftbBad (ftb : Word) : Bool := field ftb 15 0 == 0 || decide ((field ftb 15 0).toNat ≤ (field ftb 31 16).toNat)

/-- The registers that a source uses hold a value that R59 refuses. -/
def Setter.srcBad (x : Setter) (src : Nat) : Bool :=
  (src == 0 && periodBad x.fperiod) || (src == 3 && (periodBad x.fperiod || ftbBad x.ftb))

/-- FEN set or cleared: setting it arms anew; writes that wait for a tick go on waiting (R59). -/
def Setter.putFen (x : Setter) (b : Bool) : Setter :=
  if b && !x.fen then { x with fen := true, armed := false, due := 0, late := false } else { x with fen := b }

/-- FEN may not be set: the selected source's registers hold a value that is refused (R59). -/
def Setter.fenBad (x : Setter) : Bool := !x.fen && x.srcBad x.src

/-- A write of SET_FSRC, SET_FPERIOD or SET_FTB: refused with CFGERR, at once while FEN is 0, else at the next tick (R59).
DESIGN CHOICE (log 32): until that tick a read and the refusal check of SET_FSRC see the old value; the spec does not say. -/
def Setter.putFrameReg (x : Setter) (r : FrameReg) (v : Word) : Setter :=
  match r with
  | .fsrc =>
    let w := v &&& 0x7F#32
    if x.srcBad (field w 1 0).toNat then { x with cfgerr := true }
    else if x.fen then { x with fsrcW := some w } else { x with fsrc := w, fsrcW := none }
  | .fperiod =>
    let w := v &&& 0xFFFF#32
    if periodBad w then { x with cfgerr := true }
    else if x.fen then { x with fperiodW := some w } else { x with fperiod := w, fperiodW := none }
  | .ftb =>
    if ftbBad v then { x with cfgerr := true }
    else if x.fen then { x with ftbW := some v } else { x with ftb := v, ftbW := none }

/-! ### Start, stop and reset -/

/-- Snapshot, previous snapshot and latches take the initial snapshot v (R38). -/
def initSnap (i : SetterId) (v : BitVec 256) (s : State) : State :=
  s.modS i (fun x => { x with snap := v, prev := v, ilat := v, needSnap := false })

/-- The setter resumes at SET_PC; one that has not started takes v as its initial snapshot (R38, R67). RUN is set by a start and
not by a STEP. DESIGN CHOICE (log 32): the cycles it stood stopped in mid-scan add nothing to SET_SCANLAST and SET_SCANMAX; R74 does
not say whether they count. -/
def startSetter (i : SetterId) (v : BitVec 256) (run : Bool) (s : State) : State :=
  let s1 := if (s.st i).needSnap then initSnap i v s else s
  s1.modS i (fun x => { x with run := run, stopped := false, skipBk := true, halted := if run then false else x.halted })

/-- What SRST resets (R37, R39); latches, snapshots, frame source and memories stay. -/
def Setter.softReset (x : Setter) : Setter :=
  { x with pc := 0, g := Vector.replicate 16 0, acc := 0, flags := Flags.reset, bdepth := 0, bstk := 0, tag := 0,
           timers := Vector.replicate 8 Timer.reset, fcnt := 0, overruns := 0, missed := 0, evl := 0, staging := [],
           tm := false, epc := 0, eflags := 0, causeSub := 0, causeVec := 0, eaddr := 0, dbltrap := false,
           heldOvr := false, heldTm := 0, heldSys := none, armed := false, due := 0, late := false, scan := 0,
           wait := .none, ilReg := none, ilMac := false, skipBk := false, again := false, lutStall := none }

/-- SRST (R39): with RUN at 1 execution starts at vector 0 after a new initial snapshot v, and the write that set RUN to 1 with it
keeps that first instruction from the breakpoints (R67); else the setter is stopped. -/
def srst (i : SetterId) (v : BitVec 256) (s : State) : State :=
  let x := s.st i
  let s1 := s.modS i Setter.softReset
  if x.run then (initSnap i v s1).modS i (fun x => { x with stopped := false, halted := false, skipBk := true })
  else raiseIf (!x.stopped) (srcOf i 5) (s1.modS i (fun x => { x with stopped := true }))

/-- A write of RUN = 0: the setter stops at the next instruction boundary. One that is between instructions stops now; one
whose instruction is in progress, and one that is writing its own register, when that instruction completes (R67, R123). -/
def stopRequest (i : SetterId) (own : Bool) (s : State) : State :=
  let x := s.st i
  if x.stopped then s.modS i (fun x => { x with run := false })
  else if own || x.again || x.wait != .none then s.modS i (fun x => { x with run := false })
  else stopSetter i id s

/-- A write of SET_CTRL (R39, R59, R67). `own`: by the setter itself. A write of FEN = 1 that is refused is ignored whole. DESIGN
CHOICE (log 32): STEP = 1 written with RUN = 1 or SRST = 1 is ignored; R67 does not say which of them wins. -/
def writeCtrl (i : SetterId) (own : Bool) (v : Word) (nets : BitVec 256) (s : State) : State :=
  if v.getLsbD 3 && (s.st i).fenBad then s.modS i (fun x => { x with cfgerr := true }) else
  let s1 := s.modS i (fun x =>
    ({ x with dbgfrz := v.getLsbD 8, ovrtrap := v.getLsbD 6, systrap := v.getLsbD 5, ovrpol := v.getLsbD 4 }.putFen
      (v.getLsbD 3)).seeTb s.irs.tbvalid)
  let stopped := (s.st i).stopped
  let snap := sampleTaps i nets s
  let s2 :=
    if v.getLsbD 0 then
      (if stopped then startSetter i snap true s1 else s1.modS i (fun x => { x with run := true }))
    else stopRequest i own s1
  if v.getLsbD 31 then srst i snap s2
  else if v.getLsbD 7 && stopped && !v.getLsbD 0 then startSetter i snap false s2
  else s2

/-- SET_CTRL as it reads. -/
def ctrlWord (x : Setter) : Word :=
  flagAt 8 x.dbgfrz ||| flagAt 6 x.ovrtrap ||| flagAt 5 x.systrap ||| flagAt 4 x.ovrpol ||| flagAt 3 x.fen ||| flagAt 0 x.run

/-- SET_STATUS as it reads. -/
def statusWordS (x : Setter) : Word :=
  let ewait := match x.wait with
    | .wev _ _ _ => true
    | _ => false
  let fwait := match x.wait with
    | .frame _ => true
    | _ => false
  flagAt 10 x.swapped ||| flagAt 9 x.cfgerr ||| flagAt 8 x.tblost ||| flagAt 7 x.ovr ||| flagAt 6 ewait ||| flagAt 5 fwait
    ||| flagAt 4 x.tm ||| flagAt 3 x.dbltrap ||| flagAt 2 x.bkpt ||| flagAt 1 x.halted ||| flagAt 0 x.stopped

/-- SET_TMCTLt as it reads. -/
def timerWord (t : Timer) : Word :=
  flagAt 8 t.trap ||| flagAt 7 t.done ||| flagAt 6 t.running ||| flagAt 5 t.inp ||| flagAt 4 t.base ||| valAt 0 t.mode.toNat

/-! ### Reads -/

/-- A read of SET_PMDATA: ECC as a fetch, and the address moves on (R69). -/
def readPm (i : SetterId) (s : State) : Option (Word × State) :=
  let x := s.st i
  let a := x.pmaddr.toNat
  let w := (kvGet x.prog a).getD 0
  let y := { x with pmaddr := x.pmaddr + 1 }
  match kvGet x.progErr a with
  | some .double => none
  | some .single => some (w, raise (srcOf i 3) (s.putS i { y with progErr := kvDel a x.progErr }))
  | none => some (w, s.putS i y)

/-- A read of the data memory window at byte address a (R69). -/
def readData (i : SetterId) (a : Nat) (s : State) : Option (Word × State) :=
  let x := s.st i
  let w := memWord x.data a
  match kvGet x.dataErr (a / 4) with
  | some .double => none
  | some .single => some (w, raise (srcOf i 3) (s.putS i { x with dataErr := kvDel (a / 4) x.dataErr }))
  | none => some (w, s)

/-- Timer registers: SET_TMCTLt, SET_TMPRESETt, SET_TMCOUNTt. -/
def readTimer (t : Timer) (sub : Nat) : Option Word :=
  match sub with
  | 0 => some (timerWord t)
  | 4 => some t.preset
  | 8 => some t.count
  | _ => none

/-- A read that changes nothing. -/
def peekS (s : State) (w : Option Word) : Option (Word × State) := w.map (fun w => (w, s))

/-- A read of the setter block at an offset (R10, R70); `rec` is what hardware records in the same cycle (R407). -/
def readSet (i : SetterId) (off : Nat) (rec : Word) (s : State) : Option (Word × State) :=
  let x := s.st i
  if off % 4 ≠ 0 then none
  else if 0x8000 ≤ off then readData i (off - 0x8000) s
  else if 0x360 ≤ off then none
  else if 0x340 ≤ off then peekS s (some (slice32 x.obuf ((off - 0x340) / 4)))
  else if 0x320 ≤ off then peekS s (some (slice32 x.prev ((off - 0x320) / 4)))
  else if 0x300 ≤ off then peekS s (some (slice32 x.snap ((off - 0x300) / 4)))
  else if 0x280 ≤ off then none
  else if 0x200 ≤ off then peekS s ((nth x.timers ((off - 0x200) / 16)).bind (fun t => readTimer t (off % 16)))
  else if 0x140 ≤ off then none
  else if 0x100 ≤ off then peekS s (nth x.g ((off - 0x100) / 4))
  else match off with
    | 0x00 => peekS s (some (ctrlWord x))
    | 0x04 => peekS s (some (statusWordS x))
    | 0x08 => peekS s (some (x.pc.setWidth 32))
    | 0x0C => peekS s (some ((flagsBits x.flags).setWidth 32))
    | 0x10 => peekS s (some x.fsrc)
    | 0x14 => peekS s (some x.fperiod)
    | 0x18 => peekS s (some x.ftb)
    | 0x1C => peekS s (some x.fcnt)
    | 0x20 => some (valAt 16 x.missed.toNat ||| valAt 0 x.overruns.toNat,
        s.putS i { x with missed := recField rec 16 16, overruns := recField rec 16 0 })
    | 0x24 => peekS s (some (x.scanLast.setWidth 32))
    | 0x28 => some (x.scanMax.setWidth 32, s.putS i { x with scanMax := recField rec 24 0 })
    | 0x34 => peekS s (some (valAt 8 x.causeSub.toNat ||| valAt 0 x.causeVec.toNat))
    | 0x38 => peekS s (some (x.epc.setWidth 32))
    | 0x3C => peekS s (some x.eaddr)
    | 0x40 => peekS s (some (x.eflags.setWidth 32))
    | 0x44 => peekS s (some 0)
    | 0x48 => peekS s (some x.evl)
    | 0x4C => peekS s (some (x.tag.setWidth 32))
    | 0x50 => peekS s (some (valAt 16 x.bdepth.toNat ||| x.bstk.setWidth 32))
    | 0x58 => peekS s (some (slice32 x.acc 0))
    | 0x5C => peekS s (some (slice32 x.acc 1))
    | 0x60 => peekS s (some x.bkpt0)
    | 0x64 => peekS s (some x.bkpt1)
    | 0x68 => peekS s (some (x.pmaddr.setWidth 32))
    | 0x6C => readPm i s
    | _ => none

/-! ### Writes -/

/-- A write to a state register of R68: only while the setter is stopped. -/
def stateWrite (i : SetterId) (s : State) (f : Setter → Setter) : Option State :=
  if (s.st i).stopped then some (s.modS i f) else none

/-- A write to a timer's registers (R68, R98, R123). COUNT is read-only: a write that a stopped setter's state admits changes
nothing. -/
def writeTimer (i : SetterId) (t : TimerId) (sub : Nat) (v : Word) (s : State) : Option State :=
  match sub with
  | 0 => stateWrite i s (fun x => { x with timers := updf x.timers t (fun u => u.setup (field v 1 0) (v.getLsbD 4) (v.getLsbD 8)) })
  | 4 => stateWrite i s (fun x => { x with timers := updf x.timers t (fun u => { u with preset := v }) })
  | 8 => stateWrite i s id
  | _ => none

/-- A write of SET_PMDATA (R69): only while stopped, and only where the image allows it; fresh ECC, and the address moves
on. -/
def writePm (i : SetterId) (v : Word) (s : State) : Option State :=
  let x := s.st i
  if x.stopped && x.dbgwr then
    some (s.putS i { x with prog := kvPut wordDrop x.pmaddr.toNat v x.prog, progErr := kvDel x.pmaddr.toNat x.progErr,
                            pmaddr := x.pmaddr + 1 })
  else none

/-- A write by master m to the setter block at an offset; none is a bus error (R10, R59, R67 to R70, R123). -/
def writeSet (m : Nat) (i : SetterId) (off : Nat) (v : Word) (e : WriteEnv) (s : State) : Option State :=
  let chg (f : Setter → Setter) : Option State := some (s.modS i f)
  let frame (r : FrameReg) : Option State := chg (fun x => (x.putFrameReg r v).seeTb s.irs.tbvalid)
  if off % 4 ≠ 0 then none
  else if 0x8000 ≤ off then
    stateWrite i s (fun x => { x with data := memPutWord x.data (off - 0x8000) v, dataErr := kvDel ((off - 0x8000) / 4) x.dataErr })
  else if 0x360 ≤ off then none
  else if 0x340 ≤ off then stateWrite i s (fun x => { x with obuf := putSlice32 x.obuf ((off - 0x340) / 4) v })
  else if 0x300 ≤ off then some s
  else if h : 0x200 ≤ off ∧ off < 0x280 then writeTimer i ⟨(off - 0x200) / 16, by omega⟩ (off % 16) v s
  else if 0x140 ≤ off then none
  else if h : 0x100 ≤ off ∧ off < 0x140 then stateWrite i s (fun x => { x with g := upd x.g ⟨(off - 0x100) / 4, by omega⟩ v })
  else match off with
    | 0x00 => some (writeCtrl i (decide (m = i.val)) v e.nets s)
    | 0x04 => chg (fun x => { x with swapped := x.swapped && !v.getLsbD 10, cfgerr := x.cfgerr && !v.getLsbD 9,
                                     ovr := x.ovr && !v.getLsbD 7, bkpt := x.bkpt && !v.getLsbD 2 })
    | 0x08 => stateWrite i s (fun x => { x with pc := field v 13 0 })
    | 0x0C => stateWrite i s (fun x => { x with flags := flagsOf (field v 5 0) })
    | 0x10 => frame .fsrc
    | 0x14 => frame .fperiod
    | 0x18 => frame .ftb
    | 0x40 => chg (fun x => { x with eflags := field v 5 0 })
    | 0x44 => if m = i.val then chg (fun x => x.trapRet v) else none
    | 0x48 => chg (fun x => { x with evl := x.evl &&& ~~~v })
    | 0x4C => stateWrite i s (fun x => { x with tag := field v 7 0 })
    | 0x50 => stateWrite i s (fun x =>
        { x with bstk := field v 15 0, bdepth := if (field v 20 16).toNat ≤ 16 then field v 20 16 else x.bdepth })
    | 0x58 => stateWrite i s (fun x => { x with acc := putSlice32 x.acc 0 v })
    | 0x5C => stateWrite i s (fun x => { x with acc := putSlice32 x.acc 1 v })
    | 0x60 => chg (fun x => { x with bkpt0 := v &&& 0x80003FFF#32 })
    | 0x64 => chg (fun x => { x with bkpt1 := v &&& 0x80003FFF#32 })
    | 0x68 => chg (fun x => { x with pmaddr := field v 13 0 })
    | 0x6C => writePm i v s
    | 0x1C => some s
    | 0x20 => some s
    | 0x24 => some s
    | 0x28 => some s
    | 0x34 => some s
    | 0x38 => some s
    | 0x3C => some s
    | _ => none

/-! ### Rows that act on the setter itself -/

/-- HELD_TRAP_ENTRY (R64, R65): a held cause is taken at an instruction boundary once TM is 0. -/
def execHeldTrapEntry (s : SetterId) (st : State) : Host.Outcome State Fault Refusal :=
  .next (let x := st.st s
    if !x.issues || x.again || x.tm then st
    else match x.nextHeld with
      | some c => takeHeld s c st
      | none => st)

/-! ### Ticks of the three timed sources (R48 to R55) -/

/-- The setter's frame timer runs: FEN, its source or the loss of its time base, a period, not frozen (R49, R54, R55, R61). -/
def Setter.frameTimerRuns (x : Setter) (tbvalid : Bool) : Bool :=
  x.fen && (x.src == 0 || (x.src == 3 && (x.tblost || !tbvalid))) && !periodBad x.fperiod && !(x.stopped && x.dbgfrz)

/-- FRAME_TIMER_TICK (R49, R54, R55). -/
def execFrameTimerTick (s : SetterId) (nets : BitVec 256) (st : State) : Host.Outcome State Fault Refusal :=
  .next (if (st.st s).frameTimerRuns st.irs.tbvalid then tickSetter s (sampleTaps s nets st) st else st)

/-- The setter of a wing. -/
def wingSetter (w : Wing) (j : Fin 4) : SetterId := ⟨w.val * 4 + j.val, by omega⟩

/-- GLB_WTICKw as it stands. -/
def wtickOf (s : State) (w : Wing) : Word := s.glb.wtick.get w

/-- WING_TICK (R50): every setter of the wing with SRC = 1 takes it on one strobe edge. -/
def execWingTick (w : Wing) (nets : List (BitVec 256)) (st : State) : Host.Outcome State Fault Refusal :=
  .next (let g := wtickOf st w
    if g.getLsbD 31 && field g 15 0 != 0 then
      (List.finRange 4).foldl (fun t j =>
        let i := wingSetter w j
        if (t.st i).fen && (t.st i).src == 1 then tickSetter i (sampleTaps i (nets.getD j.val 0) st) t else t) st
    else st)

/-- The time-base instant t, in µs, is one of the setter's ticks (R53). -/
def Setter.onGrid (x : Setter) (t : Nat) : Bool :=
  let p := (field x.ftb 15 0).toNat
  let ph := (field x.ftb 31 16).toNat
  x.fen && x.src == 3 && decide (0 < p) && decide ((t + p - ph % p) % p = 0)

/-- A time-base tick reaches one setter, whose input taps sample v. One that ticks locally joins the grid only at a tick at least PERIOD/2 after its
last local one; whether this tick is that late is free (R54, log 1). -/
def baseTick (i : SetterId) (t : Nat) (v : BitVec 256) (s : State) : State :=
  let x := s.st i
  if !x.onGrid t then s
  else if !x.tblost then tickSetter i v s
  else
    let s1 := s.usedFree
    if Config.freeLevel s.free then tickSetter i v (s1.modS i (fun x => { x with tblost := false })) else s1

/-- TIME_BASE_TICK (R53, R54): every setter of the device whose grid holds the instant. -/
def execTimeBaseTick (t : Nat) (nets : List (BitVec 256)) (st : State) : Host.Outcome State Fault Refusal :=
  .next (if st.irs.tbvalid then
      (List.finRange 16).foldl (fun s i => baseTick i t (sampleTaps i (nets.getD i.val 0) st) s) st
    else st)

end Sys2Proof.Machine
end

