-- ==== Sys2Proof/Machine/Events.lean ====
section
/-! DEFINITION. The event controller's registers (R25 to R31). -/

namespace Sys2Proof.Machine

/-- A route or notification word of 0 is not listed. -/
def putRoute (n : Nat) (v : Word) (s : State) : State :=
  { s with evt := { s.evt with route := kvPut wordDrop n (v &&& 0x00FFFFFF#32) s.evt.route } }

/-- Write EVT_NOTEn. -/
def putNote (n : Nat) (v : Word) (s : State) : State :=
  { s with evt := { s.evt with note := kvPut wordDrop n (v &&& 0x0FFFFFFF#32) s.evt.note } }

/-- The numbers that are never raised (R25). -/
def reservedSource (n : Nat) : Bool :=
  (decide (494 ≤ n) && decide (n ≤ 511)) || (decide (556 ≤ n) && decide (n ≤ 575)) || (decide (595 ≤ n) && decide (n ≤ 607))
    || decide (625 ≤ n)

/-- Write EVT_PENDk: the written ones clear; a raise in the same cycle leaves its bit at 1 and delivers once (R8, R27). The raise is
passed in, since that of a sensor source can wake the device (R31). -/
def writePend (rz : Nat → State → State) (k : Nat) (v raised : Word) (s : State) : State :=
  (List.range 32).foldl (fun t i =>
      if raised.getLsbD i && !reservedSource (32 * k + i) then rz (32 * k + i) t else t)
    { s with evt := { s.evt with pend := nthUpd s.evt.pend k (· &&& ~~~v) } }

/-- A read of the event controller's block. -/
def readEvt (off : Nat) (s : State) : Option (Word × State) :=
  if off % 4 ≠ 0 then none
  else if off = 0x10 then peekS s (some 0)
  else if 0x100 ≤ off ∧ off < 0x150 then peekS s (nth s.evt.pend ((off - 0x100) / 4))
  else if 0x1000 ≤ off ∧ off < 0x1A00 then peekS s (some (routeOf s ((off - 0x1000) / 4)))
  else if 0x2000 ≤ off ∧ off < 0x2A00 then peekS s (some (noteOf s ((off - 0x2000) / 4)))
  else none

/-- A write to the event controller's block (R26, R27, R30). Software may raise any number below 640 (R26). -/
def writeEvt (rz : Nat → State → State) (off : Nat) (v : Word) (e : WriteEnv) (s : State) : Option State :=
  if off % 4 ≠ 0 then none
  else if off = 0x10 then
    some (if (field v 9 0).toNat < 640 then rz (field v 9 0).toNat s else s)
  else if 0x100 ≤ off ∧ off < 0x150 then some (writePend rz ((off - 0x100) / 4) v e.raised s)
  else if 0x1000 ≤ off ∧ off < 0x1A00 then some (putRoute ((off - 0x1000) / 4) v s)
  else if 0x2000 ≤ off ∧ off < 0x2A00 then some (putNote ((off - 0x2000) / 4) v s)
  else none

end Sys2Proof.Machine
end

