-- ==== Sys2Proof/Machine/Bays.lean ====
section
/-! DEFINITION. Bays as commands meet them: the live-mask checker (R143), bay joints (R139, R140), regional clocks (R150,
R151), regional resets (R152), plumb probes (R153, R154), the bay registers, and the identity and global block (R23, R51). -/

namespace Sys2Proof.Machine

/-! ### Live-mask checker -/

/-- An odd number of a mask's 17 bits is 1: the parity does not match (R141, R143). -/
def maskBad (m : BitVec 17) : Bool := xor (parity16 (field m 15 0)) (m.getLsbD 16)

/-- The setter that owns a course's live cell (R141). -/
def ownerSetter (b : BayId) (x : Bay) (course : Nat) : Nat := b.val / 16 * 4 + ownerOf x course

/-- A mask found in error: LPERR, CELL, COUNT; not reported again until written (R143). -/
def Bay.report (x : Bay) (course : Nat) : Bay :=
  { x with lperr := true, lpCell := if x.lperr then x.lpCell else BitVec.ofNat 12 (course * 16 + 15),
           lpCount := BitVec.ofNat 8 (satAdd 8 x.lpCount.toNat 1), lrep := x.lrep ++ [course] }

/-- LIVE_MASK_CHECK (R143): the checker visits its course and moves on; it checks nothing in a bay that is held, isolated or
gated, and does not run before the global release. -/
def execLiveMaskCheck (b : BayId) (st : State) : Host.Outcome State Fault Refusal :=
  .next (if st.img.hold then st else
    let x := st.bay b
    let c := x.chk.toNat
    let s1 := st.modBay b (fun y => { y with chk := y.chk + 1 })
    if x.runs && maskBad (maskOf x c) && !x.lrep.contains c then
      reportFault 5 b.val 1 (raise (256 + 8 * ownerSetter b x c + 2) (s1.modBay b (·.report c)))
    else s1)

/-! ### Bay joints -/

/-- The orthogonal neighbour, when the grid has one (R139). Rows rise downwards. -/
def neighbour (b : Nat) (d : Dir) : Option Nat :=
  match d with
  | .left => if bayCol b = 0 then none else some (bayAt (bayCol b - 1) (bayRow b))
  | .right => if bayCol b = 7 then none else some (bayAt (bayCol b + 1) (bayRow b))
  | .up => if bayRow b = 0 then none else some (bayAt (bayCol b) (bayRow b - 1))
  | .down => if bayRow b = 7 then none else some (bayAt (bayCol b) (bayRow b + 1))

/-- The place of a joint in Bay.joints. -/
def jointNo (d : Dir) (j : Fin 8) : Nat :=
  (match d with
    | .left => 0
    | .right => 8
    | .up => 16
    | .down => 24) + j.val

/-- Change a joint. -/
def modJoint (b : BayId) (n : Nat) (f : Joint → Joint) (s : State) : State :=
  s.modBay b (fun x => { x with joints := nthUpd x.joints n f })

/-- The regional clock on which a joint out of a bay presents its word runs: no edge falls before the global release, nor on a clock that
stands (R140, R164). -/
def sendEdge (s : State) (b : BayId) (n : Nat) : Bool :=
  (s.bay b).runs && !s.img.hold && clkRuns s b (Config.jointClk (latches s b.val) n)

/-- The regional clock on which a joint lands in bay d runs. -/
def landEdge (s : State) (d n : Nat) : Bool := !s.img.hold && clkRuns s (Fin.ofNat 64 d) (Config.jointInClk (latches s d) n)

/-- BAY_JOINT_SEND (R140): taken on an edge of its clock, only if BUSY was 0; ignored otherwise, and on an edge of the grid. -/
def execBayJointSend (b : BayId) (dir : Dir) (j : Fin 8) (v : Word) (st : State) : Host.Outcome State Fault Refusal :=
  .next (match neighbour b.val dir with
    | none => st
    | some _ =>
      if sendEdge st b (jointNo dir j) then
        modJoint b (jointNo dir j) (fun x => if x.busy then x else { x with busy := true, flight := some v }) st
      else st)

/-- BAY_JOINT_ARRIVAL (R140): the word in flight lands in the output register; a bay that does not run acknowledges and discards
it (R292, R334). -/
def execBayJointArrival (b : BayId) (dir : Dir) (j : Fin 8) (st : State) : Host.Outcome State Fault Refusal :=
  .next (match (neighbour b.val dir).bind (fun d => (st.bayN d).map (fun x => (d, x))) with
    | none => st
    | some (d, x) =>
      if x.runs && !landEdge st d (jointNo dir j) then st
      else if x.runs then
        modJoint b (jointNo dir j) (fun x =>
          match x.flight with
          | some v => { x with flight := none, out := v, arrived := true, ack := true }
          | none => x) st
      else modJoint b (jointNo dir j) (fun x => if x.flight.isSome then { x with flight := none, ack := true } else x) st)

/-- BAY_JOINT_ACK (R140): the acknowledgement clears BUSY on the source edge where it lands. -/
def execBayJointAck (b : BayId) (dir : Dir) (j : Fin 8) (st : State) : Host.Outcome State Fault Refusal :=
  .next (if !clkRuns st b (Config.jointClk (latches st b.val) (jointNo dir j)) then st else
    modJoint b (jointNo dir j) (fun x => if x.ack then { x with busy := false, ack := false } else x) st)

/-! ### Regional clocks -/

/-- A write to a regional clock (R151): held while BUSY; a new line starts a switch. DESIGN CHOICE (log 33): one write is held, and a
later one takes its place; the spec says only that a write is held. -/
def RClk.write (c : RClk) (v : Word) : RClk :=
  if c.busy then { c with heldW := some v }
  else { c with en := v.getLsbD 31, div := field v 7 4, sel := field v 2 0, busy := field v 2 0 != c.sel }

/-- BUSY falls, and a write that waited lands (R151). -/
def RClk.settled (c : RClk) : RClk :=
  match c.heldW with
  | some v => RClk.write { c with busy := false, heldW := none } v
  | none => { c with busy := false }

/-- The switch completes: the divider starts in a phase that the rules do not state (R150, R151, log 35). -/
def RClk.switched (phase : Nat) (c : RClk) : RClk :=
  RClk.settled { c with cnt := BitVec.ofNat 4 (phase % (c.div.toNat + 1)) }

/-- The clock as a global release or a wake starts it: what the image, or a write held meanwhile, gives it, no switch in progress, its first
rising edge on the next of its line (R150, R151). -/
def RClk.released (c : RClk) : RClk := { RClk.settled c with busy := false, cnt := 0 }

/-- REGIONAL_CLOCK_SWITCH_DONE (R151): while the new line does not run the switch goes on. -/
def execRegionalClockSwitchDone (b : BayId) (n : Fin 4) (st : State) : Host.Outcome State Fault Refusal :=
  .next (let c := (st.bay b).rclk.get n
    if c.busy && lineRuns st (b.val / 16) c.sel.toNat then
      (st.modBay b (fun x => { x with rclk := updf x.rclk n (RClk.switched (Config.freeCost st.free)) })).usedFree
    else st)

/-- BAY_RCLKn as it reads. -/
def RClk.word (c : RClk) : Word := flagAt 31 c.en ||| flagAt 30 c.busy ||| valAt 4 c.div.toNat ||| valAt 0 c.sel.toNat

/-! ### Regional resets -/

/-- The bit of a source in Bay.rstSrc. -/
def rstBit : ResetSource → Nat
  | .loadHold => 0
  | .software => 1
  | .userNet => 2
  | .reinit => 3

/-- Flip-flops that no longer hold the plane's INIT once reset tree n asserts: those on it with RSTEN take INIT as the latches have it
(R133, R138). -/
def resetFfs (s : State) (b : Nat) (x : Bay) (n : Nat) : List Nat :=
  let on (c : Nat) : Bool := let g := Config.cellCfg (latches s b) c; g.rsten && g.clk % 4 == n
  if x.upset.isEmpty then x.ffs.filter (fun c => !on c)
  else (List.range 4096).filter (fun c =>
    if on c then (Config.cellCfg (latches s b) c).init != (Config.cellCfg (planeLatches s b) c).init else x.ffs.contains c)

/-- Reset tree n asserts: flip-flops with RSTEN take INIT, MAC blocks on its clock clear (R133, R149, R152). -/
def assertTree (s : State) (b n : Nat) (x : Bay) : Bay :=
  { x with tree := setBit x.tree n true, ffs := resetFfs s b x n,
           mac := Vector.ofFn (fun k : Fin 4 =>
             if (Config.macCfg (latches s b) k.val).clk % 4 = n then MacBlock.reset else x.mac.get k) }

/-- A source asserts tree n (R152). -/
def assertReset (b : BayId) (n : Nat) (src : ResetSource) (s : State) : State :=
  s.modBay b (fun x => assertTree s b.val n { x with rstSrc := nthUpd x.rstSrc n (fun w => setBit w (rstBit src) true) })

/-- A write of BAY_RST.SW: a bit set asserts its tree at once; a bit cleared clears that source (R152). -/
def writeRst (b : BayId) (v : BitVec 4) (s : State) : State :=
  (List.range 4).foldl (fun t n =>
    if v.getLsbD n then assertReset b n .software t
    else t.modBay b (fun x => { x with rstSrc := nthUpd x.rstSrc n (fun w => setBit w 1 false) }))
    (s.modBay b (fun x => { x with rstSw := v }))

/-- REGIONAL_RESET_ASSERT (R152). Software's source is BAY_RST.SW[n]. -/
def execRegionalResetAssert (b : BayId) (n : Fin 4) (src : ResetSource) (st : State) : Host.Outcome State Fault Refusal :=
  .next (assertReset b n.val src
    (if src = .software then st.modBay b (fun x => { x with rstSw := setBit x.rstSw n.val true }) else st))

/-- The source still asserts: the load hold before the global release, software's bit. -/
def stillAsserted (s : State) (b : BayId) (n : Nat) (src : ResetSource) : Bool :=
  match src with
  | .loadHold => s.img.hold
  | .software => (s.bay b).rstSw.getLsbD n
  | .userNet => false
  | .reinit => (s.bay b).held || (s.bay b).isol || (s.bay b).gated

/-- REGIONAL_RESET_RELEASE (R152): the source has cleared; with no source left the tree deasserts, on a clock that runs. -/
def execRegionalResetRelease (b : BayId) (n : Fin 4) (src : ResetSource) (st : State) : Host.Outcome State Fault Refusal :=
  .next (if stillAsserted st b n.val src then st else
    let s1 := st.modBay b (fun x => { x with rstSrc := updf x.rstSrc n (fun w => setBit w (rstBit src) false) })
    if (s1.bay b).rstSrc.get n == 0 && clkRuns s1 b n then s1.modBay b (fun x => { x with tree := setBit x.tree n.val false })
    else s1)

/-! ### Bay registers -/

/-- BAY_LOWNk as it reads. -/
def lownWord (x : Bay) (k : Nat) : Word :=
  (List.range 16).foldl (fun w j => w ||| valAt (2 * j) (ownerOf x (16 * k + j))) 0

/-- A read of a bay's block (R143, R407). -/
def readBay (b : BayId) (off : Nat) (rec : Word) (s : State) : Option (Word × State) :=
  let x := s.bay b
  if off % 4 ≠ 0 then none
  else if off = 0 then peekS s (some (flagAt 7 x.gated ||| flagAt 6 x.isol ||| flagAt 5 x.held ||| flagAt 4 x.lperr))
  else if 0x10 ≤ off ∧ off < 0x20 then peekS s ((nth x.rclk ((off - 0x10) / 4)).map RClk.word)
  else if off = 0x20 then peekS s (some (x.rstSw.setWidth 32))
  else if off = 0x24 then
    some (valAt 12 x.lpCount.toNat ||| x.lpCell.setWidth 32, s.modBay b (fun y => { y with lpCount := recField rec 8 12 }))
  else if 0x40 ≤ off ∧ off < 0x60 then peekS s (nth x.probe ((off - 0x40) / 4))
  else if 0x100 ≤ off ∧ off < 0x140 then peekS s (some (lownWord x ((off - 0x100) / 4)))
  else if 0x1000 ≤ off ∧ off < 0x1400 then peekS s (some ((maskOf x ((off - 0x1000) / 4)).setWidth 32))
  else none

/-- A write to a bay's block (R143, R151 to R153). -/
def writeBay (b : BayId) (off : Nat) (v : Word) (s : State) : Option State :=
  if off % 4 ≠ 0 then none
  else if off = 0 then some (if v.getLsbD 4 then s.modBay b (fun x => { x with lperr := false }) else s)
  else if 0x10 ≤ off ∧ off < 0x20 then
    some (s.modBay b (fun x => { x with rclk := nthUpd x.rclk ((off - 0x10) / 4) (·.write v) }))
  else if off = 0x20 then some (writeRst b (field v 3 0) s)
  else if off = 0x24 then some s
  else if 0x40 ≤ off ∧ off < 0x60 then
    some (s.modBay b (fun x => { x with probe := nthUpd x.probe ((off - 0x40) / 4) (fun _ => v &&& 0x80001FFF#32) }))
  else if 0x100 ≤ off ∧ off < 0x140 then some s
  else if 0x1000 ≤ off ∧ off < 0x1400 then some s
  else none

/-! ### A probe selection (R376, R377) -/

/-- The bay that a selection of ZPROBESEL names. -/
def selBay (v : Word) : BayId := ⟨(field v 29 24).toNat, (field v 29 24).isLt⟩

/-- BAY_PROBEn as a selection writes it. -/
def probeValue (v : Word) : Word := (v &&& 0x80000FFF#32) ||| flagAt 12 (v.getLsbD 30)

/-- A selection lands in BAY_PROBEn. -/
def putProbe (v : Word) (s : State) : State := (writeBay (selBay v) (0x40 + 4 * (field v 23 21).toNat) (probeValue v) s).getD s

/-! ### Identity and global block -/

/-- A read of MMARK or a GLB register. -/
def readGlb (off : Nat) (s : State) : Option (Word × State) :=
  if off = 0 then peekS s (some mmark)
  else if off = 4 then peekS s (some (slice32 Config.serial 0))
  else if off = 8 then peekS s (some (slice32 Config.serial 1))
  else if off % 4 ≠ 0 then none
  else if 0x100 ≤ off ∧ off < 0x110 then peekS s (nth s.glb.wtick ((off - 0x100) / 4))
  else if 0x200 ≤ off ∧ off < 0x300 then
    peekS s ((nth s.glb.wprobe ((off - 0x200) / 0x40)).bind (fun r => nth r ((off - 0x200) % 0x40 / 4)))
  else none

/-- A write of GLB_WTICKw: a PERIOD of 0 is ignored and EN is taken (R50, R51). -/
def wtickWrite (old v : Word) : Word :=
  (v &&& 0x80000000#32) ||| (if field v 15 0 = 0 then old &&& 0xFFFF#32 else v &&& 0xFFFF#32)

/-- A write to the identity and global block. -/
def writeGlb (off : Nat) (v : Word) (s : State) : Option State :=
  if off % 4 ≠ 0 then none
  else if off < 12 then some s
  else if 0x100 ≤ off ∧ off < 0x110 then
    some { s with glb := { s.glb with wtick := nthUpd s.glb.wtick ((off - 0x100) / 4) (fun o => wtickWrite o v) } }
  else if 0x200 ≤ off ∧ off < 0x300 then
    let row (r : Vector Word 16) : Vector Word 16 := nthUpd r ((off - 0x200) % 0x40 / 4) (fun _ => v &&& 0x8000007F#32)
    some { s with glb := { s.glb with wprobe := nthUpd s.glb.wprobe ((off - 0x200) / 0x40) row } }
  else none

end Sys2Proof.Machine
end

