-- ==== Sys2Proof/Machine/Slices.lean ====
section
/-! DEFINITION. The self-test catalogue and the end of a slice: result records, outcomes and what a block holds afterwards
(R357 to R360, R363, R367, R368). -/

namespace Sys2Proof.Machine

/-- The units of a test on a block, none where the test does not apply to it (R358, R359). -/
def testUnits (b : TestBlock) (test : Nat) : Option Nat :=
  match b, test with
  | .bay _, 1 => some 64
  | .bay _, 2 => some 1
  | .bay _, 3 => some 1
  | .setter _, 4 => some 16
  | .bank _, 5 => some 1
  | .wing _, 6 => some 1
  | .adc, 7 => some 1
  | .chain, 8 => some 1
  | .store, 9 => some 127
  | _, _ => none

/-- PATTERNS of a completed slice (R367); for BAYANA, which the rule does not name, none. -/
def testPatterns (test count : Nat) : Option Nat :=
  match test with
  | 1 => some (1024 * count)
  | 3 => some 9216
  | 4 => some (1024 * count)
  | 5 => some 22
  | 6 => some 2
  | 7 => some 24
  | 8 => some 1024
  | 9 => some (4096 * count)
  | _ => none

/-- Cumulative coverage of patterns 0 to n − 1, in 0.1 % (R360): the printed points, else the factory page's. -/
def coverAt (test n : Nat) : BitVec 10 :=
  match test, n with
  | 1, 1024 => 635
  | 1, 4096 => 810
  | 1, 8192 => 875
  | 1, 16384 => 910
  | 1, 32768 => 940
  | 1, 65536 => 960
  | 4, 1024 => 700
  | 4, 4096 => 845
  | 4, 8192 => 900
  | 4, 16384 => 930
  | _, _ => Config.coverage test n

/-- COVER of a completed slice (R368). -/
def coverOf (test start count : Nat) (pass : Bool) : BitVec 10 :=
  if test = 1 ∨ test = 4 then coverAt test ((start + count) * 1024) else if pass then 1000 else 0

/-- The record of a slice. -/
def modRec (n : BitVec 8) (f : TestRec → TestRec) (s : State) : State :=
  { s with bst := { s.bst with res := nthUpd s.bst.res (n.toNat % 16) f } }

/-- A duration or count that no rule states: free (log 9). -/
def freeNat (s : State) (k : Nat) : Nat := Config.freeCost (s.free + k)

/-- INIT of each output tap from the tap map (R37). -/
def Setter.tapInit (x : Setter) : BitVec 256 := x.tapOut.foldl (fun v e => setBit v e.1 (e.2.getLsbD 0)) 0

/-- The setter after SETLOGIC: the reset state of R37, with the setter table's period and source and each output tap's INIT; its memories
as they were, RUN 0, SET_CTRL otherwise unchanged (R363); its image tables stay. -/
def Setter.afterTest (x : Setter) : Setter :=
  { Setter.softReset x with
    run := false, stopped := true, halted := false, isol := false, swapped := false, cfgerr := false, ovr := false,
    bkpt := false, scanLast := 0, scanMax := 0, bkpt0 := 0, bkpt1 := 0, pmaddr := 0, lutw := [], toutd := [],
    fsrc := x.tabFsrc, fperiod := x.tabFper, ftb := x.tabFtb,
    fsrcW := none, fperiodW := none, ftbW := none, needSnap := true, obuf := x.tapInit, olat := x.tapInit }

/-! ### Work and time (R359, R361, R367) -/

/-- Two windows of PLL p's comparison frequency, in µs as a fraction (R359); a disabled PLL's counters count the internal oscillator. -/
def pllWindows (s : State) (p : Nat) : Nat × Nat :=
  match nth s.clk.pll p with
  | some x => if x.en then (2048000 * x.rdiv, (fref s.clk.khz x.src).getD 50000) else (2048000, 50000)
  | none => (0, 1)

/-- The larger of two fractions. -/
def maxFrac (a b : Nat × Nat) : Nat × Nat := if a.1 * b.2 < b.1 * a.2 then b else a

/-- Work of one unit, in µs as a fraction (R359). DESIGN CHOICE (log 33): the two PLLs of a wing are counted at once, so that PLLCNT takes
the longer of their two works. -/
def unitWork (s : State) (b : TestBlock) (test : Nat) : Nat × Nat :=
  match b, test with
  | _, 1 => (1163, 10)
  | _, 2 => (20, 1)
  | _, 3 => (683, 10)
  | _, 4 => (1641, 10)
  | _, 5 => (5, 1)
  | .wing w, _ => (match maxFrac (pllWindows s (2 * w.val)) (pllWindows s (2 * w.val + 1)) with
    | (n, d) => (n + 2 * d, d))
  | _, 7 => (240, 1)
  | _, 8 => (245, 10)
  | _, _ => (1024, 10)

/-- The work of a slice: COUNT units (R361). -/
def sliceWork (s : State) (b : TestBlock) (v : Slice) : Nat × Nat :=
  match unitWork s b v.test.toNat with
  | (n, d) => (v.count.toNat * n, d)

/-- Re-initialisation of a block, in 0.01 µs: stated for a bay, at most 1 µs for another that was isolated (R361). -/
def reinitTime (s : State) (b : TestBlock) (test : Nat) : Nat :=
  match b with
  | .bay _ => if test = 3 then 3950 else 2654
  | .wing _ => 0
  | .adc => 0
  | _ => freeNat s 2 % 101

/-- Entry into isolation, in 0.01 µs: at most 0.5 µs, for a setter after its instruction in progress (R361). -/
def entryTime (s : State) (b : TestBlock) : Nat :=
  match b with
  | .setter _ => freeNat s 1
  | .wing _ => 0
  | .adc => 0
  | _ => freeNat s 1 % 51

/-- DURATION of a slice whose work took so long, in µs, rounded up (R361, R367). -/
def sliceTime (s : State) (b : TestBlock) (test : Nat) (work : Nat × Nat) : Nat :=
  (100 * work.1 + (entryTime s b + reinitTime s b test) * work.2 + (100 * work.2 - 1)) / (100 * work.2)

/-- DURATION: of a completed slice, and of one that its budget ended, its phases; else what has passed, which is free (R367, log 9). -/
def sliceDuration (s : State) (v : Slice) (outcome fin : BitVec 2) : Nat :=
  match sliceBlock s with
  | none => freeNat s 1
  | some b =>
    if outcome != 3 then sliceTime s b v.test.toNat (sliceWork s b v)
    else if fin = 1 then sliceTime s b v.test.toNat (s.bst.budget.toNat, 1)
    else freeNat s 1

/-- What FAILAT can name on a FAIL: a unit of the slice, a memory, a pin, a PLL (R368). DESIGN CHOICE (log 33): a PLL goes by its number
in the device, and a whole test that names none of these gives its one unit, 0. -/
def failAtOk (b : TestBlock) (v : Slice) (f : Nat) : Bool :=
  match b, v.test.toNat with
  | .bay _, 3 => decide (f < 9)
  | .bank _, _ => decide (f < 22)
  | .wing w, _ => f / 2 == w.val
  | _, _ => decide (v.start.toNat ≤ f) && decide (f < v.start.toNat + v.count.toNat)

/-- The slice in progress ends: its record completes and the controller is free (R367, R368). Sources 617, and 618 on FAIL,
are raised by the caller's row through this. -/
def finishRecord (outcome fin : BitVec 2) (failAt : BitVec 8) (s : State) : State :=
  match s.bst.slice with
  | none => s
  | some w =>
    let done := outcome != 3
    let pat := if done then (testPatterns w.test.toNat w.count.toNat).getD (freeNat s 0) else freeNat s 0
    let s1 := modRec w.recNo (fun r => { r with
      outcome := outcome, fin := fin, patterns := BitVec.ofNat 32 pat, failat := failAt,
      duration := BitVec.ofNat 16 (sliceDuration s w outcome fin),
      cover := if done then coverOf w.test.toNat w.start.toNat w.count.toNat (outcome == 1) else 0 }) s
    let s2 := raise 617 { s1 with bst := { s1.bst with slice := none }, free := s1.free + 3 }
    raiseIf (outcome == 2) 618 s2

end Sys2Proof.Machine
end

