-- ==== Sys2Proof/Machine/Io.lean ====
section
/-! DEFINITION. Pins: the bank registers, the safe values and HALT_N, the priority of pin controls (R156 to R163), and the VIO
of a bank (R384, R385). -/

namespace Sys2Proof.Machine

/-- Bank and index of pin p = bank × 22 + index. -/
def pinNo (k : Bank) (i : PinId) : Nat := k.val * 22 + i.val

/-- The driver is on. -/
def PinDrive.on (free : Bool) : PinDrive → Bool
  | .level _ => true
  | .free => free
  | _ => false

/-- IOB_PINi as it reads: HELD, OE and the input level (R157, R388, log 11). -/
def pinReadWord (s : State) (p : Nat) : Word :=
  let row := pinRow s p
  (pinWord s.io p &&& 0xFFFFFE00#32) ||| flagAt 2 (row == 2 || row == 3 || row == 6)
    ||| flagAt 1 ((pinDrive s p).on (Config.freeLevel s.free)) ||| flagAt 0 (pinLevel s p)

/-- HALT_N's safe values are in effect in a bank. -/
def haltActive (s : State) (k : Nat) : Bool := (List.range 22).any (fun i => pinRow s (k * 22 + i) == 3)

/-- A read of an I/O bank's block. -/
def readIob (k : Bank) (off : Nat) (s : State) : Option (Word × State) :=
  let b := s.io.bank.get k
  if off % 4 ≠ 0 then none
  else if off = 0 then
    peekS s (some (flagAt 31 (haltActive s k.val) ||| flagAt 8 b.vioerr ||| valAt 4 (b.band.getD 0).toNat
      ||| valAt 0 b.vio.toNat))
  else if off = 4 then peekS s (some b.serclk)
  else if 0x100 ≤ off ∧ off < 0x158 then
    some (pinReadWord s (k.val * 22 + (off - 0x100) / 4), (latchKeepers s).usedFree)
  else none

/-- The writable bits of IOB_PINi: SCHMITT, PULL, DRIVE and SLEW, and the locked fields until the global release (R8). -/
def pinMask (locked : Bool) : Word := if locked then 0x00023E00#32 else 0xFFFFFE00#32

/-- Change a bank. -/
def modBank (k : Bank) (f : IoBank → IoBank) (s : State) : State := { s with io := { s.io with bank := updf s.io.bank k f } }

/-- A write to an I/O bank's block (R8, R157). A keeper that a write enables finds what its ball holds (R388). -/
def writeIob (k : Bank) (off : Nat) (v : Word) (s : State) : Option State :=
  let lock := s.img.locked
  if off % 4 ≠ 0 then none
  else if off = 0 then some (if lock then s else modBank k (fun b => { b with vio := field v 1 0 }) s)
  else if off = 4 then some (if lock then s else modBank k (fun b => { b with serclk := v &&& 0x17#32 }) s)
  else if 0x100 ≤ off ∧ off < 0x158 then
    some (modBank k (fun b => { b with pin := nthUpd b.pin ((off - 0x100) / 4) (fun o => maskWrite (pinMask lock) o v) }) (latchKeepers s).usedFree)
  else none

/-- BITSLIP (R160): the deserialiser's word boundary moves by one bit of the ratio's word. -/
def execBitslip (k : Bank) (i : PinId) (st : State) : Host.Outcome State Fault Refusal :=
  .next (let ser := (field (pinCfg st (pinNo k i)) 21 20).toNat
    if ser = 0 then st
    else modBank k (fun b => { b with slip := updf b.slip i (fun n => BitVec.ofNat 3 ((n.toNat + 1) % 2 ^ ser)) }) st)

/-! ### HALT_N -/

/-- VIO4, which feeds the system balls, is present (R380). -/
def vio4 (s : State) : Bool := (s.io.bank.get 4).band.isSome

/-- A setter whose commits can return its pins (R162). -/
def Setter.runningNow (x : Setter) : Bool := x.run && !x.stopped && !x.dozed && !x.gated && !x.isol

/-- The pin's OWNER names a running setter (R162). -/
def ownedByRunning (s : State) (p : Nat) : Bool :=
  if h : pinOwner s.io (pinEntry s p) < 16 then (s.st ⟨pinOwner s.io (pinEntry s p), h⟩).runningNow else false

/-- Of the waiting pins, those owned by a running setter. -/
def keepOwned (s : State) (w : BitVec 132) : BitVec 132 :=
  (List.range 132).foldl (fun v p => if ownedByRunning s p then v else setBit v p false) w

/-- A PADLOOP slice stops under HALT_N: INCOMPLETE, END 3 (R366). -/
def haltSlice (s : State) : State :=
  match sliceBlock s with
  | some (.bank _) => finishRecord 3 3 0xFF s
  | _ => s

/-- HALT_N is released (R162): every pin stays safe until its return. -/
def haltOff (s : State) : State := raise 624 { s with io := { s.io with halt := false } }

/-- HALT_ASSERT (R162, R366); without VIO4 HALT_N is not sensed (R380). -/
def execHaltAssert (st : State) : Host.Outcome State Fault Refusal :=
  .next (if st.io.halt || !vio4 st then st
    else
      let s1 := (latchKeepers st).usedFree
      haltSlice (raise 623 { s1 with io := { s1.io with halt := true, haltW := BitVec.allOnes 132 } }))

/-- HALT_RELEASE (R162). -/
def execHaltRelease (st : State) : Host.Outcome State Fault Refusal :=
  .next (if st.io.halt then haltOff st else st)

/-- HALT_PIN_RETURN (R162, R291): 1 µs after a release of HALT_N, or of a hold, pins not owned by a running setter return; those that
HALT_N holds, not while it is asserted, and those of a hold, not before it has ended. -/
def execHaltPinReturn (st : State) : Host.Outcome State Fault Refusal :=
  .next { st with io := { st.io with
    haltW := if st.io.halt then st.io.haltW else keepOwned st st.io.haltW
    holdW := keepOwned st st.io.holdW } }

/-! ### VIO -/

/-- VIO_LOSS (R380, R384): the bank is in row 1; HALT_N, not sensed without VIO4, acts as released. -/
def execVioLoss (k : Bank) (st : State) : Host.Outcome State Fault Refusal :=
  .next (let s1 := (latchKeepers (modBank k (fun b => { b with band := none }) st)).usedFree
    if s1.io.halt && !vio4 s1 then haltOff s1 else s1)

/-- VIO_RETURN (R384, R385): the detector places the bank in a band, also one below that of its configuration; VIOERR does not change. -/
def execVioReturn (k : Bank) (band : BitVec 2) (st : State) : Host.Outcome State Fault Refusal :=
  .next (modBank k (fun b => { b with band := some band }) st)

end Sys2Proof.Machine
end

