-- ==== Sys2Proof/Machine/Clocks.lean ====
section
/-! DEFINITION. Clocks: the REFCLK monitor (R167), PLL settings (R168, R169), lock detection (R172 to R175, R178), output
starts and stops (R171), and the clock registers with the rules of R176. -/

namespace Sys2Proof.Machine

/-! ### PLL settings -/

/-- A setting that R168 admits: f_pfd, f_vco and every enabled output in range. DESIGN CHOICE (log 33): one on REFCLK of which the image
declares no frequency is not admitted; the spec gives no f_ref to check it with, and names only the load's error (R274). -/
def pllValid (khz : Option Nat) (x : Pll) : Bool :=
  match fref khz x.src with
  | none => false
  | some f =>
    decide (5000 * x.rdiv ≤ f) && decide (f ≤ 50000 * x.rdiv)
      && decide (800000 * x.rdiv ≤ f * x.ndiv) && decide (f * x.ndiv ≤ 1600000 * x.rdiv)
      && (List.range 4).all (fun o => !x.oen o || decide (f * x.ndiv ≤ 400000 * x.rdiv * x.odv o))

/-- Output 0 is 300 MHz (R169). -/
def pll300 (khz : Option Nat) (x : Pll) : Bool :=
  match fref khz x.src with
  | none => false
  | some f => f * x.ndiv == 300000 * x.rdiv * x.odv 0

/-- Change wing PLL p. -/
def modPll (p : Nat) (f : Pll → Pll) (s : State) : State :=
  { s with clk := { s.clk with pll := nthUpd s.clk.pll p f } }

/-! ### REFCLK monitor -/

/-- An unlock is declared: LOCK falls, UNLOCKED and the count (R172); with ULPOL = 1 in effect its running outputs are to stop (R171,
R174, R176). -/
def Pll.unlock (x : Pll) : Pll :=
  { x with lock := false, unlocked := true, ulcnt := BitVec.ofNat 16 (satAdd 16 x.ulcnt.toNat 1), good := 0,
           stopW := if x.ulpol then x.outs else x.stopW }

/-- A PLLCNT slice whose wing's PLL unlocks is to end in FAIL (R366). -/
def failPllTest (p : Nat) (s : State) : State :=
  match sliceBlock s with
  | some (.wing w) =>
    if w.val = p / 2 then
      { s with bst := { s.bst with slice := s.bst.slice.map (fun v =>
          { v with fail := some (BitVec.ofNat 8 (min p ((v.fail.map (·.toNat)).getD p))) }) } }
    else s
  | _ => s

/-- The declaration of an unlock of wing PLL p; the plinth hears of it (R172, R327), and a test of the PLL (R366). -/
def declareUnlock (p : Nat) (s : State) : State :=
  failPllTest p (reportFault 3 p 1 (raise (576 + p) (modPll p Pll.unlock s)))

/-- REFCLK is lost: every locked wing PLL on it is unlocked in the same cycle (R175). -/
def refLost (s : State) : State :=
  (List.range 8).foldl (fun t p =>
    match nth t.clk.pll p with
    | some x => if x.src && x.lock then declareUnlock p t else t
    | none => t)
    (raise 592 { s with clk := { s.clk with refok := false, reflost := true, goodWin := 0 } })

/-- REFCLK returns: the windows of PLLs on it restart (R175). -/
def refBack (s : State) : State :=
  { s with clk := { s.clk with refok := true, goodWin := 0,
                               pll := s.clk.pll.map (fun x => if x.src then { x with good := 0 } else x) } }

/-- REFEN. -/
def refen (s : State) : Bool := s.clk.refctl.getLsbD 0

/-- REFCLK_WINDOW (R167). The monitor stops in a brown-out save (R179). -/
def execRefclkWindow (edges : Nat) (st : State) : Host.Outcome State Fault Refusal :=
  .next (if !refen st || st.pwr.stage == .saved then st
    else if st.clk.refok then (if edges < 8 then refLost st else st)
    else if edges < 9 then { st with clk := { st.clk with goodWin := 0 } }
    else if 3 ≤ st.clk.goodWin then refBack st
    else { st with clk := { st.clk with goodWin := st.clk.goodWin + 1 } })

/-- REFCLK_MEAS_WINDOW (R167). With REFEN = 0 the receiver is off and nothing is counted. -/
def execRefclkMeasWindow (edges : BitVec 16) (st : State) : Host.Outcome State Fault Refusal :=
  .next (if st.pwr.stage == .saved then st
    else { st with clk := { st.clk with refmeas := if refen st then edges else 0 } })

/-! ### Lock detection -/

/-- diff of a window (R172). -/
def lockDiff (fb : Nat) : Int := fb - 1024

/-- |diff| is at most n. -/
def within (d : Int) (n : Nat) : Bool := decide (d.natAbs ≤ n)

/-- LASTDIFF: two's complement, clamped to −128 to +127. -/
def lastDiff (d : Int) : BitVec 8 := BitVec.ofInt 8 (clampInt d (-128) 127)

/-- A window of wing PLL p ends. A write of ULPOL takes effect here, after the window's own declaration (R172, R176). -/
def wingWindow (p : Nat) (fb : Nat) (s : State) : State :=
  match nth s.clk.pll p with
  | none => s
  | some x =>
    if !x.en || (x.src && !s.clk.refok) || !s.clk.devOn then s else
    let d := lockDiff fb
    let s1 := modPll p (fun x => { x with diff := lastDiff d }) s
    let s2 :=
      if x.lock then (if within d 3 then s1 else declareUnlock p s1)
      else if within d 1 then
        (if 3 ≤ x.good then raise (584 + p) (modPll p (fun x => { x with lock := true, good := 0 }) s1)
         else modPll p (fun x => { x with good := x.good + 1 }) s1)
      else modPll p (fun x => { x with good := 0 }) s1
    modPll p (fun x => { x with ulpol := x.ctrl.getLsbD 30 }) s2

/-- A window of the store PLL ends (R178). -/
def storePllWindow (fb : Nat) (s : State) : State :=
  let d := lockDiff fb
  let c := s.clk
  if !c.devOn then s
  else if c.slock then
    (if within d 3 then s
     else reportFault 3 8 1 (raise 593 { s with clk :=
       { c with slock := false, sgood := 0, sulcnt := BitVec.ofNat 8 (satAdd 8 c.sulcnt.toNat 1) } }))
  else if within d 1 then
    (if 3 ≤ c.sgood then { s with clk := { c with slock := true, sgood := 0 } }
     else { s with clk := { c with sgood := c.sgood + 1 } })
  else { s with clk := { c with sgood := 0 } }

/-- A window of the hod PLL ends (R178). -/
def hodPllWindow (fb : Nat) (s : State) : State :=
  let d := lockDiff fb
  let c := s.clk
  if !c.devOn then s
  else if c.hlock then
    (if within d 3 then s
     else reportFault 3 9 1 (raise 594 { s with clk :=
       { c with hlock := false, hgood := 0, hulcnt := BitVec.ofNat 8 (satAdd 8 c.hulcnt.toNat 1) } }))
  else if within d 1 then
    (if 3 ≤ c.hgood then { s with clk := { c with hlock := true, hgood := 0 } }
     else { s with clk := { c with hgood := c.hgood + 1 } })
  else { s with clk := { c with hgood := 0 } }

/-- LOCK_WINDOW (R172, R178): PLLs 0 to 7 are the wings', 8 the store's, 9 the hod's. -/
def execLockWindow (p : Fin 10) (fb : Nat) (st : State) : Host.Outcome State Fault Refusal :=
  .next (if p.val < 8 then wingWindow p.val fb st
    else if p.val = 8 then storePllWindow fb st
    else hodPllWindow fb st)

/-! ### Outputs -/

/-- The dividers of the regional clocks on a wing line that starts begin at phase 0 (R171). -/
def restartLine (wing k : Nat) (s : State) : State :=
  { s with bays := Vector.ofFn (fun b : Fin 64 =>
      let x := s.bays.get b
      if b.val / 16 = wing then { x with rclk := x.rclk.map (fun c => if c.sel.toNat = k then { c with cnt := 0 } else c) } else x) }

/-- PLL_OUTPUT_START (R171): an enabled output of a locked PLL, no stop of it being under way. -/
def execPllOutputStart (p : PllId) (o : Fin 4) (st : State) : Host.Outcome State Fault Refusal :=
  .next (let x := st.clk.pll.get p
    if x.en && x.lock && x.oen o.val && st.clk.devOn && !x.stopW.getLsbD o.val && !x.outs.getLsbD o.val then
      restartLine (p.val / 2) (p.val % 2 * 4 + o.val) (modPll p.val (fun x => { x with outs := setBit x.outs o.val true }) st)
    else st)

/-- PLL_OUTPUT_STOP (R171, R174): a stop that OEN or EN cleared, or an unlock under ULPOL = 1, asked for is complete. -/
def execPllOutputStop (p : PllId) (o : Fin 4) (st : State) : Host.Outcome State Fault Refusal :=
  .next (if (st.clk.pll.get p).stopW.getLsbD o.val then
      modPll p.val (fun x => { x with outs := setBit x.outs o.val false, stopW := setBit x.stopW o.val false }) st
    else st)

/-! ### Registers -/

/-- The bits of PLL_CTRLp that hold a value; ULPOL reads 0 on an even PLL (R169). -/
def pllMask (even : Bool) : Word := if even then 0xA00F01FF#32 else 0xE00F01FF#32

/-- A write that is ignored sets CFGERR (R176). -/
def Pll.refuse (x : Pll) : Pll := { x with cfgerr := true }

/-- PLL_CTRLp taken as written: EN falling clears LOCK without an event and asks every output to stop, EN rising restarts the windows (R171,
R172, R176). -/
def Pll.takeCtrl (x : Pll) (w : Word) : Pll :=
  let y := { x with ctrl := w, ulpol := if x.en then x.ulpol else w.getLsbD 30 }
  if !w.getLsbD 31 then { y with lock := false, good := 0, stopW := if x.en then x.outs else x.stopW }
  else if x.en then y else { y with good := 0 }

/-- A write of PLL_CTRLp (R176): the refusals are an odd PLL's; an even one's is RW-L and takes what is written (R169). -/
def Pll.writeCtrl (khz : Option Nat) (even : Bool) (v : Word) (x : Pll) : Pll :=
  let w := v &&& pllMask even
  let setting (c : Word) : Word := c &&& 0x200F01FF#32
  if even then x.takeCtrl w
  else if x.en && setting w != setting x.ctrl then x.refuse
  else if w.getLsbD 31 && !pllValid khz { x with ctrl := w } then x.refuse
  else x.takeCtrl w

/-- A write of PLL_ODIVp (R176); OEN0 of an even PLL stays 1 (R169); an output whose OEN falls is asked to stop (R171). -/
def Pll.writeOdiv (khz : Option Nat) (even : Bool) (v : Word) (x : Pll) : Pll :=
  let y := { x with odiv := if even then v ||| 0x80#32 else v }
  if x.en && !even && !pllValid khz y then x.refuse
  else { y with stopW := x.stopW ||| ((List.range 4).foldl (fun m o => setBit m o (x.outs.getLsbD o && x.oen o && !y.oen o)) 0) }

/-- PLL_STATUSp as it reads. -/
def Pll.status (x : Pll) : Word := flagAt 31 x.lock ||| flagAt 17 x.cfgerr ||| flagAt 16 x.unlocked ||| valAt 0 x.diff.toNat

/-- A read of the clock block. -/
def readClk (off : Nat) (rec : Word) (s : State) : Option (Word × State) :=
  let c := s.clk
  if off % 4 ≠ 0 then none
  else if 0x100 ≤ off ∧ off < 0x180 then
    let p := (off - 0x100) / 16
    match nth c.pll p, off % 16 with
    | some x, 0 => peekS s (some x.ctrl)
    | some x, 4 => peekS s (some x.odiv)
    | some x, 8 => peekS s (some x.status)
    | some x, 12 => some (x.ulcnt.setWidth 32, modPll p (fun y => { y with ulcnt := recField rec 16 0 }) s)
    | _, _ => none
  else match off with
    | 0 => peekS s (some (flagAt 1 c.reflost ||| flagAt 0 (c.refok && refen s)))
    | 4 => peekS s (some (c.refctl.setWidth 32))
    | 8 => peekS s (some (c.refmeas.setWidth 32))
    | 12 => peekS s (some (c.trim.setWidth 32))
    | 16 => some (valAt 24 c.hulcnt.toNat ||| valAt 16 c.sulcnt.toNat ||| flagAt 1 c.hlock ||| flagAt 0 c.slock,
        { s with clk := { c with hulcnt := recField rec 8 24, sulcnt := recField rec 8 16 } })
    | _ => none

/-- CLK_REFCTL written while it is not locked; REFEN = 0 turns the monitor off (R167). -/
def writeRefctl (v : BitVec 2) (s : State) : State :=
  { s with clk := { s.clk with refctl := v, refok := s.clk.refok && v.getLsbD 0,
                               goodWin := if v.getLsbD 0 then s.clk.goodWin else 0 } }

/-- A write to the clock block (R8, R169, R176). -/
def writeClk (off : Nat) (v : Word) (s : State) : Option State :=
  let c := s.clk
  if off % 4 ≠ 0 then none
  else if 0x100 ≤ off ∧ off < 0x180 then
    let p := (off - 0x100) / 16
    let even := p % 2 == 0
    let lock := even && s.img.locked
    match off % 16 with
    | 0 => some (if lock then s else modPll p (Pll.writeCtrl c.khz even v) s)
    | 4 => some (if lock then s else modPll p (Pll.writeOdiv c.khz even v) s)
    | 8 => some (modPll p (fun x => { x with cfgerr := x.cfgerr && !v.getLsbD 17, unlocked := x.unlocked && !v.getLsbD 16 }) s)
    | _ => some s
  else match off with
    | 0 => some (if v.getLsbD 1 then { s with clk := { c with reflost := false } } else s)
    | 4 => some (if s.img.locked then s else writeRefctl (field v 1 0) s)
    | 8 => some s
    | 12 => some s
    | 16 => some s
    | _ => none

end Sys2Proof.Machine
end

