-- ==== Sys2Proof/Machine/Store.lean ====
section
/-! DEFINITION. The central store as every master's access meets it (R181 to R189, R195, R198, R199): bytes, ECC marks,
regions, the FENCE bar and locks, for an access taken as a whole. -/

namespace Sys2Proof.Machine

/-- The store's byte at an address; one that nothing has written is undefined (R183, log 8). -/
def storeByteAt (s : State) (a : Nat) : Byte := (kvGet s.store.mem a).getD (Config.storeByte s.store.epoch a)

/-- Every stored byte is listed, and nothing else. -/
def keepAll (_ : Byte) : Bool := false

/-- The first address of the store that does not exist (R181). -/
def storeEnd : Nat := 0x800000

/-- No byte of the 64-bit half has been written since contents were lost (R183). -/
def halfUnwritten (s : State) (h : Nat) : Bool := (List.range 8).all (fun i => (kvGet s.store.mem (8 * h + i)).isNone)

/-- A read of the half meets an uncorrectable error: a double-bit error, or a half never written that answers so
(R183, R184). -/
def halfBad (s : State) (h : Nat) : Bool :=
  kvGet s.store.err h == some .double || (halfUnwritten s h && Config.storeErr s.store.epoch h)

/-- The 64-bit halves that hold a byte of [a, a + n). -/
def halvesOf (a n : Nat) : List Nat := (List.range ((a + (n - 1)) / 8 - a / 8 + 1)).map (fun k => a / 8 + k)

/-- The 64 KiB page of a half: address bits [22:16] (R184). -/
def pageOfHalf (h : Nat) : Nat := 8 * h / 65536 % 128

/-- A single-bit error is corrected in the data delivered: counted, reported to the plinth for its page and, when none is pending,
set for write-back; at the address already pending it is not counted again (R184, R327). -/
def correctHalf (s : State) (h : Nat) : State :=
  if kvGet s.store.err h == some .single && s.store.wb != some h then
    reportFault 1 (pageOfHalf h) 1
      { s with store := { s.store with corr := BitVec.ofNat 16 (satAdd 16 s.store.corr.toNat 1), ce := true,
                                       wb := some (s.store.wb.getD h) } }
  else s

/-- Read bytes inside one beat: none on uncorrectable data, which sets UE and records the half (R184). DESIGN CHOICE (log 33): of two
uncorrectable halves of one beat the lower is recorded; the spec does not say which. -/
def storeRead (a n : Nat) (s : State) : Option (List Byte) × State :=
  match (halvesOf a n).find? (halfBad s) with
  | some h => (none, { s with store := { s.store with ue := true, eccaddr := BitVec.ofNat 32 (8 * h) } })
  | none => (some ((List.range n).map (fun i => storeByteAt s (a + i))), (halvesOf a n).foldl correctHalf s)

/-- A write covers the whole half. -/
def coversHalf (a n h : Nat) : Bool := decide (a ≤ 8 * h) && decide (8 * h + 8 ≤ a + n)

/-- List the bytes written. -/
def putBytes (m : List Host.Cell) (a : Nat) : List Byte → List Host.Cell
  | [] => m
  | b :: t => putBytes (kvPut keepAll a b m) (a + 1) t

/-- Write bytes inside one beat: nothing when a half it covers in part is uncorrectable; else fresh ECC for the halves it
touches, and a pending write-back of one of them is dropped (R184). -/
def storeWrite (a : Nat) (d : List Byte) (s : State) : Bool × State :=
  let hs := halvesOf a d.length
  if hs.any (fun h => !coversHalf a d.length h && halfBad s h) then (false, s)
  else (true, { s with store := { s.store with
    mem := putBytes s.store.mem a d, err := s.store.err.filter (fun e => !hs.contains e.1),
    wb := s.store.wb.filter (fun h => !hs.contains h) } })

/-- STR_MCTLm.FENCE (R199). -/
def fenced (s : State) (m : Nat) : Bool := ((nth s.arb.mctl m).getD 0).getLsbD 31

/-- BARRED is set; no event (R199). -/
def setBarred (m : Nat) (s : State) : State :=
  { s with arb := { s.arb with mcause := nthUpd s.arb.mcause m (· ||| 32) } }

/-- The beat that an address lies in. -/
def beatOf (a : Nat) : Nat := a / 16 * 16

/-- The lock of another master on a beat (R192, R198). -/
def lockBy (s : State) (m beat : Nat) : Option (Nat × Nat) := s.arb.locks.find? (fun l => beatOf l.2 == beat && l.1 != m)

/-- Release master m's lock on a beat: its next write to that beat (R198). -/
def unlock (m beat : Nat) (s : State) : State :=
  { s with arb := { s.arb with locks := s.arb.locks.filter (fun l => !(l.1 == m && beatOf l.2 == beat)) } }

/-- FENCE is set by a cut-off of the 16- or 8-store-cycle limit where FENCEEN is 1 (R198). -/
def fenceOn (m : Nat) (s : State) : State :=
  { s with arb := { s.arb with mctl := nthUpd s.arb.mctl m (fun w => if w.getLsbD 30 then setBit w 31 true else w) } }

/-- Master m's raised ordinary request is gone. -/
def dropOrd (m : Nat) (s : State) : State :=
  { s with arb := { s.arb with ord := nthUpd s.arb.ord m (fun _ => none), sampO := nthUpd s.arb.sampO m (fun _ => none) } }

/-- The response so far, with the bytes of one more beat: those of completed beats stand (R184, R198). -/
def addResp (m : Nat) (code : RespCode) (d : List Byte) (s : State) : State :=
  { s with resp := nthUpd s.resp m (fun r => ⟨code, r.data ++ d⟩) }

/-- A master's sequence or piece is cut off: cause bits, CUTCNT, the access's address and the event; an error response; its lock is
released; a setter that was in its SSWAP takes the cut-off trap with its address (R63, R117, R195, R198). DESIGN CHOICE (log 33): the
wait counter of a request that a cut-off ends before its data cycle is left standing; R200 names a data cycle and a drop only. -/
def cutOff (m : Nat) (bits : BitVec 6) (addr : Nat) (s : State) : State :=
  let s0 := addResp m .cutOff [] s
  let s1 := masterCause m bits addr { s0 with arb := { s0.arb with
    cutcnt := nthUpd s.arb.cutcnt m (fun c => BitVec.ofNat 8 (satAdd 8 c.toNat 1)),
    locks := s.arb.locks.filter (fun l => l.1 != m) } }
  if h : m < 16 then
    (if (s1.st ⟨m, h⟩).issues then syncTrap ⟨m, h⟩ 8 0 (BitVec.ofNat 32 addr) s1 else s1)
  else s1

/-- The holder of a lock is cut off, its releasing write with it: a holder raises no other request (R198). -/
def cutLock (bits : BitVec 6) (l : Nat × Nat) (s : State) : State := cutOff l.1 bits l.2 (dropOrd l.1 s)

/-- Master m holds a keystone line in effect (R194). -/
def hasKey (s : State) (m : Nat) : Bool :=
  (List.finRange 4).any (fun k => (s.arb.keyEff.get k).getLsbD 31 && (field (s.arb.keyEff.get k) 4 0).toNat == m)

/-! ### The wait (R200) -/

/-- The limit of a master: STARVE, and 64 below that (R200). -/
def starveLimit (s : State) (m : Nat) : Nat := max 64 (field ((nth s.arb.mctl m).getD 0) 15 0).toNat

/-- STARVE is reported, once per wait (R200). -/
def reportStarve (m : Nat) (s : State) : State :=
  raise (448 + m) { s with arb := { s.arb with
    starved := setBit s.arb.starved m true, mcause := nthUpd s.arb.mcause m (· ||| 2) } }

/-- The wait counter of master m goes on by n store cycles, and WAITMAX with it. -/
def addWait (m n : Nat) (s : State) : State :=
  let c : BitVec 16 := BitVec.ofNat 16 (min 65535 (((nth s.arb.waitc m).getD 0).toNat + n))
  { s with arb := { s.arb with
    waitc := nthUpd s.arb.waitc m (fun _ => c),
    waitmax := nthUpd s.arb.waitmax m (fun x => if x.toNat < c.toNat then c else x) } }

/-- A master receives a data cycle: its wait ends (R200). -/
def endWait (m : Nat) (s : State) : State :=
  { s with arb := { s.arb with waitc := nthUpd s.arb.waitc m (fun _ => 0), starved := setBit s.arb.starved m false } }

/-- The store cycles that an access taken as a whole waits for its data cycle: 1 or more, not bounded here (R114, R203, log 9). -/
def storeWait (s : State) : Nat := 1 + Config.freeCost s.free

/-- The wait of master m, n store cycles more, ends in a data cycle: WAITMAX, and STARVE where the counter meets its limit (R200). -/
def passWait (m n : Nat) (s : State) : State :=
  let t := addWait m n s
  endWait m (if starveLimit t m ≤ ((nth t.arb.waitc m).getD 0).toNat ∧ !t.arb.starved.getLsbD m then reportStarve m t else t)

/-! ### An access -/

/-- What an access of master m meets as it lands, before any data moves; none where it goes on to arbitration. A closed joint lets it wait
(R204); then FENCE and regions refuse it, and wake nothing (R22, R188, R199); then a retained or stopping store lets it wait and starts its
wake (R204, R339, R343). DESIGN CHOICE (log 33): FENCE is looked at before the regions, so a barred master's access records no region
violation; R115 names the regions first, and R117 and R199 refuse every access of a barred master. -/
def storeDoor (m a n : Nat) (rd wr : Bool) (s : State) : Option (Resp × State) :=
  if storeEnd < a + n then some (⟨.busError, []⟩, s)
  else if s.store.isol ∧ m ≠ 29 then some (⟨.waits, []⟩, s)
  else if fenced s m then some (⟨.busError, []⟩, setBarred m s)
  else if !regionOk s m a n rd wr then some (⟨.region, []⟩, regionViolation m a s)
  else if shut .store s then some (⟨.waits, []⟩, startWake .store s)
  else none

/-- The data phase of one beat of master m (R184, R198). -/
def storeBeat (m a n : Nat) (wr : Option (List Byte)) (s : State) : Resp × State :=
  match wr with
  | none =>
    (match storeRead a n s with
      | (some d, t) => (⟨.ok, d⟩, t)
      | (none, t) => (⟨.ecc, []⟩, t))
  | some d =>
    (match storeWrite a d s with
      | (true, t) => (⟨.ok, []⟩, unlock m (beatOf a) t)
      | (false, t) => (⟨.ecc, []⟩, unlock m (beatOf a) t))

/-- An access of master m to bytes of one beat, taken as a whole: what it meets as it lands, another master's lock (a keystone beat breaks
it, another request waits), its wait, then the data (R115, R184, R192, R195, R200). A write carries its data. -/
def storeAccess (m a n : Nat) (wr : Option (List Byte)) (key : Bool) (s : State) : Resp × State :=
  match storeDoor m a n wr.isNone wr.isSome s with
  | some r => r
  | none =>
    match lockBy s m (beatOf a), key with
    | some _, false => (⟨.waits, []⟩, s)
    | l, _ =>
      let s1 := match l with
        | some l => cutLock 16 l s
        | none => s
      let s2 := passWait m (storeWait s) s1
      storeBeat m a n wr { s2 with free := s2.free + 1, arb := { s2.arb with lastGr := some m } }

end Sys2Proof.Machine
end

