-- ==== Sys2Proof/Machine/Arbiter.lean ====
section
/-! DEFINITION. The store arbiter, one store cycle at a time (R182 to R203): STORE_DATA_BEAT is the data phase of a store
cycle, ARBITER_DECISION its decision for the next one; requests that land between two decisions land in the later one's
cycle. Also the bond-table swap and the STR and BND registers. -/

namespace Sys2Proof.Machine

/-! ### Landing -/

/-- The forms of R182 for masters 16 to 29 and of R114 for setters; a lock or a keystone flag only on a single beat. -/
def formOk (m : Nat) (q : StoreReq) : Bool :=
  let a := q.addr.toNat
  if q.beats = 1 then
    (if m < 16 then q.bytes == 4 || q.bytes == 16 else [1, 2, 4, 8, 16].contains q.bytes)
      && a % q.bytes == 0 && decide (a + q.bytes ≤ storeEnd) && !(q.lock && q.key)
  else
    decide (16 ≤ m) && decide (2 ≤ q.beats) && decide (q.beats ≤ 8) && a % 16 == 0
      && decide (a % 4096 + 16 * q.beats ≤ 4096) && decide (a + 16 * q.beats ≤ storeEnd) && !q.lock && !q.key

/-- The bytes of a request. -/
def reqLen (q : StoreReq) : Nat := if q.beats = 1 then q.bytes else 16 * q.beats

/-- The request in a slot of a request vector. -/
def reqOf (v : Vector (Option StoreReq) 32) (m : Nat) : Option StoreReq := (nth v m).getD none

/-- Master m is on an enabled line of a setting of the four lines. -/
def onLine (v : Vector Word 4) (m : Nat) : Bool :=
  (List.finRange 4).any (fun k => (v.get k).getLsbD 31 && (field (v.get k) 4 0).toNat == m)

/-- A master may raise a keystone request: it holds a line, be it one whose assignment takes effect at a decision to come (R194). -/
def mayKey (s : State) (m : Nat) : Bool := hasKey s m || onLine s.arb.keyMid m || onLine s.arb.key m

/-- The request is a keystone request (R185, R194). -/
def isKey (s : State) (m : Nat) (q : StoreReq) : Bool := q.key && mayKey s m

/-- The request stands raised: keystone requests apart. -/
def raiseReq (m : Nat) (q : StoreReq) (s : State) : State :=
  let r := { q with bytes := if q.beats = 1 then q.bytes else 16, key := isKey s m q }
  if isKey s m q then { s with arb := { s.arb with kreq := nthUpd s.arb.kreq m (fun _ => some r) } }
  else { s with arb := { s.arb with ord := nthUpd s.arb.ord m (fun _ => some r) } }

/-- A keystone request that has been decided as an ordinary one (R194). -/
def demoted (s : State) (m : Nat) : Bool := match reqOf s.arb.kreq m with
  | some q => !q.key
  | none => false

/-- The request that releases a lock of its master: an ordinary single-beat write to the locked beat (R198). -/
def releases (s : State) (m : Nat) (q : StoreReq) : Bool :=
  q.write && q.beats == 1 && !isKey s m q && s.arb.locks.any (fun l => l.1 == m && beatOf l.2 == beatOf q.addr.toNat)

/-- The master raises no such request now: it has one raised already, at the closed joint or beyond it (R185), or it holds a lock, which
this one does not release (R198). -/
def taken (s : State) (m : Nat) (q : StoreReq) : Bool :=
  (s.arb.locks.any (fun l => l.1 == m) && !releases s m q)
    || s.arb.joint.any (fun e => e.1 == m && isKey s m e.2 == isKey s m q)
    || (if isKey s m q then (reqOf s.arb.kreq m).isSome else (reqOf s.arb.ord m).isSome || demoted s m)

/-- A request lands in the store island (R22, R182, R186, R188, R199): FENCE, form and regions are checked; a retained store starts its
wake. FENCE before the regions is the model's choice, as for every access (storeDoor, log 33). -/
def landReq (m : Nat) (q : StoreReq) (s : State) : State :=
  if fenced s m then (setBarred m s).respond m .busError []
  else if !formOk m q then s.respond m .busError []
  else if !regionOk s m q.addr.toNat (reqLen q) (!q.write || q.lock) (q.write || q.lock) then
    (regionViolation m q.addr.toNat s).respond m .region []
  else raiseReq m q (startWake .store (s.respond m .none []))

/-- The store's joints open again: what waited there lands, oldest first (R204). -/
def openJoints (s : State) : State :=
  s.arb.joint.foldl (fun t e => landReq e.1 e.2 t) { s with arb := { s.arb with joint := [] } }

/-- STORE_REQUEST_LAND (R22, R185, R204): in DORMANT there is only a bus error; while the store is isolated every master but 29 waits at
its joint. -/
def execStoreRequestLand (m : Master) (q : StoreReq) (st : State) : Host.Outcome State Fault Refusal :=
  .next (if taken st m.val q then st
    else if st.pwr.state = 3 then st.respond m.val .busError []
    else if st.store.isol ∧ m.val ≠ 29 then
      { (st.respond m.val .waits []) with arb := { st.arb with joint := st.arb.joint ++ [(m.val, q)] } }
    else landReq m.val q st)

/-! ### The decision -/

/-- Store cycles pass: the store is neither retained nor waking, the device not in DORMANT (R191, R204). -/
def storeCycles (s : State) : Bool := !s.store.retn && !s.store.waking && s.pwr.state != 3

/-- The store runs for every master: its cycles pass, and it is not isolated (R204). -/
def storeRuns (s : State) : Bool := storeCycles s && !s.store.isol

/-- No request of this master is granted now: FENCE bars it (R192, R199), the store is isolated for master 29 (R204), or an entry has
stopped it (R337). -/
def unheard (s : State) (m : Nat) : Bool := fenced s m || (s.store.isol && m != 29) || stopping .store s

/-- KIND of a bond-table entry. -/
def slotKind (e : BitVec 8) : Nat := (field e 7 6).toNat
/-- OWNER of a bond-table entry. -/
def slotOwner (e : BitVec 8) : Nat := (field e 4 0).toNat
/-- FREE or KEY. -/
def slotOpen (e : BitVec 8) : Bool := decide (slotKind e < 2)
/-- The active entry of a slot. -/
def slotAt (s : State) (n : Nat) : BitVec 8 := (nth s.arb.bond.act n).getD 0

/-- An ordinary request that touches a beat locked by another master is left out, whichever of its beats it is (R192). -/
def lockedOut (s : State) (m : Nat) (q : StoreReq) : Bool :=
  (List.range q.beats).any (fun k => (lockBy s m (beatOf (q.addr.toNat + 16 * k))).isSome)

/-- A sampled keystone request of a master without a line in effect is decided as an ordinary request from now on (R194). -/
def demote (s : State) (m : Nat) : State :=
  match reqOf s.arb.sampK m with
  | some _ =>
    if hasKey s m then s
    else { s with arb := { s.arb with kreq := nthUpd s.arb.kreq m (Option.map (fun q => { q with key := false })) } }
  | none => s

/-- A demoted request takes the master's ordinary place once that is free. -/
def settleDemoted (s : State) (m : Nat) : State :=
  if demoted s m && (reqOf s.arb.ord m).isNone && (reqOf s.arb.sampO m).isNone then
    { s with arb := { s.arb with
      ord := nthUpd s.arb.ord m (fun _ => reqOf s.arb.kreq m), sampO := nthUpd s.arb.sampO m (fun _ => reqOf s.arb.kreq m),
      goneO := setBit s.arb.goneO m (s.arb.goneK.getLsbD m),
      kreq := nthUpd s.arb.kreq m (fun _ => none), sampK := nthUpd s.arb.sampK m (fun _ => none) } }
  else s

/-- What a decision does first with the requests that lost their line. -/
def sortKeys (s : State) : State :=
  let t := (List.range 30).foldl demote s
  (List.range 30).foldl settleDemoted t

/-- The sampled ordinary request of a master that takes part (R192). -/
def ordSampled (s : State) (m : Nat) : Option StoreReq :=
  if unheard s m then none else (reqOf s.arb.sampO m).filter (fun q => !lockedOut s m q)

/-- The sampled keystone request of a master that takes part: one that lost its line stays ordinary, also when the line comes back
(R194). -/
def keySampled (s : State) (m : Nat) : Option StoreReq :=
  if unheard s m || !hasKey s m || demoted s m then none else reqOf s.arb.sampK m

/-- The keystone line to serve: the first at or after keyptr whose master has a keystone request (R192). -/
def keyLine (s : State) : Option (Nat × Nat) :=
  ((List.range 4).map (fun i => (s.arb.keyptr.toNat + i) % 4)).findSome? (fun k =>
    let w := (nth s.arb.keyEff k).getD 0
    let m := (field w 4 0).toNat
    if w.getLsbD 31 && (keySampled s m).isSome then some (k, m) else none)

/-- The masters with an ordinary request that takes part. -/
def requesters (s : State) : List Nat := (List.range 30).filter (fun m => (ordSampled s m).isSome)

/-- The rank in effect of a master. -/
def rankOf (s : State) (m : Nat) : Nat := ((nth s.arb.rankEff m).getD 0).toNat

/-- The background winner: the highest rank, then the first master at or after its pointer; with the rank (R192). -/
def background (s : State) : Option (Nat × Nat) :=
  let req := requesters s
  ((List.range 8).map (fun r => 7 - r)).findSome? (fun r =>
    let p := ((nth s.arb.rr r).getD 0).toNat
    (((List.range 32).map (fun i => (p + i) % 32)).find? (fun m => req.contains m && rankOf s m == r)).map (fun m => (m, r)))

/-- piece_length(w, s) for a request with so many beats left (R193). -/
def pieceLen (s : State) (w : Nat) : Nat → Nat → Nat
  | _, 0 => 0
  | n, k + 1 =>
    if n = 63 then 1
    else
      let e := slotAt s (n + 1)
      if slotOpen e || slotOwner e == w then 1 + pieceLen s w (n + 1) k else 1

/-- Grant a piece of master w from slot n. -/
def grantTo (w n beats : Nat) (s : State) : State :=
  { s with arb := { s.arb with grant := some ⟨w, false, pieceLen s w n (min beats 8), s.arb.goneO.getLsbD w⟩, park := none,
                               lastGr := some w } }

/-- Grant a keystone beat to a line's master. -/
def grantKey (k m : Nat) (s : State) : State :=
  { s with arb := { s.arb with grant := some ⟨m, true, 1, s.arb.goneK.getLsbD m⟩, park := none, lastGr := some m,
                               keyptr := BitVec.ofNat 2 (k + 1) } }

/-- No winner: the grant parks on the last master granted. Where no request at all was sampled, a parked master's request that landed in this
cycle takes the next data cycle, whose slot it then can win (R196). A keystone request that cannot have the slot leaves the grant parked, as
R192's pseudocode says, and is a request sampled. -/
def parkGrant (n : Nat) (s : State) : State :=
  let fast := match s.arb.park with
    | some m =>
      (match reqOf s.arb.ord m with
        | some q => if unheard s m || lockedOut s m q || (keyLine s).isSome then none else some (m, q.beats)
        | none => none)
    | none => none
  match fast with
  | some (m, b) => grantTo m n b { s with arb := { s.arb with goneO := setBit s.arb.goneO m false } }
  | none => { s with arb := { s.arb with grant := none, park := s.arb.lastGr } }

/-- The decision for data cycle n + 1, whose slot is n (R192). -/
def decide1 (n : Nat) (s : State) : State :=
  let e := slotAt s n
  let key := keyLine s
  match s.arb.grant, key with
  | some _, none => s
  | some _, some (k, m) => if slotOpen e then grantKey k m s else s
  | none, _ =>
    let own := slotOwner e
    let ownHas := (ordSampled s own).isSome || (keySampled s own).isSome
    let elig (m : Nat) : Bool := slotOpen e || !ownHas || own == m
    match key.filter (fun e => elig e.2) with
    | some (k, m) => grantKey k m s
    | none =>
      if slotKind e = 2 ∧ (ordSampled s own).isSome then
        grantTo own n (((ordSampled s own).map StoreReq.beats).getD 1) s
      else match background s with
        | some (w, r) =>
          grantTo w n (((ordSampled s w).map StoreReq.beats).getD 1)
            { s with arb := { s.arb with rr := nthUpd s.arb.rr r (fun _ => BitVec.ofNat 5 (w + 1)) } }
        | none => parkGrant n s

/-- The host's access under way that goes to the store. -/
def hostAtStore (s : State) : Bool :=
  match s.hst.frames with
  | f :: _ => f.op.isNone && (match f.left with
    | (a, _) :: _ => decide (a < storeEnd)
    | [] => false)
  | [] => false

/-- An access of master m that is taken as a whole waits at the store: a setter's instruction, a bus access, the host's frame, the plinth's
SWCHUNK read, the hod's flush or keystone beat (R200). -/
def waitsAtStore (s : State) (m : Nat) : Bool :=
  (match nth s.setters m with
    | some x => (match x.wait with
      | .access .store _ => true
      | _ => false)
    | none => false)
    || s.stalled.any (fun a => a.master == m && a.dom == .store) || (m == 16 && s.pln.chunk.isSome)
    || (m == 17 && hostAtStore s) || (m == 18 && (!s.hod.flush.isEmpty || s.hod.lane.isSome))

/-- Master m has a request raised and not yet served (R185, R200). -/
def raisedBy (s : State) (m : Nat) : Bool :=
  (reqOf s.arb.ord m).isSome || (reqOf s.arb.kreq m).isSome || s.arb.joint.any (fun e => e.1 == m) || waitsAtStore s m

/-- Wait counters run while a request is raised (R200). -/
def countWaits (s : State) : State :=
  let up (m : Nat) : Bool := raisedBy s m
  let c (m : Nat) : BitVec 16 := BitVec.ofNat 16 (satAdd 16 ((nth s.arb.waitc m).getD 0).toNat 1)
  { s with arb := { s.arb with
    waitc := Vector.ofFn (fun m : Fin 32 => if up m.val then c m.val else s.arb.waitc.get m),
    waitmax := Vector.ofFn (fun m : Fin 32 =>
      if up m.val && (s.arb.waitmax.get m).toNat < (c m.val).toNat then c m.val else s.arb.waitmax.get m) } }

/-- The region registers as written: base and limit words by master. -/
def regWords (a : Arb) : Vector (Vector Word 8 × Vector Word 8) 32 := Vector.ofFn (fun m : Fin 32 => (a.rbase.get m, a.rlim.get m))

/-- Every setting that waits for its store cycles is in effect: a load or a wake takes longer than they do. -/
def settleArb (a : Arb) : Arb :=
  { a with keyEff := a.key, keyMid := a.key, rankEff := a.mctl.map (fun w => field w 18 16),
           rankMid := a.mctl.map (fun w => field w 18 16), regEff := regWords a, regMid := regWords a }

/-- Change the store's bond table. -/
def modBond (f : Bond → Bond) (s : State) : State := { s with arb := { s.arb with bond := f s.arb.bond } }

/-- The two copies exchange roles. -/
def Bond.switch (b : Bond) : Bond := { b with act := b.next, next := b.act, ag := b.newG, code := 1, phase := .idle }

/-- At the wrap from slot 63 to 0 an armed swap switches: its first slot is the one decided next (R202). -/
def wrapSwitch (s : State) : State :=
  if s.arb.bond.phase = .armed && s.arb.ptr == 63 then raise 620 (modBond Bond.switch s) else s

/-- The lines, ranks and regions that take effect two store cycles after a write come one store cycle nearer (R189, R194, R197). -/
def delayCycle (a : Arb) : Arb :=
  { a with regEff := a.regMid, regMid := regWords a, keyEff := a.keyMid, keyMid := a.key,
           rankEff := a.rankMid, rankMid := a.mctl.map (fun w => field w 18 16) }

/-- The end of a store cycle: the pointer, the samples, what takes effect later (R189 to R191). -/
def endCycle (s : State) : State :=
  { s with arb := delayCycle { s.arb with
    ptr := s.arb.ptr + 1, sampO := s.arb.ord, sampK := s.arb.kreq, goneO := 0, goneK := 0 } }

/-- One store cycle's decision (R190 to R197, R202). -/
def storeCycle (s : State) : State := decide1 ((s.arb.ptr.toNat + 1) % 64) (sortKeys (wrapSwitch s))

/-- ARBITER_DECISION (R190 to R197, R200, R202, R204). An isolated store hears master 29 alone, and its wait counters stand. In retention
nothing is decided and the pointer stands; what takes effect two store cycles after a write still does, for accesses that only meet the
regions. -/
def execArbiterDecision (st : State) : Host.Outcome State Fault Refusal :=
  .next (if storeRuns st then endCycle (countWaits (storeCycle st))
    else if storeCycles st then endCycle (storeCycle st)
    else if st.pwr.state = 3 then st
    else { st with arb := delayCycle st.arb })

/-! ### The data phase -/

/-- A data cycle that moves no data (R184, R190). -/
def emptyCycle (s : State) : State :=
  { s with store := { s.store with empty := BitVec.ofNat 16 (satAdd 16 s.store.empty.toNat 1) } }

/-- The request of a master after a beat: its remainder, or gone. -/
def putReq (key : Bool) (m : Nat) (q : Option StoreReq) (s : State) : State :=
  if key then { s with arb := { s.arb with kreq := nthUpd s.arb.kreq m (fun _ => q), sampK := nthUpd s.arb.sampK m (fun o => if q.isNone then none else o) } }
  else { s with arb := { s.arb with ord := nthUpd s.arb.ord m (fun _ => q), sampO := nthUpd s.arb.sampO m (fun o => if q.isNone then none else q.or o) } }

/-- What is left of a request after one beat. -/
def restOf (q : StoreReq) : Option StoreReq :=
  if q.beats ≤ 1 then none
  else some { q with addr := q.addr + 16, beats := q.beats - 1, data := q.data.drop 16 }

/-- A keystone beat to a beat that another master has locked breaks the lock (R195). -/
def breakLock (m : Nat) (key : Bool) (beat : Nat) (s : State) : State :=
  match lockBy s m beat, key with
  | some l, true => cutLock 16 l s
  | _, _ => s

/-- The beat failed: the access ends. The next store cycle was decided before the failure was known: where beats remain, in this piece or
after it, it carries no data (R184). DESIGN CHOICE (log 33): a keystone beat may still preempt that cycle. -/
def failBeat (key : Bool) (m left : Nat) (more : Bool) (s : State) : State :=
  let s1 := addResp m .ecc [] (putReq key m none s)
  { s1 with arb := { s1.arb with grant := if left = 0 ∧ !more then none else some ⟨m, key, 1, true⟩ } }

/-- One beat of a request. -/
def moveBeat (g : Grant) (key : Bool) (q : StoreReq) (s : State) : State :=
  let m := g.master
  let a := q.addr.toNat
  let beat := beatOf a
  let n := q.bytes
  let s1 := endWait m (breakLock m key beat s)
  let left := g.left - 1
  let code := if (restOf q).isNone then RespCode.ok else RespCode.none
  let s2 := { s1 with arb := { s1.arb with grant := if left = 0 ∨ (restOf q).isNone then none else some { g with left := left } } }
  if q.write then
    match storeWrite a (q.data.take n) s2 with
    | (true, t) => addResp m code [] (putReq key m (restOf q) (unlock m beat t))
    | (false, t) => failBeat key m left (restOf q).isSome (unlock m beat t)
  else
    match storeRead a n s2 with
    | (some d, t) =>
      let t1 := if q.lock then { t with arb := { t.arb with locks := t.arb.locks ++ [(m, a)] } } else t
      addResp m code d (putReq key m (restOf q) t1)
    | (none, t) => failBeat key m left (restOf q).isSome t

/-- STORE_DATA_BEAT (R184, R190, R193, R195, R198): the data phase of this store cycle; a granted request that has been dropped, or
has failed, leaves its cycle empty. DESIGN CHOICE (log 33): a dropped burst's piece leaves one cycle empty, and the next is decided
afresh; the spec does not say how many stay empty. -/
def execStoreDataBeat (st : State) : Host.Outcome State Fault Refusal :=
  .next (match st.arb.grant with
    | none => st
    | some g =>
      if !storeCycles st then st
      else match (if g.key then reqOf st.arb.kreq g.master else reqOf st.arb.ord g.master), g.void with
        | some q, false => moveBeat g g.key q st
        | _, _ => emptyCycle { st with arb := { st.arb with grant := none } })

/-- ECC_WRITEBACK (R184): in a store cycle with no data phase the pending corrected half is written back. -/
def execEccWriteback (st : State) : Host.Outcome State Fault Refusal :=
  .next (match st.store.wb with
    | none => st
    | some h =>
      if st.arb.grant.isSome || !storeRuns st then st
      else { st with store := { st.store with wb := none, err := kvDel h st.store.err } })

/-- A master drops what it has raised; what has been sampled can still win, and then leaves its data cycle empty; the wait ends (R190,
R200). -/
def dropReq (m : Nat) (s : State) : State :=
  endWait m { s with arb := { s.arb with
    joint := s.arb.joint.filter (fun e => e.1 != m),
    ord := nthUpd s.arb.ord m (fun _ => none), kreq := nthUpd s.arb.kreq m (fun _ => none),
    goneO := setBit s.arb.goneO m (s.arb.goneO.getLsbD m || (reqOf s.arb.sampO m).isSome),
    goneK := setBit s.arb.goneK m (s.arb.goneK.getLsbD m || (reqOf s.arb.sampK m).isSome) } }

/-- REQUEST_DROP (R185, R190, R200): a fabric port or the host port drops a request that is not granted. -/
def execRequestDrop (m : Master) (st : State) : Host.Outcome State Fault Refusal :=
  .next (let may := m.val == 17 || (decide (21 ≤ m.val) && decide (m.val ≤ 28))
    let granted := match st.arb.grant with
      | some g => g.master == m.val
      | none => false
    if may && !granted && ((reqOf st.arb.ord m.val).isSome || (reqOf st.arb.kreq m.val).isSome
        || st.arb.joint.any (fun e => e.1 == m.val)) then dropReq m.val st
    else st)

/-- LOCK_CUTOFF (R198): a locked sequence not released in time. -/
def execLockCutoff (m : Master) (st : State) : Host.Outcome State Fault Refusal :=
  .next (match st.arb.locks.find? (fun l => l.1 == m.val) with
    | some l => cutLock 8 l (fenceOn m.val st)
    | none => st)

/-- HOLD_CUTOFF (R198): a piece whose data phase stays held. A setter's single beats are never held (R117). DESIGN CHOICE (log 33): of a
partly moved burst STR_MADDR records the address of the beat still to move; the spec says only 'the address'. -/
def execHoldCutoff (m : Master) (st : State) : Host.Outcome State Fault Refusal :=
  .next (match st.arb.grant with
    | some g =>
      if g.master = m.val && decide (16 ≤ m.val) then
        let q := if g.key then reqOf st.arb.kreq m.val else reqOf st.arb.ord m.val
        let a := (q.map (fun q => q.addr.toNat)).getD 0
        let s1 := putReq g.key m.val none { st with arb := { st.arb with grant := none } }
        cutOff m.val 4 a (fenceOn m.val s1)
      else st
    | none => st)

/-- STARVATION_LIMIT (R200): once per wait. -/
def execStarvationLimit (m : Master) (st : State) : Host.Outcome State Fault Refusal :=
  .next (if storeRuns st && decide (starveLimit st m.val ≤ ((nth st.arb.waitc m.val).getD 0).toNat)
      && !st.arb.starved.getLsbD m.val then
      reportStarve m.val st
    else st)

/-! ### Bond-table swap (R201, R202) -/

/-- The slots of a copy that are FREE or KEY. -/
def eligible (v : Vector (BitVec 8) 64) : List Nat := (List.range 64).filter (fun n => slotOpen ((nth v n).getD 0))

/-- The cyclic gap from an eligible slot to the next one; 64 for the only one. -/
def gapFrom (l : List Nat) (i : Nat) : Nat :=
  match ((List.range 64).map (fun k => k + 1)).find? (fun k => l.contains ((i + k) % 64)) with
  | some k => k
  | none => 64

/-- Validation of a copy: its G, or CODE, SLOT and GAP. `lastOwner` is the highest owner that exists. -/
def validateBond (lastOwner : Nat) (v : Vector (BitVec 8) 64) : Nat ⊕ (Nat × Nat × Nat) :=
  let at_ (n : Nat) : BitVec 8 := (nth v n).getD 0
  match (List.range 64).find? (fun n => slotKind (at_ n) == 3) with
  | some n => .inr (3, n, 0)
  | none =>
    match (List.range 64).find? (fun n => slotKind (at_ n) == 2 && decide (lastOwner < slotOwner (at_ n))) with
    | some n => .inr (2, n, 0)
    | none =>
      let l := eligible v
      let g := l.foldl (fun a i => max a (gapFrom l i)) 0
      if l.isEmpty then .inr (4, 0, 64)
      else if 16 < g then .inr (4, (l.find? (fun i => gapFrom l i == g)).getD 0, g)
      else .inl g

/-- Setting SWAP starts validation; no effect while a swap is pending. -/
def Bond.request (b : Bond) : Bond := if b.phase = .idle then { b with phase := .validating } else b

/-- Validation ends: refused (true), or armed for the switch. -/
def Bond.validated (b : Bond) (lastOwner : Nat) : Bond × Bool :=
  match validateBond lastOwner b.next with
  | .inl g => ({ b with phase := .armed, newG := BitVec.ofNat 7 g }, false)
  | .inr (code, slot, gap) =>
    ({ b with phase := .idle, code := BitVec.ofNat 3 code, slot := BitVec.ofNat 6 slot, gap := BitVec.ofNat 8 gap }, true)

/-- PEND. -/
def Bond.pend (b : Bond) : Bool := b.phase != .idle

/-- BNDSTAT as it reads. -/
def Bond.word (b : Bond) : Word :=
  flagAt 31 b.pend ||| valAt 24 b.ag.toNat ||| valAt 16 b.gap.toNat ||| valAt 8 b.slot.toNat ||| valAt 0 b.code.toNat

/-- BOND_VALIDATION_DONE (R202). -/
def execBondValidationDone (st : State) : Host.Outcome State Fault Refusal :=
  .next (if st.arb.bond.phase = .validating then
      (match st.arb.bond.validated 29 with
        | (b, bad) => raiseIf bad 619 (modBond (fun _ => b) st))
    else st)

/-- BOND_TABLE_SWITCH (R202): at the wrap from slot 63 to 0 after validation, and at no other slot; the decision for slot 0 makes it
otherwise. Not while the store is retained, when the pointer stands (R204). -/
def execBondTableSwitch (st : State) : Host.Outcome State Fault Refusal :=
  .next (if storeCycles st then wrapSwitch st else st)

/-! ### Registers -/

/-- STR_MSTATm as it reads. -/
def mstatWord (s : State) (m : Nat) : Word :=
  flagAt 31 (raisedBy s m) ||| flagAt 27 (s.arb.locks.any (fun l => l.1 == m))
    ||| valAt 16 ((nth s.arb.cutcnt m).getD 0).toNat ||| valAt 0 ((nth s.arb.waitmax m).getD 0).toNat

/-- A region register; those of masters 30 and 31 read 0 (R187). -/
def masterReg (m : Nat) (w : Word) : Word := if m < 30 then w else 0

/-- STR_STATUS as it reads. -/
def strStatus (s : State) : Word :=
  valAt 16 s.arb.ptr.toNat ||| valAt 8 (s.arb.park.getD 0) ||| flagAt 7 s.arb.park.isSome ||| flagAt 3 s.arb.cfgerr
    ||| flagAt 2 s.store.isol ||| flagAt 1 s.store.waking ||| flagAt 0 s.store.retn

/-- A read of the STR and BND registers. -/
def readStr (off : Nat) (rec : Word) (s : State) : Option (Word × State) :=
  let a := s.arb
  if off % 4 ≠ 0 then none
  else if 0x1100 ≤ off ∧ off < 0x1200 then peekS s ((nth a.bond.next ((off - 0x1100) / 4)).map (·.setWidth 32))
  else if 0x1000 ≤ off ∧ off < 0x1100 then peekS s ((nth a.bond.act ((off - 0x1000) / 4)).map (·.setWidth 32))
  else if 0x800 ≤ off ∧ off < 0x1000 then
    let m := (off - 0x800) / 0x40
    let r := off % 0x40 / 8
    peekS s (some (masterReg m (((nth (if off % 8 = 0 then a.rbase else a.rlim) m).bind (fun v => nth v r)).getD 0)))
  else if 0x280 ≤ off ∧ off < 0x300 then peekS s (nth a.maddr ((off - 0x280) / 4))
  else if 0x200 ≤ off ∧ off < 0x280 then
    peekS s ((nth a.mcause ((off - 0x200) / 4)).map (fun c => c.setWidth 32))
  else if 0x180 ≤ off ∧ off < 0x200 then
    let m := (off - 0x180) / 4
    some (mstatWord s m, { s with arb := { a with
      cutcnt := nthUpd a.cutcnt m (fun _ => recField rec 8 16), waitmax := nthUpd a.waitmax m (fun _ => recField rec 16 0) } })
  else if 0x100 ≤ off ∧ off < 0x180 then peekS s (nth a.mctl ((off - 0x100) / 4))
  else match off with
    | 0x00 => peekS s (some (flagAt 0 a.rlock))
    | 0x04 => peekS s (some (strStatus s))
    | 0x10 => peekS s (nth a.key 0)
    | 0x14 => peekS s (nth a.key 1)
    | 0x18 => peekS s (nth a.key 2)
    | 0x1C => peekS s (nth a.key 3)
    | 0x20 => peekS s (some 0)
    | 0x24 => peekS s (some a.bond.word)
    | 0x30 => some (valAt 16 s.store.corr.toNat ||| flagAt 1 s.store.ue ||| flagAt 0 s.store.ce,
        { s with store := { s.store with corr := recField rec 16 16 } })
    | 0x34 => peekS s (some s.store.eccaddr)
    | 0x38 => some (s.store.empty.setWidth 32, { s with store := { s.store with empty := recField rec 16 0 } })
    | _ => none

/-- A write of STR_KEYk (R194): refused with CFGERR. -/
def writeKeyLine (k : Nat) (v : Word) (s : State) : State :=
  let w := v &&& 0x8000001F#32
  let two := w.getLsbD 31 && (List.range 4).any (fun j =>
    j != k && ((nth s.arb.key j).getD 0).getLsbD 31 && field ((nth s.arb.key j).getD 0) 4 0 == field w 4 0)
  if two || decide (30 ≤ (field w 4 0).toNat) then { s with arb := { s.arb with cfgerr := true } }
  else { s with arb := { s.arb with key := nthUpd s.arb.key k (fun _ => w) } }

/-- A write of a region register (R187): with RLOCK, by master 16 only. -/
def writeRegion (by_ m r : Nat) (lim : Bool) (v : Word) (s : State) : Option State :=
  if s.arb.rlock && by_ != 16 then none
  else if 30 ≤ m then some s
  else if lim then
    some { s with arb := { s.arb with rlim := nthUpd s.arb.rlim m (fun x => nthUpd x r (fun _ => v &&& 0xFFFFF000#32)) } }
  else
    some { s with arb := { s.arb with rbase := nthUpd s.arb.rbase m (fun x => nthUpd x r (fun _ => v &&& 0xFFFFF007#32)) } }

/-- A write by master m to the STR and BND registers. -/
def writeStr (m off : Nat) (v : Word) (s : State) : Option State :=
  let a := s.arb
  if off % 4 ≠ 0 then none
  else if 0x1100 ≤ off ∧ off < 0x1200 then
    (if a.bond.pend then none
     else some (modBond (fun b => { b with next := nthUpd b.next ((off - 0x1100) / 4) (fun _ => field v 7 0 &&& 0xDF#8) }) s))
  else if 0x800 ≤ off ∧ off < 0x1000 then
    writeRegion m ((off - 0x800) / 0x40) (off % 0x40 / 8) (off % 8 == 4) v s
  else if 0x280 ≤ off ∧ off < 0x300 then some s
  else if 0x200 ≤ off ∧ off < 0x280 then
    some { s with arb := { a with mcause := nthUpd a.mcause ((off - 0x200) / 4) (· &&& ~~~(field v 5 0)) } }
  else if 0x180 ≤ off ∧ off < 0x200 then some s
  else if 0x100 ≤ off ∧ off < 0x180 then
    some { s with arb := { a with mctl := nthUpd a.mctl ((off - 0x100) / 4) (fun _ => v &&& 0xC007FFFF#32) } }
  else match off with
    | 0x00 => some (if s.img.locked then s else { s with arb := { a with rlock := v.getLsbD 0 } })
    | 0x04 => some { s with arb := { a with cfgerr := a.cfgerr && !v.getLsbD 3 } }
    | 0x10 => some (writeKeyLine 0 v s)
    | 0x14 => some (writeKeyLine 1 v s)
    | 0x18 => some (writeKeyLine 2 v s)
    | 0x1C => some (writeKeyLine 3 v s)
    | 0x20 => some (if v.getLsbD 0 then modBond Bond.request s else s)
    | 0x24 => some s
    | 0x30 => some { s with store := { s.store with ue := s.store.ue && !v.getLsbD 1, ce := s.store.ce && !v.getLsbD 0 } }
    | 0x34 => some s
    | 0x38 => some s
    | _ => none

end Sys2Proof.Machine
end

