-- ==== Sys2Proof/Machine/Hod.lean ====
section
/-! DEFINITION. The hod's queues (R206 to R229): descriptors, rings, tags, the combining buffer, watermarks, errors, and the
operations PUT, GET, PEEK and QST on one queue. -/

namespace Sys2Proof.Machine

/-! ### Descriptors -/

/-- The stored descriptor of a queue. -/
def descOf (s : State) (q : QueueId) : Desc := (kvGet s.hod.desc q.toNat).getD Desc.zero

/-- A descriptor that reads as an unwritten one is not listed. -/
def descDrop (d : Desc) : Bool := d == Desc.zero

/-- Write the stored descriptor of a queue. -/
def putDesc (q : QueueId) (d : Desc) (s : State) : State :=
  { s with hod := { s.hod with desc := kvPut descDrop q.toNat d s.hod.desc } }

/-- KEY. -/
def Desc.key (d : Desc) : Bool := d.w0.getLsbD 30
/-- SIZE. -/
def Desc.size (d : Desc) : Nat := (field d.w0 27 24).toNat
/-- The ring's base address. -/
def Desc.base (d : Desc) : Nat := (field d.w0 22 6).toNat * 64
/-- The ring's length in bytes: 64 × 2^SIZE (R208). -/
def Desc.ring (d : Desc) : Nat := 64 * 2 ^ d.size
/-- The capacity C in elements: 8 × 2^SIZE (R208). -/
def Desc.cap (d : Desc) : Nat := 8 * 2 ^ d.size
/-- HEAD. -/
def Desc.head (d : Desc) : Nat := (field d.w1 29 16).toNat
/-- TAIL. -/
def Desc.tail (d : Desc) : Nat := (field d.w1 13 0).toNat
/-- COUNT = (TAIL − HEAD) mod 2C (R208). -/
def Desc.count (d : Desc) : Nat := (d.tail + 2 * d.cap - d.head) % (2 * d.cap)
/-- The address of the element at an index (R208). -/
def Desc.elem (d : Desc) (i : Nat) : Nat := d.base + 8 * (i % d.cap)
/-- SEQ. -/
def Desc.seq (d : Desc) : Nat := (field d.w3 2 0).toNat
/-- STALL. -/
def Desc.stall (d : Desc) : Nat := (field d.w3 23 20).toNat
/-- With EN set or clear. -/
def Desc.setEn (d : Desc) (b : Bool) : Desc := { d with w0 := setBit d.w0 31 b }
/-- With HEAD moved on by one, modulo 2C (R208). -/
def Desc.popped (d : Desc) : Desc := { d with w1 := putField d.w1 16 14 ((d.head + 1) % (2 * d.cap)) }
/-- With TAIL and SEQ moved on by one (R208, R210). -/
def Desc.pushed (d : Desc) : Desc :=
  { d with w1 := putField d.w1 0 14 ((d.tail + 1) % (2 * d.cap)), w3 := putField d.w3 0 3 ((d.seq + 1) % 8) }

/-- With SEQ alone moved on by one: a packer's word was dropped (R210). -/
def Desc.skipped (d : Desc) : Desc := { d with w3 := putField d.w3 0 3 ((d.seq + 1) % 8) }

/-- The bank of a queue (R207). -/
def bankOf (q : QueueId) : Nat :=
  (field q 1 0 ^^^ field q 5 4 ^^^ field q 9 8 ^^^ field q 13 12).toNat

/-- A queue marked faulted (R221, R229). -/
def faulted (s : State) (q : QueueId) : Bool := s.hod.fault.contains q.toNat

/-- Mark a queue faulted; the list holds each queue once, in rising order. -/
def markFault (q : QueueId) (s : State) : State :=
  let l := s.hod.fault.filter (· < q.toNat) ++ [q.toNat] ++ s.hod.fault.filter (q.toNat < ·)
  { s with hod := { s.hod with fault := l } }

/-- Clear a queue's fault mark. -/
def clearFault (q : QueueId) (s : State) : State :=
  { s with hod := { s.hod with fault := s.hod.fault.filter (· != q.toNat) } }

/-- Queues enabled with KEY = 1 (HOD_STATUS.KEYCNT). DESIGN CHOICE (log 33): a faulted queue whose EN bit is still 1 counts, here, in the
limit of code 4 and in the producer check of code 6; the spec does not say. -/
def keyCount (s : State) : Nat := (s.hod.desc.filter (fun e => e.2.en && e.2.key)).length

/-- One completed descriptor operation counts in its bank's window; with WIN = 0 the detector is off (R225). -/
def countBank (q : QueueId) (s : State) : State :=
  if s.hod.skewwin = 0 then s else
  { s with hod := { s.hod with bankNow := nthUpd s.hod.bankNow (bankOf q) (· + 1) } }

/-- Every operation reads its queue's descriptor: a single-bit error is corrected (source 436), an uncorrectable one marks the
queue faulted (source 437), R229. -/
def readDesc (q : QueueId) (s : State) : State :=
  match kvGet s.hod.derr q.toNat with
  | none => s
  | some .single =>
    raise 436 { s with hod := { s.hod with derr := kvDel q.toNat s.hod.derr, dce := true, descUe := false, descQ := q } }
  | some .double =>
    raise 437 (markFault q { s with hod := { s.hod with
      derr := kvDel q.toNat s.hod.derr, due := true, descUe := true, descQ := q } })

/-- A recorded crossing of group g (R226). -/
def crossing (g : Nat) (hi : Bool) (q : QueueId) (s : State) : State :=
  raise (384 + g) { s with hod := { s.hod with wm := nthUpd s.hod.wm g (fun w =>
    { hi := w.hi || hi, lo := w.lo || !hi, count := BitVec.ofNat 6 (satAdd 6 w.count.toNat 1),
      q := if w.count = 0 then q else w.q }) } }

/-- After a descriptor step that changes COUNT from c0 to c1: watermarks (R226) and the plinth queues' not-empty sources
(R206). -/
def countChanged (q : QueueId) (d : Desc) (c0 c1 : Nat) (s : State) : State :=
  let g := (field d.w3 31 26).toNat
  let hw := (field d.w2 29 16).toNat
  let lw := (field d.w2 13 0).toNat
  let s1 := if d.w3.getLsbD 25 && decide (c0 < hw) && decide (hw ≤ c1) then crossing g true q s else s
  let s2 := if d.w3.getLsbD 24 && decide (lw < c0) && decide (c1 ≤ lw) then crossing g false q s1 else s1
  raiseIf (decide (q.toNat < 4) && c0 == 0 && decide (0 < c1)) (444 + q.toNat) s2

/-- The status word of R118. A disabled or faulted queue shows EN = 0 (R119). -/
def statusWord (s : State) (q : QueueId) : Word :=
  let d := descOf s q
  BitVec.ofNat 32 ((d.en && !faulted s q).toNat * 2 ^ 31 + d.key.toNat * 2 ^ 30 + d.pack.toNat * 2 ^ 29
    + (d.count == d.cap).toNat * 2 ^ 28 + (d.count == 0).toNat * 2 ^ 27 + d.count)

/-! ### Elements and the combining buffer -/

/-- A tag byte (R209). -/
def tagByte (vb : Nat) (brk eob : Bool) (seq : Nat) : Byte :=
  BitVec.ofNat 8 (128 + vb % 4 * 32 + brk.toNat * 16 + eob.toNat * 8 + seq % 8)

/-- The 8 bytes of an element: data, tag, three bytes of 0 (R208). -/
def elemBytes (v : Word) (tag : Byte) : List Byte := leBytes 4 v.toNat ++ [tag, 0, 0, 0]

/-- The half of an entry that an address lies in. -/
def CombEntry.half (e : CombEntry) (a : Nat) : Option (List Byte) := if a % 16 < 8 then e.lo else e.hi

/-- An entry with one half written. -/
def CombEntry.put (e : CombEntry) (a : Nat) (d : List Byte) : CombEntry :=
  if a % 16 < 8 then { e with lo := some d } else { e with hi := some d }

/-- Both halves written (R220). -/
def CombEntry.complete (e : CombEntry) : Bool := e.lo.isSome && e.hi.isSome

/-- The entries of one burst that starts at beat address a: consecutive beats of the same queue's ring, at most n, not
crossing a 4 KiB boundary (R182, R220). -/
def burstFrom (l : List CombEntry) (q : QueueId) : Nat → Nat → List CombEntry
  | _, 0 => []
  | a, n + 1 =>
    match l.find? (fun e => e.addr == a && e.q == q) with
    | none => []
    | some e => e :: (if (a + 16) % 4096 = 0 then [] else burstFrom l q (a + 16) n)

/-- Raise the flush of the entry at a beat address, when no flush is in progress: its burst leaves the buffer for the store
(R220, R224). -/
def raiseFlush (a : Nat) (s : State) : State :=
  if !s.hod.flush.isEmpty then s else
  match s.hod.comb.find? (fun e => e.addr == a) with
  | none => s
  | some e =>
    let b := burstFrom s.hod.comb e.q a 8
    { s with hod := { s.hod with flush := b, comb := s.hod.comb.filter (fun e => !b.contains e) } }

/-- Raise the flush of the oldest complete entry, when there is one (R220). -/
def flushComplete (s : State) : State :=
  match s.hod.comb.find? CombEntry.complete with
  | some e => raiseFlush e.addr s
  | none => s

/-- Whether an element for the beat finds an entry or a free one (R220). -/
def combRoom (s : State) (beat : Nat) : Bool :=
  s.hod.comb.any (fun e => e.addr == beat) || decide (s.hod.comb.length + s.hod.flush.length < 64)

/-- Append an element's bytes to the combining buffer (R220). -/
def combPut (q : QueueId) (a : Nat) (d : List Byte) (s : State) : State :=
  let beat := a / 16 * 16
  let l := if s.hod.comb.any (fun e => e.addr == beat)
    then s.hod.comb.map (fun e => if e.addr = beat then e.put a d else e)
    else s.hod.comb ++ [CombEntry.put ⟨beat, q, none, none⟩ a d]
  flushComplete { s with hod := { s.hod with comb := l } }

/-- The element's bytes while they are still in the buffer, or in a flush not yet complete (R220). -/
def combGet (s : State) (a : Nat) : Option (List Byte) :=
  match s.hod.comb.find? (fun e => e.addr == a / 16 * 16 && (e.half a).isSome) with
  | some e => e.half a
  | none =>
    match s.hod.flush.find? (fun e => e.addr == a / 16 * 16 && (e.half a).isSome) with
    | some e => e.half a
    | none => none

/-- The bytes of an entry that are to be written, with their address. -/
def CombEntry.write (e : CombEntry) : Option (Nat × List Byte) :=
  match e.lo, e.hi with
  | some l, some h => some (e.addr, l ++ h)
  | some l, none => some (e.addr, l)
  | none, some h => some (e.addr + 8, h)
  | none, none => none

/-- A flush or a KEY write failed: source 443, HOD_CBERR, the queue faulted once (R221, R229). -/
def flushError (q : QueueId) (s : State) : State :=
  raise 443 (markFault q { s with hod := { s.hod with cberr := true, cbq := q } })

/-- Write the entries of a burst until the beat that fails, if one does: that beat and the later ones are lost (R229). The entries that
still wait for the store are given back. -/
def writeBurst : List CombEntry → Option Nat → State → List CombEntry × State
  | [], _, s => ([], s)
  | e :: t, failAt, s =>
    match failAt, e.write with
    | some 0, _ => ([], flushError e.q s)
    | f, none => writeBurst t (f.map (· - 1)) s
    | f, some (a, d) =>
      match storeAccess 18 a d.length (some d) false s with
      | (⟨.ok, _⟩, s1) => writeBurst t (f.map (· - 1)) s1
      | (⟨.waits, _⟩, s1) => (e :: t, s1)
      | (_, s1) => ([], flushError e.q s1)

/-- The flush in progress completes (R220, R229), and the next complete entry's flush is raised. Beats that wait for the store stay in
progress. -/
def flushDone (failAt : Option Nat) (s : State) : State :=
  if s.hod.flush.isEmpty then s
  else match writeBurst s.hod.flush failAt s with
    | ([], t) => flushComplete { t with hod := { t.hod with flush := [] } }
    | (l, t) => { t with hod := { t.hod with flush := l } }

/-- Flush the whole buffer, burst by burst, the oldest entry's first: an error in one loses no other's elements (R230). `n` is fuel. -/
def flushAll : Nat → State → State
  | 0, s => s
  | n + 1, s =>
    match s.hod.flush, s.hod.comb with
    | [], [] => s
    | [], e :: _ => flushAll n (flushDone none (raiseFlush e.addr s))
    | _ :: _, _ => flushAll n (flushDone none s)

/-! ### Operations -/

/-- The outcome of an operation on a queue (R119, R215, R229). -/
inductive QRes where
  | accepted
  | disabled
  | full
  /-- PUT to a PACK-class queue. -/
  | packClass
  | region
  /-- The keystone write of a KEY PUT failed (R221). -/
  | keyError
  | elem (v : Word) (tag : Byte)
  | empty
  | status (w : Word)
  /-- The payload could not be read; the element's store address (R229). -/
  | payload (addr : Nat)
  /-- The operation waits: the hod or the KEY lane or the buffer is not ready. -/
  | waits
  deriving DecidableEq, Repr

/-- Append an element through the combining buffer: VB, BRK and EOB are given, SEQ is the hod's (R210, R220). A full buffer's oldest entry
is flushed, and the operation waits. -/
def appendElem (q : QueueId) (v : Word) (vb : Nat) (brk eob : Bool) (s : State) : QRes × State :=
  let d := descOf s q
  let a := d.elem d.tail
  if combRoom s (a / 16 * 16) then
    (.accepted, combPut q a (elemBytes v (tagByte vb brk eob d.seq)) (countChanged q d d.count (d.count + 1) (putDesc q d.pushed s)))
  else
    match s.hod.comb with
    | e :: _ => (.waits, raiseFlush e.addr s)
    | [] => (.waits, s)

/-- The rows of R119 that refuse a PUT of master m, in order; none lets it append. -/
def putRefusal (m : Nat) (q : QueueId) (s : State) : Option (QRes × State) :=
  let d := descOf s q
  if !d.en || faulted s q then some (.disabled, raise 442 s)
  else if d.pack then some (.packClass, s)
  else if !regionOk s m d.base d.ring false true then some (.region, raise 438 s)
  else if d.count = d.cap then some (.full, raise 441 s)
  else none

/-- The rows of R119 that answer a GET or PEEK of master m without a payload access, in order. -/
def getRefusal (m : Nat) (q : QueueId) (s : State) : Option (QRes × State) :=
  let d := descOf s q
  if !d.en || faulted s q then some (.disabled, raise 442 s)
  else if !regionOk s m d.base d.ring true false then some (.region, raise 438 s)
  else if d.count = 0 then some (.empty, s)
  else none

/-- PUT as master m on a queue that is not KEY. -/
def queuePut (m : Nat) (q : QueueId) (v : Word) (eob : Bool) (s : State) : QRes × State :=
  match putRefusal m q s with
  | some r => r
  | none => appendElem q v 0 false eob s

/-- The head element leaves its queue. -/
def dropHead (q : QueueId) (s : State) : State :=
  let d := descOf s q
  countChanged q d d.count (d.count - 1) (putDesc q d.popped s)

/-- The outcome of reading an element's 8 bytes. -/
def elemOf (l : List Byte) : QRes := .elem (BitVec.ofNat 32 (leNat (l.take 4))) (l.getD 4 0)

/-- Read the element at an address as master 18: from the combining buffer, else from the store (R220). An element that the store does
not give, for whatever reason, is unreadable (R229). -/
def readElem (a : Nat) (s : State) : QRes × State :=
  match combGet s a with
  | some l => (elemOf l, s)
  | none =>
    match storeAccess 18 a 8 none false s with
    | (⟨.ok, l⟩, t) => (elemOf l, t)
    | (⟨.waits, _⟩, t) => (.waits, t)
    | (_, t) => (.payload a, t)

/-- GET or PEEK as master m on a queue that is not KEY (R119, R229): an unreadable element is removed by GET and stays for PEEK. DESIGN
CHOICE (log 33): so is one whose read the hod's own regions or FENCE refuse, of which the spec says nothing. -/
def queueGet (m : Nat) (q : QueueId) (remove : Bool) (s : State) : QRes × State :=
  match getRefusal m q s with
  | some r => r
  | none =>
    let d := descOf s q
    match readElem (d.elem d.head) s with
    | (.waits, t) => (.waits, t)
    | (r, t) => (r, if remove then dropHead q t else t)

/-! ### KEY queues (R221, R223) -/

/-- The descriptor step of a KEY GET or PEEK: a GET's element leaves the queue here. -/
def keyRead (m : Nat) (q : QueueId) (remove : Bool) (s : State) : (QRes ⊕ LanePay) × State :=
  let s1 := readDesc q s
  match getRefusal m q s1 with
  | some (r, t) => (.inl r, countBank q t)
  | none => (.inr (.read ((descOf s1 q).elem (descOf s1 q).head)), countBank q (if remove then dropHead q s1 else s1))

/-- The descriptor step of master m's KEY operation: an outcome, or the payload access it leaves to do. A PUT's element counts
from its data cycle. -/
def keyStep (m : Nat) (op : HodOp) (s : State) : (QRes ⊕ LanePay) × State :=
  match op with
  | .put q v eob =>
    let s1 := readDesc q s
    (match putRefusal m q s1 with
      | some (r, t) => (.inl r, countBank q t)
      | none =>
        let d := descOf s1 q
        (.inr (.write (d.elem d.tail) (elemBytes v (tagByte 0 false eob d.seq)) d.tail), countBank q s1))
  | .get q => keyRead m q true s
  | .peek q => keyRead m q false s
  | .qst q =>
    let s1 := readDesc q s
    (.inl (.status (statusWord s1 q)), countBank q s1)

/-- A KEY element has been written: it counts, unless its queue was rewritten or flushed meanwhile. -/
def keyAppended (q : QueueId) (tail : Nat) (s : State) : State :=
  let d := descOf s q
  if d.tail = tail then countChanged q d d.count (d.count + 1) (putDesc q d.pushed s) else s

/-- The keystone beat of a KEY operation on queue q, ended with an error or not. -/
def keyPayload (q : QueueId) (err : Bool) (p : LanePay) (s : State) : QRes × State :=
  match p with
  | .write a bytes tail =>
    if err then (.keyError, flushError q s) else
    (match storeAccess 18 a 8 (some bytes) (hasKey s 18) s with
      | (⟨.ok, _⟩, t) => (.accepted, keyAppended q tail t)
      | (⟨.waits, _⟩, t) => (.waits, t)
      | (_, t) => (.keyError, flushError q t))
  | .read a =>
    if err then (.payload a, s) else
    (match storeAccess 18 a 8 none (hasKey s 18) s with
      | (⟨.ok, l⟩, t) => (elemOf l, t)
      | (⟨.waits, _⟩, t) => (.waits, t)
      | (_, t) => (.payload a, t))

/-! ### Operations -/

/-- One ordinary operation of master m on a queue, its descriptor operation counted in its bank (R119, R225). -/
def queueOp (m : Nat) (op : HodOp) (s : State) : QRes × State :=
  let go (q : QueueId) (f : State → QRes × State) : QRes × State :=
    let s1 := readDesc q s
    match f s1 with
    | (.waits, t) => (.waits, t)
    | (r, t) => (r, countBank q t)
  match op with
  | .put q v eob => go q (queuePut m q v eob)
  | .get q => go q (queueGet m q true)
  | .peek q => go q (queueGet m q false)
  | .qst q => go q (fun t => (.status (statusWord t q), t))

/-- The queue of an operation. -/
def opQueue : HodOp → QueueId
  | .put q _ _ => q
  | .get q => q
  | .peek q => q
  | .qst q => q

end Sys2Proof.Machine
end

