-- ==== Sys2Proof/Machine/HodRows.lean ====
section
/-! DEFINITION. The hod behind its queues: requester ports (R214), queue windows (R215), the KEY lane (R221, R223), descriptor
commands (R211, R212), packers (R216 to R219, R228), the combining buffer's flushes (R220, R229), bank skew (R225) and the
HOD registers. -/

namespace Sys2Proof.Machine

/-! ### Results as a bus master sees them -/

/-- The response of an operation through the queue window (R215, R229). -/
def windowResp (op : HodOp) (r : QRes) : Resp :=
  match r with
  | .accepted => ⟨.ok, []⟩
  | .disabled =>
    (match op with
      | .put _ _ _ => ⟨.refused, []⟩
      | _ => ⟨.ok, List.replicate 8 0⟩)
  | .full => ⟨.refused, []⟩
  | .packClass => ⟨.busError, []⟩
  | .region => ⟨.busError, []⟩
  | .keyError => ⟨.busError, []⟩
  | .elem v tag => ⟨.ok, elemBytes v tag⟩
  | .empty => ⟨.ok, List.replicate 8 0⟩
  | .status w => ⟨.ok, leBytes 4 w.toNat⟩
  | .payload _ => ⟨.ecc, []⟩
  | .waits => ⟨.waits, []⟩

/-! ### Packers -/

/-- The master whose regions govern a packer's writes (R216). -/
def packMaster (p : Nat) : Nat := if p < 16 then 21 + 2 * (p / 4) else 19

/-- Change packer p. -/
def modPack (p : Nat) (f : Packer → Packer) (s : State) : State :=
  { s with hod := { s.hod with pack := nthUpd s.hod.pack p f } }

/-- A closed word is dropped: DROP, the source, a break mark owed (R217, R228). -/
def dropWord (p src : Nat) (s : State) : State :=
  raise src (modPack p (fun k => { k with owed := true, wait := none,
                                          drop := BitVec.ofNat 16 (satAdd 16 k.drop.toNat 1) }) s)

/-- A word for queue q is dropped: SEQ passes it over, so that a reader sees the gap (R210). -/
def dropFrom (p src : Nat) (q : QueueId) (s : State) : State := dropWord p src (putDesc q (descOf s q).skipped s)

/-- The VB, EOB and BRK of a closed word as tag bits (R209). -/
def wordTag (vb : Nat) (brk eob : Bool) : BitVec 8 := BitVec.ofNat 8 (vb % 4 * 32 + brk.toNat * 16 + eob.toNat * 8)

/-- A closed word of packer p waits for room in its queue, or in the combining buffer (R220, R228). -/
def holdWord (p : Nat) (v : Word) (tag : BitVec 8) (s : State) : State := modPack p (fun k => { k with wait := some (v, tag) }) s

/-- Append a closed word as the packer port does (R217, R228): true when the word was taken or is waiting for room. A faulted queue's
descriptor stays as it is (R229). The operation counts in its bank once it completes, not while it waits (R225). -/
def appendPacked (p : Nat) (v : Word) (tag : BitVec 8) (s : State) : Bool × State :=
  match packQueue s p with
  | none => (false, dropWord p 442 s)
  | some q =>
    let s1 := readDesc q s
    let d := descOf s1 q
    if faulted s1 q then (false, dropWord p 442 (countBank q s1))
    else if !regionOk s1 (packMaster p) d.base d.ring false true then (false, dropFrom p 438 q (countBank q s1))
    else if d.count = d.cap then (if p < 16 then (true, holdWord p v tag s1) else (false, dropFrom p 441 q (countBank q s1)))
    else
      match appendElem q v (field tag 6 5).toNat (tag.getLsbD 4) (tag.getLsbD 3) s1 with
      | (.accepted, t) => (true, modPack p (fun k => { k with wait := none }) (countBank q t))
      | (_, t) => (true, holdWord p v tag t)

/-- Close the partial word of packer p, which pays a break mark owed (R217). -/
def closeWord (p : Nat) (brk eob : Bool) (s : State) : Bool × State :=
  let k := packOf s p
  let n := k.part.length
  appendPacked p (BitVec.ofNat 32 (leNat k.part)) (wordTag (n % 4) (brk || k.owed) eob)
    (modPack p (fun k => { k with part := [], owed := false }) s)

/-- One byte, with or without END, into packer p; false when a word was dropped (R217). -/
def packByte (p : Nat) (v : Byte) (last : Bool) (s : State) : Bool × State :=
  let s1 := modPack p (fun k => { k with part := k.part ++ [v] }) s
  if (packOf s1 p).part.length = 4 ∨ last then closeWord p false last s1 else (true, s1)

/-- END alone: closes a partial word; ignored without one (R217). -/
def packEnd (p : Nat) (s : State) : Bool × State := if (packOf s p).part.isEmpty then (true, s) else closeWord p false true s

/-- Packer p takes bytes: an enabled PACK queue names it, it does not wait for room, the hod's domain is on. -/
def packTakes (s : State) (p : Nat) : Bool := (packQueue s p).isSome && (packOf s p).wait.isNone && !s.hod.gated

/-- The packer takes what its buffer holds, until it waits for room. A chain packer that drops a word drops the rest of the cell's bytes
with it (R228). `n` is fuel. -/
def drainPack (p : Nat) : Nat → State → State
  | 0, s => s
  | n + 1, s =>
    if !packTakes s p then s else
    match (packOf s p).fifo with
    | [] => s
    | (b, last) :: t =>
      let s1 := modPack p (fun k => { k with fifo := t }) s
      match (match b with
        | some v => packByte p v last s1
        | none => packEnd p s1) with
      | (true, s2) => drainPack p n s2
      | (false, s2) => if p < 16 then drainPack p n s2 else modPack p (fun k => { k with fifo := [] }) s2

/-- The bay on whose clock fabric byte port p runs. -/
def portBayOf (s : State) (p : Nat) : BayId := Fin.ofNat 64 (p / 4 * 16 + Config.portBay s.img.iopay p % 16)

/-- Fabric byte port p presents something: its bay is not held, and the regional clock that the image chose runs, which none does before the
global release (R164, R219, R230, R292). -/
def portLive (s : State) (p : Nat) : Bool :=
  (s.bay (portBayOf s p)).runs && !s.img.hold && clkRuns s (portBayOf s p) (Config.portClk s.img.iopay p)

/-- A fabric byte port presents a byte, or END alone, on an edge: taken into its buffer while READY is 1 (R219). -/
def presentByte (p : Nat) (b : Option Byte) (last : Bool) (s : State) : State :=
  if !portLive s p || !portReady s p then s else
  drainPack p 8 (startWake .hod (modPack p (fun k => { k with fifo := k.fifo ++ [(b, last)] }) s))

/-- PACKER_BYTE (R217, R219). -/
def execPackerByte (p : PackerId) (v : Byte) (last : Bool) (st : State) : Host.Outcome State Fault Refusal :=
  .next (if p.val < 16 then presentByte p.val (some v) last st
    else if packTakes st p.val then (packByte p.val v last st).2 else startWake .hod st)

/-- PACKER_END_ALONE (R217): closes a partial word; ignored without one. -/
def execPackerEndAlone (p : PackerId) (st : State) : Host.Outcome State Fault Refusal :=
  .next (if p.val < 16 then presentByte p.val none true st
    else if packTakes st p.val then (packEnd p.val st).2 else st)

/-- The partial word of packer p closes as by its stall: BRK, source 439 (R218). -/
def stallClose (p : Nat) (s : State) : State :=
  if (packOf s p).part.isEmpty then s else raise 439 (closeWord p true false s).2

/-- PACKER_STALL_EXPIRY (R218): only with a stall time set. -/
def execPackerStallExpiry (p : PackerId) (st : State) : Host.Outcome State Fault Refusal :=
  .next (match packQueue st p.val with
    | some q => if (descOf st q).stall = 0 then st else stallClose p.val st
    | none => st)

/-- A held word is appended once there is room, and the packer takes bytes again (R220, R228). -/
def resumePack (p : Nat) (s : State) : State :=
  match (packOf s p).wait with
  | some (v, tag) => drainPack p 40 (appendPacked p v tag s).2
  | none => s

/-- PACKER_ROOM_RESUME (R228). -/
def execPackerRoomResume (p : PackerId) (st : State) : Host.Outcome State Fault Refusal :=
  .next (if st.hod.gated then st else resumePack p.val st)

/-! ### Descriptor commands -/

/-- The staged words as a descriptor that WRITE stores (R211). -/
def stagedDesc (s : State) : Desc :=
  ⟨setBit (s.hod.stg.get 0) 31 false, 0, s.hod.stg.get 2, s.hod.stg.get 3 &&& 0xFFFFFFF8#32⟩

/-- Whole-descriptor checks of R212, in its order from code 2; 0 is accepted. -/
def descCheck (q : QueueId) (d : Desc) (s : State) : Nat :=
  let hw := (field d.w2 29 16).toNat
  let lw := (field d.w2 13 0).toNat
  if 10 < d.size ∨ d.base % d.ring ≠ 0 ∨ storeEnd < d.base + d.ring ∨ (d.pack ∧ 14 ≤ d.stall) then 2
  else if d.key && d.pack then 7
  else if d.key && decide (256 ≤ keyCount s) then 4
  else if (d.w3.getLsbD 25 && (hw == 0 || decide (d.cap < hw))) || (d.w3.getLsbD 24 && decide (d.cap ≤ lw))
      || decide (47 < (field d.w3 31 26).toNat) then 8
  else if !regionOk s 18 d.base d.ring true true then 5
  else if d.pack && s.hod.desc.any (fun e => e.1 != q.toNat && e.2.en && e.2.pack && e.2.producer == d.producer) then 6
  else 0

/-- Put RESULT. -/
def qresult (n : Nat) (s : State) : State := { s with hod := { s.hod with result := BitVec.ofNat 4 n } }

/-- A command of HOD_QCMD by master m on the selected queue (R211, R212). Code 3 comes before the descriptor is touched. DESIGN CHOICE
(log 33): the low crossing of a WRITE, which takes COUNT to 0, is judged by the marks that stood before it. -/
def qcmd (m : Nat) (c : Nat) (s : State) : State :=
  let q := s.hod.qsel
  let s1 := readDesc q s
  let d := descOf s1 q
  let bad := faulted s1 q
  let busy := d.en && !bad
  if c = 0 ∨ 5 < c then qresult 15 s
  else if c ≠ 5 ∧ q.toNat < 64 ∧ m ≠ 16 then qresult 3 (countBank q s)
  else countBank q (
    if c = 1 then
      (if busy then qresult 1 s1
       else qresult 0 (clearFault q (countChanged q d d.count 0 (putDesc q (stagedDesc s1) s1))))
    else if c = 2 then
      (if bad then qresult 9 s1
       else if busy then qresult 1 s1
       else if descCheck q d s1 ≠ 0 then qresult (descCheck q d s1) s1
       else qresult 0 (putDesc q (d.setEn true) s1))
    else if c = 3 then qresult 0 (putDesc q (d.setEn false) s1)
    else if c = 4 then
      (if busy then qresult 1 s1
       else qresult 0 (countChanged q d d.count 0 (putDesc q { d with w1 := putField d.w1 16 14 d.tail } s1)))
    else qresult 0 { s1 with hod := { s1.hod with stg := #v[d.w0, d.w1, d.w2, d.w3] } })

/-- The command of HOD_QCMD completes: BUSY clears and RESULT holds its outcome (R211). -/
def qcmdDone (s : State) : State :=
  match s.hod.qbusy with
  | some c => qcmd c.master c.code { s with hod := { s.hod with qbusy := none } }
  | none => s

/-- By the moment of an access the command of HOD_QCMD has completed, or not: which is free (R211, log 6). -/
def qcmdMaybe (s : State) : State :=
  if s.hod.qbusy.isNone then s else if Config.freeLevel s.free then qcmdDone s.usedFree else s.usedFree

/-! ### Flushes and skew -/

/-- COMBINE_IDLE_FLUSH (R220): the idle entry of a beat goes to the store. -/
def execCombineIdleFlush (addr : Nat) (st : State) : Host.Outcome State Fault Refusal :=
  .next (raiseFlush addr st)

/-- COMBINE_FLUSH_DONE (R220, R229): the flush in progress completes, or fails at a beat of its burst. -/
def execCombineFlushDone (failAt : Option Nat) (st : State) : Host.Outcome State Fault Refusal :=
  .next (flushDone failAt st)

/-- SKEW_WINDOW_END (R225). -/
def execSkewWindowEnd (st : State) : Host.Outcome State Fault Refusal :=
  .next (if st.hod.skewwin = 0 then st else
    let c := st.hod.bankNow
    let total := c.toList.foldl (· + ·) 0
    let s1 := { st with hod := { st.hod with bankCnt := c.map (BitVec.ofNat 32), bankNow := Vector.replicate 4 0 } }
    (List.range 4).foldl (fun t b =>
      raiseIf (decide (64 ≤ total) && decide (7 * total < 10 * (nth c b).getD 0)) (432 + b) t) s1)

/-! ### Reset (R230) -/

/-- Power-on, PORST_N and every load attempt: descriptors disabled and zero, rings empty, buffer, partial words and lane
discarded. DROP and the other registers have their own resets. -/
def wipeQueues (h : Hod) : Hod :=
  { h with desc := [], fault := [], derr := [], comb := [], flush := [], lane := none, keyWait := [], cells := [], qbusy := none,
           pack := h.pack.map (fun k => { k with fifo := [], part := [], owed := false, wait := none }) }

/-! ### Registers -/

/-- HOD_PKSTATp as it reads. -/
def packWord (k : Packer) : Word :=
  flagAt 31 (!k.part.isEmpty) ||| flagAt 30 k.wait.isSome ||| valAt 28 (k.part.length % 4) ||| flagAt 27 k.owed
    ||| k.drop.setWidth 32

/-- A read of the HOD block. -/
def readHod (off : Nat) (rec : Word) (s : State) : Option (Word × State) :=
  let h := s.hod
  if off % 4 ≠ 0 then none
  else if 0x200 ≤ off ∧ off < 0x2C0 then
    let fresh : WmStat := ⟨rec.getLsbD 31, rec.getLsbD 30, recField rec 6 24, recField rec 16 0⟩
    (nth h.wm ((off - 0x200) / 4)).map (fun w =>
      (flagAt 31 w.hi ||| flagAt 30 w.lo ||| valAt 24 w.count.toNat ||| w.q.setWidth 32,
       { s with hod := { h with wm := nthUpd h.wm ((off - 0x200) / 4) (fun _ => fresh) } }))
  else if 0x100 ≤ off ∧ off < 0x180 then
    (nth h.pack ((off - 0x100) / 4)).map (fun k =>
      (packWord k, modPack ((off - 0x100) / 4) (fun k => { k with drop := recField rec 16 0 }) s))
  else match off with
    | 0x00 => peekS s (some (valAt 16 (keyCount s) ||| flagAt 3 h.waking ||| flagAt 2 h.lane.isSome ||| flagAt 1 h.due
        ||| flagAt 0 h.dce))
    | 0x04 => peekS s (some (h.keyports.setWidth 32))
    | 0x10 => peekS s (some (h.qsel.setWidth 32))
    | 0x14 => peekS s (some (h.stg.get 0))
    | 0x18 => peekS s (some (h.stg.get 1))
    | 0x1C => peekS s (some (h.stg.get 2))
    | 0x20 => peekS s (some (h.stg.get 3))
    | 0x24 =>
      let t := qcmdMaybe s
      peekS t (some (flagAt 31 t.hod.qbusy.isSome ||| t.hod.result.setWidth 32))
    | 0x30 => peekS s (some (h.skewwin.setWidth 32))
    | 0x40 => peekS s (some (h.bankCnt.get 0))
    | 0x44 => peekS s (some (h.bankCnt.get 1))
    | 0x48 => peekS s (some (h.bankCnt.get 2))
    | 0x4C => peekS s (some (h.bankCnt.get 3))
    | 0x50 => peekS s (some (flagAt 31 h.cberr ||| valAt 16 (h.comb.length + h.flush.length) ||| h.cbq.setWidth 32))
    | 0x54 => peekS s (some (flagAt 31 h.descUe ||| h.descQ.setWidth 32))
    | 0x58 => some (valAt 28 h.rfReason.toNat ||| valAt 16 h.rfDev.toNat ||| h.rfQ.setWidth 32,
        { s with hod := { h with rfReason := recField rec 4 28 } })
    | _ => none

/-- A staging word. -/
def stage (i : Fin 4) (v : Word) (s : State) : State := { s with hod := { s.hod with stg := upd s.hod.stg i v } }

/-- A write to a staging register or the selection, which ends in a bus error while a command is under way (R211). -/
def whenIdle (f : State → State) (s : State) : Option State :=
  let t := qcmdMaybe s
  if t.hod.qbusy.isSome then none else some (f t)

/-- A write by master m to the HOD block. -/
def writeHod (m off : Nat) (v : Word) (s : State) : Option State :=
  let h := s.hod
  if off % 4 ≠ 0 then none
  else if 0x200 ≤ off ∧ off < 0x2C0 then some s
  else if 0x100 ≤ off ∧ off < 0x180 then some s
  else match off with
    | 0x00 => some { s with hod := { h with due := h.due && !v.getLsbD 1, dce := h.dce && !v.getLsbD 0 } }
    | 0x04 => some (if s.img.locked then s else { s with hod := { h with keyports := field v 18 0 } })
    | 0x10 => whenIdle (fun t => { t with hod := { t.hod with qsel := field v 15 0 } }) s
    | 0x14 => whenIdle (stage 0 (v &&& 0xEF7FFFC0#32)) s
    | 0x18 => whenIdle (stage 1 (v &&& 0x3FFF3FFF#32)) s
    | 0x1C => whenIdle (stage 2 (v &&& 0x3FFF3FFF#32)) s
    | 0x20 => whenIdle (stage 3 (v &&& 0xFFFF8007#32)) s
    | 0x24 => whenIdle (fun t => { t with hod := { t.hod with qbusy := some ⟨m, (field v 7 4).toNat⟩ } }) s
    | 0x30 => some { s with hod := { h with skewwin := field v 15 0, bankNow := Vector.replicate 4 0 } }
    | 0x40 => some s
    | 0x44 => some s
    | 0x48 => some s
    | 0x4C => some s
    | 0x50 => some { s with hod := { h with cberr := h.cberr && !v.getLsbD 31 } }
    | 0x54 => some { s with hod := { h with descUe := h.descUe && !v.getLsbD 31 } }
    | 0x58 => some s
    | _ => none

end Sys2Proof.Machine
end

