-- ==== Sys2Proof/Machine/Lane.lean ====
section
/-! DEFINITION. Who performs a queue operation and who hears of it (R119, R214, R215, R221 to R223, R227): the outcome of one as a bus
master, a setter and a cell's sender see it, the KEY lane, and the rows of the hod's ports. -/

namespace Sys2Proof.Machine

/-! ### Outcomes -/

/-- Give master m a response. -/
def answer (m : Nat) (r : Resp) (s : State) : State := s.respond m r.code r.data

/-- The response that master m has now. -/
def State.respOf (s : State) (m : Nat) : Resp := (nth s.resp m).getD Resp.reset

/-- Setter cycles of a queue instruction: 8 + h, the hod's wait h not bounded here (R118, log 9). -/
def queueCost (s : State) : Nat := 8 + Config.freeCost s.free

/-- Complete a queue instruction. -/
def queueDone (s : SetterId) (f : Setter → Setter) (t : State) : Fate :=
  .done (t.modS s (fun x => (f x).adv)).usedFree (queueCost t) none false

/-- PUT's answer in C. -/
def Setter.setC (x : Setter) (b : Bool) : Setter := { x with flags := { x.flags with c := b } }

/-- GET or PEEK's answer: gd, TAG and Q (R118). -/
def Setter.setElem (x : Setter) (d : Reg) (v : Word) (tag : Byte) : Setter :=
  { x.setReg d v with tag := tag, flags := { x.flags with q := tag.getLsbD 7 } }

/-- QST's answer: gd; Z from COUNT, N from bit 31 (R118). -/
def Setter.setStatus (x : Setter) (d : Reg) (w : Word) : Setter :=
  { x.setReg d w with flags := { x.flags with z := field w 16 0 == 0, n := w.msb } }

/-- The outcome of R119 as setter i sees it; one that has none yet waits. A trap found at the hod's response comes up to 8 + h setter cycles after the issue
(log 9). -/
def queueOutcome (i : SetterId) (d : Reg) (op : HodOp) (r : QRes) (t : State) : Fate :=
  match r with
  | .accepted => queueDone i (·.setC false) t
  | .disabled =>
    (match op with
      | .put _ _ _ => queueDone i (·.setC true) t
      | _ => queueDone i (·.setElem d 0 0) t)
  | .full => queueDone i (·.setC true) t
  | .packClass => .trap (stall i t) 3 2 (queueAddr (opQueue op))
  | .region => .trap (stall i t) 2 1 (queueAddr (opQueue op))
  | .keyError => .trap (stall i t) 3 2 (queueAddr (opQueue op))
  | .elem v tag => queueDone i (·.setElem d v tag) t
  | .empty => queueDone i (·.setElem d 0 0) t
  | .status w => queueDone i (·.setStatus d w) t
  | .payload a => .trap (stall i t) 4 2 (BitVec.ofNat 32 a)
  | .waits => .hold t

/-- REASON of a refused PUT (R227, HOD_RMTFAIL); none when it was accepted. -/
def failReason (r : QRes) (bad : Bool) : Option Nat :=
  match r with
  | .accepted => none
  | .disabled => some (if bad then 6 else 1)
  | .full => some 2
  | .region => some 3
  | .packClass => some 4
  | .keyError => some 6
  | _ => none

/-- A QFAIL to the source of a cell (R227, R238). No rule lets one be lost: it waits also in a full transmit buffer (DEDUCED, log 33). -/
def sendQfail (c : Cell) (reason : Nat) (s : State) : State :=
  let o := mkCell s 2 2 c.src ((c.payload.take 2) ++ [BitVec.ofNat 8 reason, c.type.setWidth 8] ++ ((c.payload.drop 4).take 4))
  { s with irs := { s.irs with own := updf s.irs.own 2 (· ++ [o]) } }

/-- What the sender of a QPUT or NOTE hears of its PUT; a delivered NOTE raises 492 (R227). -/
def cellOutcome (c : Cell) (q : QueueId) (r : QRes) (s : State) : State :=
  match failReason r (faulted s q) with
  | none => if c.type = 3 then raise 492 s else s
  | some n => sendQfail c n s

/-! ### The KEY lane (R223) -/

/-- The port has an operation outstanding at the lane (R214). -/
def laneBusy (p : Nat) (s : State) : Bool :=
  s.hod.keyWait.any (fun l => l.port.val == p) || s.hod.lane.any (fun l => l.1.port.val == p)

/-- The port has an operation outstanding: at the lane; at the bus port an access that waits; at the chain port a cell that waits (R214). -/
def portBusy (p : Nat) (s : State) : Bool :=
  laneBusy p s || (p == 16 && s.stalled.any (fun a => a.dom == .hod)) || (p == 17 && !s.hod.cells.isEmpty)

/-- The master on whose behalf an operation runs. -/
def LaneOp.master (l : LaneOp) : Nat :=
  match l.who with
  | .bus m => m
  | .setter i _ => i.val
  | .cell _ => 19

/-- The outcome of a KEY operation goes to whoever asked for it (R221). A setter that no longer waits for it hears nothing; one whose
operation was commanded at its port takes the trap of a failed write. -/
def deliverLane (l : LaneOp) (r : QRes) (s : State) : State :=
  match l.who with
  | .bus m =>
    let t := answer m (windowResp l.op r) s
    if h : m < 16 then
      (if r = .keyError ∧ !(t.st ⟨m, h⟩).gated then syncTrap ⟨m, h⟩ 3 2 (queueAddr (opQueue l.op)) t else t)
    else t
  | .setter i d =>
    (match (s.st i).wait with
      | .lane _ => finish i 0 (queueOutcome i d l.op r (s.modS i (fun x => { x with wait := .none })))
      | _ => s)
  | .cell c => cellOutcome c (opQueue l.op) r s

/-- The waiting operation that the empty lane takes: the oldest from a port in HOD_KEYPORTS, else the oldest. -/
def nextLane (h : Hod) : Option LaneOp :=
  match h.keyWait.find? (fun l => h.keyports.getLsbD l.port.val) with
  | some l => some l
  | none => h.keyWait.head?

/-- The empty lane takes operations and applies their descriptor steps, until one leaves a payload access to do: a QST, a refusal and an
empty read free it at once. `n` is fuel. -/
def runLane : Nat → State → State
  | 0, s => s
  | n + 1, s =>
    if s.hod.lane.isSome then s else
    match nextLane s.hod with
    | none => s
    | some l =>
      match keyStep l.master l.op { s with hod := { s.hod with keyWait := s.hod.keyWait.filter (fun o => o.port != l.port) } } with
      | (.inl r, t) => runLane n (deliverLane l r t)
      | (.inr p, t) => { t with hod := { t.hod with lane := some (l, p) } }

/-- A KEY operation reaches the lane, its port having none outstanding. -/
def enterLane (l : LaneOp) (s : State) : State :=
  runLane 20 { s with hod := { s.hod with keyWait := s.hod.keyWait ++ [l] } }

/-- The lane's keystone beat completes, in error or not: the outcome is told, the lane frees and takes the next operation. A beat that
the store makes wait has not completed. -/
def laneDone (err : Bool) (s : State) : State :=
  match s.hod.lane with
  | none => s
  | some (l, p) =>
    match keyPayload (opQueue l.op) err p s with
    | (.waits, t) => t
    | (r, t) => runLane 20 (deliverLane l r { t with hod := { t.hod with lane := none } })

/-- The lane drains: every operation at it completes (R230). `n` is fuel. -/
def drainLane : Nat → State → State
  | 0, s => s
  | n + 1, s => if s.hod.lane.isSome then drainLane n (laneDone false s) else s

/-- An operation of master m that must end within one command: on a KEY queue it takes the lane, does its beat and frees it; it waits
while another has the lane. -/
def hodNow (m : Nat) (op : HodOp) (s : State) : QRes × State :=
  if !(descOf s (opQueue op)).key then queueOp m op s
  else if s.hod.lane.isSome then (.waits, s)
  else match keyStep m op s with
    | (.inl r, t) => (r, t)
    | (.inr p, t) =>
      match keyPayload (opQueue op) false p t with
      | (.waits, _) => (.waits, s)
      | r => r

/-! ### Ports -/

/-- The master on whose behalf a port's operation runs: setters 0 to 15; the bus port as the plinth, the chain port as 19
(R214, R227, log 14). -/
def portMaster (p : HodPort) : Nat := if p.val ≤ 16 then p.val else 19

/-- The operations that a port carries: the chain port and the packer port only append (R214). -/
def portCarries (p : HodPort) (op : HodOp) : Bool :=
  match op with
  | .put _ _ _ => true
  | _ => decide (p.val ≤ 16)

/-- An operation at a port; the packer port appends to PACK queues (R214, R217). -/
def portOp (p : HodPort) (op : HodOp) (s : State) : QRes × State :=
  match p.val, op with
  | 18, .put q v eob =>
    let d := descOf s q
    if d.en && d.pack && !faulted s q then
      (match appendPacked d.producer v (wordTag 0 false eob) s with
        | (true, t) => (.accepted, t)
        | (false, t) => (.full, t))
    else queueOp 19 op s
  | _, _ => queueOp (portMaster p) op s

/-- HOD_DESCRIPTOR_STEP (R222, R224): an ordinary operation; one on a KEY queue is not this bank slot's, and a port has one operation
outstanding. The bus port's own outstanding operation may be a command of HOD_QCMD, whose step this then is. A gated hod wakes. -/
def execHodDescriptorStep (port : HodPort) (op : HodOp) (st : State) : Host.Outcome State Fault Refusal :=
  .next (if st.hod.gated then startWake .hod st
    else if port.val = 16 ∧ st.hod.qbusy.isSome then qcmdDone st
    else if (descOf st (opQueue op)).key || portBusy port.val st || !portCarries port op then st
    else match portOp port op st with
      | (.waits, t) => t
      | (r, t) => answer (portMaster port) (windowResp op r) t)

/-- KEY_LANE_STEP (R223): a KEY operation arrives at its port and, once the lane takes it, has its descriptor step. -/
def execKeyLaneStep (port : HodPort) (op : HodOp) (st : State) : Host.Outcome State Fault Refusal :=
  .next (if st.hod.gated then startWake .hod st
    else if !(descOf st (opQueue op)).key || portBusy port.val st || !portCarries port op then st
    else enterLane ⟨port, op, .bus (portMaster port)⟩ st)

/-- KEY_PAYLOAD_DONE (R221, R223). -/
def execKeyPayloadDone (err : Bool) (st : State) : Host.Outcome State Fault Refusal := .next (laneDone err st)

end Sys2Proof.Machine
end

