-- ==== Sys2Proof/Machine/Plinth.lean ====
section
/-! DEFINITION. The plinth's own operations: the event log (R323 to R326), queues 0 to 3 (R206, R305), command and response
blocks on both channels (R306 to R312), calibration (R322), fault windows (R327 to R329), the start of its firmware (R302 to
R304), and the PLN registers. -/

namespace Sys2Proof.Machine

/-- Change the plinth. -/
def modPln (f : Pln → Pln) (s : State) : State := { s with pln := f s.pln }

/-! ### Event log -/

/-- Records newer than the last LOGACK, at most the ring's size (R324). -/
def unread (p : Pln) : Nat := min (p.seq - p.acked).toNat 8192

/-- The oldest RAM record goes into the ring; an unread record that it overwrites counts as lost (R323). -/
def writeRing (p : Pln) : Pln :=
  match p.ram with
  | [] => p
  | r :: t =>
    let full := decide (8192 ≤ p.ring.length)
    let gone := match p.ring.getLast? with
      | some o => full && decide ((p.seq - o.seq).toNat < (p.seq - p.acked).toNat)
      | none => false
    { p with ram := t, ring := r :: p.ring.take 8191,
             lost := if gone then BitVec.ofNat 16 (satAdd 16 p.lost.toNat 1) else p.lost }

/-- Every RAM record goes into the ring (R304, R337). -/
def flushLog : Nat → Pln → Pln
  | 0, p => p
  | n + 1, p => flushLog n (writeRing p)

/-- A record joins the log (R323 to R326); `src` is its SOURCE. 550 at 6,144 unread, once until a LOGACK. -/
def logRec (code sev src : Nat) (d0 d1 : Word) (s : State) : State :=
  let p := if 32 ≤ s.pln.ram.length then writeRing s.pln else s.pln
  let n := p.seq + 1
  let r : LogRec := ⟨n, p.bootcnt, BitVec.ofNat 16 code, Config.logTime n.toNat, BitVec.ofNat 16 src, BitVec.ofNat 8 sev, d0, d1⟩
  let s1 := { s with pln := { p with seq := n, ram := p.ram ++ [r] } }
  if 6144 ≤ unread s1.pln ∧ !s1.pln.rais550 then raise 550 (modPln (fun p => { p with rais550 := true }) s1) else s1

/-- No event source stands for the record. -/
def noSource : Nat := 0xFFFF

/-- The 30 bytes before a record's CRC (R325). -/
def recBody (r : LogRec) : List Byte :=
  leBytes 4 r.seq.toNat ++ leBytes 2 r.boot.toNat ++ leBytes 2 r.code.toNat ++ leBytes 8 r.time.toNat
    ++ leBytes 2 r.source.toNat ++ [r.sev, 0] ++ leBytes 4 r.data0.toNat ++ leBytes 4 r.data1.toNat ++ [0, 0]

/-- Bytes as little-endian words. -/
def wordsOf : List Byte → List Word
  | a :: b :: c :: d :: t => BitVec.ofNat 32 (leNat [a, b, c, d]) :: wordsOf t
  | _ => []

/-- The 8 words of a record. -/
def recWords (r : LogRec) : List Word := wordsOf (recBody r ++ leBytes 2 (crc16 (recBody r)).toNat)

/-- LOG_RECORD_WRITE (R323): while the plinth is powered. After a brown-out trip the tail is in the save page alone (R352). -/
def execLogRecordWrite (st : State) : Host.Outcome State Fault Refusal :=
  .next (if st.pwr.stage == .run && st.pwr.state != 3 then modPln writeRing st else st)

/-! ### Queues 0 to 3 -/

/-- The descriptor of queue q of R305: enabled, WORD class, SIZE 6. -/
def plinthDesc (q : Nat) : Desc := ⟨BitVec.ofNat 32 (0x86000000 + 0x7FC000 + 0x1000 * q), 0, 0, 0⟩

/-- The firmware writes and enables queues 0 to 3, those that are not enabled (R206, R305). -/
def setupQueues (s : State) : State :=
  (List.range 4).foldl (fun t q => if (descOf t (BitVec.ofNat 16 q)).en then t else putDesc (BitVec.ofNat 16 q) (plinthDesc q) t) s

/-- Append words to a plinth queue as master 16, EOB on the last: the words left when one waits, and whether none was refused. -/
def putWords (q : QueueId) : List Word → State → List Word × Bool × State
  | [], s => ([], true, s)
  | w :: t, s =>
    if portBusy 16 s then (w :: t, true, s) else
    match queueOp 16 (.put q w t.isEmpty) s with
    | (.accepted, s1) => putWords q t s1
    | (.waits, s1) => (w :: t, true, s1)
    | (_, s1) => ([], false, s1)

/-- The plinth goes on with the blocks that it is putting into its queues: a stopped hod wakes first (R343); a response block that is
complete raises 551 (R307). `n` is fuel. -/
def servePosts : Nat → State → State
  | 0, s => s
  | n + 1, s =>
    match s.pln.posts with
    | [] => s
    | (q, l) :: t =>
      if asleep .hod s then startWake .hod s else
      match putWords (BitVec.ofNat 16 q) l s with
      | ([], ok, u) => servePosts n (raiseIf (q == 1 && ok) 551 (modPln (fun p => { p with posts := t }) u))
      | (r, _, u) => modPln (fun p => { p with posts := (q, r) :: t }) u

/-- Words on their way into queue q. -/
def postsFor (q : Nat) (p : Pln) : Nat := ((p.posts.filter (fun e => e.1 == q)).map (fun e => e.2.length)).foldl (· + ·) 0

/-- Post a block to a plinth queue that has room for all of it (R307, R321, R324). -/
def postBlock (q : Nat) (l : List Word) (s : State) : Option State :=
  let d := descOf s (BitVec.ofNat 16 q)
  if d.en && decide (d.count + postsFor q s.pln + l.length ≤ d.cap) then
    some (servePosts (s.pln.posts.length + 1) (modPln (fun p => { p with posts := p.posts ++ [(q, l)] }) s))
  else none

/-- LOG_STREAM_POST (R324): the first record not yet posted that is still in the ring, once queue 2 has room. -/
def execLogStreamPost (st : State) : Host.Outcome State Fault Refusal :=
  .next (if !st.pln.logOn || !st.pln.ready then st else
    match st.pln.ring.reverse.find? (fun r => decide ((r.seq - st.pln.logNext).toNat < 2 ^ 31)) with
    | none => st
    | some r =>
      match postBlock 2 (recWords r) st with
      | some t => modPln (fun p => { p with logNext := r.seq + 1 }) t
      | none => st)

/-! ### Command blocks (R306, R308, R312) -/

/-- The header of a block malformed: NARG above 64 or bits [7:0] not 0. -/
def hdrBad (h : Word) : Bool := decide (64 < (field h 15 8).toNat) || field h 7 0 != 0

/-- What stands at the head of queue 0. -/
inductive BlockRead where
  /-- Nothing, or a block not yet complete. -/
  | none
  /-- A whole block: header and arguments. -/
  | whole (words : List Word)
  /-- A malformed block, by its header; whether words are discarded up to the next EOB. -/
  | bad (hdr : Word) (drop : Bool)
  deriving DecidableEq, Repr

/-- GET one word of queue 0 as master 16, with its EOB. -/
def getWord (s : State) : Option (Word × Bool) × State :=
  if portBusy 16 s then (none, s) else
  match queueOp 16 (.get 0) s with
  | (.elem v tag, t) => (some (v, tag.getLsbD 3), t)
  | (_, t) => (none, t)

/-- Discard words up to and including the next EOB, at most `n` (R306). -/
def discardWords : Nat → State → State
  | 0, s => s
  | n + 1, s =>
    if !s.pln.qdrop then s else
    match getWord s with
    | (some (_, eob), t) => discardWords n (if eob then modPln (fun p => { p with qdrop := false }) t else t)
    | (none, _) => s

/-- Read words of one block while they are in the queue: the words so far are `got`. -/
def readBlock : Nat → List Word → State → BlockRead × State
  | 0, _, s => (.none, s)
  | n + 1, got, s =>
    match getWord s with
    | (none, _) => (.none, s)
    | (some (w, eob), t) =>
      let l := got ++ [w]
      let h := l.headD 0
      let need := 1 + (field h 15 8).toNat
      if hdrBad h then (.bad h !eob, t)
      else if eob && decide (l.length < need) then (.bad h false, t)
      else if l.length = need then (if eob then (.whole l, t) else (.bad h true, t))
      else readBlock n l t

/-- The next block of queue 0, with the state after its words have been taken. -/
def nextBlock (s : State) : BlockRead × State := readBlock 66 [] (discardWords 520 s)

/-- The header of a response block. -/
def respHeader (hdr : Word) (n status : Nat) : Word := (hdr &&& 0xFFFF0000#32) ||| valAt 8 n ||| valAt 0 (status % 256)

/-- Queue 0 can be read: the firmware runs. -/
def readsQueue (s : State) : Bool := s.pln.ready && !s.pln.going && s.pwr.state != 3

/-- Reading queue 0 must first wake the hod, or the store that holds its words (R343), or wait for the bus port (R214): the state with a
wake begun. -/
def queueAsleep (s : State) : Option State :=
  if asleep .hod s then some (startWake .hod s)
  else if portBusy 16 s then some s
  else if asleep .store s && decide (0 < (descOf s 0).count) then some (startWake .store s)
  else none

/-- Words that follow a malformed block are discarded as they come (R306). -/
def idleDiscard (s : State) : State :=
  if !readsQueue s || !s.pln.qdrop then s else
  match queueAsleep s with
  | some t => t
  | none => discardWords 520 s

/-- Give a channel its response (R307, R312): on the queue channel at once or, without room, later. -/
def respondTo (ch : Channel) (hdr : Word) (status : Nat) (res : List Word) (s : State) : State :=
  let block := respHeader hdr res.length status :: res
  match ch with
  | .i2c => modPln (fun p => { p with iresp := some block, icmd := none }) s
  | .queue =>
    match postBlock 1 block s with
    | some t => t
    | none => modPln (fun p => { p with qresp := some block }) s

/-- A command may wait on the queue channel: a block stands there, or words that the plinth has to wake a domain to read (R308, R343). -/
def queueWaits (s : State) : Bool :=
  s.pln.ready && s.pln.qresp.isNone && (descOf s 0).count != 0 && ((queueAsleep s).isSome || (match (nextBlock s).1 with
    | .none => false
    | _ => true))

/-- The plinth can take a command of a channel now: running, no response owed, none of the queue channel on its way, none that waits for
room but for a command of I²C, and its turn when both wait (R302, R304, R307, R308). -/
def mayTake (ch : Channel) (s : State) : Bool :=
  let p := s.pln
  (p.ready || p.romonly) && !p.going && p.owed.isNone && s.pwr.state != 3 && postsFor 1 p == 0 &&
  (match ch with
    | .queue => p.ready && p.qresp.isNone && (p.icmd.isNone || p.turn == .queue)
    | .i2c => p.icmd.isSome && (p.turn == .i2c || !queueWaits s))

/-- The plinth looks at queue 0: words that stand there bring a wake about (R343), words after a malformed block are discarded. -/
def lookAtQueue (s : State) : State :=
  match queueAsleep s with
  | some t => if readsQueue s && (descOf s 0).count != 0 then t else s
  | none => idleDiscard s

/-- The channel's turn passes (R308). -/
def passTurn (ch : Channel) (s : State) : State :=
  modPln (fun p => { p with turn := match ch with
    | .queue => .i2c
    | .i2c => .queue }) s

/-- What comes of a command that its row names: it does not stand at its channel, and the plinth may discard words or wake the hod;
FORMAT is answered; or its words are taken. -/
inductive Taken where
  | no (s : State)
  | format (s : State)
  | yes (s : State)
  deriving DecidableEq, Repr

/-- A malformed block of queue 0 is answered FORMAT (R306). -/
def answerFormat (hdr : Word) (drop : Bool) (s : State) : State :=
  passTurn .queue (discardWords 520 (respondTo .queue hdr 9 [] (modPln (fun p => { p with qdrop := drop }) s)))

/-- Take the command with this header and these arguments from its channel (R306, R308). On the queue channel the block must
stand at the head of queue 0; a malformed block that stands there with this CMD and TAG is answered FORMAT. -/
def takeCmd (ch : Channel) (hdr : Word) (args : List Word) (s : State) : Taken :=
  if !mayTake ch s then .no (lookAtQueue s) else
  match ch with
  | .i2c => if s.pln.icmd = some (hdr :: args) then .yes (passTurn .i2c s) else .no s
  | .queue =>
    match queueAsleep s with
    | some t => .no t
    | none =>
      match nextBlock s with
      | (.whole l, t) => if l = hdr :: args then .yes (passTurn .queue t) else .no (idleDiscard s)
      | (.bad h drop, t) => if field h 31 16 = field hdr 31 16 then .format (answerFormat h drop t) else .no (idleDiscard s)
      | (.none, _) => .no (idleDiscard s)

/-- The header of a command. -/
def cmdHeader (cmd : Nat) (tag : Byte) (args : List Word) : Word :=
  BitVec.ofNat 32 (cmd * 2 ^ 24 + tag.toNat * 2 ^ 16 + args.length * 2 ^ 8)

/-- What a command answers: now, later (R303, R315), or never (R314). -/
inductive Answer where
  | now (s : State) (status : Nat) (res : List Word)
  | later (s : State)
  | never (s : State)
  deriving DecidableEq, Repr

/-- ROM-only service answers only these, SWBEGIN with target 5 among them (R302). -/
def romAllows (cmd : Nat) (args : List Word) : Bool :=
  cmd == 0x01 || cmd == 0x11 || cmd == 0x13 || cmd == 0x14 || cmd == 0x15 || (cmd == 0x10 && args == [5])

/-- The group of a command is enabled for its channel (R309). -/
def groupOn (p : Pln) (ch : Channel) (group : Option Nat) : Bool :=
  match group, ch with
  | none, _ => true
  | some g, .queue => p.cmdenQ.getLsbD g
  | some g, .i2c => p.cmdenI.getLsbD g

/-- Run a defined command: ROM-only service, its group, its argument count, then its work (R302, R309, R313). -/
def runCmd (cmd : Nat) (group : Option Nat) (narg : Nat → Bool) (ch : Channel) (tag : Byte) (args : List Word)
    (work : State → Answer) (s : State) : State :=
  let h := cmdHeader cmd tag args
  match takeCmd ch h args s with
  | .no t => t
  | .format t => t
  | .yes t =>
    if t.pln.romonly && !romAllows cmd args then respondTo ch h 1 [] t
    else if !groupOn t.pln ch group then respondTo ch h 7 [] t
    else if !narg args.length then respondTo ch h 2 [] t
    else match work t with
      | .now u status res => respondTo ch h status res u
      | .later u => modPln (fun p => { p with owed := some (ch, h) }) u
      | .never u => modPln (fun p => match ch with
          | .i2c => { p with icmd := none, iresp := none }
          | .queue => p) u

/-- The commands of R313. -/
def cmdDefined (cmd : Nat) : Bool :=
  [0x01, 0x02, 0x03, 0x04, 0x05, 0x10, 0x11, 0x12, 0x13, 0x14, 0x15, 0x20, 0x21, 0x30, 0x31, 0x32, 0x40, 0x41, 0x42, 0x43,
   0x50, 0x51, 0x52].contains cmd

/-- The words that follow the header in the block at hand; an undefined command has any (R313). -/
def blockArgs (ch : Channel) (s : State) : List Word :=
  match ch with
  | .i2c => (s.pln.icmd.getD []).drop 1
  | .queue =>
    match (nextBlock s).1 with
    | .whole l => l.drop 1
    | _ => []

/-- PLINTH_BAD_COMMAND (R306, R313): an undefined CMD is answered BADCMD; a malformed block FORMAT. -/
def execPlinthBadCommand (ch : Channel) (hdr : Word) (st : State) : Host.Outcome State Fault Refusal :=
  .next (match takeCmd ch hdr (blockArgs ch st) st with
    | .no t => t
    | .format t => t
    | .yes t => if cmdDefined (field hdr 31 24).toNat then st else respondTo ch hdr 1 [] t)

/-- COMMAND_BLOCK_TIMEOUT (R306): the block begun in queue 0 is answered FORMAT and its words are gone. -/
def execCommandBlockTimeout (st : State) : Host.Outcome State Fault Refusal :=
  .next (if !mayTake .queue st then idleDiscard st else
    match queueAsleep st with
    | some t => t
    | none =>
      let s1 := discardWords 520 st
      match nextBlock s1, getWord s1 with
      | (.none, _), (some (h, _), t) =>
        let t1 := (List.range 66).foldl (fun u _ =>
          match getWord u with
          | (some _, v) => v
          | (none, _) => u) t
        passTurn .queue (respondTo .queue h 9 [] t1)
      | _, _ => s1)

/-- RESPONSE_POST (R307): a block on its way goes on, and the waiting block is posted once queue 1 has room. -/
def execResponsePost (st : State) : Host.Outcome State Fault Refusal :=
  .next (match st.pln.qresp with
    | none => servePosts (st.pln.posts.length + 1) st
    | some l =>
      match postBlock 1 l (modPln (fun p => { p with qresp := none }) st) with
      | some t => t
      | none => st)

/-- The I²C target answers its address (R302, R311, R380): VIO4 feeds its balls. -/
def i2cOn (s : State) : Bool :=
  (s.pln.ready || s.pln.romonly) && !s.pln.going && s.pwr.state != 3 && (s.io.bank.get 4).band.isSome

/-- I2C_WRITE (R312). -/
def execI2cWrite (data : List Byte) (st : State) : Host.Outcome State Fault Refusal :=
  .next (if !i2cOn st || data.isEmpty then st
    else if st.pln.icmd.isSome then
      modPln (fun p => { p with nacks := BitVec.ofNat 8 (satAdd 8 p.nacks.toNat 1) }) st
    else
      let h := BitVec.ofNat 32 (leNat (data.take 4))
      let s1 := modPln (fun p => { p with iresp := none }) st
      if hdrBad h || data.length != 4 * (1 + (field h 15 8).toNat) then respondTo .i2c h 9 [] s1
      else modPln (fun p => { p with icmd := some (wordsOf data) }) s1)

/-- The response block as it reads now (R312). -/
def i2cBlock (p : Pln) : List Word :=
  match p.icmd, p.owed, p.iresp with
  | some l, _, _ => [respHeader (l.headD 0) 0 0xFE]
  | none, some (.i2c, h), _ => [respHeader h 0 0xFE]
  | none, _, some b => b
  | none, _, none => [0xFF]

/-- I2C_READ (R312): the response's bytes, then 0xFF. -/
def execI2cRead (n : Nat) (st : State) : Host.Outcome State Fault Refusal :=
  .next (if !i2cOn st then st else
    let b := (i2cBlock st.pln).flatMap (fun w => leBytes 4 w.toNat)
    modPln (fun p => { p with iout := (b ++ List.replicate n 0xFF#8).take n }) st)

/-! ### Firmware (R302 to R304) -/

/-- The copy that the ROM starts: the selected one if it passes the ROM's check, else the other, else none. -/
def startedCopy (p : Pln) : Option Bool :=
  let ok (c : Bool) : Bool := ((nth p.fw c.toNat).map romCheck).getD false
  if ok p.fwSel then some p.fwSel else if ok (!p.fwSel) then some (!p.fwSel) else none

/-- The newer readable copy of the calibration page (R322). -/
def calPage (p : Pln) : Option CalCopy :=
  match p.calPg.get 0, p.calPg.get 1 with
  | some a, some b => some (if a.seq < b.seq then b else a)
  | some a, none => some a
  | none, b => b

/-- The firmware takes the user calibration from its page; with no readable copy every user value is 0, and that is logged (R322). -/
def readCal (s : State) : State :=
  match calPage s.pln with
  | some c => modPln (fun p => { p with calU := c.val }) s
  | none => logRec 0x0040 0 noSource 0xFFFF 0 (modPln (fun p => { p with calU := Vector.replicate 52 0 }) s)

/-- The record of a repointer's restart (R298, R326). -/
def logRestart (w : Nat) (s : State) : State := logRec 0x0022 1 (613 + w) (valAt 0 w) 0 s

/-- Repointer restarts that fell while no firmware ran are logged once it runs again (R298, R304). -/
def logOwed (s : State) : State := s.pln.hbOwed.foldl (fun t w => logRestart w t) (modPln (fun p => { p with hbOwed := [] }) s)

/-- The ROM starts the firmware (R302): READY with queues 0 to 3 set up, or ROM-only service with FAULT_N low. -/
def startFirmware (s : State) : State :=
  match startedCopy s.pln with
  | some c =>
    let s1 := modPln (fun p => { p with copy := c, firmbad := p.firmbad || c != p.fwSel, romonly := false, going := false,
                                        turn := .queue }) s
    let s2 := setupQueues s1
    logOwed (readCal { s2 with pln := { s2.pln with ready := true }, faultn := s2.img.noimage })
  | none => { modPln (fun p => { p with firmbad := true, romonly := true, going := false, ready := false }) s with faultn := true }

/-- PLINTH_BOOT (R302, R349): after power-on, PORST_N, a brown-out restart or a DORMANT wake. -/
def execPlinthBoot (st : State) : Host.Outcome State Fault Refusal :=
  .next (if st.pln.ready || st.pln.romonly || st.pln.going || st.pwr.stage != .run || st.pwr.state == 3 then st
    else startFirmware st)

/-- A restart begins (R304): RAM records go to the log, fault-window times are cleared. -/
def beginRestart (s : State) : State :=
  modPln (fun p => { flushLog 32 p with ready := false, romonly := false, going := true, fltTime := [] }) s

/-- PLINTH_RESTART (R303, R304): the restart under way ends; the FIRMSWITCH that began it is answered. -/
def execPlinthRestart (st : State) : Host.Outcome State Fault Refusal :=
  .next (if st.pwr.stage != .run || st.pwr.state == 3 || !st.pln.going then st else
    let s1 := startFirmware st
    match s1.pln.owed with
    | none => s1
    | some (ch, h) =>
      if field h 31 24 ≠ 0x15 then s1 else
      let bad := s1.pln.romonly || s1.pln.copy != s1.pln.fwSel
      respondTo ch h (if bad then 11 else 0) (if bad then [1] else [])
        (logRec 0x0013 1 noSource (valAt 0 s1.pln.fwSel.toNat) (valAt 0 bad.toNat)
          (modPln (fun p => { p with owed := none }) s1)))

/-! ### Calibration (R322) -/

/-- Two's-complement factory values: items 0 to 4 and 10 to 18. -/
def calSigned (k : Nat) : Bool := decide (k < 5) || (decide (10 ≤ k) && decide (k < 19))

/-- The factory value of item k. -/
def calF (k : Nat) : Int := if calSigned k then (Config.calFactory k).toInt else (Config.calFactory k).toNat

/-- The user value of item k. -/
def calU (p : Pln) (k : Nat) : Int := ((nth p.calU k).getD 0).toInt

/-- User range of item k: symmetric. -/
def calUser (k : Nat) : Nat :=
  if k < 5 then 64 else if k < 10 then 256 else if k < 19 then 50 else if k < 28 then 64 else if k = 28 then 16
  else if k < 45 then 0 else if k < 51 then 8 else 16

/-- The effective value of item k. -/
def calE (p : Pln) (k : Nat) : Int :=
  let v := calF k + calU p k
  if k < 5 then clampInt v (-32768) 32767
  else if k < 10 then clampInt v 0 65535
  else if k < 19 then clampInt v (-1000) 1000
  else if k < 28 then clampInt v 0 65535
  else if k = 28 then clampInt v 0 255
  else if k < 45 then calF k
  else if k < 51 then clampInt v 0 63
  else clampInt v 0 255

/-- A value as its 16-bit field. -/
def cal16 (v : Int) : Word := (BitVec.ofInt 16 v).setWidth 32

/-- The three result words of CALGET and CALSET. -/
def calWords (p : Pln) (k : Nat) : List Word := [BitVec.ofInt 32 (calF k), BitVec.ofInt 32 (calU p k), BitVec.ofInt 32 (calE p k)]

/-! ### Fault windows (R327 to R329) -/

/-- Units of a category (R327). -/
def fltUnits (c : Nat) : Nat :=
  match c with
  | 0 => 64
  | 1 => 128
  | 2 => 2
  | 3 => 10
  | 4 => 6
  | 5 => 64
  | _ => 0

/-- The unit has a lasting mark. -/
def fltMarked (p : Pln) (c u : Nat) : Bool := ((nth p.fltLast c).getD 0).getLsbD u

/-- A lasting fault is declared: the mark, the log, 544 + c, and the bay's 4b + 1 for categories 0 and 5. -/
def declareLasting (c u : Nat) (s : State) : State :=
  let s1 := modPln (fun p => { p with fltLast := nthUpd p.fltLast c (fun m => setBit m u true) }) s
  let s2 := raise (544 + c) (logRec 0x0020 2 (544 + c) (valAt 0 c) (valAt 0 u) s1)
  raiseIf (c == 0 || c == 5) (4 * u + 1) s2

/-- The stored times of a unit, newest first. -/
def fltTimes (p : Pln) (c u : Nat) : List Nat := (kvGet p.fltTime (c * 128 + u)).getD []

/-- A unit with no stored time is not listed. -/
def noTimes (l : List Nat) : Bool := l.isEmpty

/-- Faults reach the plinth: n with one time in ms (R327, R328). -/
def faultIn (c u n t : Nat) (s : State) : State :=
  let times := (List.replicate n t ++ fltTimes s.pln c u).take 16
  let s1 := modPln (fun p => { p with
    fltCnt := nthUpd p.fltCnt c (fun w => BitVec.ofNat 32 (satAdd 32 w.toNat n)),
    fltTime := kvPut noTimes (c * 128 + u) times p.fltTime }) s
  if fltMarked s.pln c u then s1
  else
    let w := 100 * ((nth s.pln.fltW c).getD 0).toNat
    if ((nth s.pln.fltT c).getD 0).toNat ≤ (times.filter (fun x => decide (t - x < w))).length then declareLasting c u s1 else s1

/-- FAULT_REPORT (R327, R328): a fault that is on its way, n at once of unit u of category c, reaches the plinth at time t, in ms, and is
judged. In DORMANT the plinth is off. -/
def execFaultReport (c : Fin 6) (u n t : Nat) (st : State) : Host.Outcome State Fault Refusal :=
  .next (if !st.pln.reports.contains (c.val, u, n) || st.pwr.state == 3 || st.pwr.stage != .run then st
    else
      let s1 := modPln (fun p => { p with reports := p.reports.erase (c.val, u, n) }) st
      if fltUnits c.val ≤ u || n == 0 then s1 else faultIn c.val u n t s1)

/-- FLTCLR of one unit: mark and times. -/
def clearUnit (c u : Nat) (p : Pln) : Pln :=
  { p with fltLast := nthUpd p.fltLast c (fun m => setBit m u false), fltTime := kvDel (c * 128 + u) p.fltTime }

/-! ### Registers -/

/-- PLN_STATUS as it reads. -/
def plnStatus (s : State) : Word :=
  let p := s.pln
  let str := match s.img.stream with
    | some x => if x.src = .plinth then some x.ch else none
    | none => none
  flagAt 31 p.ready ||| flagAt 30 p.copy ||| flagAt 29 p.firmbad ||| flagAt 28 p.romonly ||| flagAt 27 p.qresp.isSome
    ||| flagAt 26 str.isSome ||| flagAt 25 (str == some .i2c) ||| p.bootcnt.setWidth 32

/-- A read of the PLN block. -/
def readPln (off : Nat) (rec : Word) (s : State) : Option (Word × State) :=
  let p := s.pln
  let k (base : Nat) : Nat := (off - base) / 4
  if off % 4 ≠ 0 then none
  else if 0xA00 ≤ off ∧ off < 0xA18 then
    (nth p.fltCnt (k 0xA00)).map (fun w => (w, modPln (fun p => { p with fltCnt := nthUpd p.fltCnt (k 0xA00) (fun _ => rec) }) s))
  else if 0x900 ≤ off ∧ off < 0x9C0 then
    peekS s ((nth p.fltLast ((off - 0x900) / 32)).map (fun m => if off % 32 < 16 then slice32 m (off % 32 / 4) else 0)
      |>.filter (fun _ => off % 32 < 16))
  else if 0x800 ≤ off ∧ off < 0x818 then
    peekS s (some (valAt 24 ((nth p.fltT (k 0x800)).getD 0).toNat ||| valAt 0 ((nth p.fltW (k 0x800)).getD 0).toNat))
  else if 0x600 ≤ off ∧ off < 0x6D0 then peekS s (some (cal16 (calE p (k 0x600))))
  else if 0x500 ≤ off ∧ off < 0x5D0 then peekS s (some (cal16 (calU p (k 0x500))))
  else if 0x400 ≤ off ∧ off < 0x4D0 then peekS s (some ((Config.calFactory (k 0x400)).setWidth 32))
  else if 0x300 ≤ off ∧ off < 0x310 then
    peekS s (some (valAt 16 ((nth p.cthr (k 0x300)).getD 0).toNat ||| valAt 0 ((nth p.cur (k 0x300)).getD 0).toNat))
  else if 0x240 ≤ off ∧ off < 0x264 then peekS s (nth p.rthr (k 0x240))
  else if 0x200 ≤ off ∧ off < 0x224 then
    some (valAt 16 ((nth p.rmin (k 0x200)).getD 0).toNat ||| valAt 0 ((nth p.rail (k 0x200)).getD 0).toNat,
      modPln (fun p => { p with rmin := nthUpd p.rmin (k 0x200) (fun _ => recField rec 16 16) }) s)
  else if 0x120 ≤ off ∧ off < 0x134 then peekS s (nth p.tthr (k 0x120))
  else if 0x100 ≤ off ∧ off < 0x114 then
    some (valAt 16 ((nth p.tmax (k 0x100)).getD 0).toNat ||| valAt 0 ((nth p.temp (k 0x100)).getD 0).toNat,
      modPln (fun p => { p with tmax := nthUpd p.tmax (k 0x100) (fun _ => recField rec 16 16) }) s)
  else match off with
    | 0x00 => peekS s (some (plnStatus s))
    | 0x04 => peekS s (some (valAt 30 ((nth p.fwState 1).getD 0).toNat ||| valAt 28 ((nth p.fwState 0).getD 0).toNat
        ||| flagAt 27 p.fwSel ||| (field ((nth p.fwVer p.copy.toNat).getD 0) 15 0).setWidth 32))
    | 0x08 => some (valAt 16 p.nacks.toNat ||| p.i2caddr.setWidth 32,
        modPln (fun p => { p with nacks := recField rec 8 16 }) s)
    | 0x0C => peekS s (some (valAt 8 p.cmdenI.toNat ||| p.cmdenQ.setWidth 32))
    | 0x10 => peekS s (some (valAt 16 p.period.toNat ||| valAt 8 p.thyst.toNat ||| p.rhyst.setWidth 32))
    | 0x14 => peekS s (some p.sensen)
    | 0x700 => some (valAt 16 p.lost.toNat ||| valAt 0 (unread p), modPln (fun p => { p with lost := recField rec 16 16 }) s)
    | 0x704 => peekS s (some p.seq)
    | _ => none

/-- Rearm the thresholds of a mask of PLN_SENSEN bits (R320). -/
def rearm (m : Word) (p : Pln) : Pln := { p with armed := p.armed ||| m }

/-- A write of PLN_FLTCFGc: each field that is out of range is ignored (R329). -/
def writeFltcfg (c : Nat) (v : Word) (p : Pln) : Pln :=
  let t := field v 28 24
  let w := field v 19 0
  { p with fltT := nthUpd p.fltT c (fun o => if 1 ≤ t.toNat ∧ t.toNat ≤ 16 then t else o),
           fltW := nthUpd p.fltW c (fun o => if w = 0 then o else w) }

/-- A write to the PLN block (R8, R309, R320, R329). -/
def writePln (off : Nat) (v : Word) (s : State) : Option State :=
  let k (base : Nat) : Nat := (off - base) / 4
  let chg (f : Pln → Pln) : Option State := some (modPln f s)
  if off % 4 ≠ 0 then none
  else if 0xA00 ≤ off ∧ off < 0xA18 then some s
  else if 0x900 ≤ off ∧ off < 0x9C0 then (if off % 32 < 16 then some s else none)
  else if 0x800 ≤ off ∧ off < 0x818 then chg (writeFltcfg (k 0x800) v)
  else if 0x600 ≤ off ∧ off < 0x6D0 then some s
  else if 0x500 ≤ off ∧ off < 0x5D0 then some s
  else if 0x400 ≤ off ∧ off < 0x4D0 then some s
  else if 0x300 ≤ off ∧ off < 0x310 then
    chg (fun p => rearm (BitVec.ofNat 32 (2 ^ (28 + k 0x300))) { p with cthr := nthUpd p.cthr (k 0x300) (fun _ => field v 31 16) })
  else if 0x240 ≤ off ∧ off < 0x264 then
    chg (fun p => rearm (BitVec.ofNat 32 (3 * 2 ^ (10 + 2 * k 0x240))) { p with rthr := nthUpd p.rthr (k 0x240) (fun _ => v) })
  else if 0x200 ≤ off ∧ off < 0x224 then some s
  else if 0x120 ≤ off ∧ off < 0x134 then
    chg (fun p => rearm (BitVec.ofNat 32 (3 * 2 ^ (2 * k 0x120))) { p with tthr := nthUpd p.tthr (k 0x120) (fun _ => v) })
  else if 0x100 ≤ off ∧ off < 0x114 then some s
  else match off with
    | 0x00 => chg (fun p => { p with firmbad := p.firmbad && !v.getLsbD 29 })
    | 0x04 => some s
    | 0x08 => some s
    | 0x0C => if s.img.locked then some s else chg (fun p => { p with cmdenI := field v 13 8, cmdenQ := field v 5 0 })
    | 0x10 => chg (fun p => { p with thyst := field v 15 8, rhyst := field v 7 0 })
    | 0x14 => chg (fun p => rearm (v &&& ~~~p.sensen) { p with sensen := v })
    | 0x700 => some s
    | 0x704 => some s
    | _ => none

end Sys2Proof.Machine
end

