-- ==== Sys2Proof/Machine/Images.lean ====
section
/-! DEFINITION. Image slots and their manifests (R265 to R272), the update engine (R275 to R278, R281, R316, R317), and the IMG
registers. -/

namespace Sys2Proof.Machine

/-- Change the loader and its slots. -/
def modImg (f : Img → Img) (s : State) : State := { s with img := f s.img }

/-- Change slot n. -/
def modSlot (n : Nat) (f : Slot → Slot) (s : State) : State := modImg (fun i => { i with slots := nthUpd i.slots n f }) s

/-- The slot is marked INVALID, 611. -/
def invalidate (n : Nat) (s : State) : State := raise 611 (modSlot n (fun x => { x with state := 3 }) s)

/-- Image slot n is the active slot of a bay or setter, or is being loaded (R266, R276). -/
def slotActive (i : Img) (n : Nat) : Bool :=
  (!i.hold && (i.bayslot.toList.any (fun k => k.toNat == n) || i.setslot.toList.any (fun k => k.toNat == n)))
    || (match i.load with
      | some k => k.toNat == n
      | none => false)

/-! ### The update engine (R275, R276) -/

/-- The engine's stream target: image slot 0 to 2, key record 4, firmware 5 (R313). -/
def isSlot (target : Nat) : Bool := decide (target < 3)

/-- The copy that a firmware stream writes: the one that is not running (R303). -/
def otherCopy (p : Pln) : Nat := if p.copy then 0 else 1

/-- Change a firmware copy. -/
def modFw (c : Nat) (f : FwCopy → FwCopy) (s : State) : State := modPln (fun p => { p with fw := nthUpd p.fw c f }) s

/-- Put a firmware copy's state. -/
def fwPut (c : Nat) (st : BitVec 2) (s : State) : State :=
  modPln (fun p => { p with fwState := nthUpd p.fwState c (fun _ => st) }) s

/-- The coding of IMG_WRSTAT.SOURCE. -/
def srcCode : StreamSource → BitVec 2
  | .plinth => 0
  | .chain => 1
  | .jtag => 2
  | .cfg => 3

/-- A stream opens (R275); the caller has seen that none is in progress. -/
def openStream (src : StreamSource) (ch : Channel) (target : Nat) (boot : Bool) (s : State) : State :=
  modImg (fun i => { i with
    stream := some ⟨src, ch, target, 0, [], false, false, boot, false⟩,
    wrSource := srcCode src, wrSlot := BitVec.ofNat 2 target, wrBytes := 0 }) s

/-- IMG_FAIL takes a cause, and the plinth logs it (R286, R287). -/
def loadFailed (slot cause bay frame : Nat) (s : State) : State :=
  let s1 := modImg (fun i => { i with failSlot := BitVec.ofNat 2 slot, failCause := BitVec.ofNat 4 cause,
                                      failBay := BitVec.ofNat 6 bay, failFrame := BitVec.ofNat 10 frame,
                                      failed := i.failed + 1 }) s
  logRec 0x0003 2 noSource (valAt 0 slot) (valAt 24 slot ||| valAt 20 cause ||| valAt 10 bay ||| valAt 0 frame) s1

/-- The boot's copy failed (R276, R286): the cause of a RESULT; the boot moves to slot 0. -/
def copyFailed (target result : Nat) (s : State) : State :=
  let cause := match result with
    | 2 => 2
    | 6 => 10
    | 7 => 11
    | _ => 14
  modImg (fun i => { i with cands := [0] }) (loadFailed target cause 0 0 s)

/-- The response owed for the command that carried the stream's last byte (R315). -/
def answerStream (result : Nat) (s : State) : State :=
  match s.pln.owed with
  | none => s
  | some (ch, h) =>
    if field h 31 24 = 0x15 then s
    else respondTo ch h (if result = 1 then 0 else 11) [valAt 0 result] (modPln (fun p => { p with owed := none }) s)

/-- A stream ends with a RESULT (R276, R281, R326): a slot that had changed is INVALID, 611; a boot's copy moves the boot. -/
def endStream (result : Nat) (s : State) : State :=
  match s.img.stream with
  | none => s
  | some x =>
    let s1 := modPln (fun p => { p with chunk := none })
      (modImg (fun i => { i with stream := none, wrResult := BitVec.ofNat 4 result }) s)
    let s2 :=
      if result = 1 || !x.begun then s1
      else if isSlot x.target then invalidate x.target s1
      else if x.target = 5 then raise 611 (fwPut (otherCopy s1.pln) 3 s1)
      else s1
    let s3 := logRec 0x0010 (if result = 1 then 0 else 2) noSource (valAt 0 x.target) (valAt 0 result) s2
    answerStream result (if x.boot && result != 1 then copyFailed x.target result s3 else s3)

/-- Step 1 of R276: the manifest; a RESULT on failure. -/
def step1 (target : Nat) (m : Mem) : Option Nat :=
  let format := if isSlot target then 1 else if target = 4 then 2 else 3
  if !magicOk m format then some 9
  else if !targetOk m then some 2
  else if isSlot target then (if flagsOk m then none else some 9)
  else if mFlags m = 0 then none else some 9

/-- Step 2 of R276: the target. -/
def step2 (s : State) (target : Nat) (m : Mem) : Option Nat :=
  let key := keyPass s.img m
  if isSlot target then
    (if slotActive s.img target || (target == 0 && !fCorner m) || !key then some 3 else none)
  else if key then none else some 3

/-- Step 3 of R276: WRITING is recorded and the place erased. A key record touches nothing (R317). -/
def step3 (target : Nat) (m : Mem) (s : State) : State :=
  let s1 := modImg (fun i => { i with stream := i.stream.map (fun x => { x with begun := target != 4 }) }) s
  if isSlot target then modSlot target (fun _ => ⟨1, m, [], mPaylen m, [], none, false⟩) s1
  else if target = 5 then
    fwPut (otherCopy s1.pln) 1 (modFw (otherCopy s1.pln) (fun _ => ⟨false, m, [], none⟩)
      (modPln (fun p => { p with fwVer := nthUpd p.fwVer (otherCopy p) (fun _ => mVersion m) }) s1))
  else s1

/-- The directory, and a key record's PAYLEN (R269, R316, R317). -/
def formOkFor (target : Nat) (m : Mem) : Bool :=
  if isSlot target then dirOk m else if target = 4 then mPaylen m == 0 else dirFwOk m

/-- The boot's stream carries the manifest that EXTSLOT holds (R281): nothing is written; over the chain the rest of the
stream is ignored. -/
def sameAsExt (x : Stream) (s : State) : Bool :=
  let k := slotOf s.img x.target
  x.boot && k.state == 2 && mPdigest k.manifest == mPdigest x.buf

/-- The manifest has arrived (R276 steps 1 to 3, R281). -/
def manifestDone (x : Stream) (s : State) : State :=
  if sameAsExt x s then
    modImg (fun i => { i with stream := if x.src = .cfg then none else some { x with ignore := true, boot := false } }) s
  else match step1 x.target x.buf with
    | some r => endStream r s
    | none =>
      match step2 s x.target x.buf with
      | some r => endStream r s
      | none =>
        let s1 := step3 x.target x.buf s
        if formOkFor x.target x.buf then s1 else endStream 9 s1

/-- A frame record that ends at payload byte n fails its CRC-16 (R271, R276 step 4). -/
def recordBad (m pay : Mem) (n : Nat) : Bool :=
  let f := secAt m 3
  decide (f < n) && (n - f) % 132 == 0 &&
    crc16 (memRead pay (n - 132) 130) != BitVec.ofNat 16 (memNat pay (n - 2) 2)

/-- What has been programmed of the payload. -/
def programmed (x : Stream) (s : State) : Mem :=
  if isSlot x.target then (slotOf s.img x.target).payload
  else if x.target = 5 then ((nth s.pln.fw (otherCopy s.pln)).map FwCopy.pay).getD []
  else []

/-- One payload byte is programmed (R276 step 4). -/
def programByte (target a : Nat) (b : Byte) (s : State) : State :=
  if isSlot target then modSlot target (fun k => { k with payload := memPut k.payload a b }) s
  else modFw (otherCopy s.pln) (fun c => { c with pay := memPut c.pay a b }) s

/-- The trailer has passed: a firmware copy keeps its CRC-32 for the boot ROM (R302). -/
def keepCrc (x : Stream) (s : State) : State :=
  if x.target = 5 then modFw (otherCopy s.pln) (fun c => { c with crc := some (memWord x.buf (manifestLen + 8)) }) s else s

/-- Put the stream in progress. -/
def putStream (x : Stream) (s : State) : State := modImg (fun i => { i with stream := some x }) s

/-- One byte of the stream reaches the engine (R276 steps 1 to 6). -/
def engineByte (b : Byte) (s : State) : State :=
  match s.img.stream with
  | none => s
  | some x =>
    if x.verify then s else
    let n := x.got
    let x1 := { x with got := n + 1 }
    let s1 := modImg (fun i => { i with wrBytes := i.wrBytes + 1 }) s
    if x.ignore then putStream x1 s1
    else if n < manifestLen then
      let x2 := { x1 with buf := memPut x1.buf n b }
      if n + 1 = manifestLen then
        let t := manifestDone x2 (putStream x2 s1)
        t
      else putStream x2 s1
    else if n < manifestLen + mPaylen x.buf then
      let a := n - manifestLen
      let t := programByte x.target a b (putStream x1 s1)
      if t.img.defects.contains (x.target, a) then endStream 8 t
      else if isSlot x.target && recordBad x.buf (slotOf t.img x.target).payload (a + 1) then endStream 9 t
      else t
    else
      let x2 := { x1 with buf := memPut x1.buf (n - mPaylen x.buf) b }
      if n + 1 = manifestLen + mPaylen x.buf + 16 then
        if trailerOk x2.buf (programmed x2 s1) (memRead x2.buf manifestLen 16) then keepCrc x2 (putStream { x2 with verify := true } s1)
        else endStream 6 (putStream x2 s1)
      else putStream x2 s1

/-- Bytes of the stream, in order. -/
def engineBytes (l : List Byte) (s : State) : State := l.foldl (fun t b => engineByte b t) s

/-- The stream in progress of a source. -/
def streamFrom (src : StreamSource) (s : State) : Option Stream := s.img.stream.filter (fun x => x.src = src)

/-- The port that brings a source's bytes works: the CFG interface and the test access port need VIO4 (R380). -/
def sourceWorks (src : StreamSource) (s : State) : Bool :=
  match src with
  | .cfg => vio4 s
  | .jtag => vio4 s
  | _ => true

/-- SLOT_WRITE_STREAM (R275, R276): bytes of a stream from a source. One offered while another is in progress is refused; the
CFG flash is read under MODE1:0 = 1 only; a JTAG stream is opened only where an OPEN would be accepted (R374, R375). -/
def execSlotWriteStream (src : StreamSource) (slot : BitVec 2) (data : List Byte) (st : State) :
    Host.Outcome State Fault Refusal :=
  .next (match st.img.stream with
    | some x => if x.src = src ∧ x.target = slot.toNat ∧ sourceWorks src st then engineBytes data st else st
    | none =>
      if slot = 3 ∨ (src = .cfg ∧ field st.img.mode 1 0 ≠ 1) ∨ st.pwr.state = 3 ∨ st.pwr.stage ≠ .run ∨ !sourceWorks src st then st
      else if src = .jtag ∧ !(st.bst.imgen && st.pln.ready) then { st with tap := { st.tap with refused := true } }
      else engineBytes data (openStream src .queue slot.toNat false st))

/-- SLOT_WRITE_STALL (R276 step 5). -/
def execSlotWriteStall (st : State) : Host.Outcome State Fault Refusal :=
  .next (match st.img.stream with
    | some x => if x.verify then st else if x.ignore then modImg (fun i => { i with stream := none }) st else endStream 7 st
    | none => st)

/-! ### Steps 7 to 9 -/

/-- The public keys hash to the fused values and both signatures verify over the signed header (R276 step 8, R277, R278). -/
def signaturesOk (i : Img) (m : Mem) : Bool :=
  let k := mKeyslot m
  let header := memRead m 0 headerLen
  let n := memRead m 0x200 384
  let pk := memRead m 0x580 48
  Config.sha384 (memRead m 0x200 388) == (nth i.keyRsa k).getD [] && Config.sha384 pk == (nth i.keySlh k).getD []
    && memNat m 0x380 4 == 65537 && Config.rsaPssOk n header (memRead m 0x400 384)
    && Config.slhDsaOk pk header (memRead m 0x5B0 16224)

/-- Step 7: the digests. -/
def digestsOk (m pay : Mem) : Bool :=
  Config.sha384 (memRead pay 0 (mPaylen m)) == mPdigest m
    && Config.sha384 (memRead pay (secAt m 0) (mLen m 0)) == mTableid m

/-- Key slots programmed and not revoked. -/
def liveKeys (i : Img) : BitVec 4 := i.prog &&& ~~~i.rev

/-- Program key slot k from its two hashes (R278). -/
def programKey (k : Nat) (rsa slh : List Byte) (i : Img) : Img :=
  { i with prog := setBit i.prog k true, keyRsa := nthUpd i.keyRsa k (fun _ => rsa), keySlh := nthUpd i.keySlh k (fun _ => slh) }

/-- The action of a key record is allowed (R317). -/
def keyActionOk (i : Img) (m : Mem) : Bool :=
  let act := memNat m 0x20 4
  let k := memNat m 0x24 4
  let ser := memNat m 0x28 8
  (ser == 0 || ser == Config.serial.toNat) && decide (k < 4) &&
  (if act = 1 then !i.prog.getLsbD k
   else if act = 2 then keyUsable i k && liveKeys i != setBit 0#4 k true
   else false)

/-- A key record's action; the fuses are written and the action logged. -/
def keyAction (m : Mem) (s : State) : State :=
  let act := memNat m 0x20 4
  let k := memNat m 0x24 4
  let s1 := modImg (fun i =>
    if act = 1 then programKey k (memRead m 0x30 48) (memRead m 0x60 48) i else { i with rev := setBit i.rev k true }) s
  logRec 0x0011 1 noSource (valAt 0 act) (valAt 0 k) s1

/-- Step 9: VALID, 610 (R276, R303, R317). -/
def completeWrite (x : Stream) (s : State) : State :=
  if isSlot x.target then raise 610 (modSlot x.target (fun k => { k with state := 2 }) s)
  else if x.target = 4 then keyAction x.buf s
  else raise 610 (fwPut (otherCopy s.pln) 2 s)

/-- SLOT_WRITE_VERIFY_DONE (R276 steps 7 to 9, R277, R316, R317). -/
def execSlotWriteVerifyDone (st : State) : Host.Outcome State Fault Refusal :=
  .next (match st.img.stream with
    | none => st
    | some x =>
      if !x.verify then st
      else if x.target ≠ 4 ∧ !digestsOk x.buf (programmed x st) then endStream 5 st
      else if !signaturesOk st.img x.buf then endStream 4 st
      else if x.target = 4 ∧ !keyActionOk st.img x.buf then endStream 3 st
      else endStream 1 (completeWrite x st))

/-- IMG_CELL (R238, R244, R275, R281): the next bytes of the chain's stream, which opens on EXTSLOT with offset 0; a cell out of
place is not taken. LAST ends a stream that is not complete as ended early. -/
def imgBytes (c : Cell) (s : State) : State :=
  let off := leNat (c.payload.take 3)
  let f := c.payload.getD 3 0
  let n := (field f 7 3).toNat
  let s1 := if s.img.stream.isNone && off == 0 then openStream .chain .queue s.img.extslot.toNat false s else s
  match streamFrom .chain s1 with
  | none => s
  | some x =>
    if x.got ≠ off ∨ n = 0 ∨ 28 < n then s
    else
      let s2 := engineBytes ((c.payload.drop 4).take n) s1
      if !f.getLsbD 0 then s2
      else match streamFrom .chain s2 with
        | none => s2
        | some y =>
          if y.verify then s2
          else if y.ignore then modImg (fun i => { i with stream := none }) s2
          else endStream 6 s2

/-! ### IMG registers -/

/-- IMG_BOOT as it reads. -/
def bootWord (i : Img) : Word := valAt 4 i.extslot.toNat ||| valAt 2 i.trial.toNat ||| valAt 0 i.primary.toNat

/-- A write of IMG_BOOT: each field that is out of range is ignored; a change is logged (R326). -/
def writeBoot (v : Word) (s : State) : State :=
  let ext := field v 5 4
  let tri := field v 3 2
  let pri := field v 1 0
  let s1 := modImg (fun i => { i with
    extslot := if ext = 1 ∨ ext = 2 then ext else i.extslot,
    trial := if tri = 3 then i.trial else tri, primary := if pri = 3 then i.primary else pri }) s
  if bootWord s1.img = bootWord s.img then s1 else logRec 0x0014 0 noSource (bootWord s1.img) 0 s1

/-- IMG_STATUS as it reads. -/
def imgStatus (i : Img) : Word :=
  flagAt 31 i.noimage ||| flagAt 30 i.fallback ||| valAt 28 i.digest.toNat ||| flagAt 27 i.strict ||| flagAt 26 i.mismatch
    ||| flagAt 25 i.dbgwr ||| valAt 20 i.mode.toNat ||| valAt 16 i.bootslot.toNat

/-- IMG_SLOTSTATn as it reads. -/
def slotStat (x : Slot) : Word :=
  let m := x.manifest
  valAt 30 x.state.toNat ||| flagAt 29 (fCorner m) ||| flagAt 28 (fStrict m) ||| flagAt 27 (fMismatch m)
    ||| flagAt 26 (fDbgwr m) ||| valAt 24 (mKeyslot m % 4) ||| valAt 8 (mSvn m % 65536)

/-- IMG_SWSTAT as it reads. -/
def swStat (i : Img) : Word :=
  flagAt 31 i.swap.isSome ||| valAt 24 i.swResult.toNat ||| valAt 16 i.swBay.toNat ||| valAt 0 i.swSlot.toNat

/-- IMG_WRSTAT as it reads. -/
def wrStat (i : Img) : Word :=
  flagAt 31 i.stream.isSome ||| valAt 28 i.wrSource.toNat ||| valAt 26 i.wrSlot.toNat ||| valAt 20 i.wrResult.toNat
    ||| valAt 0 (i.wrBytes / 1024)

/-- Two-bit fields of a vector from `lo`, as IMG_BAYSLOTk and IMG_SETSLOT read. -/
def packSlots {n : Nat} (v : Vector (BitVec 2) n) (lo : Nat) : Word :=
  (List.range 16).foldl (fun w j => w ||| valAt (2 * j) ((nth v (lo + j)).getD 0).toNat) 0

/-- A read of the IMG block. -/
def readImg (off : Nat) (s : State) : Option (Word × State) :=
  let i := s.img
  if off % 4 ≠ 0 then none
  else if 0x10 ≤ off ∧ off < 0x1C then peekS s (some (slotStat (slotOf i ((off - 0x10) / 4))))
  else if 0x20 ≤ off ∧ off < 0x2C then peekS s (some (mVersion (slotOf i ((off - 0x20) / 4)).manifest))
  else if 0x30 ≤ off ∧ off < 0x40 then peekS s (some (packSlots i.bayslot (4 * (off - 0x30))))
  else match off with
    | 0x00 => peekS s (some (imgStatus i))
    | 0x04 => peekS s (some (valAt 24 i.failSlot.toNat ||| valAt 20 i.failCause.toNat ||| valAt 10 i.failBay.toNat
        ||| valAt 0 i.failFrame.toNat))
    | 0x08 => peekS s (some (bootWord i))
    | 0x40 => peekS s (some (packSlots i.setslot 0))
    | 0x44 => peekS s (some (swStat i))
    | 0x48 => peekS s (some (wrStat i))
    | 0x4C => peekS s (some (valAt 16 i.minsvn.toNat ||| valAt 4 i.rev.toNat ||| valAt 0 i.prog.toNat))
    | _ => none

/-- A write by master m to the IMG block: IMG_BOOT takes writes of master 16 only. -/
def writeImg (m off : Nat) (v : Word) (s : State) : Option State :=
  if off = 0x08 then (if m = 16 then some (writeBoot v s) else none)
  else (readImg off s).map (fun _ => s)

end Sys2Proof.Machine
end

