-- ==== Sys2Proof/Machine/Repointer.lean ====
section
/-! DEFINITION. The repointers (R138, R295 to R299): visits, the voted controls, the heartbeat monitor, and the RPT registers. -/

namespace Sys2Proof.Machine

/-- Change repointer w. -/
def modRpt (w : Nat) (f : Rpt → Rpt) (s : State) : State := { s with rpt := nthUpd s.rpt w f }

/-- Majority of three copies, bit by bit (R298). -/
def vote (v : Vector Word 3) : Word := (v.get 0 &&& v.get 1) ||| (v.get 0 &&& v.get 2) ||| (v.get 1 &&& v.get 2)

/-- RPT_CTRLw.EN as voted. -/
def rptEn (x : Rpt) : Bool := (vote x.copy).getLsbD 31

/-- The repointers run: after a global release, in RUN, DOZE and NAP (R299). -/
def rptRuns (s : State) : Bool := !s.img.hold && s.pwr.stage == .run && s.pwr.state != 3

/-- Copies that disagree with the vote are rewritten and counted (R298). -/
def fixVote (x : Rpt) : Rpt :=
  let v := vote x.copy
  let n := (x.copy.toList.filter (· != v)).length
  { x with copy := Vector.replicate 3 v, votefix := BitVec.ofNat 8 (satAdd 8 x.votefix.toNat n) }

/-- The position of the next visit (R295). -/
def advanceRpt (x : Rpt) : Rpt :=
  if x.first then { x with first := false, bay := 0, frame := 0 }
  else if x.frame.toNat < 959 then { x with frame := x.frame + 1 }
  else { x with frame := 0, bay := x.bay + 1 }

/-- The visit to the last frame of bay 15 completes a pass (R295). -/
def endVisit (x : Rpt) : Rpt := if x.bay = 15 ∧ x.frame.toNat = 959 then { x with pass := x.pass + 1 } else x

/-- LAST. -/
def setLast (kind b f : Nat) (x : Rpt) : Rpt :=
  { x with lastKind := BitVec.ofNat 2 kind, lastBay := BitVec.ofNat 6 b, lastFrame := BitVec.ofNat 10 f }

/-- A plane record is unreadable (R296, R328): PLANEERR, the slot INVALID with 611, 4b + 1, the log, and the bay's lasting mark
in category 0. -/
def planeFault (w slot b f : Nat) (s : State) : State :=
  let s1 := invalidate slot (modRpt w (fun x => setLast 3 b f { x with planeErr := true }) s)
  let s2 := logRec 0x0021 2 (4 * b + 1) (valAt 0 b) (valAt 0 f) (raise (4 * b + 1) s1)
  if fltMarked s2.pln 0 b then s2 else declareLasting 0 b s2

/-- What a visit records of a latch row it found wrong (R296): corrected, reloaded, or corrected wrongly and then reloaded. -/
def countRow (e : RowErr) (b f : Nat) (x : Rpt) : Rpt :=
  let c := BitVec.ofNat 16 (satAdd 16 x.corr.toNat 1)
  let r := BitVec.ofNat 16 (satAdd 16 x.reload.toNat 1)
  match e with
  | .single => setLast 1 b f { x with corr := c }
  | .double => setLast 2 b f { x with reload := r }
  | .wrong => setLast 2 b f { x with corr := c, reload := r }

/-- The latch row of a frame below 632 is corrected or reloaded, which counts in the bay's correction window (R138, R296, R297). -/
def repairRow (w b f : Nat) (s : State) : State :=
  match (s.bayN b).bind (fun x => kvGet x.upset f) with
  | none => s
  | some e =>
    reportFault 0 b 1 (raise (4 * b) (modRpt w (countRow e b f) (s.modBayN b (fun x => { x with upset := kvDel f x.upset }))))

/-- A visit to a frame of a bay that is not skipped (R296). -/
def visitFrame (w b f : Nat) (s : State) : State :=
  let slot := ((nth s.img.bayslot b).getD 0).toNat
  match kvGet (slotOf s.img slot).planeErr (b * 960 + f) with
  | some .double => planeFault w slot b f s
  | e =>
    let s1 := if e.isSome then modRpt w (fun x => { x with planeCorr := BitVec.ofNat 8 (satAdd 8 x.planeCorr.toNat 1) }) s else s
    if 631 < f then s1 else repairRow w b f s1

/-- REPOINTER_VISIT (R295 to R298). -/
def execRepointerVisit (w : Wing) (st : State) : Host.Outcome State Fault Refusal :=
  .next (if !rptRuns st || !rptEn (st.rpt.get w) then st else
    let x := advanceRpt (fixVote (st.rpt.get w))
    let b := w.val * 16 + x.bay.toNat
    let skip := match st.bayN b with
      | some y => !y.runs
      | none => true
    let s1 := modRpt w.val (fun _ => { x with skip := skip }) st
    modRpt w.val endVisit (if skip then s1 else visitFrame w.val b x.frame.toNat s1))

/-- The firmware logs a repointer's restart, at once or as soon as it runs again (R298). -/
def logHeartbeat (w : Nat) (s : State) : State :=
  if s.pln.ready then logRestart w s else modPln (fun p => { p with hbOwed := p.hbOwed ++ [w] }) s

/-- REPOINTER_HEARTBEAT_RESTART (R298): the copies come back from the shadow, 613 + w, the log. -/
def execRepointerHeartbeatRestart (w : Wing) (st : State) : Host.Outcome State Fault Refusal :=
  .next (if !rptRuns st || !(st.rpt.get w).shad.getLsbD 31 then st else
    let s1 := modRpt w.val (fun x => { x with copy := Vector.replicate 3 x.shad,
                                              restarts := BitVec.ofNat 8 (satAdd 8 x.restarts.toNat 1) }) st
    logHeartbeat w.val (raise (613 + w.val) s1))

/-- RPT_CTRLw written: EN, and RATE unless it is 0; the three copies and the shadow (R298). -/
def rptWrite (v : Word) (x : Rpt) : Rpt :=
  let old := vote x.copy
  let n := (v &&& 0x80000000#32) ||| (if field v 7 0 = 0 then old &&& 0xFF#32 else v &&& 0xFF#32)
  { x with copy := Vector.replicate 3 n, shad := n }

/-- At a global release every repointer runs from bay 0, frame 0 (R284, R299). -/
def rptRelease (x : Rpt) : Rpt :=
  let n := setBit (vote x.copy) 31 true
  { x with copy := Vector.replicate 3 n, shad := n, first := true, bay := 0, frame := 0 }

/-- A read of the RPT block. -/
def readRpt (off : Nat) (rec : Word) (s : State) : Option (Word × State) :=
  if off % 4 ≠ 0 then none
  else if off = 0 then peekS s (some (s.rptHb.setWidth 32))
  else if off < 0x100 ∨ 0x180 ≤ off then none
  else
    let w := (off - 0x100) / 0x20
    (nth s.rpt w).bind (fun x =>
      match off % 0x20 with
      | 0x00 => peekS s (some (vote x.copy))
      | 0x04 => peekS s (some (valAt 16 x.pass.toNat ||| valAt 10 x.bay.toNat ||| valAt 0 x.frame.toNat))
      | 0x08 => some (valAt 16 x.reload.toNat ||| valAt 0 x.corr.toNat,
          modRpt w (fun x => { x with reload := recField rec 16 16, corr := recField rec 16 0 }) s)
      | 0x0C => some (flagAt 31 x.planeErr ||| flagAt 30 x.skip ||| valAt 16 x.restarts.toNat ||| valAt 8 x.votefix.toNat
            ||| valAt 0 x.planeCorr.toNat,
          modRpt w (fun x => { x with restarts := recField rec 8 16, votefix := recField rec 8 8, planeCorr := recField rec 8 0 }) s)
      | 0x10 => peekS s (some (valAt 30 x.lastKind.toNat ||| valAt 10 x.lastBay.toNat ||| valAt 0 x.lastFrame.toNat))
      | _ => none)

/-- A write by master m to the RPT block: RPT_HB and RPT_CTRLw take writes of master 16 only (R298). -/
def writeRpt (m off : Nat) (v : Word) (s : State) : Option State :=
  let w := (off - 0x100) / 0x20
  if off % 4 ≠ 0 then none
  else if off = 0 then
    (if m ≠ 16 then none
     else if 1 ≤ (field v 9 0).toNat ∧ (field v 9 0).toNat ≤ 1000 then some { s with rptHb := field v 9 0 } else some s)
  else if off < 0x100 ∨ 0x180 ≤ off then none
  else match off % 0x20 with
    | 0x00 => if m = 16 then some (modRpt w (rptWrite v) s) else none
    | 0x04 => some s
    | 0x08 => some s
    | 0x0C => some (if v.getLsbD 31 then modRpt w (fun x => { x with planeErr := false }) s else s)
    | 0x10 => some s
    | _ => none

end Sys2Proof.Machine
end

