-- ==== Sys2Proof/Machine/Chain.lean ====
section
/-! DEFINITION. The Irser chain's output (R236, R240 to R245): checking an inbound cell, forwarding, the two transit buffers,
aborts, the device's own cells by precedence and slot, and KEY_INTERVAL. CELL_FORWARD is a transit cell's arrival;
CELL_INSERT is the output's choice of its next cell, once in a cell time. -/

namespace Sys2Proof.Machine

/-- Change the chain interface. -/
def modIrs (f : Irs → Irs) (s : State) : State := { s with irs := f s.irs }

/-- A saturating 16-bit count more. -/
def bump16 (n : Nat) (c : BitVec 16) : BitVec 16 := BitVec.ofNat 16 (satAdd 16 c.toNat n)

/-- The device takes part in the ring: bypass open (R247). -/
def onRing (s : State) : Bool := s.irs.bypopen

/-- This device has an address: the head's is 0 (R248). -/
def hasAddr (s : State) : Bool := s.irs.addrv || s.irs.head

/-- The cell is for this device (R239). -/
def forMe (s : State) (c : Cell) : Bool := hasAddr s && c.dest == s.irs.self

/-- Class keystone. -/
def cellKey (c : Cell) : Bool := c.cls == 0

/-- Payload bytes as a little-endian number (R238). -/
def payNat (c : Cell) (i n : Nat) : Nat := leNat ((c.payload.drop i).take n)

/-- A payload byte. -/
def payByte (c : Cell) (i : Nat) : Byte := c.payload.getD i 0

/-- The type and class of a cell match the table of R237. -/
def typeOk (c : Cell) : Bool :=
  match c.type.toNat with
  | 1 => c.cls == 0 || c.cls == 2
  | 2 => c.cls == 2
  | 3 => c.cls == 2
  | 4 => c.cls == 3
  | 5 => c.cls == 1
  | 6 => c.cls == 2
  | 7 => c.cls == 2
  | 8 => c.cls == 2
  | 9 => c.cls == 2
  | 10 => c.cls == 3
  | 11 => c.cls == 2
  | _ => false

/-- TIME, ENUM, JOIN and RING cells (R239). -/
def headCell (c : Cell) : Bool := decide (5 ≤ c.type.toNat) && decide (c.type.toNat ≤ 8)

/-! ### Time base (R54, R254, R255) -/

/-- TBVALID changes: 491 or 490, and every setter sees it (R54, R55). -/
def setTb (b : Bool) (s : State) : State :=
  if s.irs.tbvalid = b then s else
  let s1 := modIrs (fun r => { r with tbvalid := b }) s
  raise (if b then 491 else 490) { s1 with setters := s1.setters.map (fun x => x.seeTb b) }

/-- On the head TBVALID follows PER, service after a RESUME, and CLOSERR (R255). -/
def headTb (s : State) : State :=
  if s.irs.head then setTb (s.irs.chen && s.irs.tbper != 0 && s.irs.resumed && !s.irs.closerr && !s.irs.retrain) s else s

/-- Local time runs between the moments that give it: how far is free (R254, log 6). -/
def runTime (s : State) : State :=
  { s with irs := { s.irs with time := s.irs.time + BitVec.ofNat 64 (Config.freeCost s.free) }, free := s.free + 1 }

/-! ### Re-training -/

/-- A re-training begins here (R252, R255): cells in flight are lost, the device's own unsent cells wait; the time base is
lost. -/
def beginRetrain (s : State) : State :=
  let s1 := modIrs (fun r => { r with retrain := true, resumed := false, paused := true, keyBuf := [], tranBuf := [],
                                      out := none, ins5 := 0, badRun := 0 }) s
  setTb false s1

/-- The inbound link is declared lost (R234, R252): 482. -/
def loseLink (s : State) : State :=
  let s1 := if s.irs.retrain then s else beginRetrain s
  raise 482 (modIrs (fun r => { r with inlock := false, badRun := 0 }) s1)

/-! ### CRC (R236, R244) -/

/-- What the CRC of a received cell says. -/
inductive CrcKind where
  | good
  | stomped
  | wrong
  deriving DecidableEq, Repr

/-- The CRC as received against the CRC computed. -/
def crcKind (c : Cell) : CrcKind :=
  if c.crc = cellCrc c then .good else if c.crc = ~~~(cellCrc c) then .stomped else .wrong

/-- The cell as forwarded: a wrong CRC is replaced by the complement of the computed one. -/
def restomp (c : Cell) : Cell := if crcKind c = .wrong then { c with crc := ~~~(cellCrc c) } else c

/-- The device checks a received cell: a wrong CRC is counted, here and in the plinth's window of the inbound link, and raises 480; the
second in a row loses the link (R234, R244, R327). -/
def checkCell (c : Cell) (s : State) : State :=
  match crcKind c with
  | .wrong =>
    let s1 := reportFault 2 0 1 (raise 480 (modIrs (fun r => { r with crcIn := bump16 1 r.crcIn, linkErr := bump16 1 r.linkErr,
                                                                      badRun := r.badRun + 1 }) s))
    if 2 ≤ s1.irs.badRun then loseLink s1 else s1
  | _ => modIrs (fun r => { r with badRun := 0 }) s

/-- A cell is removed and counted in IRS_DROP.BAD (R237, R244). -/
def dropBad (s : State) : State := modIrs (fun r => { r with drBad := bump16 1 r.drBad }) s

/-! ### Buffers and aborts (R241, R242) -/

/-- The transit buffer's fill goes from n to m cells. -/
def countFill (n m : Nat) (r : Irs) : Irs :=
  { r with thrcnt := if n < 8 ∧ 8 ≤ m then bump16 1 r.thrcnt else r.thrcnt,
           maxfill := BitVec.ofNat 7 (max r.maxfill.toNat m) }

/-- A non-keystone transit cell waits, or is dropped at a full buffer. -/
def bufferTransit (c : Cell) (r : Irs) : Irs :=
  if 96 ≤ r.tranBuf.length then { r with ovf := BitVec.ofNat 8 (satAdd 8 r.ovf.toNat 1) }
  else countFill r.tranBuf.length (r.tranBuf.length + 1) { r with tranBuf := r.tranBuf ++ [c] }

/-- A keystone transit cell waits. -/
def bufferKey (c : Cell) (r : Irs) : Irs :=
  if 64 ≤ r.keyBuf.length then { r with ovf := BitVec.ofNat 8 (satAdd 8 r.ovf.toNat 1) } else { r with keyBuf := r.keyBuf ++ [c] }

/-- An aborted transit cell goes back to the front of the transit buffer; it finds a full one as an arriving cell does, and is dropped
(DEDUCED, log 34). -/
def rebuffer (c : Cell) (seen : Bool) (r : Irs) : Irs :=
  if 96 ≤ r.tranBuf.length then { r with ovf := BitVec.ofNat 8 (satAdd 8 r.ovf.toNat 1) }
  else countFill r.tranBuf.length (r.tranBuf.length + 1) { r with tranBuf := c :: r.tranBuf, ins5 := r.ins5 + seen.toNat }

/-- The aborted cell goes back to the front of where it came from, with ABT; a TIME cell is lost. A transit cell counts, lost or not. -/
def putBack (c : Cell) (src : CellFrom) (r : Irs) : Irs :=
  let c1 := { c with abt := true }
  match src with
  | .transit seen =>
    let r1 := { r with abTran := bump16 1 r.abTran }
    if c.type = 5 then r1 else rebuffer c1 seen r1
  | .ownKey => { r with ownKey := c1 :: r.ownKey }
  | .ownTime => r
  | .ownHead => { r with ownHead := c1 :: r.ownHead }
  | .own k => { r with own := updf r.own k (c1 :: ·) }

/-- A keystone cell takes the output: a non-keystone cell in progress is aborted. -/
def abortOut (r : Irs) : Irs :=
  match r.out with
  | some (c, src) => if cellKey c then r else putBack c src { r with out := none }
  | none => r

/-- A keystone cell is in progress on the output. -/
def keyInProgress (r : Irs) : Bool :=
  match r.out with
  | some (c, _) => cellKey c
  | none => false

/-- An own keystone cell may leave now (R243, R248). -/
def keyReady (r : Irs) : Bool := r.ken && !r.kenref && !r.keyHold && !r.ownKey.isEmpty

/-- A class has a cell to send. -/
def classReady (r : Irs) (k : Nat) : Bool :=
  match nth r.own k with
  | some l => !l.isEmpty
  | none => false

/-- The entry of the chain bond table at the slot pointer. -/
def chainSlot (r : Irs) : BitVec 8 := (r.bond.act.get ⟨r.ptr.toNat, r.ptr.isLt⟩)

/-- The class of an OWNER slot (R245). -/
def slotClass (e : BitVec 8) : Fin 4 := ⟨e.toNat % 4, Nat.mod_lt _ (by decide)⟩

/-- An own cell of precedence 5 may be inserted in this slot (R240, R241): its class owns the slot, fewer than 8 transit cells wait, and
none of them has seen another inserted. -/
def ownsSlot (r : Irs) : Bool :=
  slotKind (chainSlot r) == 2 && classReady r (slotClass (chainSlot r)).val && !r.paused && decide (r.tranBuf.length < 8) && r.ins5 == 0

/-- Some cell of the device's own goes before a non-keystone transit cell (R240, precedences 2, 4 and 5). -/
def ownFirst (r : Irs) : Bool := keyReady r || !r.ownTime.isEmpty || !r.ownHead.isEmpty || ownsSlot r

/-- A transit cell meets the output: cut-through, or behind what goes before it (R240, R241). The head forwards with HOP set (R239). -/
def forwardCell (c : Cell) (s : State) : State :=
  modIrs (fun r =>
    let c := if r.head then { c with hop := true } else c
    if cellKey c then
      (if keyInProgress r || keyReady r || !r.keyBuf.isEmpty then bufferKey c r
       else { abortOut r with out := some (c, .transit false) })
    else if r.out.isNone && r.keyBuf.isEmpty && r.tranBuf.isEmpty && !ownFirst r then { r with out := some (c, .transit false) }
    else bufferTransit c r) s

/-- A received cell that goes on: checked, then forwarded as R244 says, unless the link was lost with it. -/
def passOn (c : Cell) (s : State) : State :=
  let s1 := checkCell c s
  if s1.irs.retrain then s1 else forwardCell (restomp c) s1

/-- A received cell that this device takes: checked; one whose CRC is wrong or stomped is discarded (R244). -/
def takeCell (c : Cell) (good : State → State) (s : State) : State :=
  let s1 := checkCell c s
  if crcKind c = .good then good s1 else dropBad s1

/-- A cell that reaches the head with HOP = 1: removed, a QFAIL for a QPUT or NOTE (R239). -/
def undelivered (c : Cell) (s : State) : State :=
  takeCell c (fun s => if c.type = 1 ∨ c.type = 3 then sendQfail c 5 s else s) s

/-! ### The next cell on the output (R240, R242, R243, R245) -/

/-- An own cell that was aborted is sent again: 489, IRS_ABORT.OWN (R242). -/
def resent (c : Cell) (s : State) : State :=
  if c.abt then raise 489 (modIrs (fun r => { r with abOwn := bump16 1 r.abOwn }) s) else s

/-- The TIME cell as it leaves: stamped with the head's time (R254). -/
def stampTime (c : Cell) (t : BitVec 64) : Cell :=
  let c1 := { c with payload := leBytes 8 t.toNat ++ c.payload.drop 8 }
  { c1 with crc := cellCrc c1 }

/-- A TIME cell that waited takes its residence into CORR, which is free (R254, log 6); one whose CRC is not good goes
unchanged (R236). -/
def addCorr (c : Cell) (d : Nat) : Cell :=
  if c.type = 5 ∧ crcKind c = .good then
    let c1 := { c with payload := c.payload.take 12 ++ leBytes 4 (payNat c 12 4 + d) ++ c.payload.drop 16 }
    { c1 with crc := cellCrc c1 }
  else c

/-- Send the next cell of own class k. -/
def sendClass (k : Fin 4) (s : State) : State :=
  match s.irs.own.get k with
  | [] => s
  | c :: t => resent c (modIrs (fun r => { r with own := upd r.own k t, out := some (c, .own k) }) s)

/-- The rank of a class (IRS_CRANK). -/
def classRank (r : Irs) (k : Nat) : Nat := r.crank.toNat / 2 ^ (4 * k) % 8

/-- The class that wins a FREE or KEY slot: the highest rank, round-robin inside it (R245). -/
def classWinner (r : Irs) : Option (Fin 4 × Nat) :=
  ((List.range 8).map (fun i => 7 - i)).findSome? (fun rk =>
    let p := ((nth r.crr rk).getD 0).toNat
    ((List.finRange 4).map (fun i => ⟨(p + i.val) % 4, Nat.mod_lt _ (by decide)⟩ : Fin 4 → Fin 4)).findSome? (fun k =>
      if classReady r k.val && classRank r k.val == rk then some (k, rk) else none))

/-- The output's choice below the keystone cells (R240, precedences 4 to 8), with no cell in progress. -/
def chooseOrd (s : State) : State :=
  let r := s.irs
  let e := chainSlot r
  match r.ownTime, r.ownHead, r.tranBuf with
  | c :: t, _, _ =>
    let s1 := runTime s
    modIrs (fun r => { r with ownTime := t, out := some (stampTime c r.time, .ownTime) }) s1
  | [], c :: t, _ => resent c (modIrs (fun r => { r with ownHead := t, out := some (c, .ownHead) }) s)
  | [], [], w =>
    if ownsSlot r then modIrs (fun r => { r with ins5 := w.length }) (sendClass (slotClass e) s)
    else
      match w with
      | c :: t =>
        { modIrs (fun r => { r with tranBuf := t, ins5 := r.ins5 - 1,
                                    out := some (addCorr c (Config.freeCost s.free), .transit (r.ins5 != 0)) }) s with free := s.free + 1 }
      | [] =>
        if slotOpen e ∧ !r.paused then
          match classWinner r with
          | some (k, rk) =>
            modIrs (fun r => { r with crr := nthUpd r.crr rk (fun _ => BitVec.ofNat 2 (k.val + 1)) }) (sendClass k s)
          | none => s
        else s

/-- The output's choice (R240): the device's own keystone cell, then keystone transit cells, each taking the output from a
non-keystone cell; else the cell in progress has ended and the others compete. -/
def chooseCell (s : State) : State :=
  let r := s.irs
  if keyReady r then
    match (abortOut r).ownKey with
    | c :: t => modIrs (fun r => { abortOut r with ownKey := t, out := some (c, .ownKey), keyHold := true }) s
    | [] => s
  else match r.keyBuf with
    | c :: t => modIrs (fun r => { abortOut r with keyBuf := t, out := some (c, .transit false) }) s
    | [] => chooseOrd (modIrs (fun r => { r with out := none }) s)

/-- CELL_INSERT (R240 to R243, R245): the output takes its next cell and the slot pointer advances; in a re-training, or off
the ring, no cell is sent. -/
def execCellInsert (st : State) : Host.Outcome State Fault Refusal :=
  .next (if !st.irs.chen then st else
    let s1 := if onRing st && !st.irs.retrain then chooseCell st else st
    let wrap := s1.irs.ptr == 63
    let s2 := modIrs (fun r => { r with ptr := r.ptr + 1 }) s1
    if wrap && s2.irs.bond.phase == .armed then raise 622 (modIrs (fun r => { r with bond := r.bond.switch }) s2) else s2)

/-! ### KEY_INTERVAL (R243) -/

/-- The effective KEY_INTERVAL in µs: the larger of KI and L + 800 ns × 64 rounded up. -/
def keyEffOf (ki : BitVec 10) (lap : Word) : BitVec 10 :=
  BitVec.ofNat 10 (min (max ki.toNat ((lap.toNat + 51200 + 999) / 1000)) 1023)

/-- KEY_INTERVAL_EXPIRY (R243). -/
def execKeyIntervalExpiry (st : State) : Host.Outcome State Fault Refusal :=
  .next (modIrs (fun r => { r with keyHold := false }) st)

end Sys2Proof.Machine
end

