-- ==== Sys2Proof/Machine/QueueUnit.lean ====
section
/-! DEFINITION. Opcode 0x14: the setter's queue instructions, local and remote (R118 to R121). Function [11:0] is the operand
`lo`: EOB in [11] for PUT, [10:0] must be 0. -/

namespace Sys2Proof.Machine

/-- A local queue instruction (R118, R119). On a KEY queue the operation goes to the lane, and the setter waits for its outcome (R223);
an operation that must wait holds its setter, and no later one passes it (R116, R121). -/
def queueLocal (s : SetterId) (ins : Instr) (d : Reg) (op : HodOp) (st : State) : Fate :=
  if asleep .hod st then waitFor s .hod ins st
  else if portBusy s.val st then holdOn s .hod ins st
  else if (descOf st (opQueue op)).key then
    .going (enterLane ⟨⟨s.val, by omega⟩, op, .setter s d⟩ (st.modS s (fun x => { x with wait := .lane d })))
  else match queueOp s.val op st with
    | (.waits, t) => holdOn s .hod ins t
    | (r, t) => queueOutcome s d op r t

/-- The payload of a QPUT cell (R238). -/
def qputPayload (q : QueueId) (v : Word) (eob : Bool) : List Byte :=
  leBytes 2 q.toNat ++ [BitVec.ofNat 8 eob.toNat, 0] ++ leBytes 4 v.toNat

/-- Hand a keystone cell to the chain interface: held, with source 488, inside KEY_INTERVAL (R34, R243), as one is that another of the
device's own still waits before; none when its buffer is full (R120). -/
def sendKey (c : Cell) (s : State) : Option State :=
  if Config.txRoom 4 + 1 ≤ s.irs.ownKey.length then none
  else some (raiseIf (s.irs.keyHold || !s.irs.ownKey.isEmpty) 488 { s with irs := { s.irs.remember c with ownKey := s.irs.ownKey ++ [c] } })

/-- A remote PUT of class k completes at the local hod (R120, R227): true is C = 1. -/
def remotePut (k : Fin 4) (n : QName) (v : Word) (eob : Bool) (s : State) : Bool × State :=
  if n.kc then
    (if !s.irs.ken || s.irs.kenref then (true, s)
    else match sendKey (mkCell s 1 0 n.dev (qputPayload n.queue v eob)) s with
      | some t => (false, t)
      | none => (true, raise 441 s))
  else
    match sendOwn k (mkCell s 1 2 n.dev (qputPayload n.queue v eob)) s with
    | some t => (false, t)
    | none => (true, raise 441 s)

/-- PUT (R118 to R120, R227). -/
def execPut (s : SetterId) (r : Regs) (lo : BitVec 12) (st : State) : Host.Outcome State Fault Refusal :=
  .next (issue s [r.a, r.d] false (needZero (r.b == 0 && field lo 10 0 == 0) (fun st =>
    let x := st.st s
    let w := x.reg r.a
    let n := queueName w
    if queueNameBad w true then .trap st 3 2 (queueAddr n.queue)
    else if n.remote then
      (if asleep .hod st then waitFor s .hod (.put s r lo) st
      else match remotePut 0 n (x.reg r.d) (lo.getLsbD 11) st with
        | (c, t) => queueDone s (·.setC c) t)
    else queueLocal s (.put s r lo) r.d (.put n.queue (x.reg r.d) (lo.getLsbD 11)) st)) st)

/-- A queue read: REMOTE is refused like a broken must-be-zero rule (R119). -/
def queueRead (s : SetterId) (ins : Instr) (r : Regs) (lo : BitVec 12) (op : QueueId → HodOp) (st : State) : State :=
  issue s [r.a] false (needZero (r.b == 0 && lo == 0) (fun st =>
    let w := (st.st s).reg r.a
    if queueNameBad w false then .trap st 3 2 (queueAddr (queueName w).queue)
    else queueLocal s ins r.d (op (queueName w).queue) st)) st

/-- GET (R118, R119). -/
def execGet (s : SetterId) (r : Regs) (lo : BitVec 12) (st : State) : Host.Outcome State Fault Refusal :=
  .next (queueRead s (.get s r lo) r lo .get st)
/-- PEEK (R118, R119). -/
def execPeek (s : SetterId) (r : Regs) (lo : BitVec 12) (st : State) : Host.Outcome State Fault Refusal :=
  .next (queueRead s (.peek s r lo) r lo .peek st)
/-- QST (R118, R119). -/
def execQst (s : SetterId) (r : Regs) (lo : BitVec 12) (st : State) : Host.Outcome State Fault Refusal :=
  .next (queueRead s (.qst s r lo) r lo .qst st)

end Sys2Proof.Machine
end

