-- ==== Sys2Proof/Machine/ChainRows.lean ====
section
/-! DEFINITION. What the chain's cells and links do to this device (R227, R229, R239, R244, R247 to R257), the head's commands,
the streams, and the IRS registers. -/

namespace Sys2Proof.Machine

/-! ### Cells for this device -/

/-- A cell of this type for this device arrives on the ring. -/
def arrives (type : Nat) (c : Cell) (s : State) : Bool :=
  onRing s && !s.irs.retrain && c.type.toNat == type && typeOk c && forMe s c && !(s.irs.head && c.hop)

/-- The chain port performs a PUT as master 19, one at a time (R214, R227); on a KEY queue it goes to the lane (R223). A refusal returns as
a QFAIL. False when the PUT must wait. -/
def chainPut (c : Cell) (q : QueueId) (v : Word) (eob : Bool) (s : State) : Bool × State :=
  if asleep .hod s then (false, startWake .hod s)
  else if laneBusy 17 s then (false, s)
  else if (descOf s q).key then (true, enterLane ⟨17, .put q v eob, .cell c⟩ s)
  else match queueOp 19 (.put q v eob) s with
    | (.waits, t) => (false, t)
    | (r, t) => (true, cellOutcome c q r t)

/-- The bytes of a STREAM cell for stream k (R228, R256), with END on the last; a cell with none is END alone. A packer that no queue
names drops them. -/
def feedStream (c : Cell) (k n : Nat) (s : State) : State :=
  let p := 16 + k
  let last := (payByte c 0).getLsbD 7
  let bytes := (c.payload.drop 2).take n
  if (packQueue s p).isNone then (if n = 0 then s else dropWord p 442 s)
  else drainPack p 40 (modPack p (fun x => { x with fifo :=
    if n = 0 then (if last then [(none, true)] else [])
    else (bytes.dropLast.map (fun b => (some b, false))) ++ (bytes.getLast?.toList.map (fun b => (some b, last))) }) s)

/-- The stream of a STREAM cell. -/
def streamNo (c : Cell) : Nat := (field (payByte c 0) 3 0).toNat

/-- A STREAM cell's bytes reach its packer (R228, R256). False while the hod sleeps, or the packer waits for room in the combining
buffer. -/
def chainStream (c : Cell) (s : State) : Bool × State :=
  if asleep .hod s then (false, startWake .hod s)
  else if (packOf s (16 + streamNo c)).wait.isSome then (false, s)
  else (true, feedStream c (streamNo c) (payByte c 1).toNat s)

/-- What a cell that the chain port has taken does to the hod; a NOTE has no EOB. -/
def chainOp (c : Cell) (s : State) : Bool × State :=
  if c.type = 4 then chainStream c s
  else chainPut c (BitVec.ofNat 16 (payNat c 0 2)) (BitVec.ofNat 32 (payNat c 4 4)) (c.type == 1 && (payByte c 2).getLsbD 0) s

/-- The cells at the chain port do their work, in the order in which they came, until one must wait (R214, R227). `n` is fuel. -/
def serveCells : Nat → State → State
  | 0, s => s
  | n + 1, s =>
    match s.hod.cells with
    | [] => s
    | c :: t =>
      match chainOp c { s with hod := { s.hod with cells := t } } with
      | (true, u) => serveCells n u
      | (false, u) => { u with hod := { u.hod with cells := c :: t } }

/-- A cell comes to the chain port, behind those that wait there. -/
def chainPort (c : Cell) (s : State) : State :=
  serveCells (s.hod.cells.length + 1) { s with hod := { s.hod with cells := s.hod.cells ++ [c] } }

/-- A QPUT or NOTE cell is put into its queue; one whose CRC is not good is discarded (R244). -/
def putCell (c : Cell) (s : State) : State := takeCell c (chainPort c) s

/-- QPUT_CELL (R227). -/
def execQputCell (c : Cell) (st : State) : Host.Outcome State Fault Refusal :=
  .next (if arrives 1 c st then putCell c st else st)

/-- The destinations to which this device has sent the PUT or note that a QFAIL is about. -/
def failedTo (c : Cell) (r : Irs) : List (BitVec 12) :=
  (r.sent.filter (fun p => p.type.toNat == (payByte c 3).toNat && p.queue.toNat == payNat c 0 2 && p.elem.toNat == payNat c 4 4)).map
    SentPut.dest

/-- The destination that failed (HOD_RMTFAIL.DEV): the device that refused it. Where no device took the cell (REASON 5) the head answers,
and the destination is the one to which the cell was sent; of several that are sent the same element for the same queue it is free which
(DESIGN CHOICE, log 33). -/
def failedDev (c : Cell) (s : State) : BitVec 12 :=
  if payByte c 2 = 5 then
    let l := failedTo c s.irs
    l.getD (Config.freeCost s.free % l.length) (BitVec.ofNat 12 (Config.freeCost s.free))
  else c.src

/-- QFAIL_CELL (R227): 440 and HOD_RMTFAIL. -/
def execQfailCell (c : Cell) (st : State) : Host.Outcome State Fault Refusal :=
  .next (if arrives 2 c st then
      takeCell c (fun s => raise 440 { s with free := s.free + 1, hod := { s.hod with
        rfReason := (payByte c 2).setWidth 4, rfDev := failedDev c s, rfQ := BitVec.ofNat 16 (payNat c 0 2) } }) st
    else st)

/-- NOTE_CELL (R25, R29): the element goes to its queue, and 492. -/
def execNoteCell (c : Cell) (st : State) : Host.Outcome State Fault Refusal :=
  .next (if arrives 3 c st then putCell c st else st)

/-- IRS_DROP.STREAM counts one. -/
def dropStream (s : State) : State := modIrs (fun r => { r with drStream := bump16 1 r.drStream }) s

/-- The stream takes the cell: enabled, from its source or any, at most 30 bytes (R256). -/
def streamTakes (c : Cell) (s : State) : Bool :=
  let w := (nth s.irs.rx (streamNo c)).getD 0
  w.getLsbD 31 && (w.getLsbD 30 || field w 11 0 == c.src) && decide ((payByte c 1).toNat ≤ 30)

/-- STREAM_CELL (R228, R256). -/
def execStreamCell (c : Cell) (st : State) : Host.Outcome State Fault Refusal :=
  .next (if arrives 4 c st then takeCell c (fun s => if streamTakes c s then chainPort c s else dropStream s) st else st)

/-- A cell of a reserved type or wrong class is removed at its destination and at the head, and counted; elsewhere it passes (R237,
R244). -/
def badCell (c : Cell) (s : State) : State :=
  if !onRing s || s.irs.retrain then s else if s.irs.head || forMe s c then dropBad (checkCell c s) else passOn c s

/-- BAD_CELL (R237, R244). -/
def execBadCell (c : Cell) (st : State) : Host.Outcome State Fault Refusal :=
  .next (if typeOk c then st else badCell c st)

/-- UNDELIVERED_CELL (R239): a cell that reaches the head with HOP = 1. -/
def execUndeliveredCell (c : Cell) (st : State) : Host.Outcome State Fault Refusal :=
  .next (if onRing st && st.irs.head && c.hop && typeOk c && !headCell c && !st.irs.retrain then undelivered c st else st)

/-! ### Cells that every device reads -/

/-- A TIME, ENUM, JOIN or RING cell that this device, not the head, receives; `reads` is what it does to the device. Its CRC
is checked; a cell whose CRC is not good is only forwarded (R244). -/
def readPass (type : Nat) (c : Cell) (reads : State → State) (fwd : State → Cell) (s : State) : State :=
  if !onRing s || c.type.toNat != type then s
  else if !typeOk c then badCell c s
  else if s.irs.head then s
  else
  let s1 := checkCell c s
  if crcKind c = .good then
    let s2 := reads s1
    forwardCell (fwd s2) s2
  else if s1.irs.retrain then s1
  else forwardCell (restomp c) s1

/-- A TIME, ENUM, JOIN or RING cell of the right class that returns to the head is removed, and counted where its CRC is not good; anywhere else `f` reads it (R239, R244). -/
def headTakes (c : Cell) (f : State → State) (s : State) : State :=
  if s.irs.head && onRing s && typeOk c && headCell c then takeCell c id s else f s

/-- TIME received with a good CRC (R254, R255). -/
def hearTime (c : Cell) (s : State) : State :=
  let s1 := modIrs (fun r => { r with
    time := BitVec.ofNat 64 (payNat c 0 8 + r.hop.toNat + payNat c 12 4),
    tmSeq := BitVec.ofNat 16 (payNat c 8 2), tmPer := BitVec.ofNat 16 (payNat c 10 2) }) s
  if s1.irs.chen && s1.irs.resumed && !s1.irs.retrain then setTb true s1 else s1

/-- A TIME cell arrives; the head removes its own. -/
def timeCell (c : Cell) (s : State) : State :=
  if s.irs.retrain then s else headTakes c (readPass 5 c (hearTime c) (fun _ => c)) s

/-- TIME_CELL (R54, R55, R239, R254, R255). -/
def execTimeCell (c : Cell) (st : State) : Host.Outcome State Fault Refusal :=
  .next (timeCell c st)

/-- The address taken from an ENUM cell and the next address forwarded, with OVF (R248). -/
def enumAddr (c : Cell) (r : Irs) : Option Nat × Nat × Bool :=
  let w := payNat c 0 2
  let next := w % 8192
  let keep := (payByte c 2).getLsbD 0
  if next = 4096 ∨ w / 32768 % 2 = 1 then (none, next, true)
  else if keep && r.addrv && decide (next ≤ r.addr.toNat) then (some r.addr.toNat, r.addr.toNat + 1, false)
  else (some next, next + 1, false)

/-- The ENUM cell as this device forwards it (R248, R249): counts, the next hop's delay, its own link's flight and bypassed
positions. -/
def enumOut (c : Cell) (next : Nat) (ovf : Bool) (count : Nat) (flight bypassed : BitVec 8) : Cell :=
  let p := leBytes 2 (next + ovf.toNat * 32768) ++ [payByte c 2, BitVec.ofNat 8 count]
    ++ leBytes 4 (payNat c 4 4 + 80 + 2 * bypassed.toNat) ++ [flight, bypassed]
  let c1 := { c with payload := padTo 32 p }
  { c1 with crc := cellCrc c1 }

/-- The keystone count after this device, and whether it is refused (R248). -/
def enumCount (n : Nat) (ken : Bool) : Nat × Bool := if !ken then (n, false) else if 64 ≤ n then (n, true) else (n + 1, false)

/-- BPOUT as measured, and BPRUN above 4 (R247, R249). -/
def setBypassed (n : BitVec 8) (s : State) : State :=
  let s1 := modIrs (fun r => { r with bpout := n, bprun := r.bprun || decide (4 < n.toNat) }) s
  raiseIf (decide (4 < n.toNat)) 493 s1

/-- ENUM received (R248): address, hop delay, keystone refusal; 486 for an address taken. -/
def hearEnum (c : Cell) (bypassed : BitVec 8) (s : State) : State :=
  let a := (enumAddr c s.irs).1
  let k := enumCount (payByte c 3).toNat s.irs.ken
  let s1 := modIrs (fun r => { r with
    addrv := a.isSome, addr := match a with
      | some n => BitVec.ofNat 12 n
      | none => r.addr,
    hop := BitVec.ofNat 32 (payNat c 4 4), kenref := k.2, resumed := false, retrain := false, sawTrain := false }) s
  let s2 := setBypassed bypassed s1
  raiseIf a.isSome 486 s2

/-- An ENUM cell arrives at a device, whose outbound link has these figures. -/
def enumCell (c : Cell) (flight bypassed : BitVec 8) (s : State) : State :=
  let e := enumAddr c s.irs
  let k := enumCount (payByte c 3).toNat s.irs.ken
  readPass 6 c (hearEnum c bypassed) (fun _ => enumOut c e.2.1 e.2.2 k.1 flight bypassed) s

/-- ENUM_CELL (R247 to R249). -/
def execEnumCell (c : Cell) (flight bypassed : BitVec 8) (st : State) : Host.Outcome State Fault Refusal :=
  .next (enumCell c flight bypassed st)

/-- The ring is in service (R248, R251, R252): N, S and L are stored, the floor of KEY_INTERVAL follows (R243), 485. -/
def resume (n : BitVec 12) (sk : BitVec 7) (lap : Word) (s : State) : State :=
  let s1 := modIrs (fun r => { r with ringN := n, ringS := sk, lap := lap, keyEff := keyEffOf r.ki lap, resumed := true,
                                      paused := false, retrain := false, sawTrain := false, hbusy := false }) s
  headTb (raise 485 s1)

/-- A cell of the head's own precedence (R240). -/
def queueHead (c : Cell) (s : State) : State := modIrs (fun r => { r with ownHead := r.ownHead ++ [c] }) s

/-- A link's flight, less its bypassed positions, exceeds 12 ns (R249): in 0.25 ns. -/
def tooFar (flight bypassed : BitVec 8) : Bool := decide (48 + 8 * bypassed.toNat < flight.toNat)

/-- ENUM_RETURN (R248, R249): the head checks the closure, its own outbound link with it, and sends RESUME with N, S and L. -/
def execEnumReturn (c : Cell) (lap : Word) (st : State) : Host.Outcome State Fault Refusal :=
  .next (if !st.irs.head || !onRing st || c.type != 6 then st else if !typeOk c then badCell c st else
    takeCell c (fun s =>
      let next := payNat c 0 2 % 8192
      let hop := payNat c 4 4
      let far := tooFar (payByte c 8) (payByte c 9)
      let off := decide (hop + 16 < lap.toNat) || decide (lap.toNat + 16 < hop)
      let n : BitVec 12 := BitVec.ofNat 12 (next - 1)
      let k := (payByte c 3).setWidth 7
      let s1 := modIrs (fun r => { r with closerr := off || far || r.farOut }) s
      resume n k lap (queueHead (mkCell s1 8 2 0
        ([2, 0, 0, 0] ++ leBytes 2 n.toNat ++ [payByte c 3, 0] ++ leBytes 4 lap.toNat)) s1)) st)

/-- A JOIN cell: a waiting device opens its bypass, 487; others forward it, the head removes it. -/
def joinCell (c : Cell) (s : State) : State :=
  if c.type != 7 then s
  else if s.irs.waitjoin then
    (if crcKind c = .good && typeOk c then raise 487 (modIrs (fun r => { r with bypopen := true, waitjoin := false }) s) else s)
  else headTakes c (readPass 7 c id (fun _ => c)) s

/-- JOIN_CELL (R239, R248, R251). -/
def execJoinCell (c : Cell) (st : State) : Host.Outcome State Fault Refusal := .next (joinCell c st)

/-- A RING cell: PAUSE raises 484 and stops the device's own non-keystone cells until RESUME. -/
def ringCell (c : Cell) (s : State) : State :=
  headTakes c (readPass 8 c (fun s =>
    if payByte c 0 = 1 then raise 484 (modIrs (fun r => { r with paused := true }) s)
    else if payByte c 0 = 2 then
      resume (BitVec.ofNat 12 (payNat c 4 2)) ((payByte c 6).setWidth 7) (BitVec.ofNat 32 (payNat c 8 4)) s
    else s) (fun _ => c)) s

/-- RING_PAUSE (R239, R251). -/
def execRingPause (c : Cell) (st : State) : Host.Outcome State Fault Refusal :=
  .next (if c.type != 8 || payByte c 0 != 1 then st else ringCell c st)

/-- RING_RESUME (R248). -/
def execRingResume (c : Cell) (st : State) : Host.Outcome State Fault Refusal :=
  .next (if c.type != 8 || payByte c 0 != 2 then st else ringCell c st)

/-- A TIME, ENUM, JOIN or RING cell among the transit cells: every device reads it as it passes (R239). The figures of this device's own
outbound link, which an ENUM takes, are free (log 6). -/
def readHead (c : Cell) (s : State) : State :=
  match c.type.toNat with
  | 5 => timeCell c s
  | 6 => headTakes c (fun s => enumCell c (BitVec.ofNat 8 (Config.freeCost s.free)) (BitVec.ofNat 8 (Config.freeCost (s.free + 1)))
      { s with free := s.free + 2 }) s
  | 7 => joinCell c s
  | 8 => ringCell c s
  | _ => s

/-- A LINK cell with a reason that no row of LINK cells names: it is checked, and has no other effect (R244). -/
def linkOther (c : Cell) : Bool := c.type == 9 && payByte c 0 != 1 && payByte c 0 != 2

/-- CELL_FORWARD (R236, R237, R239, R240, R241, R244): a transit cell arrives. A cell of this device's own that returns is removed; at
the head one with HOP = 1 is undelivered. A device that is not on the ring, or is re-training, forwards nothing. -/
def execCellForward (c : Cell) (st : State) : Host.Outcome State Fault Refusal :=
  .next (if !onRing st || st.irs.retrain then st
    else if !typeOk c then badCell c st
    else if headCell c then readHead c st
    else if forMe st c then (if linkOther c then takeCell c id st else st)
    else if st.irs.head && c.hop then undelivered c st
    else if hasAddr st && c.src == st.irs.self then checkCell c st
    else passOn c st)

/-! ### LINK cells (R244, R252) -/

/-- LINK_CELL_CRC (R244): reason 1; its errors join IRS_CRCCNT.OUT and the plinth's window of the outbound link. -/
def execLinkCellCrc (c : Cell) (st : State) : Host.Outcome State Fault Refusal :=
  .next (if arrives 9 c st && payByte c 0 == 1 then
      takeCell c (fun s => reportFault 2 1 (payNat c 2 2) (raise 481 (modIrs (fun r => { r with crcOut := bump16 (payNat c 2 2) r.crcOut }) s))) st
    else st)

/-- LINK_CELL_RETRAINED (R252): reason 2. -/
def execLinkCellRetrained (c : Cell) (st : State) : Host.Outcome State Fault Refusal :=
  .next (if arrives 9 c st && payByte c 0 == 2 then takeCell c (raise 483) st else st)

/-- The upstream neighbour's address: this one less 1; the head's is the highest on the ring (R244). -/
def upstream (r : Irs) : BitVec 12 := if r.head then r.ringN else r.addr - 1

/-- A LINK cell to the upstream neighbour, when the transmit buffer has room. -/
def sendLink (reason n : Nat) (s : State) : Option State :=
  sendOwn 2 (mkCell s 9 2 (upstream s.irs) ([BitVec.ofNat 8 reason, 0] ++ leBytes 2 n)) s

/-- LINK_CELL_SEND (R244, R252): a re-trained link first, else the errors since the last one. -/
def execLinkCellSend (st : State) : Host.Outcome State Fault Refusal :=
  .next (if !onRing st then st
    else if st.irs.retrained then
      (match sendLink 2 0 st with
        | some t => modIrs (fun r => { r with retrained := false }) t
        | none => st)
    else if st.irs.linkErr = 0 then st
    else match sendLink 1 st.irs.linkErr.toNat st with
      | some t => modIrs (fun r => { r with linkErr := 0 }) t
      | none => st)

/-! ### Link state (R247, R248, R252) -/

/-- The self-test controller isolates the chain interface. -/
def chainTested (s : State) : Bool := sliceBlock s == some .chain

/-- A re-training during CHAINLOOP ends the slice INCOMPLETE, END 3 (R366). -/
def cutLoop (s : State) : State := if chainTested s then finishRecord 3 3 0xFF s else s

/-- LINK_LOST (R234, R252, R366). -/
def execLinkLost (st : State) : Host.Outcome State Fault Refusal :=
  .next (if onRing st && st.irs.inlock then loseLink st else cutLoop st)

/-- TRAIN_RECEIVED (R252): the first TRAIN of a re-training stops insertion and raises 484; one ends CHAINLOOP (R366). -/
def execTrainReceived (st : State) : Host.Outcome State Fault Refusal :=
  .next (if !onRing st || st.irs.sawTrain then cutLoop st else
    let s1 := if st.irs.retrain then st else beginRetrain st
    raise 484 (modIrs (fun r => { r with sawTrain := true }) s1))

/-- The inbound link is aligned again; one that was lost owes its upstream neighbour a LINK cell with reason 2 (R252). -/
def realign (s : State) : State :=
  if s.irs.inlock then s else
  let s1 := modIrs (fun r => { r with inlock := true }) s
  match sendLink 2 0 s1 with
  | some t => t
  | none => modIrs (fun r => { r with retrained := true }) s1

/-- The re-training is over here. -/
def endRetrain (s : State) : State := modIrs (fun r => { r with retrain := false, sawTrain := false }) s

/-- LINK_REALIGNED (R252). For the head the re-training lasts until clean IDLE has returned. -/
def execLinkRealigned (st : State) : Host.Outcome State Fault Refusal :=
  .next (if !onRing st || !st.irs.retrain then (if onRing st && !st.irs.inlock then modIrs (fun r => { r with inlock := true }) st else st)
    else if st.irs.head then realign st else endRetrain (realign st))

/-- CHAIN_LISTEN_END (R248): a ring in service is waited for; else the bypass opens. -/
def execChainListenEnd (inService : Bool) (st : State) : Host.Outcome State Fault Refusal :=
  .next (if !st.irs.chen || !st.pwr.on || st.pwr.stage != .run || st.irs.bypopen || st.irs.waitjoin || chainTested st then st
    else if inService then modIrs (fun r => { r with waitjoin := true, inlock := true }) st
    else modIrs (fun r => { r with bypopen := true }) st)

/-! ### The head (R248, R251, R252, R254) -/

/-- The head sends ENUM (R248): next address 1, its own count, its own outbound link's figures, which are free (R249, log 6). -/
def sendEnum (keep : Bool) (s : State) : State :=
  let fl := BitVec.ofNat 8 (Config.freeCost s.free)
  let by_ := BitVec.ofNat 8 (Config.freeCost (s.free + 1))
  let s1 := setBypassed by_ { s with free := s.free + 2 }
  let s2 := modIrs (fun r => { r with hbusy := true, resumed := false, kenref := false, farOut := tooFar fl by_,
                                      closerr := r.closerr || tooFar fl by_ }) s1
  headTb (queueHead (mkCell s2 6 2 0
    (leBytes 2 1 ++ [BitVec.ofNat 8 keep.toNat, BitVec.ofNat 8 s2.irs.ken.toNat] ++ leBytes 4 (80 + 2 * by_.toNat) ++ [fl, by_])) s2)

/-- IRS_HEADCMD (R248, R251): ignored while BUSY, on a device that is not the head, and for other codes. -/
def headCommand (code : Nat) (s : State) : State :=
  if !s.irs.head || s.irs.hbusy then s else
  match code with
  | 1 => sendEnum false s
  | 2 => sendEnum true s
  | 3 =>
    let s1 := raise 484 (modIrs (fun r => { r with hbusy := true, paused := true }) s)
    queueHead (mkCell s1 7 2 0 []) (queueHead (mkCell s1 8 2 0 [1]) s1)
  | _ => s

/-- CLEAN_IDLE_RETURNED (R251, R252): the re-training has ended; the head enumerates with KEEP = 1 after a JOIN and where
AUTOENUM is 1. -/
def execCleanIdleReturned (st : State) : Host.Outcome State Fault Refusal :=
  .next (if !st.irs.head || !onRing st || !(st.irs.retrain || st.irs.hbusy) then st else
    let join := st.irs.hbusy
    let s1 := endRetrain (realign st)
    if join || s1.irs.autoenum then sendEnum true s1 else s1)

/-- TIME_CELL_DUE (R240, R254): the head's cell leaves at once on a free output, else it waits and is stamped as it leaves. -/
def execTimeCellDue (now : BitVec 64) (st : State) : Host.Outcome State Fault Refusal :=
  .next (if !st.irs.head || !onRing st || st.irs.tbper = 0 || !st.irs.tbvalid then st else
    let s1 := modIrs (fun r => { r with time := now, tmSeq := r.tmSeq + 1 }) st
    let c := mkCell s1 5 1 0 (leBytes 8 now.toNat ++ leBytes 2 s1.irs.tmSeq.toNat ++ leBytes 2 s1.irs.tbper.toNat)
    if s1.irs.out.isNone && !keyReady s1.irs && s1.irs.keyBuf.isEmpty then
      modIrs (fun r => { r with out := some (c, .ownTime) }) s1
    else modIrs (fun r => { r with ownTime := [c] }) s1)

/-- TIME_BASE_TIMEOUT (R54, R255). -/
def execTimeBaseTimeout (st : State) : Host.Outcome State Fault Refusal :=
  .next (if st.irs.head then st else setTb false st)

/-- The chain bond table's swap (R202, R245): a copy that fails is refused with 621; else the switch falls at a wrap. -/
def chainSwap (s : State) : State :=
  if s.irs.bond.pend then s else
  match s.irs.bond.request.validated 3 with
  | (b, bad) => raiseIf bad 621 (modIrs (fun r => { r with bond := b }) s)

/-! ### Transmit streams (R257) -/

/-- Change transmit stream j. -/
def modTx (j : Fin 16) (f : TxStream → TxStream) (s : State) : State := modIrs (fun r => { r with tx := updf r.tx j f }) s

/-- A STREAM cell with bytes of stream j. -/
def streamCell (s : State) (x : TxStream) (d : List Byte) (last : Bool) : Cell :=
  mkCell s 4 3 (field x.ctl 11 0)
    ([BitVec.ofNat 8 ((field x.ctl 19 16).toNat + last.toNat * 128), BitVec.ofNat 8 d.length] ++ d)

/-- A cell of stream j is due: 30 bytes are gathered, or an element with EOB has been taken (R257). -/
def cellDue (x : TxStream) : Bool := x.last || decide (30 ≤ x.got.length)

/-- Send one cell of what is gathered, of at most 30 bytes; with END once it holds the element with EOB. One that finds the transmit buffer
full waits. -/
def sendGathered (j : Fin 16) (s : State) : State :=
  let x := s.irs.tx.get j
  if !cellDue x then s
  else
    let whole := decide (x.got.length ≤ 30)
    match sendOwn 3 (streamCell s x (x.got.take 30) (x.last && whole)) s with
    | some t => modTx j (fun y => { y with got := y.got.drop 30, last := y.last && !whole }) t
    | none => s

/-- Send the cells that are due: two at most, since an element adds at most 4 bytes to 29. -/
def sendDue (j : Fin 16) (s : State) : State := sendGathered j (sendGathered j s)

/-- TX_STREAM_DRAIN (R209, R257): what is due leaves first; then one element of the queue as master 19; a region failure stops the
stream. -/
def execTxStreamDrain (j : Fin 16) (st : State) : Host.Outcome State Fault Refusal :=
  .next (let s := sendDue j st
    let x := s.irs.tx.get j
    if !x.ctl.getLsbD 31 || x.stop then st
    else if cellDue x then s
    else if asleep .hod s then startWake .hod s
    else match hodNow 19 (.get (field x.q 15 0)) s with
      | (.elem v tag, t) =>
        let vb := (field tag 6 5).toNat
        let d := (leBytes 4 v.toNat).take (if vb = 0 then 4 else vb)
        sendDue j (modTx j (fun y => { y with got := y.got ++ d, last := tag.getLsbD 3 }) t)
      | (.region, t) => modTx j (fun y => { y with stop := true }) t
      | (_, t) => t)

/-- TX_STREAM_IDLE_FLUSH (R257): the queue has been empty for 10 µs with bytes gathered; a stopped stream sends nothing. -/
def execTxStreamIdleFlush (j : Fin 16) (st : State) : Host.Outcome State Fault Refusal :=
  .next (let s := sendDue j st
    let x := s.irs.tx.get j
    if !x.ctl.getLsbD 31 || x.stop then st
    else if cellDue x || x.got.isEmpty || (descOf s (field x.q 15 0)).count != 0 then s
    else match sendOwn 3 (streamCell s x x.got false) s with
      | some t => modTx j (fun y => { y with got := [] }) t
      | none => s)

/-! ### Registers -/

/-- IRS_STATUS as it reads; the head's address is valid (R248). -/
def irsStatus (r : Irs) : Word :=
  flagAt 31 r.bypopen ||| flagAt 30 r.waitjoin ||| flagAt 29 (r.addrv || r.head) ||| flagAt 28 r.inlock
    ||| flagAt 27 r.retrain ||| flagAt 26 r.tbvalid ||| flagAt 25 r.kenref ||| flagAt 24 (r.head && r.closerr)
    ||| flagAt 23 r.bprun ||| flagAt 22 r.kicfg

/-- A read of the IRS block. -/
def readIrs (off : Nat) (rec : Word) (s : State) : Option (Word × State) :=
  let r := s.irs
  if off % 4 ≠ 0 then none
  else if 0x1000 ≤ off ∧ off < 0x1100 then peekS s ((nth r.bond.act ((off - 0x1000) / 4)).map (·.setWidth 32))
  else if 0x1100 ≤ off ∧ off < 0x1200 then peekS s ((nth r.bond.next ((off - 0x1100) / 4)).map (·.setWidth 32))
  else if 0x100 ≤ off ∧ off < 0x140 then peekS s (nth r.rx ((off - 0x100) / 4))
  else if 0x200 ≤ off ∧ off < 0x280 then
    peekS s ((nth r.tx ((off - 0x200) / 8)).map (fun x => if off % 8 = 0 then x.ctl else x.q))
  else match off with
    | 0x00 => peekS s (some (flagAt 31 r.chen ||| flagAt 30 r.head ||| flagAt 29 (r.head && r.autoenum) ||| flagAt 28 r.ken))
    | 0x04 => peekS s (some (irsStatus r))
    | 0x08 => peekS s (some (valAt 16 r.bpout.toNat ||| r.self.setWidth 32))
    | 0x0C => peekS s (some r.hop)
    | 0x10 => peekS s (some (valAt 16 r.ringS.toNat ||| r.ringN.setWidth 32))
    | 0x14 => peekS s (some r.lap)
    | 0x18 => peekS s (some (valAt 16 r.keyEff.toNat ||| r.ki.setWidth 32))
    | 0x1C => peekS s (some (if r.head then r.tbper.setWidth 32 else 0))
    | 0x20 =>
      let t := runTime s
      some (slice32 t.irs.time 0, modIrs (fun r => { r with timeHi := slice32 r.time 1 }) t)
    | 0x24 => peekS s (some r.timeHi)
    | 0x28 => some (valAt 16 r.crcOut.toNat ||| r.crcIn.setWidth 32,
        modIrs (fun r => { r with crcOut := recField rec 16 16, crcIn := recField rec 16 0 }) s)
    | 0x2C => some (valAt 16 r.thrcnt.toNat ||| valAt 8 r.ovf.toNat ||| r.maxfill.setWidth 32,
        modIrs (fun r => { r with thrcnt := recField rec 16 16, ovf := recField rec 8 8, maxfill := recField rec 7 0 }) s)
    | 0x30 => some (valAt 16 r.abOwn.toNat ||| r.abTran.setWidth 32,
        modIrs (fun r => { r with abOwn := recField rec 16 16, abTran := recField rec 16 0 }) s)
    | 0x34 => some (valAt 16 r.drStream.toNat ||| r.drBad.setWidth 32,
        modIrs (fun r => { r with drStream := recField rec 16 16, drBad := recField rec 16 0 }) s)
    | 0x40 => peekS s (some 0)
    | 0x44 => peekS s (some r.bond.word)
    | 0x48 => peekS s (some r.crank)
    | 0x50 => peekS s (some (flagAt 31 (r.head && r.hbusy)))
    | _ => none

/-- CHEN, HEAD and AUTOENUM are locked after the global release; KEN is not (R8, R243). With CHEN = 0 the bypass closes, the ring is no longer in service, and the time base is
not valid; the head's follows its own conditions, and a device that ceases to be the head has none (R247, R255). -/
def writeIrsCtrl (v : Word) (s : State) : State :=
  let s1 := modIrs (fun r => { r with ken := v.getLsbD 28 }) s
  if s.img.locked then s1 else
  let c := v.getLsbD 31
  let h := v.getLsbD 30
  let s2 := modIrs (fun r => { r with chen := c, head := h, autoenum := if h then v.getLsbD 29 else r.autoenum,
                                      bypopen := r.bypopen && c, waitjoin := r.waitjoin && c, resumed := r.resumed && c }) s1
  if !c || (s.irs.head && !h) then setTb false s2 else headTb s2

/-- A write of IRS_KEY.KI (R243). -/
def writeKi (n : BitVec 10) (r : Irs) : Irs :=
  if 10 ≤ n.toNat ∧ n.toNat ≤ 1000 then { r with ki := n, keyEff := keyEffOf n r.lap } else { r with kicfg := true }

/-- A write of IRS_TBPER.PER (R254, R255): head-only. -/
def writeTbper (n : BitVec 14) (s : State) : State :=
  if s.irs.head && (n == 0 || (decide (10 ≤ n.toNat) && decide (n.toNat ≤ 10000))) then
    headTb (modIrs (fun r => { r with tbper := n }) s)
  else s

/-- A write to the IRS block. -/
def writeIrs (off : Nat) (v : Word) (s : State) : Option State :=
  let ro : Option State := some s
  if off % 4 ≠ 0 then none
  else if 0x1000 ≤ off ∧ off < 0x1100 then none
  else if 0x1100 ≤ off ∧ off < 0x1200 then
    (if s.irs.bond.pend then none
     else some (modIrs (fun r => { r with bond := { r.bond with
       next := nthUpd r.bond.next ((off - 0x1100) / 4) (fun _ => field v 7 0 &&& 0xC3#8) } }) s))
  else if 0x100 ≤ off ∧ off < 0x140 then
    some (modIrs (fun r => { r with rx := nthUpd r.rx ((off - 0x100) / 4) (fun _ => v &&& 0xC0000FFF#32) }) s)
  else if 0x200 ≤ off ∧ off < 0x280 then
    some (modIrs (fun r => { r with tx := nthUpd r.tx ((off - 0x200) / 8) (fun x =>
      if off % 8 = 0 then { x with ctl := v &&& 0x800F0FFF#32, stop := false } else { x with q := v &&& 0xFFFF#32 }) }) s)
  else match off with
    | 0x00 => some (writeIrsCtrl v s)
    | 0x04 => some (modIrs (fun r => { r with bprun := r.bprun && !v.getLsbD 23, kicfg := r.kicfg && !v.getLsbD 22 }) s)
    | 0x08 => ro
    | 0x0C => ro
    | 0x10 => ro
    | 0x14 => ro
    | 0x18 => some (modIrs (writeKi (field v 9 0)) s)
    | 0x1C => some (writeTbper (field v 13 0) s)
    | 0x20 => ro
    | 0x24 => ro
    | 0x28 => ro
    | 0x2C => ro
    | 0x30 => ro
    | 0x34 => ro
    | 0x40 => some (if v.getLsbD 0 then chainSwap s else s)
    | 0x44 => ro
    | 0x48 => some (modIrs (fun r => { r with crank := v &&& 0x7777#32 }) s)
    | 0x50 => some (headCommand (field v 3 0).toNat s)
    | _ => none

end Sys2Proof.Machine
end

