-- ==== Sys2Proof/Machine/Reload.lean ====
section
/-! DEFINITION. What an image's payload gives a bay or a setter (R266, R269, R271, R272), the checks of a frame record (R282,
R286), the hold and the re-initialisation of a bay (R152, R164, R291, R334), and the return of its pins (R291). -/

namespace Sys2Proof.Machine

/-! ### Frames -/

/-- A frame's record fails: cause 7 when its CRC-16 fails, on the read and on the re-read; cause 6 when its check bits do not
match its data or it breaks R137 (R286). A record that has decayed in its plane fails its CRC-16. -/
def frameCause (x : Slot) (b f : Nat) : Option Nat :=
  let chk := memNat x.payload (frameAt x.manifest b f + 128) 2
  if (kvGet x.planeErr (b * 960 + f)).isSome then some 7
  else if crc16 (frameBytes x b f 130) != BitVec.ofNat 16 (memNat x.payload (frameAt x.manifest b f + 130) 2) then some 7
  else if (Config.frameCheck (frameBytes x b f 128)).toNat != chk || !Config.frameRoutingOk f (frameBytes x b f 128) then some 6
  else none

/-- The first of these bays whose frame f fails for this cause. -/
def badBay (x : Slot) (bays : List Nat) (f cause : Nat) : Option (Nat × Nat × Nat) :=
  (bays.find? (fun b => frameCause x b f == some cause)).map (fun b => (cause, b, f))

/-- The first frame that fails of these bays, which load in step, frame by frame (R282 step 4): cause, bay, frame. Cause 6 stands at the
read, cause 7 at the re-read that follows it (R286). DESIGN CHOICE (log 33): a cause 7 and a cause 6 of the next frame, which fall at one
moment, go in frame order. -/
def badFrame (x : Slot) (bays : List Nat) : Option (Nat × Nat × Nat) :=
  (List.range 960).findSome? (fun f => (badBay x bays f 6).or (badBay x bays f 7))

/-- Block-memory contents from frames 632 to 955 (R272): the bits at 1. -/
def imageBram (x : Slot) (b : Nat) : List (Nat × Bool) :=
  let lo := frameAt x.manifest b 632
  x.payload.flatMap (fun e =>
    if lo ≤ e.1 ∧ e.1 < lo + 132 * 324 ∧ (e.1 - lo) % 132 < 128 then
      (List.range 8).filterMap (fun i =>
        if e.2.getLsbD i then some (1024 * ((e.1 - lo) / 132) + 8 * ((e.1 - lo) % 132) + i, true) else none)
    else [])

/-- Initial live masks from frames 956 to 959 (R272). -/
def imageMasks (x : Slot) (b : Nat) : List (Nat × BitVec 17) :=
  (List.range 256).filterMap (fun c =>
    let m := BitVec.ofNat 16 (memNat x.payload (frameAt x.manifest b (956 + c / 64) + 2 * (c % 64)) 2)
    if m = 0 then none else some (c, maskPar m))

/-! ### Setter areas -/

/-- Nonzero bytes of a payload from `base`, gathered into the words of an area of n words. -/
def gatherWords (base n : Nat) (l : Mem) : List (Nat × Word) :=
  l.foldr (fun e acc =>
    if base ≤ e.1 ∧ e.1 < base + 4 * n then
      let k := (e.1 - base) / 4
      let w := valAt (8 * ((e.1 - base) % 4)) e.2.toNat
      match acc with
      | (k', w') :: t => if k' = k then (k, w ||| w') :: t else (k, w) :: acc
      | [] => [(k, w)]
    else acc) []

/-- Setter i's program in a slot (R269). -/
def imageProg (x : Slot) (i : Nat) : List (Nat × Word) := gatherWords (secAt x.manifest 1 + 65536 * i) 16384 x.payload

/-- Setter i's data in a slot (R269). -/
def imageData (x : Slot) (i : Nat) : Mem :=
  let base := secAt x.manifest 2 + 32768 * i
  x.payload.filterMap (fun e => if base ≤ e.1 ∧ e.1 < base + 32768 then some (e.1 - base, e.2) else none)

/-! ### A bay's hold and its end -/

/-- Pins of the bays of a mask. -/
def pinsOf (s : State) (bays : Nat → Bool) : BitVec 132 :=
  (List.range 132).foldl (fun v p => if bays (pinBayOf s p) then setBit v p true else v) 0

/-- The pins of a mask keep what they drive now (R163 row 6). -/
def keepPins (m : BitVec 132) (s : State) : State :=
  let on (p : Nat) : Bool := (pinDrive s p).on false
  let lvl (p : Nat) : Bool := match pinDrive s p with
    | .level v => v
    | _ => false
  let put (f : Nat → Bool) (old : BitVec 132) : BitVec 132 :=
    (List.range 132).foldl (fun v p => if m.getLsbD p then setBit v p (f p) else v) old
  { s with io := { (latchKeepers s).io with keptOn := put on s.io.keptOn, keptLvl := put lvl s.io.keptLvl } }

/-- A bay's hold begins: its pins keep their levels (R163 row 6), and its words out over the bay joints stop (R292). DESIGN CHOICE (log
33): BUSY of those joints clears with the word in flight; the spec says that the words stop and not what BUSY does. -/
def enterHold (b : BayId) (f : Bay → Bay) (s : State) : State :=
  (keepPins (pinsOf s (fun k => k == b.val)) s).modBay b (fun x => f { x with joints := x.joints.map (fun j =>
    { j with busy := false, flight := none, ack := false }) })

/-- A bay's re-initialisation (R152, R164, R361): configuration latches, flip-flops, MAC and live masks from its plane, block memories
with `mems`; its four reset trees assert. -/
def reloadBay (b : BayId) (mems : Bool) (s : State) : State :=
  let k := baySlot s b.val
  (List.range 4).foldl (fun t n => assertReset b n .reinit t)
    (s.modBay b (fun x => { x with ffs := [], mac := Vector.replicate 4 MacBlock.reset, upset := [], lrep := [], ports := [],
                                   lmask := imageMasks k b.val, bram := if mems then imageBram k b.val else x.bram }))

/-- Each output tap latch that lies in the bay takes its setter's output-buffer bit (R334). -/
def refreshTaps (b : BayId) (s : State) : State :=
  (List.finRange 4).foldl (fun t j =>
    let i : SetterId := ⟨b.val / 16 * 4 + j.val, by omega⟩
    t.modS i (fun x => { x with olat := x.tapOut.foldl (fun v e =>
      if (field e.2 29 26).toNat = b.val % 16 ∧ e.2.toNat / 2 ^ 30 = 2 then setBit v e.1 (x.obuf.getLsbD e.1) else v) x.olat })) s

/-- After a hold's release its pins wait: one owned by a running setter for its first commit, every other for HALT_PIN_RETURN (R291). -/
def returnHold (bays : Nat → Bool) (s : State) : State := { s with io := { s.io with holdW := s.io.holdW ||| pinsOf s bays } }

end Sys2Proof.Machine
end

