-- ==== Sys2Proof/Machine/Power.lean ====
section
/-! DEFINITION. The power controller (R330 to R356): setter records and the vault, requests, entries and their abandoning, wake
sources, the end of DOZE, the beginning of other wakes, resets of the whole device, the brown-out save, and the PWR
registers. -/

namespace Sys2Proof.Machine

/-- Change the power controller. -/
def modPwr (f : Pwr → Pwr) (s : State) : State := { s with pwr := f s.pwr }

/-- The device has started and its domains other than AO answer, or it stands at PORST_N's release. -/
def started (s : State) : Bool := s.pwr.stage == .run || s.pwr.stage == .core

/-! ### Setter records (R344, R346, R354) -/

/-- The record of a setter. -/
def recOf (x : Setter) : SetterRec where
  g := x.g
  flags := x.flags
  acc := x.acc
  tag := x.tag
  bdepth := x.bdepth
  bstk := x.bstk
  pc := x.pc
  ctrl := ctrlWord x
  fsrc := x.fsrc
  fperiod := x.fperiod
  ftb := x.ftb
  evl := x.evl
  fcnt := x.fcnt
  timers := x.timers
  obuf := x.obuf
  running := !x.stopped
  tm := x.tm
  halted := x.halted
  epc := x.epc
  eflags := x.eflags
  cause := valAt 8 x.causeSub.toNat ||| valAt 0 x.causeVec.toNat

/-- A setter restored from its record: what the record holds comes back, its tick source restarts as when FEN becomes 1, and
the registers that R346 does not list take their reset values (R344, R346). Memories, image tables, output tap latches and
writes on their way to a bay stay. -/
def Setter.restored (x : Setter) (r : SetterRec) : Setter :=
  { Setter.softReset x with
    pc := r.pc, g := r.g, acc := r.acc, flags := r.flags, bdepth := r.bdepth, bstk := r.bstk, tag := r.tag,
    timers := r.timers, fcnt := r.fcnt, evl := r.evl, obuf := r.obuf, tm := r.tm, epc := r.epc, eflags := r.eflags,
    causeSub := field r.cause 15 8, causeVec := field r.cause 3 0,
    dbgfrz := r.ctrl.getLsbD 8, ovrtrap := r.ctrl.getLsbD 6, systrap := r.ctrl.getLsbD 5, ovrpol := r.ctrl.getLsbD 4,
    fen := r.ctrl.getLsbD 3, run := r.ctrl.getLsbD 0, stopped := !r.running, halted := r.halted,
    swapped := false, cfgerr := false, ovr := false, bkpt := false,
    fsrc := r.fsrc, fperiod := r.fperiod, ftb := r.ftb, fsrcW := none, fperiodW := none, ftbW := none,
    scanLast := 0, scanMax := 0, bkpt0 := 0, bkpt1 := 0, pmaddr := 0, gated := false }

/-- Word k of a record (R354). -/
def SetterRec.word (r : SetterRec) (off : Nat) : Word :=
  if off < 0x40 then (nth r.g (off / 4)).getD 0
  else if off < 0x44 then (flagsBits r.flags).setWidth 32
  else if off < 0x4C then slice32 r.acc ((off - 0x44) / 4)
  else if off < 0x50 then r.tag.setWidth 32
  else if off < 0x54 then valAt 16 r.bdepth.toNat ||| r.bstk.setWidth 32
  else if off < 0x58 then r.pc.setWidth 32
  else if off < 0x5C then r.ctrl
  else if off < 0x60 then r.fsrc
  else if off < 0x64 then r.fperiod
  else if off < 0x68 then r.ftb
  else if off < 0x6C then r.evl
  else if off < 0x70 then r.fcnt
  else if off < 0xD0 then
    match nth r.timers ((off - 0x70) / 12), (off - 0x70) % 12 / 4 with
    | some t, 0 => timerWord t
    | some t, 1 => t.preset
    | some t, _ => t.count
    | none, _ => 0
  else if off < 0xF0 then slice32 r.obuf ((off - 0xD0) / 4)
  else if off < 0xF4 then flagAt 2 r.halted ||| flagAt 1 r.tm ||| flagAt 0 r.running
  else if off < 0xF8 then r.epc.setWidth 32
  else if off < 0xFC then r.eflags.setWidth 32
  else r.cause

/-! ### Selection -/

/-- A bay or setter is named in a pending swap (R290). -/
def namedBay (s : State) (b : Nat) : Bool := match s.img.swap with
  | some w => w.bays.getLsbD b
  | none => false

/-- A setter is named in a pending swap (R290). -/
def namedSet (s : State) (i : Nat) : Bool := match s.img.swap with
  | some w => w.setters.getLsbD i
  | none => false

/-- The self-test controller isolates the store or the chain. -/
def testsDomain (s : State) : Bool := match sliceBlock s with
  | some .store => true
  | some .chain => true
  | _ => false

/-- A domain that the state would stop is isolated for self-test or named in a pending swap (R336 check 4). -/
def entryBusy (s : State) (target : Nat) : Bool :=
  (List.finRange 64).any (fun b => (stopBays s.pwr target).getLsbD b.val && ((s.bay b).isol || namedBay s b.val))
    || (List.finRange 16).any (fun i => (stopSets s.pwr target).getLsbD i.val && ((s.st i).isol || (s.st i).testW || namedSet s i.val))
    || (target == 3 && testsDomain s)

/-! ### Stopping and restarting setters -/

/-- SYS SLEEP completes: code in g0, the abort point in g1, and the next instruction is next (R124, R127). Its cost is not bounded (log 9).
DESIGN CHOICE (log 32): a caller that SRST has restarted meanwhile is still the caller, and takes code, PC advance and cost. -/
def sleepDone (i : SetterId) (code : Nat) (point : Option Nat) (s : State) : State :=
  retire i (Config.freeCost s.free) none false ((s.modS i (fun x =>
    let y := x.setReg 0 (BitVec.ofNat 32 code)
    let z := match point with
      | some p => y.setReg 1 (BitVec.ofNat 32 p)
      | none => y
    { z.adv with wait := .none })).usedFree)

/-- A caller that its own SLEEP stops is left at the instruction after SYS (R127). -/
def stopCaller (i : SetterId) (s : State) : State := s.modS i (fun x => { x.adv with wait := .none })

/-- The wake writes g0 = OK into the caller it restores, whose SYS has then completed (R127). -/
def wakeCaller (i : SetterId) (s : State) : State :=
  if s.pwr.caller = some i then settle i ((modPwr (fun p => { p with caller := none }) s).modS i (fun x => x.setReg 0 0)) else s

/-- Over the setters of a mask. -/
def eachSet (m : BitVec 16) (f : SetterId → State → State) (s : State) : State :=
  (List.finRange 16).foldl (fun t i => if m.getLsbD i.val then f i t else t) s

/-- Over the bays of a mask. -/
def eachBay (m : BitVec 64) (f : BayId → State → State) (s : State) : State :=
  (List.finRange 64).foldl (fun t b => if m.getLsbD b.val then f b t else t) s

/-! ### Entry (R337, R338) -/

/-- The last point of an entry (R337). -/
def lastPoint (target : BitVec 2) : Nat := if target = 1 then 1 else 3

/-- Every queue's buffered data reaches the store: a command under way and the lane complete, partial words close as by their stall, the
buffer is flushed (R230). -/
def drainHod (s : State) : State :=
  flushAll 200 ((List.range 32).foldl (fun t p => stallClose p t) (drainLane 40 (qcmdDone s)))

/-- A setter's instruction in progress is one that a stop does not cut: not a FRAME or WEV, which issues again, nor the SLEEP that began
the entry (R127, R333). -/
def Setter.mid (x : Setter) : Bool :=
  match x.wait with
  | .access _ _ => true
  | .lane _ => true
  | .fence _ => true
  | _ => false

/-- Step 2 of an entry can complete: no selected setter is in the middle of an instruction (R337). -/
def stopsReady (s : State) : Bool :=
  (List.finRange 16).all (fun i => !(stopSets s.pwr s.pwr.target.toNat).getLsbD i.val || !(s.st i).mid)

/-- A FRAME or WEV in progress is left at its own address, to issue again (R333). -/
def Setter.interrupted (x : Setter) : Setter :=
  match x.wait with
  | .frame _ => { x with wait := .none }
  | .wev _ _ _ => { x with wait := .none }
  | _ => x

/-- A selected setter stops (R333). -/
def stopSetterClock (i : SetterId) (s : State) : State := s.modS i (fun x => { x.interrupted with dozed := true })

/-- Step 2 of an entry (R333, R337): selected setters and the clocks of selected bays stop; for NAP and DORMANT the bays' pins take their
hold values, and the hod drains if it stops. -/
def stepTwo (s : State) : State :=
  let t := s.pwr.target.toNat
  let bays := stopBays s.pwr t
  let s1 := eachSet (stopSets s.pwr t) stopSetterClock s
  let s2 := if t = 1 then s1 else
    let held := keepPins (pinsOf s1 bays.getLsbD) s1
    if t = 3 || s.pwr.takenS.getLsbD 16 then drainHod held else held
  eachBay bays (fun b u => u.modBay b (fun x => { x with dozed := true })) s2

/-- Bytes of a KIND 1 or 2 entry as they stand (R347). -/
def entryBytes (s : State) (e : VaultEntry) : List Byte :=
  if e.kind = 1 then
    (match nth s.setters e.setter with
      | some x => memRead x.data e.addr e.len
      | none => [])
  else (List.range e.len).map (fun k => storeByteAt s (e.addr + k))

/-- KIND 1 and 2 entries fill the user area from byte 0 on, in entry order (R347, R348). -/
def fillUser (s : State) : State :=
  let bytes := (s.img.ventries.filter (fun e => e.kind != 3)).flatMap (entryBytes s)
  modPwr (fun p => { p with user := memWrite p.user 0 bytes }) s

/-- Step 3 of an entry: for DORMANT the user entries are copied and the RAM log records written. The hardware list is read from the setters
as they are switched off: they have stopped (R337). -/
def stepThree (s : State) : State :=
  if s.pwr.target = 3 then { fillUser s with pln := flushLog 32 s.pln } else s

/-- The entry in progress passes its next point (R337). -/
def passPoint (s : State) : State :=
  let t := match s.pwr.reached.toNat with
    | 0 => stepTwo s
    | 1 => stepThree s
    | _ => s
  modPwr (fun p => { p with reached := p.reached + 1 }) t

/-- The entry in progress passes every point up to point k (R337). -/
def passTo (k : Nat) (s : State) : State :=
  (List.range (k - s.pwr.reached.toNat)).foldl (fun t _ => passPoint t) s

/-- Setters and bays that step 2 stopped go on (R338). -/
def restartClocks (s : State) : State :=
  { s with setters := s.setters.map (fun x => { x with dozed := false }),
           bays := s.bays.map (fun x => { x with dozed := false }) }

/-- An entry is abandoned at a point, its steps up to there taken and undone: RESULT, POINT and 553; setters go on where they stopped,
pins of the selected bays return, and SYS SLEEP answers ABORTED (R127, R338). A setter in the middle of an instruction completes that
first, which leaves nothing to undo. -/
def abortEntry (point : Nat) (s0 : State) : State :=
  let s := passTo point s0
  let tgt := s.pwr.target.toNat
  let s1 := modPwr (fun p => { p with inflight := false, target := 0, reached := 0, result := 8, point := BitVec.ofNat 2 point }) s
  let s2 := if point = 0 then s1 else
    let t := restartClocks s1
    if tgt = 1 then t else returnHold (stopBays s.pwr tgt).getLsbD t
  let s3 := raise 553 s2
  match s.pwr.caller with
  | some i => sleepDone i 8 (some point) (modPwr (fun p => { p with caller := none }) s3)
  | none => s3

/-- The selection as it stands is the one of the entry that begins (R332). -/
def takeSelection (p : Pwr) : Pwr := { p with takenB := p.selbay, takenS := p.selset }

/-- A request for a state, checks 2 to 4 of R336: its code, 0 once accepted. One that finds an enabled wake source flagged is
abandoned at A0 (R339). -/
def askState (st : Nat) (caller : Option SetterId) (s0 : State) : Nat × State :=
  let s := modPwr takeSelection s0
  let p := s.pwr
  if p.inflight || p.state != 0 || p.stage != .run then (3, s0)
  else if (st ≠ 1 ∧ p.wakeen = 0) ∨ (st ≠ 3 ∧ p.selbay = 0 ∧ p.selset = 0) then (2, s0)
  else if entryBusy s st then (4, s0)
  else
    let s1 := modPwr (fun p => { p with inflight := true, target := BitVec.ofNat 2 st, reached := 0, waking := false,
                                        caller := caller }) s
    (0, if p.wakesrc &&& p.wakeen = 0 then s1 else abortEntry 0 s1)

/-- A setter's domain is gated: its record goes to the vault (R334, R346). -/
def gateSetter (i : SetterId) (s : State) : State :=
  let t := s.modS i (fun x => { x with gated := true, dozed := false, wait := .none })
  modPwr (fun p => { p with recs := upd p.recs i (some (recOf (s.st i))) }) t

/-- A bay's domain is gated: its logic is lost (R334). -/
def gateBay (b : BayId) (s : State) : State := enterHold b (fun x => { x with gated := true, dozed := false }) s

/-- The store goes into retention: the piece in progress completes, nothing more is granted (R204, R337). -/
def retainStore (s : State) : State :=
  { s with store := { s.store with retn := true, waking := false }, arb := { s.arb with grant := none } }

/-- A power-state change is logged (R326). -/
def logPower (src st : Nat) (s : State) : State := logRec 0x0032 0 src (valAt 0 st) 0 s

/-- The hod's domain is gated. -/
def gateHod (s : State) : State := { s with hod := { s.hod with gated := true, waking := false } }

/-- NAP is reached (R334, R337). -/
def enterNap (s : State) : State :=
  let s1 := if s.pwr.takenS.getLsbD 16 then gateHod s else s
  retainStore (eachBay (stopBays s.pwr 2) gateBay (eachSet (stopSets s.pwr 2) gateSetter s1))

/-- The chain interface leaves the ring: the time base is lost (R255), the bypass closed, service ended until
the next RESUME, cells lost; address and hop delay stay in AO
(R247, R258). -/
def chainOff (s : State) : State :=
  modIrs (fun r => { r with
    bypopen := false, waitjoin := false, inlock := false, retrain := false,
    ownKey := [], ownHead := [], ownTime := [], own := Vector.replicate 4 [], sent := [], keyBuf := [], tranBuf := [], out := none,
    ins5 := 0, keyHold := false, paused := false, resumed := false }) (setTb false s)

/-- The wing PLLs are off (R179). -/
def wingClocksOff (s : State) : State :=
  { s with clk := { s.clk with pll := s.clk.pll.map (fun x => { x with lock := false, good := 0, outs := 0, stopW := 0 }) } }

/-- Clocks outside AO stop: device and wing PLLs off (R179). -/
def clocksOff (s : State) : State :=
  let t := wingClocksOff s
  { t with clk := { t.clk with devOn := false, slock := false, hlock := false, sgood := 0, hgood := 0 } }

/-- The store's contents are lost (R183). -/
def loseStore (s : State) : State :=
  { s with store := { s.store with mem := [], err := [], wb := none, epoch := s.store.epoch + 1, retn := false, waking := false } }

/-- DORMANT is reached: only AO stays on (R335, R337). Records that the plinth has logged since step 3 are written too. RSTOUT_N is
released (R379). -/
def enterDormant (s : State) : State :=
  let s1 := eachBay (stopBays s.pwr 3) gateBay (eachSet (stopSets s.pwr 3) gateSetter s)
  let s2 := loseStore (clocksOff (chainOff s1))
  { s2 with
    hod := { wipeQueues s2.hod with gated := true, waking := false },
    arb := { s2.arb with grant := none, ord := Vector.replicate 32 none, kreq := Vector.replicate 32 none,
                         sampO := Vector.replicate 32 none, sampK := Vector.replicate 32 none, locks := [], joint := [] },
    rstout := false,
    pln := { flushLog 32 s2.pln with ready := false, romonly := false, going := false, owed := none, qresp := none, posts := [], chunk := none,
                                     icmd := none, iresp := none },
    img := { s2.img with stream := none },
    hst := { s2.hst with frames := [] },
    pwr := { s2.pwr with on := false },
    bst := Bst.reset }

/-- DOZE ends: clocks restart and the setters go on; 555 (R333, R341). -/
def endDoze (s : State) : State :=
  let s2 := logPower 555 0 (raise 555 (modPwr (fun p => { p with state := 0 }) (restartClocks s)))
  match s.pwr.caller with
  | some i => wakeCaller i s2
  | none => s2

/-- Accesses that waited at a stopping domain's joint: in NAP each begins its wake (R339, R343); in DORMANT they end in a bus error
(R22). -/
def afterEntry (s : State) : State :=
  if s.pwr.state = 3 then
    s.stalled.foldl (fun t a => t.respond a.master .busError []) { s with stalled := [], tap := { s.tap with selW := [] } }
  else if s.pwr.state = 2 then
    (List.finRange 16).foldl (fun t i =>
        match (t.st i).wait with
        | .access d _ => startWake d t
        | _ => t)
      (s.stalled.foldl (fun t a => startWake a.dom t) s)
  else s

/-- POWER_ENTRY_COMPLETE (R333 to R338): the steps still to take, STATE, 552, the log; a SLEEP whose caller goes on answers OK. A wake
that landed after the last point is served as a normal wake. Step 2 waits for the instructions in progress. -/
def execPowerEntryComplete (st : State) : Host.Outcome State Fault Refusal :=
  .next (if !st.pwr.inflight || st.pwr.waking || st.pwr.stage != .run then st
    else if st.pwr.reached = 0 && !stopsReady st then st else
    let tgt := st.pwr.target
    let stops (i : SetterId) : Bool := (stopSets st.pwr tgt.toNat).getLsbD i.val
    let sp := passTo (lastPoint tgt) st
    let s0 := match st.pwr.caller with
      | some i => if stops i then stopCaller i sp else sp
      | none => sp
    let s0 := logPower 552 tgt.toNat s0
    let s1 := if tgt = 1 then s0 else if tgt = 2 then enterNap s0 else enterDormant s0
    let s2 := afterEntry (raise 552 (modPwr (fun p => { p with state := tgt, inflight := false, target := 0, reached := 0 }) s1))
    let s3 := match st.pwr.caller with
      | some i => if stops i then s2 else sleepDone i 0 none (modPwr (fun p => { p with caller := none }) s2)
      | none => s2
    if tgt = 1 ∧ s3.pwr.wakesrc &&& s3.pwr.wakeen ≠ 0 then endDoze s3 else s3)

/-- RESUME: ends DOZE; in RUN it does nothing; else PSBUSY (R336). -/
def askResume (s : State) : Nat × State :=
  if s.pwr.inflight then (3, s)
  else if s.pwr.state = 0 then (0, s)
  else if s.pwr.state = 1 then (0, endDoze s)
  else (3, s)

/-- A write of PWR_REQ (R336): RESULT takes the outcome; STATE and RESUME both 0 is no request. An abandoned request shows
ABORTED and its point. -/
def writeReq (v : Word) (s : State) : State :=
  let st := (field v 1 0).toNat
  let res (r : Nat × State) : State :=
    if r.1 = 0 ∧ r.2.pwr.result = 8 ∧ st ≠ 0 ∧ !r.2.pwr.inflight then r.2
    else modPwr (fun p => { p with result := BitVec.ofNat 4 r.1 }) r.2
  if v.getLsbD 31 then (if st ≠ 0 then res (2, s) else res (askResume s))
  else if st = 0 then s
  else res (askState st none (modPwr (fun p => { p with result := 0 }) s))

/-! ### Wake sources (R340) -/

/-- Enabled sources become active: flagged; an entry in progress is abandoned at the first point at or after the moment they
land, which is free among the points not yet passed, or completes when they land later (R338, log 6); DOZE ends. -/
def activate (m : BitVec 20) (s : State) : State :=
  let w := m &&& s.pwr.wakeen
  if w = 0 then s else
  let s1 := modPwr (fun p => { p with wakesrc := p.wakesrc ||| w }) s
  let p := s1.pwr
  if p.inflight && !p.waking then
    let last := lastPoint p.target
    if p.reached.toNat = last then s1 else
    let from_ := if p.reached = 0 then 0 else p.reached.toNat + 1
    let late := if p.reached = 0 && !stopsReady s1 then 0 else 1
    let k := from_ + Config.freeCost s1.free % (last + 1 + late - from_)
    if k ≤ last then abortEntry k s1.usedFree
    else passTo last s1.usedFree
  else if p.state = 1 && !p.inflight then endDoze s1
  else s1

/-- The balls or units of a wake source are there: VIO0 for the pins, VIO4 for HCS_N (R340, R380); no WAKE cell reaches a
device in DORMANT. -/
def sourceLive (i : Nat) (s : State) : Bool :=
  if i < 16 then (s.io.bank.get 0).band.isSome
  else if i = 16 then vio4 s
  else if i = 19 then s.pwr.state != 3
  else true

/-- WAKE_SOURCE_ACTIVE (R340). -/
def execWakeSourceActive (i : Fin 20) (st : State) : Host.Outcome State Fault Refusal :=
  .next (if sourceLive i.val st && st.pwr.stage == .run then activate (BitVec.ofNat 20 (2 ^ i.val)) st else st)

/-- WAKE_TIMER_EXPIRY (R340): a running count reaches 0. -/
def execWakeTimerExpiry (st : State) : Host.Outcome State Fault Refusal :=
  .next (if !st.pwr.wtArmed then st else
    activate (BitVec.ofNat 20 (2 ^ 17)) (modPwr (fun p => { p with wtimer := p.wtimer &&& 0x80000000#32, wtArmed := false }) st))

/-- A write of PWR_WTIMER: a count of 0 is active at once, another count starts (R340). -/
def writeWtimer (v : Word) (s : State) : State :=
  let s1 := modPwr (fun p => { p with wtimer := v, wtArmed := field v 30 0 != 0 }) s
  if field v 30 0 = 0 then activate (BitVec.ofNat 20 (2 ^ 17)) s1 else s1

/-- A write of PWR_WAKEEN: pins that already stand at their active level become active where the enable is set; a source is
flagged only while its enable is 1 (R340). -/
def writeWakeen (v : Word) (levels : BitVec 16) (s : State) : State :=
  let p := s.pwr
  let n := field v 19 0
  let pins := field (n &&& ~~~p.wakeen) 15 0 &&& ~~~(levels ^^^ p.wakepol)
  let s1 := modPwr (fun p => { p with wakeen := n, wakesrc := p.wakesrc &&& n }) s
  if sourceLive 0 s then activate (pins.setWidth 20) s1 else s1

/-- A write of PWR_WAKEPOL: the level at which a pin stands may become its active level (R340). -/
def writeWakepol (v : Word) (levels : BitVec 16) (s : State) : State :=
  let p := s.pwr
  let n := field v 15 0
  let pins := (n ^^^ p.wakepol) &&& ~~~(levels ^^^ n)
  let s1 := modPwr (fun p => { p with wakepol := n }) s
  if sourceLive 0 s then activate (pins.setWidth 20) s1 else s1

/-! ### Waking (R341, R343) -/

/-- The bays that are gated. -/
def gatedBay (s : State) (b : Nat) : Bool := match s.bayN b with
  | some x => x.gated
  | none => false

/-- NAP_WAKE (R341): a flagged source restores every stopped domain in parallel. -/
def execNapWake (st : State) : Host.Outcome State Fault Refusal :=
  .next (if st.pwr.state != 2 || st.pwr.inflight || st.pwr.wakesrc == 0 || st.pwr.stage != .run then st
    else startWake .hod (startWake .store (modPwr (fun p => { p with inflight := true, waking := true, target := 0 }) st)))

/-- DOMAIN_WAKE_ACCESS (R22, R343): an access of master m reaches a gated domain, whose wake begins; the accessor waits. -/
def execDomainWakeAccess (m : Master) (dom : Domain) (st : State) : Host.Outcome State Fault Refusal :=
  .next (if asleep dom st && st.pwr.state != 3 && st.pwr.stage == .run then (startWake dom st).respond m.val .waits [] else st)

/-! ### Resets of the whole device (R345, R349, R350, R354) -/

/-- What no reset touches of the loader: slots, fuses, the boot selection. -/
def keepImg (i : Img) : Img :=
  { Img.reset with slots := i.slots, prog := i.prog, rev := i.rev, keyRsa := i.keyRsa, keySlh := i.keySlh, minsvn := i.minsvn,
                   primary := i.primary, trial := i.trial, extslot := i.extslot, everRel := i.everRel, defects := i.defects }

/-- What no reset touches of the plinth: firmware copies, BOOTCNT, the user calibration page with the values that its readable copy gives
(R322), the log. LOST is not kept (R323). -/
def keepPln (p : Pln) : Pln :=
  { Pln.reset with fwState := p.fwState, fwVer := p.fwVer, fw := p.fw, calPg := p.calPg, fwSel := p.fwSel, bootcnt := p.bootcnt,
                   calU := ((calPage p).map (·.val)).getD (Vector.replicate 52 0),
                   ring := p.ring, seq := p.seq, acked := p.acked, rais550 := p.rais550 }

/-- The balls' own state: bands of VIO and the level of HALT_N. -/
def keepIo (i : Io) : Io :=
  { Io.reset with bank := Vector.ofFn (fun k : Fin 6 => { IoBank.reset with band := (i.bank.get k).band }),
                  halt := i.halt, haltW := if i.halt then BitVec.allOnes 132 else 0 }

/-- The power controller after a reset: the save page, the non-volatile fields of PWR_BOSTAT and VHOLD's comparator stay. -/
def keepPwr (p : Pwr) (g : Stage) : Pwr :=
  { Pwr.reset with stage := g, bor := p.bor, incomplete := p.incomplete, nostore := p.nostore, trips := p.trips, page := p.page,
                   holdok := p.holdok, vsup := p.vsup }

/-- The whole device is reset, AO included (R350). The TAP and the store's contents stay. A copy of the firmware or a slot
that was being written stays WRITING (R277). -/
def resetDevice (g : Stage) (s : State) : State :=
  { State.reset with
    io := keepIo s.io, img := keepImg s.img, pln := keepPln s.pln, pwr := keepPwr s.pwr g, tap := { s.tap with selW := [] },
    clk := { Clk.reset with trim := BitVec.ofInt 8 (clampInt (calE (keepPln s.pln) 28) 0 255) },
    store := { Store.reset with mem := s.store.mem, err := s.store.err, epoch := s.store.epoch },
    free := s.free, pending := s.pending }

/-- The save under way has ended, committed or abandoned: pins of row 5, domains off, FAULT_N and RSTOUT_N low (R163, R352, R355). -/
def saveEnds (s : State) : State :=
  let t := (latchKeepers s).usedFree
  { t with io := { t.io with trip := false, pinConf := 0 }, faultn := true, rstout := true,
           pwr := { t.pwr with on := false }, clk := { t.clk with devOn := false, slock := false, hlock := false, sgood := 0, hgood := 0 } }

/-- A save is under way: its pins still stand at their safe values. -/
def saveRuns (s : State) : Bool := s.pwr.stage == .saved && s.io.trip

/-- The save may commit at this moment: when within its time is free (R352, log 35). -/
def saveMoves (s : State) : State :=
  if !saveRuns s then s else if Config.freeLevel s.free then saveEnds s.usedFree else s.usedFree

/-- POWER_ON (R349 stage 1): after an absence of VSUP, whose trip, if it came first, still awaits its restart (R354); its save has ended by
then. -/
def execPowerOn (st : State) : Host.Outcome State Fault Refusal :=
  .next (let s1 := { loseStore st with tap := Tap.reset }
    if st.pwr.stage == .saved then (if saveRuns s1 then saveEnds s1 else s1)
    else
      let s2 := resetDevice .ao s1
      { s2 with img := { s2.img with everRel := false }, pwr := { s2.pwr with holdok := false } })

/-- BUCK_START (R349 stage 2). -/
def execBuckStart (st : State) : Host.Outcome State Fault Refusal :=
  .next (if st.pwr.stage == .ao then modPwr (fun p => { p with stage := .core }) st else st)

/-- VSUP_EARLY_DROP (R349): before stage 3, back to stage 1 without a save; the buck stops, and with VCORE the store's contents go
(R183). -/
def execVsupEarlyDrop (st : State) : Host.Outcome State Fault Refusal :=
  .next (if st.pwr.stage == .core then resetDevice .ao (loseStore st) else st)

/-- PORST_N during a brown-out save: everything is reset, the device still holds for its restart, and whether the save under way
still commits is free (R339, R350, R352, log 15). -/
def resetSaved (s : State) : State :=
  let t := (resetDevice .saved s).usedFree
  modPwr (fun p => { p with saving := if Config.freeLevel s.free then s.pwr.saving else none }) t

/-- PORST_ASSERT (R289, R339, R350). -/
def execPorstAssert (st : State) : Host.Outcome State Fault Refusal :=
  .next (match st.pwr.stage with
    | .run => resetDevice .core st
    | .core => resetDevice .core st
    | .ao => resetDevice .ao st
    | .off => st
    | .saved => resetSaved st)

/-- VHOLD_CHARGED (R351). -/
def execVholdCharged (st : State) : Host.Outcome State Fault Refusal :=
  .next (if st.pwr.stage == .off || st.pwr.stage == .saved then st else modPwr (fun p => { p with holdok := true }) st)

/-! ### Brown-out (R351 to R355) -/

/-- KIND 3 ranges with their bytes (R347, R352). -/
def savedRanges (s : State) : List (Nat × List Byte) :=
  (s.img.ventries.filter (fun e => e.kind == 3)).map (fun e =>
    (e.addr, (List.range e.len).map (fun k => storeByteAt s (e.addr + k))))

/-- What the save writes (R352): a setter that is already gated keeps the record of its own entry. -/
def savePage (s : State) : SavePage :=
  let dormant := s.pwr.state == 3
  { recs := Vector.ofFn (fun i : Fin 16 => ((s.pwr.recs.get i).getD (recOf (s.st i)))),
    user := (if dormant then s else fillUser s).pwr.user,
    store := if dormant then [] else savedRanges s,
    tail := s.pln.ram.take 32,
    noStore := dormant }

/-- BROWNOUT_TRIP (R179, R339, R351, R352, R355): safe values; the wing PLLs stop, the store's and plinth's clocks run; the bypass closes; an entry ends without
undo; the save is on its way. A slot that was being written stays WRITING. -/
def execBrownoutTrip (st : State) : Host.Outcome State Fault Refusal :=
  .next (if st.pwr.stage != .run then st else
    let page := savePage st
    wingClocksOff (chainOff { st with
      pwr := { st.pwr with stage := .saved, saving := some page, trips := BitVec.ofNat 16 (satAdd 16 st.pwr.trips.toNat 1),
                           vsup := (nth st.pln.rail 0).getD 0, inflight := false, caller := none, holdok := false },
      io := { st.io with trip := true },
      img := { st.img with stream := none },
      bst := { st.bst with slice := none },
      arb := { st.arb with grant := none },
      hod := { st.hod with gated := true },
      hst := { st.hst with ready := false, frames := [] },
      pln := { st.pln with ready := false, romonly := false, going := false },
      setters := st.setters.map (fun x => { x with gated := true }),
      bays := st.bays.map (fun x => { x with gated := true }) }))

/-- BROWNOUT_SAVE_ABANDON (R352): a save under way ends without a commit; the previous page stays in force. -/
def execBrownoutSaveAbandon (st : State) : Host.Outcome State Fault Refusal :=
  .next (if saveRuns st then saveEnds (modPwr (fun p => { p with saving := none }) st) else st)

/-- BROWNOUT_RESTART (R354): everything is reset; a committed save is the page in force, and the log tail joins the log. -/
def execBrownoutRestart (st : State) : Host.Outcome State Fault Refusal :=
  .next (if st.pwr.stage != .saved then st else
    let s1 := loseStore (resetDevice .core st)
    match st.pwr.saving with
    | some g =>
      { s1 with
        pwr := { s1.pwr with page := some g, bor := true, incomplete := false, nostore := g.noStore },
        pln := flushLog 32 { s1.pln with ram := g.tail } }
    | none => modPwr (fun p => { p with incomplete := true }) s1)

/-- A write of PWR_BOCTL (R354): RESTORE with DISCARD is RESTORE (log 15). -/
def writeBoctl (v : Word) (s : State) : State :=
  if !s.pwr.bor || s.pwr.bobusy then s
  else if v.getLsbD 0 then modPwr (fun p => { p with bobusy := true }) s
  else if v.getLsbD 1 then modPwr (fun p => { p with bor := false }) s
  else s

/-- The store takes bytes from the save page, with fresh ECC. -/
def restoreStore (l : List (Nat × List Byte)) (s : State) : State :=
  l.foldl (fun t e => { t with store := { t.store with
    mem := putBytes t.store.mem e.1 e.2,
    err := t.store.err.filter (fun h => !(halvesOf e.1 e.2.length).contains h.1) } }) s

/-- BROWNOUT_RESTORE_DONE (R354). -/
def execBrownoutRestoreDone (st : State) : Host.Outcome State Fault Refusal :=
  .next (if !st.pwr.bobusy then st else
    match st.pwr.page with
    | none => st
    | some g =>
      modPwr (fun p => { p with bobusy := false, restored := true, bor := false, user := g.user }) (restoreStore g.store st))

/-! ### Registers (R356) -/

/-- PWR_STATUS as it reads. -/
def pwrStatus (p : Pwr) : Word :=
  valAt 30 p.state.toNat ||| flagAt 29 p.inflight ||| valAt 27 p.target.toNat ||| flagAt 26 p.holdok ||| valAt 20 p.result.toNat
    ||| valAt 18 p.point.toNat

/-- PWR_DOMBAYk as it reads. -/
def domBay (s : State) (k : Nat) : Word :=
  (List.range 32).foldl (fun w j => w ||| flagAt j (s.pwr.on && !gatedBay s (32 * k + j))) 0

/-- PWR_DOMDEV as it reads. -/
def domDev (s : State) : Word :=
  let on := s.pwr.on
  flagAt 19 on ||| flagAt 18 (on && !s.hod.gated) ||| flagAt 17 (on && s.store.retn)
    ||| flagAt 16 (on && !s.store.retn && !s.store.waking)
    ||| (List.finRange 16).foldl (fun w i => w ||| flagAt i.val (on && !(s.st i).gated)) 0

/-- PWR_BOSTAT as it reads. -/
def bostat (p : Pwr) : Word :=
  flagAt 31 p.bor ||| flagAt 30 p.incomplete ||| flagAt 29 p.bobusy ||| flagAt 28 p.restored ||| flagAt 27 p.nostore
    ||| p.trips.setWidth 32

/-- PWR_WTIMER as it reads: a running count lies between 1 and the count last known; how far it is, is free (log 6). -/
def readWtimer (s : State) : Word × State :=
  if !s.pwr.wtArmed then (s.pwr.wtimer, s)
  else
    let n := (field s.pwr.wtimer 30 0).toNat
    let w := (s.pwr.wtimer &&& 0x80000000#32) ||| valAt 0 (1 + Config.freeCost s.free % n)
    (w, (modPwr (fun p => { p with wtimer := w }) s).usedFree)

/-- Raise a source; an enabled sensor source also wakes the device (R31, R340). -/
def raiseWake (n : Nat) (s : State) : State :=
  let t := raise n s
  if wakeSource s n then activate (BitVec.ofNat 20 (2 ^ 18)) t else t

/-- A user event of a bay that does not run is not raised (R292); the reserved numbers never are (R25). -/
def raises (n : Nat) (s : State) : Bool :=
  !reservedSource n && !(decide (n < 256) && decide (2 ≤ n % 4) && (match s.bayN (n / 4) with
    | some b => !b.runs
    | none => false))

/-- EVENT_RAISE (R26): a source's raise reaches the event controller. -/
def execEventRaise (n : Source) (st : State) : Host.Outcome State Fault Refusal :=
  .next (if raises n.val st then raiseWake n.val st else st)

/-- A read of the PWR block. -/
def readPwr (off : Nat) (s : State) : Option (Word × State) :=
  let p := s.pwr
  if off % 4 ≠ 0 then none
  else if 0x8000 ≤ off ∧ off < 0xC000 then peekS s (some (memWord p.user (off - 0x8000)))
  else if 0x4000 ≤ off ∧ off < 0x5000 then
    peekS s (some (match p.bor, p.page with
      | true, some g => ((nth g.recs ((off - 0x4000) / 0x100)).map (·.word (off % 0x100))).getD 0
      | _, _ => 0))
  else match off with
    | 0x00 => peekS s (some (pwrStatus p))
    | 0x04 => peekS s (some 0)
    | 0x10 => peekS s (some (slice32 p.selbay 0))
    | 0x14 => peekS s (some (slice32 p.selbay 1))
    | 0x18 => peekS s (some (p.selset.setWidth 32))
    | 0x20 => peekS s (some (domBay s 0))
    | 0x24 => peekS s (some (domBay s 1))
    | 0x28 => peekS s (some (domDev s))
    | 0x30 => peekS s (some (p.wakeen.setWidth 32))
    | 0x34 => peekS s (some (p.wakepol.setWidth 32))
    | 0x38 => peekS s (some (p.wakesrc.setWidth 32))
    | 0x3C => some (readWtimer s)
    | 0x40 => peekS s (some (bostat p))
    | 0x44 => peekS s (some 0)
    | _ => none

/-- A write of PWR_WAKESRC clears the flags written 1; an enabled pin that still stands at its active level is set again in the
same cycle and stays (R8, R340). -/
def writeWakesrc (v : Word) (levels : BitVec 16) (s : State) : State :=
  let active : BitVec 16 := if sourceLive 0 s then ~~~(levels ^^^ s.pwr.wakepol) else 0
  modPwr (fun p => { p with wakesrc := p.wakesrc &&& (~~~(field v 19 0) ||| (active.setWidth 20 &&& p.wakeen)) }) s

/-- A write to the PWR block. -/
def writePwr (off : Nat) (v : Word) (e : WriteEnv) (s : State) : Option State :=
  let chg (f : Pwr → Pwr) : Option State := some (modPwr f s)
  if off % 4 ≠ 0 then none
  else if 0x8000 ≤ off ∧ off < 0xC000 then chg (fun p => { p with user := memPutWord p.user (off - 0x8000) v })
  else if 0x4000 ≤ off ∧ off < 0x5000 then some s
  else match off with
    | 0x00 => some s
    | 0x04 => some (writeReq v s)
    | 0x10 => chg (fun p => { p with selbay := putSlice32 p.selbay 0 v })
    | 0x14 => chg (fun p => { p with selbay := putSlice32 p.selbay 1 v })
    | 0x18 => chg (fun p => { p with selset := field v 16 0 })
    | 0x20 => some s
    | 0x24 => some s
    | 0x28 => some s
    | 0x30 => some (writeWakeen v e.levels s)
    | 0x34 => some (writeWakepol v e.levels s)
    | 0x38 => some (writeWakesrc v e.levels s)
    | 0x3C => some (writeWtimer v s)
    | 0x40 => some s
    | 0x44 => some (writeBoctl v s)
    | _ => none

end Sys2Proof.Machine
end

