-- ==== Sys2Proof/Machine/SelfTest.lean ====
section
/-! DEFINITION. The self-test controller (R357 to R369): requests, isolation, the end of a slice and what its block holds
afterwards, and the BST registers. -/

namespace Sys2Proof.Machine

/-- Change the self-test controller. -/
def modBst (f : Bst → Bst) (s : State) : State := { s with bst := f s.bst }

/-- The test word of R358 with its must-be-zero bits, COUNT, START and TEST in range for the block. -/
def testWordOk (b : TestBlock) (w : Word) : Bool :=
  let count := (field w 23 16).toNat
  let start := (field w 15 8).toNat
  match testUnits b (field w 7 0).toNat with
  | none => false
  | some n => field w 31 24 == 0 && decide (0 < count) && decide (start + count ≤ n)

/-- A pin of bank k drives its ball now; where fabric logic decides, that is free (log 11). -/
def bankDrives (s : State) (k : Nat) : Bool :=
  (List.range 22).any (fun i => (pinDrive s (22 * k + i)).on (Config.freeLevel (s.free + i)))

/-- The block is refused with BUSY whatever FORCE says (R364). -/
def testBarred (b : TestBlock) (s : State) : Bool :=
  match b with
  | .bay b => (s.bay b).held || namedBay s b.val || (s.bay b).dozed || (s.bay b).gated || s.pwr.inflight
  | .setter i => (s.st i).dozed || (s.st i).gated || s.pwr.inflight
  | .bank k => s.io.halt || (s.io.bank.get k).vioerr
  | .store => s.store.retn || s.store.waking
  | .chain => !s.pwr.on
  | .wing _ => false
  | .adc => false

/-- The block is in use (R364). -/
def testInUse (b : TestBlock) (s : State) : Bool :=
  match b with
  | .bay b => (s.bay b).rclk.toList.any (·.en)
  | .setter i => (s.st i).run || !(s.st i).stopped
  | .bank k => bankDrives s k.val
  | .store => s.img.everRel
  | .chain => s.irs.bypopen
  | .wing _ => false
  | .adc => false

/-- The pins of a bank. -/
def bankPins (k : Bank) : BitVec 132 := (List.range 22).foldl (fun m i => setBit m (22 * k.val + i) true) 0

/-- A setter is isolated: it stops, and a FRAME or WEV in progress is abandoned (R363). -/
def Setter.isolated (x : Setter) : Setter := { x with isol := true, testW := false, stopped := true, wait := .none }

/-- A setter stops for its test at its next instruction boundary: now, unless an instruction other than FRAME or WEV is in progress
(R363). -/
def Setter.toTest (x : Setter) : Setter := if x.mid then { x with testW := true } else x.isolated

/-- The setter that is to be tested has come to its boundary (R363). -/
def isolateDue (s : State) : State :=
  match sliceBlock s with
  | some (.setter i) => if (s.st i).testW then s.modS i Setter.toTest else s
  | _ => s

/-- The block of the slice is isolated, and its work runs. -/
def testRuns (s : State) : Bool :=
  match sliceBlock s with
  | some (.setter i) => !(s.st i).testW
  | _ => true

/-- The block leaves the rest of the device (R361 to R363). For the chain the bypass closes; a bank's pins keep their levels for the time
until they return (R163). -/
def isolate (b : TestBlock) (s : State) : State :=
  match b with
  | .bay b => enterHold b (fun x => { x with isol := true }) s
  | .setter i => s.modS i Setter.toTest
  | .bank k => keepPins (bankPins k) s
  | .store => { s with store := { s.store with isol := true }, arb := { s.arb with grant := none } }
  | .chain => chainOff s
  | .wing _ => s
  | .adc => s

/-- A slice starts: record number NEXT takes it (R361, R365, R367). -/
def startSlice (b : TestBlock) (code : Nat) (w : Word) (s : State) : State :=
  let n := s.bst.next
  let v : Slice := ⟨BitVec.ofNat 7 code, field w 7 0, field w 15 8, field w 23 16, n, none⟩
  modRec n (fun _ => { TestRec.reset with num := n, test := v.test, block := v.block, start := v.start, count := v.count })
    (modBst (fun x => { x with slice := some v, next := n + 1 }) (isolate b s))

/-- A request for a test (R129, R358, R364, R365): its code, the record's number and the state. The order is that of R124 where
the rule gives none. -/
def askTest (caller : Option SetterId) (code : Nat) (w : Word) (force : Bool) (s : State) : Nat × BitVec 8 × State :=
  match testBlock code with
  | none => (2, 0, s)
  | some b =>
    let own := match b, caller with
      | .setter i, some c => i == c
      | _, _ => false
    if own || !testWordOk b w then (2, 0, s)
    else if testBarred b s || (!force && testInUse b s) then (4, 0, s)
    else if s.bst.slice.isSome then (6, 0, s)
    else (0, s.bst.next, startSlice b code w s)

/-! ### The end of a slice -/

/-- The store rejoins after a march: bytes from a up hold zero with fresh ECC, or, where it was cut short, what no rule states
(R362, log 8). Its joints open; what takes effect two store cycles after a write has done so during the march (R189, R194, R197). -/
def marchStore (a n : Nat) (done : Bool) (s : State) : State :=
  let zeros : List Host.Cell := if done then (List.range n).map (fun i => (a + i, 0)) else []
  let l := s.store.mem
  let m := l.filter (fun e => decide (e.1 < a)) ++ zeros ++ l.filter (fun e => decide (a + n ≤ e.1))
  let r := s.store.err.filter (fun e => decide (8 * e.1 + 8 ≤ a) || decide (a + n ≤ 8 * e.1))
  openJoints { s with store := { s.store with mem := m, err := r, isol := false }, arb := settleArb s.arb }

/-- A block rejoins the device after a slice, re-initialised (R361 to R363); pins return as after a swap's release (R291). A setter that
has not yet come to its boundary has nothing to re-initialise (DESIGN CHOICE, log 33). -/
def rejoin (b : TestBlock) (v : Slice) (done : Bool) (s : State) : State :=
  match b with
  | .bay b =>
    returnHold (fun k => k == b.val) ((reloadBay b (v.test == 3) s).modBay b (fun x => { x with isol := false }))
  | .setter i => s.modS i (fun x => if x.testW then { x with testW := false } else x.afterTest)
  | .bank k =>
    { s with io := { s.io with holdW := s.io.holdW ||| bankPins k } }
  | .store => marchStore (65536 * v.start.toNat) (65536 * v.count.toNat) done s
  | .chain => s
  | .wing _ => s
  | .adc => s

/-- A PADLOOP FAIL is one fault in category 4 of its bank (R369). -/
def padFault (b : TestBlock) (fail : Bool) (s : State) : State :=
  match b with
  | .bank k => if fail then reportFault 4 k.val 1 s else s
  | _ => s

/-- The slice in progress ends and its block is re-initialised (R361, R366 to R369). -/
def endSlice (outcome fin : BitVec 2) (failAt : BitVec 8) (s : State) : State :=
  match s.bst.slice, sliceBlock s with
  | some v, some b => finishRecord outcome fin failAt (padFault b (outcome == 2) (rejoin b v (outcome != 3) s))
  | _, _ => s

/-- COUNT × work exceeds the budget (R361). -/
def overBudget (s : State) (b : TestBlock) (v : Slice) : Bool :=
  match sliceWork s b v with
  | (n, d) => decide (s.bst.budget.toNat * d < n)

/-- The slice in progress completes with this check's result: FAIL too where a PLL under test unlocked (R366, R368). -/
def completeSlice (v : Slice) (failAt : Option Byte) (s : State) : State :=
  match failAt, v.fail with
  | none, none => endSlice 1 0 0xFF s
  | some f, none => endSlice 2 0 f s
  | none, some p => endSlice 2 0 p s
  | some f, some p => endSlice 2 0 (BitVec.ofNat 8 (min f.toNat p.toNat)) s

/-- TEST_SLICE_DONE (R361, R367, R368): a slice whose work does not fit its budget never comes here, and a check names nothing that the
slice does not test. -/
def execTestSliceDone (failAt : Option Byte) (st : State) : Host.Outcome State Fault Refusal :=
  .next (let s := isolateDue st
    match s.bst.slice, sliceBlock s with
    | some v, some b =>
      if overBudget s b v || !testRuns s || !((failAt.map (fun f => failAtOk b v f.toNat)).getD true) then st
      else completeSlice v failAt s
    | _, _ => st)

/-- TEST_BUDGET_EXPIRY (R361): a slice whose work fits its budget never expires. -/
def execTestBudgetExpiry (st : State) : Host.Outcome State Fault Refusal :=
  .next (let s := isolateDue st
    match s.bst.slice, sliceBlock s with
    | some v, some b => if !overBudget s b v || !testRuns s then st else endSlice 3 1 0xFF s
    | _, _ => st)

/-- TESTABORT (R129, R366): a code outside the catalogue is BADARG; a block with no slice running is left alone. -/
def askAbort (code : Nat) (s : State) : Nat × State :=
  match testBlock code with
  | none => (2, s)
  | some _ =>
    match s.bst.slice with
    | some v => (0, if v.block.toNat = code then endSlice 3 2 0xFF s else s)
    | none => (0, s)

/-- A full load ends a slice without re-initialisation (R366); the load sets every block up. -/
def cutSlice (s : State) : State :=
  match s.bst.slice with
  | none => s
  | some _ =>
    let t := finishRecord 3 3 0xFF s
    { t with setters := t.setters.map (fun x => { x with isol := false, testW := false }),
             bays := t.bays.map (fun x => { x with isol := false }),
             store := { t.store with isol := false } }

/-! ### Registers -/

/-- Word j of a result record. -/
def TestRec.word (r : TestRec) (j : Nat) : Word :=
  match j with
  | 0 => valAt 24 r.num.toNat ||| valAt 22 r.outcome.toNat ||| valAt 20 r.fin.toNat ||| valAt 8 r.test.toNat ||| valAt 0 r.block.toNat
  | 1 => r.patterns
  | 2 => valAt 16 r.count.toNat ||| valAt 8 r.start.toNat ||| valAt 0 r.failat.toNat
  | _ => valAt 16 r.duration.toNat ||| valAt 0 r.cover.toNat

/-- BST_STATUS as it reads. -/
def bstStatus (b : Bst) : Word :=
  flagAt 31 b.slice.isSome ||| flagAt 30 b.cfgerr ||| valAt 16 b.next.toNat |||
    (match b.slice with
      | some v => valAt 8 v.test.toNat ||| valAt 0 v.block.toNat
      | none => 0)

/-- A read of the BST block. -/
def readBst (off : Nat) (s : State) : Option (Word × State) :=
  if off % 4 ≠ 0 then none
  else if 0x100 ≤ off ∧ off < 0x200 then peekS s ((nth s.bst.res ((off - 0x100) / 16)).map (·.word (off % 16 / 4)))
  else match off with
    | 0x00 => peekS s (some (s.bst.budget.setWidth 32))
    | 0x04 => peekS s (some (bstStatus s.bst))
    | 0x08 => peekS s (some (flagAt 1 s.bst.imgen ||| flagAt 0 s.bst.probeen))
    | _ => none

/-- A write of BST_CTRL.BUDGET: other values are ignored and set CFGERR. -/
def writeBudget (v : BitVec 10) (b : Bst) : Bst :=
  if 50 ≤ v.toNat ∧ v.toNat ≤ 1000 then { b with budget := v } else { b with cfgerr := true }

/-- A write to the BST block. -/
def writeBst (off : Nat) (v : Word) (s : State) : Option State :=
  if off % 4 ≠ 0 then none
  else if 0x100 ≤ off ∧ off < 0x200 then some s
  else match off with
    | 0x00 => some (modBst (writeBudget (field v 9 0)) s)
    | 0x04 => some (modBst (fun b => { b with cfgerr := b.cfgerr && !v.getLsbD 30 }) s)
    | 0x08 => some (if s.img.locked then s else modBst (fun b => { b with imgen := v.getLsbD 1, probeen := v.getLsbD 0 }) s)
    | _ => none

end Sys2Proof.Machine
end

