-- ==== Sys2Proof/Machine/StoreUnit.lean ====
section
/-! DEFINITION. Opcode 0x0C: the setter's central-store instructions (R114 to R117), each taken as a whole. -/

namespace Sys2Proof.Machine

/-- Setter cycles of a store instruction whose store wait is w: 6 + ceil((w + 1) × 2.5 / 3.333) (R114). -/
def storeCost (w : Nat) : Nat := 6 + (3 * (w + 1) + 3) / 4

/-- The trap of a response that is not a completion (R115), up to 6 + w setter cycles after the issue (log 9). -/
def storeTrap (i : SetterId) (code : RespCode) (ea : Word) (s : State) : Fate :=
  match code with
  | .region => .trap (stall i s) 2 1 ea
  | .ecc => .trap (stall i s) 4 2 ea
  | _ => .trap (stall i s) 3 2 ea

/-- Checks 1 and 2 of R115, in the issue cycle: outside the store, misaligned. -/
def storeGuard (ea : Word) (n : Nat) (body : State → Fate) (s : State) : Fate :=
  if storeEnd ≤ ea.toNat then .trap s 3 1 ea
  else if !aligned ea n then .trap s 3 2 ea
  else body s

/-- What the setter does with a response that brings no data: it waits on, or traps. -/
def storeFails (i : SetterId) (ins : Instr) (code : RespCode) (ea : Word) (s : State) : Fate :=
  match code with
  | .waits => holdOn i .store ins s
  | c => storeTrap i c ea s

/-- The registers d, d + 1, d + 2, d + 3 of a 16-byte access. -/
def quad (d : Reg) : List Reg := [d, d + 1, d + 2, d + 3]

/-- Put the words of 4 or 16 bytes read into gd and the registers after it. -/
def Setter.putWords (x : Setter) (d : Reg) : List Byte → Setter
  | b0 :: b1 :: b2 :: b3 :: t => (x.setReg d (BitVec.ofNat 32 (leNat [b0, b1, b2, b3]))).putWords (d + 1) t
  | _ => x

/-- The bytes of the registers ds, in order. -/
def Setter.regBytes (x : Setter) (ds : List Reg) : List Byte := ds.flatMap (fun d => leBytes 4 (x.reg d).toNat)

/-- A load of n bytes at ea. -/
def storeLoad (s : SetterId) (ins : Instr) (d a : Reg) (off : BitVec 14) (n : Nat) (st : State) : Fate :=
  let ea := effAddr ((st.st s).reg a) off
  storeGuard ea n (fun st =>
    match storeAccess s.val ea.toNat n none (hasKey st s.val) st with
    | (⟨.ok, l⟩, t) => .done (t.modS s (fun x => (x.putWords d l).adv)) (storeCost (storeWait st)) none false
    | (⟨c, _⟩, t) => storeFails s ins c ea t) st

/-- A store of the registers ds at ea. -/
def storeStore (s : SetterId) (ins : Instr) (ds : List Reg) (a : Reg) (off : BitVec 14) (st : State) : Fate :=
  let ea := effAddr ((st.st s).reg a) off
  let l := (st.st s).regBytes ds
  storeGuard ea l.length (fun st =>
    match storeAccess s.val ea.toNat l.length (some l) (hasKey st s.val) st with
    | (⟨.ok, _⟩, t) => .done (t.modS s Setter.adv) (storeCost (storeWait st)) none false
    | (⟨c, _⟩, t) => storeFails s ins c ea t) st

/-- SLD (R114). -/
def execSld (s : SetterId) (d a : Reg) (off : BitVec 14) (st : State) : Host.Outcome State Fault Refusal :=
  .next (issue s [a] false (storeLoad s (.sld s d a off) d a off 4) st)
/-- SST (R114). -/
def execSst (s : SetterId) (d a : Reg) (off : BitVec 14) (st : State) : Host.Outcome State Fault Refusal :=
  .next (issue s [a, d] false (storeStore s (.sst s d a off) [d] a off) st)
/-- SLDQ (R114): d[1:0] must be 0. -/
def execSldq (s : SetterId) (d a : Reg) (off : BitVec 14) (st : State) : Host.Outcome State Fault Refusal :=
  .next (issue s [a] false (needZero (d.val % 4 == 0) (storeLoad s (.sldq s d a off) d a off 16)) st)
/-- SSTQ (R114): d[1:0] must be 0. -/
def execSstq (s : SetterId) (d a : Reg) (off : BitVec 14) (st : State) : Host.Outcome State Fault Refusal :=
  .next (issue s (a :: quad d) false (needZero (d.val % 4 == 0) (storeStore s (.sstq s d a off) (quad d) a off)) st)

/-- SSWAP (R114, R117): a locked read and write of one word, so never on a keystone line; both or neither take effect. Its w is that of
the read, and the write's wait is added (log 9). -/
def execSswap (s : SetterId) (d a : Reg) (off : BitVec 14) (st : State) : Host.Outcome State Fault Refusal :=
  .next (issue s [a, d] false (fun st =>
    let ea := effAddr ((st.st s).reg a) off
    storeGuard ea 4 (fun st =>
      match storeDoor s.val ea.toNat 4 true true st with
      | some (r, t) => storeFails s (.sswap s d a off) r.code ea t
      | none =>
        match storeAccess s.val ea.toNat 4 none false st with
        | (⟨.ok, l⟩, t) =>
          (match storeAccess s.val ea.toNat 4 (some ((t.st s).regBytes [d])) false t with
            | (⟨.ok, _⟩, u) =>
              .done (u.modS s (fun x => (x.putWords d l).adv)) (storeCost (storeWait st + storeWait t)) none false
            | (⟨c, _⟩, u) => storeFails s (.sswap s d a off) c ea u)
        | (⟨c, _⟩, t) => storeFails s (.sswap s d a off) c ea t) st) st)

end Sys2Proof.Machine
end

