-- ==== Sys2Proof/Machine/Regs.lean ====
section
/-! DEFINITION. The control space (R19 to R22): which block an address names, one read or write of a master with its checks in
order, CSRR and CSRW (R122, R123), the queue windows (R215), and the rows that access a register no other row names. -/

namespace Sys2Proof.Machine

/-- The register blocks of R19. -/
inductive Block where
  | glb
  | str
  | hod
  | irs
  | hst
  | img
  | rpt
  | pwr
  | bst
  | clk
  | evt
  | pln
  | bay (b : BayId)
  | set (i : SetterId)
  | iob (k : Bank)
  deriving DecidableEq, Repr

/-- Where an address lies (R19). -/
inductive Place where
  | store
  | window (q : QueueId) (off : Nat)
  | reg (b : Block) (off : Nat)
  | nowhere
  deriving DecidableEq, Repr

/-- The 64 KiB blocks from 0x2000_0000. -/
def globalBlock (n off : Nat) : Place :=
  match n with
  | 0 => .reg .glb off
  | 1 => .reg .str off
  | 2 => .reg .hod off
  | 3 => if 0x8000 ≤ off ∧ off < 0x800C then .reg .hst (off - 0x8000) else .reg .irs off
  | 4 => .reg .img off
  | 5 => .reg .rpt off
  | 6 => .reg .pwr off
  | 7 => .reg .bst off
  | 8 => .reg .clk off
  | 9 => .reg .evt off
  | 10 => .reg .pln off
  | _ => .nowhere

/-- The place that an address names (R19). -/
def placeOf (a : Nat) : Place :=
  if a < 0x800000 then .store
  else if 0x10000000 ≤ a ∧ a < 0x10080000 then .window (BitVec.ofNat 16 ((a - 0x10000000) / 8)) (a % 8)
  else if 0x20000000 ≤ a ∧ a < 0x20100000 then globalBlock ((a - 0x20000000) / 0x10000) (a % 0x10000)
  else if h : 0x20100000 ≤ a ∧ a < 0x20200000 then .reg (.bay ⟨(a - 0x20100000) / 0x4000, by omega⟩) (a % 0x4000)
  else if h : 0x20200000 ≤ a ∧ a < 0x20300000 then .reg (.set ⟨(a - 0x20200000) / 0x10000, by omega⟩) (a % 0x10000)
  else if h : 0x30000000 ≤ a ∧ a < 0x30006000 then .reg (.iob ⟨(a - 0x30000000) / 0x1000, by omega⟩) (a % 0x1000)
  else .nowhere

/-- The control-space address of an offset in a block (R19). -/
def blockAddr (b : Block) (off : Nat) : Nat :=
  off + (match b with
    | .glb => 0x20000000
    | .str => 0x20010000
    | .hod => 0x20020000
    | .irs => 0x20030000
    | .hst => 0x20038000
    | .img => 0x20040000
    | .rpt => 0x20050000
    | .pwr => 0x20060000
    | .bst => 0x20070000
    | .clk => 0x20080000
    | .evt => 0x20090000
    | .pln => 0x200A0000
    | .bay b => 0x20100000 + 0x4000 * b.val
    | .set i => 0x20200000 + 0x10000 * i.val
    | .iob k => 0x30000000 + 0x1000 * k.val)

/-! ### The host port's registers (R263) -/

/-- HST_STATUS as it reads. -/
def hstStatus (h : Hst) : Word :=
  flagAt 31 h.ready ||| valAt 16 h.badcmd.toNat ||| valAt 8 h.aborts.toNat ||| valAt 0 h.lostget.toNat

/-- A read of the HST registers. -/
def readHst (off : Nat) (rec : Word) (s : State) : Option (Word × State) :=
  match off with
  | 0 => some (hstStatus s.hst, { s with hst := { s.hst with
      badcmd := recField rec 8 16, aborts := recField rec 8 8, lostget := recField rec 8 0 } })
  | 4 => peekS s (some (s.hst.errcode.setWidth 32))
  | 8 => peekS s (some s.hst.erraddr)
  | _ => none

/-! ### One register -/

/-- What a field shows where hardware records nothing in the cycle of the read: its reset value, which is not 0 for the recorded
extremes of the sensors (R407). -/
def noRecord (b : Block) (off : Nat) : Word :=
  match b with
  | .pln => if 0x200 ≤ off ∧ off < 0x224 then 0xFFFF0000#32 else if 0x100 ≤ off ∧ off < 0x114 then 0x80000000#32 else 0
  | _ => 0

/-- A read of a block's register; none is a bus error. `coincides` is what hardware records in its RC fields in the same cycle. -/
def blockRead (b : Block) (off : Nat) (coincides : Option Word) (s : State) : Option (Word × State) :=
  let kept := coincides.getD (noRecord b off)
  match b with
  | .glb => readGlb off s
  | .str => readStr off kept s
  | .hod => readHod off kept s
  | .irs => readIrs off kept s
  | .hst => readHst off kept s
  | .img => readImg off s
  | .rpt => readRpt off kept s
  | .pwr => readPwr off s
  | .bst => readBst off s
  | .clk => readClk off kept s
  | .evt => readEvt off s
  | .pln => readPln off kept s
  | .bay b => readBay b off kept s
  | .set i => if (s.st i).isol then none else readSet i off kept s
  | .iob k => readIob k off s

/-- A write of master m to a block's register; none is a bus error. -/
def blockWrite (m : Nat) (b : Block) (off : Nat) (v : Word) (e : WriteEnv) (s : State) : Option State :=
  match b with
  | .glb => writeGlb off v s
  | .str => writeStr m off v s
  | .hod => writeHod m off v s
  | .irs => writeIrs off v s
  | .hst => if off % 4 = 0 then some s else none
  | .img => writeImg m off v s
  | .rpt => writeRpt m off v s
  | .pwr => writePwr off v e s
  | .bst => writeBst off v s
  | .clk => writeClk off v s
  | .evt => writeEvt raiseWake off v e s
  | .pln => writePln off v s
  | .bay b => writeBay b off v s
  | .set i => if (s.st i).isol then none else writeSet m i off v e s
  | .iob k => writeIob k off v s

/-- The domain that an access to a block wakes (R22, R343). -/
def blockDomain (b : Block) : Option Domain :=
  match b with
  | .bay b => some (.bay b)
  | .set i => some (.setter i)
  | .hod => some .hod
  | _ => none

/-- The blocks that answer in DORMANT (R22): EVT, PWR and MMARK. -/
def aoBlock (b : Block) (off : Nat) : Bool :=
  match b with
  | .evt => true
  | .pwr => true
  | .glb => decide (off < 12)
  | _ => false

/-- What the checks before a register let through (R10, R20 to R23): a bus error at once, a region violation, a wait for a
domain that wakes, or the register. -/
inductive Gate where
  | error (s : State)
  | violation (s : State)
  | waits (d : Domain) (s : State)
  | reg (b : Block) (off : Nat)
  | store
  | window (q : QueueId) (off : Nat)
  deriving DecidableEq, Repr

/-- An aligned read of MMARK or the serial number, which no region register refuses (R23). -/
def markRead (a : Nat) (write : Bool) : Bool := !write && a % 4 == 0 && decide (0x20000000 ≤ a) && decide (a < 0x2000000C)

/-- The place answers in DORMANT (R22). -/
def aoPlace (p : Place) : Bool :=
  match p with
  | .reg b off => aoBlock b off
  | _ => false

/-- The checks of one 32-bit access of master m. DORMANT refuses first (R22); then the regions, whose violation outranks a bus error
that coincides with it (R62), then alignment and place, then the block's domain. The store path checks its own accesses. -/
def gate (m a : Nat) (write : Bool) (s : State) : Gate :=
  if !started s || (s.pwr.state == 3 && !aoPlace (placeOf a)) then .error s
  else if placeOf a = .store then (if a % 4 ≠ 0 then .error s else .store)
  else if !markRead a write && !regionOk s m a 4 (!write) write then .violation (regionViolation m a s)
  else if a % 4 ≠ 0 then .error s
  else match placeOf a with
    | .nowhere => .error s
    | .store => .store
    | .window q off => .window q off
    | .reg b off =>
      match blockDomain b with
      | some d => if asleep d s || (d == .hod && portBusy 16 s) then .waits d (startWake d s) else .reg b off
      | none => .reg b off

/-! ### A queue window (R215) -/

/-- An access waits, kept until it can proceed (R22, R343). -/
def keepWaiting (a : BusAccess) (s : State) : State := { s with stalled := s.stalled ++ [a] }

/-- One access of master m to a queue window whose address its regions permit, on the bus port, which has one operation outstanding
(R214, R215): a command of HOD_QCMD under way completes first. On a KEY queue the lane answers (R223). An access that finds the hod
gated, the port taken or the buffer full waits. -/
def windowOp (m : Nat) (op : HodOp) (s : State) : Resp × State :=
  let wait (t : State) : Resp × State := (⟨.waits, []⟩, keepWaiting ⟨m, .hod, 0x10000000 + 8 * (opQueue op).toNat, false, 0, some op⟩ t)
  if asleep .hod s then wait (startWake .hod s)
  else if portBusy 16 s then wait s
  else
    let s1 := qcmdDone s
    if (descOf s1 (opQueue op)).key then
      let t := enterLane ⟨16, op, .bus m⟩ (s1.respond m .waits [])
      (t.respOf m, t)
    else match queueOp m op s1 with
      | (.waits, t) => wait t
      | (r, t) => (windowResp op r, t)

/-- A 4-byte access to a queue window. -/
def window4 (m : Nat) (q : QueueId) (off : Nat) (wr : Option Word) (s : State) : Resp × State :=
  match wr with
  | some v => windowOp m (.put q v (off == 4)) s
  | none => if off = 4 then windowOp m (.qst q) s else (⟨.busError, []⟩, s)

/-- One 32-bit read of a bus master; `rec` is what hardware records in the same cycle (R407). -/
def busRead (m a : Nat) (rec : Option Word) (s : State) : Resp × State :=
  match gate m a false s with
  | .error t => (⟨.busError, []⟩, t)
  | .violation t => (⟨.region, []⟩, t)
  | .waits _ t => (⟨.waits, []⟩, t)
  | .store => if m < 16 then (⟨.busError, []⟩, s) else storeAccess m a 4 none false s
  | .window q off => if m < 16 then (⟨.busError, []⟩, s) else window4 m q off none s
  | .reg b off =>
    match blockRead b off rec s with
    | some (w, t) => (⟨.ok, leBytes 4 w.toNat⟩, t)
    | none => (⟨.busError, []⟩, s)

/-- One 32-bit write of a bus master. -/
def busWrite (m a : Nat) (v : Word) (e : WriteEnv) (s : State) : Resp × State :=
  match gate m a true s with
  | .error t => (⟨.busError, []⟩, t)
  | .violation t => (⟨.region, []⟩, t)
  | .waits _ t => (⟨.waits, []⟩, t)
  | .store => if m < 16 then (⟨.busError, []⟩, s) else storeAccess m a 4 (some (leBytes 4 v.toNat)) false s
  | .window q off => if m < 16 then (⟨.busError, []⟩, s) else window4 m q off (some v) s
  | .reg b off =>
    match blockWrite m b off v e s with
    | some t => (⟨.ok, []⟩, t)
    | none => (⟨.busError, []⟩, s)

/-- The domain that an access to an address may wait for; the queue windows keep their own. -/
def waitDomain (a : Nat) : Option Domain :=
  match placeOf a with
  | .store => some .store
  | .reg b _ => blockDomain b
  | _ => none

/-- A response goes to its master; an access that waits is kept. -/
def settleAccess (m a : Nat) (wr : Option Word) (r : Resp) (s : State) : State :=
  match r.code, waitDomain a with
  | .waits, some d => answer m r (keepWaiting ⟨m, d, a, wr.isSome, wr.getD 0, none⟩ s)
  | _, _ => answer m r s

/-- A write whose response goes to its master. -/
def writeAs (m a : Nat) (v : Word) (e : WriteEnv) (s : State) : State :=
  match busWrite m a v e s with
  | (r, t) => settleAccess m a (some v) r t

/-- A write whose moment its command does not give (log 6). -/
def writeFree (m a : Nat) (v : Word) (s : State) : State := writeAs m a v (freeEnv s) { s with free := s.free + 2 }

/-- A read whose response goes to its master. -/
def readAs (m a : Nat) (rec : Option Word) (s : State) : State :=
  match busRead m a rec s with
  | (r, t) => settleAccess m a none r t

/-! ### Rows -/

/-- REGISTER_WRITE (R8): a write to a register with no row of its own, applied by its access code. -/
def execRegisterWrite (m : Master) (addr v : Word) (st : State) : Host.Outcome State Fault Refusal :=
  .next (writeFree m.val addr.toNat v st)

/-- RC_FIELD_READ (R8, R407). -/
def execRcFieldRead (m : Master) (addr : Word) (rec : Option Word) (st : State) : Host.Outcome State Fault Refusal :=
  .next (readAs m.val addr.toNat rec st)

/-- A queue-window access of a bus master through its window's address (R21, R215). -/
def windowRow (m : Master) (q : QueueId) (off len : Nat) (write : Bool) (op : HodOp) (s : State) : State :=
  let a := 0x10000000 + 8 * q.toNat + off
  if m.val < 16 || !started s || s.pwr.state == 3 then answer m.val ⟨.busError, []⟩ s
  else if !regionOk s m.val a len (!write) write then answer m.val ⟨.region, []⟩ (regionViolation m.val a s)
  else match windowOp m.val op s with
    | (r, t) => answer m.val r t

/-- WINDOW_GET (R215). -/
def execWindowGet (m : Master) (q : QueueId) (st : State) : Host.Outcome State Fault Refusal :=
  .next (windowRow m q 0 8 false (.get q) st)
/-- WINDOW_QST (R215). -/
def execWindowQst (m : Master) (q : QueueId) (st : State) : Host.Outcome State Fault Refusal :=
  .next (windowRow m q 4 4 false (.qst q) st)
/-- WINDOW_PUT (R215). -/
def execWindowPut (m : Master) (q : QueueId) (v : Word) (st : State) : Host.Outcome State Fault Refusal :=
  .next (windowRow m q 0 4 true (.put q v false) st)
/-- WINDOW_PUT_EOB (R215). -/
def execWindowPutEob (m : Master) (q : QueueId) (v : Word) (st : State) : Host.Outcome State Fault Refusal :=
  .next (windowRow m q 4 4 true (.put q v true) st)

/-! ### CSRR and CSRW (R122, R123) -/

/-- Setter cycles of a control-space access: 11 to 13, the wait for a gated domain aside (R122, log 9). -/
def csrCost (s : State) : Nat := freeIn 11 3 s

/-- An address in the central-store or the queue-window range (R122). -/
def csrBarred (a : Nat) : Bool :=
  match placeOf a with
  | .store => true
  | .window _ _ => true
  | _ => false

/-- CSRR or CSRW ends in an error response. How many setter cycles pass before the trap entry the spec does not state: they are free
(log 9). -/
def csrTrap (i : SetterId) (s : State) (vec sub : Nat) (a : Word) : Fate := .trap (stall i s) vec sub a

/-- CSRR (R122): gd takes the register's value. -/
def execCsrr (s : SetterId) (r : Regs) (svc : BitVec 10) (st : State) : Host.Outcome State Fault Refusal :=
  .next (issue s [r.a] false (needZero (r.b == 0 && svc == 0) (fun st =>
    let a := (st.st s).reg r.a
    if csrBarred a.toNat then .trap st 3 1 a
    else match gate s.val a.toNat false st with
      | .violation t => csrTrap s t 2 1 a
      | .waits d t => waitFor s d (.csrr s r svc) t
      | .reg b off =>
        (match blockRead b off none st with
          | some (w, t) => .done (t.modS s (fun x => (x.setReg r.d w).adv)).usedFree (csrCost t) none false
          | none => csrTrap s st 3 1 a)
      | .error t => csrTrap s t 3 1 a
      | _ => csrTrap s st 3 1 a)) st)

/-- CSRW (R122, R123): the register takes gb. The PC has moved on when the write takes effect, so that a return to SET_TRET stands. -/
def execCsrw (s : SetterId) (r : Regs) (svc : BitVec 10) (st : State) : Host.Outcome State Fault Refusal :=
  .next (issue s [r.a, r.b] false (needZero (r.d == 0 && svc == 0) (fun st =>
    let a := (st.st s).reg r.a
    let v := (st.st s).reg r.b
    if csrBarred a.toNat then .trap st 3 1 a
    else match gate s.val a.toNat true st with
      | .violation t => csrTrap s t 2 1 a
      | .waits d t => waitFor s d (.csrw s r svc) t
      | .reg b off =>
        (match blockWrite s.val b off v (freeEnv st) ((st.modS s Setter.adv)) with
          | some t => .done { t with free := t.free + 3 } (freeIn 11 3 { t with free := t.free + 2 }) none false
          | none => csrTrap s st 3 1 a)
      | .error t => csrTrap s t 3 1 a
      | _ => csrTrap s st 3 1 a)) st)

end Sys2Proof.Machine
end

