-- ==== Sys2Proof/Machine/BusRows.lean ====
section
/-! DEFINITION. The rows that are a write, or a read, of one register by a bus master: each goes through the checks of the control
space (R20 to R22) and the register's own rules. A row that writes one bit of a register writes its other fields as they stand. Also
the cells for the update engine and the power controller (R275, R340). -/

namespace Sys2Proof.Machine

/-- A write to a register of a block, at a moment that gives nothing (log 6). -/
def writeReg (m : Master) (b : Block) (off : Nat) (v : Word) (s : State) : State := writeFree m.val (blockAddr b off) v s

/-- A write to a register of a block at a moment that its command gives. -/
def writeRegAt (m : Master) (b : Block) (off : Nat) (v : Word) (e : WriteEnv) (s : State) : State :=
  writeAs m.val (blockAddr b off) v e s

/-- SET_CTRL with the bits of a mask cleared and others set. -/
def ctrlWith (i : SetterId) (clear set : Word) (s : State) : Word := (ctrlWord (s.st i) &&& ~~~clear) ||| set

/-- A write of SET_CTRL when the setter's nets show these values. -/
def ctrlRow (m : Master) (i : SetterId) (clear set : Word) (nets : BitVec 256) (s : State) : State :=
  writeRegAt m (.set i) 0x00 (ctrlWith i clear set s) ⟨nets, 0, 0⟩ s

/-! ### Setters (R39, R59, R67 to R69, R98) -/

/-- SETTER_SRST (R39). -/
def execSetterSrst (m : Master) (s : SetterId) (nets : BitVec 256) (st : State) : Host.Outcome State Fault Refusal :=
  .next (ctrlRow m s 0 0x80000000#32 nets st)
/-- SETTER_RUN (R67). -/
def execSetterRun (m : Master) (s : SetterId) (nets : BitVec 256) (st : State) : Host.Outcome State Fault Refusal :=
  .next (ctrlRow m s 0 1 nets st)
/-- SETTER_STOP (R67). -/
def execSetterStop (m : Master) (s : SetterId) (st : State) : Host.Outcome State Fault Refusal :=
  .next (ctrlRow m s 1 0 0 st)
/-- SETTER_STATE_WRITE (R68). -/
def execSetterStateWrite (m : Master) (s : SetterId) (off : BitVec 16) (v : Word) (st : State) :
    Host.Outcome State Fault Refusal :=
  .next (writeReg m (.set s) off.toNat v st)

/-- The offset of a frame-source register. -/
def frameOff : FrameReg → Nat
  | .fsrc => 0x10
  | .fperiod => 0x14
  | .ftb => 0x18

/-- FRAME_SOURCE_WRITE (R59). -/
def execFrameSourceWrite (m : Master) (s : SetterId) (reg : FrameReg) (v : Word) (st : State) :
    Host.Outcome State Fault Refusal :=
  .next (writeReg m (.set s) (frameOff reg) v st)
/-- PM_DEBUG_WRITE (R69). -/
def execPmDebugWrite (m : Master) (s : SetterId) (v : Word) (st : State) : Host.Outcome State Fault Refusal :=
  .next (writeReg m (.set s) 0x6C v st)
/-- PM_DEBUG_READ (R69). -/
def execPmDebugRead (m : Master) (s : SetterId) (st : State) : Host.Outcome State Fault Refusal :=
  .next (readAs m.val (blockAddr (.set s) 0x6C) none st)
/-- TIMER_DEBUG_WRITE (R68, R98). -/
def execTimerDebugWrite (m : Master) (s : SetterId) (t : TimerId) (v : Word) (st : State) : Host.Outcome State Fault Refusal :=
  .next (writeReg m (.set s) (0x200 + 16 * t.val) v st)

/-! ### Events and global block (R26, R27, R30, R51, R154) -/

/-- WING_TICK_WRITE (R50, R51). -/
def execWingTickWrite (m : Master) (w : Wing) (v : Word) (st : State) : Host.Outcome State Fault Refusal :=
  .next (writeReg m .glb (0x100 + 4 * w.val) v st)
/-- SOFTWARE_RAISE (R26). -/
def execSoftwareRaise (m : Master) (v : Word) (st : State) : Host.Outcome State Fault Refusal :=
  .next (writeReg m .evt 0x10 v st)
/-- PENDING_CLEAR (R27). -/
def execPendingClear (m : Master) (k : Fin 20) (v raised : Word) (st : State) : Host.Outcome State Fault Refusal :=
  .next (writeRegAt m .evt (0x100 + 4 * k.val) v ⟨0, raised, 0⟩ st)
/-- ROUTE_WRITE (R30). -/
def execRouteWrite (m : Master) (note : Bool) (n : Source) (v : Word) (st : State) : Host.Outcome State Fault Refusal :=
  .next (writeReg m .evt ((if note then 0x2000 else 0x1000) + 4 * n.val) v st)
/-- WING_PROBE_SELECT (R154). -/
def execWingProbeSelect (m : Master) (w : Wing) (j : Fin 16) (v : Word) (st : State) : Host.Outcome State Fault Refusal :=
  .next (writeReg m .glb (0x200 + 0x40 * w.val + 4 * j.val) v st)

/-! ### Bays, pins and clocks (R151, R153, R157, R170, R176) -/

/-- REGIONAL_CLOCK_WRITE (R151). -/
def execRegionalClockWrite (m : Master) (b : BayId) (n : Fin 4) (v : Word) (st : State) : Host.Outcome State Fault Refusal :=
  .next (writeReg m (.bay b) (0x10 + 4 * n.val) v st)
/-- PROBE_SELECT (R153). -/
def execProbeSelect (m : Master) (b : BayId) (n : Fin 8) (v : Word) (st : State) : Host.Outcome State Fault Refusal :=
  .next (writeReg m (.bay b) (0x40 + 4 * n.val) v st)
/-- PIN_OPTION_WRITE (R157). -/
def execPinOptionWrite (m : Master) (k : Bank) (i : PinId) (v : Word) (st : State) : Host.Outcome State Fault Refusal :=
  .next (writeReg m (.iob k) (0x100 + 4 * i.val) v st)
/-- PLL_CTRL_WRITE (R176). -/
def execPllCtrlWrite (m : Master) (p : PllId) (v : Word) (st : State) : Host.Outcome State Fault Refusal :=
  .next (writeReg m .clk (0x100 + 16 * p.val) v st)
/-- PLL_ODIV_WRITE (R170). -/
def execPllOdivWrite (m : Master) (p : PllId) (v : Word) (st : State) : Host.Outcome State Fault Refusal :=
  .next (writeReg m .clk (0x104 + 16 * p.val) v st)

/-! ### Store and arbiter (R187, R189, R194, R197, R202) -/

/-- REGION_WRITE (R189). -/
def execRegionWrite (m : Master) (t : Fin 32) (k : Fin 8) (lim : Bool) (v : Word) (st : State) :
    Host.Outcome State Fault Refusal :=
  .next (writeReg m .str (0x800 + 0x40 * t.val + 8 * k.val + (if lim then 4 else 0)) v st)
/-- KEYSTONE_LINE_WRITE (R194). -/
def execKeystoneLineWrite (m : Master) (k : Fin 4) (v : Word) (st : State) : Host.Outcome State Fault Refusal :=
  .next (writeReg m .str (0x10 + 4 * k.val) v st)
/-- MASTER_CTRL_WRITE (R197). -/
def execMasterCtrlWrite (m : Master) (t : Fin 32) (v : Word) (st : State) : Host.Outcome State Fault Refusal :=
  .next (writeReg m .str (0x100 + 4 * t.val) v st)
/-- BOND_SWAP_REQUEST (R202). -/
def execBondSwapRequest (m : Master) (st : State) : Host.Outcome State Fault Refusal :=
  .next (writeReg m .str 0x20 1 st)

/-! ### Hod (R211, R212) -/

/-- HOD_QCMD written with a code in CMD, and the command's descriptor operation (R211); a write that found BUSY starts none. -/
def qcmdRow (m : Master) (code : Nat) (s : State) : State :=
  let t := writeReg m .hod 0x24 (valAt 4 code) s
  if (t.respOf m.val).code = .ok then qcmdDone t else t

/-- QCMD_WRITE (R211). -/
def execQcmdWrite (m : Master) (st : State) : Host.Outcome State Fault Refusal := .next (qcmdRow m 1 st)
/-- QCMD_ENABLE (R212). -/
def execQcmdEnable (m : Master) (st : State) : Host.Outcome State Fault Refusal := .next (qcmdRow m 2 st)
/-- QCMD_DISABLE (R211). -/
def execQcmdDisable (m : Master) (st : State) : Host.Outcome State Fault Refusal := .next (qcmdRow m 3 st)
/-- QCMD_FLUSH (R211). -/
def execQcmdFlush (m : Master) (st : State) : Host.Outcome State Fault Refusal := .next (qcmdRow m 4 st)
/-- QCMD_READ (R211). -/
def execQcmdRead (m : Master) (st : State) : Host.Outcome State Fault Refusal := .next (qcmdRow m 5 st)
/-- QCMD_UNDEFINED (R211). -/
def execQcmdUndefined (m : Master) (code : BitVec 4) (st : State) : Host.Outcome State Fault Refusal :=
  .next (qcmdRow m code.toNat st)

/-! ### Chain (R245, R248, R251) -/

/-- HEAD_ENUM (R248). -/
def execHeadEnum (m : Master) (st : State) : Host.Outcome State Fault Refusal := .next (writeReg m .irs 0x50 1 st)
/-- HEAD_ENUM_KEEP (R248). -/
def execHeadEnumKeep (m : Master) (st : State) : Host.Outcome State Fault Refusal := .next (writeReg m .irs 0x50 2 st)
/-- HEAD_JOIN (R251). -/
def execHeadJoin (m : Master) (st : State) : Host.Outcome State Fault Refusal := .next (writeReg m .irs 0x50 3 st)
/-- CHAIN_BOND_SWAP (R245). -/
def execChainBondSwap (m : Master) (st : State) : Host.Outcome State Fault Refusal := .next (writeReg m .irs 0x40 1 st)

/-! ### Repointers and plinth (R298, R320, R329) -/

/-- RPT_CTRL_WRITE (R298). -/
def execRptCtrlWrite (m : Master) (w : Wing) (v : Word) (st : State) : Host.Outcome State Fault Refusal :=
  .next (writeReg m .rpt (0x100 + 0x20 * w.val) v st)

/-- The offset of a threshold or enable register. -/
def thresholdOff : ThresholdReg → Nat
  | .sensctl => 0x10
  | .sensen => 0x14
  | .tthr t => 0x120 + 4 * t.val
  | .rthr r => 0x240 + 4 * r.val
  | .wcur w => 0x300 + 4 * w.val

/-- THRESHOLD_WRITE (R320). -/
def execThresholdWrite (m : Master) (reg : ThresholdReg) (v : Word) (st : State) : Host.Outcome State Fault Refusal :=
  .next (writeReg m .pln (thresholdOff reg) v st)
/-- FAULT_WINDOW_WRITE (R329). -/
def execFaultWindowWrite (m : Master) (c : Fin 6) (v : Word) (st : State) : Host.Outcome State Fault Refusal :=
  .next (writeReg m .pln (0x800 + 4 * c.val) v st)

/-! ### Power (R336, R340, R354) -/

/-- POWER_REQUEST (R336). -/
def execPowerRequest (m : Master) (v : Word) (st : State) : Host.Outcome State Fault Refusal :=
  .next (writeReg m .pwr 0x04 v st)
/-- POWER_RESUME_REQUEST (R336). -/
def execPowerResumeRequest (m : Master) (st : State) : Host.Outcome State Fault Refusal :=
  .next (writeReg m .pwr 0x04 0x80000000#32 st)
/-- WAKE_ENABLE_WRITE (R340). -/
def execWakeEnableWrite (m : Master) (pol : Bool) (v : Word) (levels : BitVec 16) (st : State) :
    Host.Outcome State Fault Refusal :=
  .next (writeRegAt m .pwr (if pol then 0x34 else 0x30) v ⟨0, 0, levels⟩ st)
/-- WAKE_TIMER_WRITE (R340). -/
def execWakeTimerWrite (m : Master) (v : Word) (st : State) : Host.Outcome State Fault Refusal :=
  .next (writeReg m .pwr 0x3C v st)
/-- BROWNOUT_RESTORE_CMD (R354). -/
def execBrownoutRestoreCmd (m : Master) (st : State) : Host.Outcome State Fault Refusal := .next (writeReg m .pwr 0x44 1 st)
/-- BROWNOUT_DISCARD (R354). -/
def execBrownoutDiscard (m : Master) (st : State) : Host.Outcome State Fault Refusal := .next (writeReg m .pwr 0x44 2 st)

/-! ### Cells -/

/-- IMG_CELL (R238, R275). -/
def execImgCell (c : Cell) (st : State) : Host.Outcome State Fault Refusal :=
  .next (if arrives 10 c st then takeCell c (imgBytes c) st else st)

/-- WAKE_CELL (R238, R340). -/
def execWakeCell (c : Cell) (st : State) : Host.Outcome State Fault Refusal :=
  .next (if arrives 11 c st then
      takeCell c (fun s => if sourceLive 19 s then activate (BitVec.ofNat 20 (2 ^ 19)) s else s) st
    else st)

end Sys2Proof.Machine
end

