-- ==== Sys2Proof/Machine/EventUnit.lean ====
section
/-! DEFINITION. Opcode 0x15: WEV, SEV and EVQ, and WEV's timeout (R111 to R113). Function [11:0] is the operand `lo`. -/

namespace Sys2Proof.Machine

/-- WEV (R111, R112): a latch of the mask ends it at once; a timeout of 0 is a single test; else it waits. -/
def execWev (s : SetterId) (r : Regs) (lo : BitVec 12) (st : State) : Host.Outcome State Fault Refusal :=
  .next (issue s [r.a, r.b] false (needZero (lo == 0) (fun st =>
    let x := st.st s
    let found := x.evl &&& x.reg r.a
    if found ≠ 0 ∨ x.reg r.b = 0 then .done (st.putS s (x.endWev r.d found 0)) 2 none false
    else .going (st.putS s { x with wait := .wev r.d (x.reg r.a) (x.reg r.b) }))) st)

/-- WEV_TIMEOUT (R112): gd = 0 at a cost of 300 × gb + 2 setter cycles; a WEV without a timeout has none. -/
def execWevTimeout (s : SetterId) (st : State) : Host.Outcome State Fault Refusal :=
  .next (match (st.st s).wait with
    | .wev d _ timeout =>
      if timeout = 0xFFFFFFFF#32 then st
      else settle s (st.modS s (fun x => x.endWev d 0 (300 * timeout.toNat + 2)))
    | _ => st)

/-- SEV (R111, R113): posts a raise of user source u, in [0]. -/
def execSev (s : SetterId) (r : Regs) (lo : BitVec 12) (st : State) : Host.Outcome State Fault Refusal :=
  .next (issue s [] false (needZero (r.d == 0 && r.a == 0 && r.b == 0 && field lo 11 1 == 0) (fun st =>
    .done (raise (srcOf s (6 + (lo.getLsbD 0).toNat)) (st.modS s Setter.adv)) 1 none false)) st)

/-- EVQ (R111, R113): reads and clears the latches that ga selects. -/
def execEvq (s : SetterId) (r : Regs) (lo : BitVec 12) (st : State) : Host.Outcome State Fault Refusal :=
  .next (issue s [r.a] false (needZero (r.b == 0 && lo == 0) (local1 s (fun x =>
    let v := x.evl &&& x.reg r.a
    { x.alu r.d (v, setZN x.flags v) with evl := x.evl &&& ~~~v }))) st)

end Sys2Proof.Machine
end

