-- ==== Sys2Proof/Machine/Flow.lean ====
section
/-! DEFINITION. NOP, HALT and the flow instructions BR, BRL, JMP and LOOP (R83, R100 to R102). -/

namespace Sys2Proof.Machine

/-- NOP, and every word that names no instruction: the decode check's subcode (R76, R83). -/
def execNop (s : SetterId) (bad : Option Illegal) (st : State) : Host.Outcome State Fault Refusal :=
  .next (issue s [] false (fun st =>
    match bad with
    | none => local1 s (fun x => x) st
    | some .reservedOpcode => .trap st 1 0 0
    | some .reservedFunction => .trap st 1 1 0
    | some .operandRule => .trap st 1 5 0) st)

/-- No field of a system instruction is used. -/
def noFields (r : Regs) (svc : BitVec 10) : Bool := r.d == 0 && r.a == 0 && r.b == 0 && svc == 0

/-- HALT (R83): costs 1 setter cycle, then the setter stops with HALTED set and the PC after HALT. Held causes stay held. -/
def execHalt (s : SetterId) (r : Regs) (svc : BitVec 10) (st : State) : Host.Outcome State Fault Refusal :=
  .next (issue s [] false (needZero (noFields r svc) (fun st =>
    .hold (stopSetter s (fun x => { x with halted := true })
      (st.modS s (fun x => { x.adv with scan := x.scan + 1, ilReg := none, ilMac := false, skipBk := false, again := false, lutStall := none }))))) st)

/-- A taken branch costs 2 setter cycles, an untaken one 1 (R100). -/
def branch (s : SetterId) (cond : BitVec 4) (off : BitVec 22) (link : Bool) (st : State) : State :=
  issue s [] false (fun st =>
    let x := st.st s
    if condHolds x.flags cond then
      let y := if link then x.setReg 15 ((pcNext x.pc).setWidth 32) else x
      .done (st.putS s { y with pc := pcRel x.pc off }) 2 none false
    else .done (st.putS s x.adv) 1 none false) st

/-- BR (R100). -/
def execBr (s : SetterId) (cond : BitVec 4) (off : BitVec 22) (st : State) : Host.Outcome State Fault Refusal :=
  .next (branch s cond off false st)
/-- BRL (R100): writes g15 only when taken. -/
def execBrl (s : SetterId) (cond : BitVec 4) (off : BitVec 22) (st : State) : Host.Outcome State Fault Refusal :=
  .next (branch s cond off true st)
/-- JMP (R101): a target of 16,384 or more takes the region-violation trap, subcode 3. -/
def execJmp (s : SetterId) (r : Regs) (st : State) : Host.Outcome State Fault Refusal :=
  .next (issue s [r.a] false (needZero (r.d == 0 && r.b == 0) (fun st =>
    let t := (st.st s).reg r.a
    if 16384 ≤ t.toNat then .trap st 2 3 t
    else .done (st.modS s (fun x => { x with pc := field t 13 0 })) 2 none false)) st)
/-- LOOP (R102): a and mode must be 0. -/
def execLoop (s : SetterId) (d a : Reg) (mode : BitVec 2) (imm : BitVec 16) (st : State) :
    Host.Outcome State Fault Refusal :=
  .next (issue s [d] false (needZero (a == 0 && mode == 0) (fun st =>
    let x := st.st s
    let v := x.reg d - 1
    let y := x.setReg d v
    .done (st.putS s (if v ≠ 0 then { y with pc := pcRel x.pc imm } else y.adv)) 1 none false)) st)

end Sys2Proof.Machine
end

