-- ==== Sys2Proof/Machine/HostPort.lean ====
section
/-! DEFINITION. Accesses over several words (R182, R262) and the host port's frames (R259 to R263). -/

namespace Sys2Proof.Machine

/-! ### Several words -/

/-- The range of R19 in which an address lies. -/
def rangeOf (a : Nat) : Option Nat :=
  if a < 0x800000 then some 0
  else if 0x10000000 ≤ a ∧ a < 0x10080000 then some 1
  else if 0x20000000 ≤ a ∧ a < 0x200B0000 then some (2 + (a - 0x20000000) / 0x10000)
  else if 0x20100000 ≤ a ∧ a < 0x20200000 then some (16 + (a - 0x20100000) / 0x4000)
  else if 0x20200000 ≤ a ∧ a < 0x20300000 then some (80 + (a - 0x20200000) / 0x10000)
  else if 0x30000000 ≤ a ∧ a < 0x30006000 then some (96 + (a - 0x30000000) / 0x1000)
  else none

/-- The words of a span as accesses, each an address and a number of words: aligned beats of the store, else one word (R182, R262).
`n` is fuel. -/
def pieces : Nat → Nat → Nat → List (Nat × Nat)
  | 0, _, _ => []
  | n + 1, a, k =>
    if k = 0 then []
    else if a < storeEnd ∧ a % 16 = 0 ∧ 4 ≤ k then (a, 4) :: pieces n (a + 16) (k - 4)
    else (a, 1) :: pieces n (a + 4) (k - 1)

/-- One piece of a span: a read, or a write of its words. -/
def accessPiece (m : Nat) (wr : Bool) (a k : Nat) (w : List Word) (s : State) : Resp × State :=
  let bytes := (w.take k).flatMap (fun v => leBytes 4 v.toNat)
  if wr then
    (if k = 1 then busWrite m a (w.headD 0) (freeEnv s) { s with free := s.free + 2 } else storeAccess m a (4 * k) (some bytes) false s)
  else if k = 1 then busRead m a none s
  else storeAccess m a (4 * k) none false s

/-- What the pieces of a span came to: what is left to do, empty once it has ended; the bytes read; the error that ended it, with its
address; the state. -/
structure SpanEnd where
  left : List (Nat × Nat)
  data : List Word
  got  : List Byte
  err  : Option (Nat × RespCode)
  s    : State
  deriving DecidableEq, Repr

/-- Access pieces in order, until one waits or fails; words before it have been accessed. -/
def runPieces (m : Nat) (wr : Bool) : List (Nat × Nat) → List Word → List Byte → State → SpanEnd
  | [], w, g, s => ⟨[], w, g, none, s⟩
  | (a, k) :: t, w, g, s =>
    match accessPiece m wr a k w s with
    | (⟨.ok, d⟩, u) => runPieces m wr t (w.drop k) (g ++ d) u
    | (⟨.waits, _⟩, u) => ⟨(a, k) :: t, w, g, none, u⟩
    | (r, u) => ⟨[], w, g, some (a, r.code), u⟩

/-! ### Frames -/

/-- The port answers frames: in RUN, DOZE and NAP from 100 µs after PORST_N, its balls powered (R259, R380). -/
def hostOn (s : State) : Bool := s.hst.ready && vio4 s && s.pwr.state != 3 && s.pwr.stage == .run

/-- Change the host port. -/
def modHst (f : Hst → Hst) (s : State) : State := { s with hst := f s.hst }

/-- HOST_PORT_READY (R259). -/
def execHostPortReady (st : State) : Host.Outcome State Fault Refusal :=
  .next (if st.pwr.stage == .run && st.pwr.state != 3 then modHst (fun h => { h with ready := true }) st else st)

/-- A status byte with RDY = 1 (R261). -/
def statusByte (err : Bool) (code : Nat) : Byte := BitVec.ofNat 8 (0x80 + 0x40 * err.toNat + code)

/-- What the port drives from the status phase on: code 6 first when a GET was lost, the status byte, then data or 0xFF (R260, R261,
R263). -/
def hostAnswer (err : Bool) (code : Nat) (data : List Byte) (s : State) : State :=
  modHst (fun h => { h with
    owe6 := false, answer := (if h.owe6 then [statusByte false 6] else []) ++ statusByte err code :: (if err then [0xFF] else data),
    errcode := if err then BitVec.ofNat 4 code else h.errcode }) s

/-- The operation has not completed: busy status bytes (R260). -/
def hostBusy (s : State) : State := modHst (fun h => { h with answer := [0] }) s

/-- A frame that is ignored is counted, and nothing is driven (R260). -/
def ignoreFrame (s : State) : State :=
  modHst (fun h => { h with badcmd := BitVec.ofNat 8 (satAdd 8 h.badcmd.toNat 1), answer := [] }) s

/-- CODE of a response (R261). -/
def hostCode : RespCode → Nat
  | .ok => 0
  | .none => 0
  | .busError => 1
  | .region => 2
  | .ecc => 4
  | .cutOff => 1
  | .refused => 5
  | .waits => 0

/-- The words of a frame lie in one range, on a word boundary (R262). -/
def frameOk (a n : Nat) : Bool := a % 4 == 0 && (rangeOf a).isSome && rangeOf a == rangeOf (a + 4 * (n - 1))

/-- The queue operation of a frame in the window range (R215, R262). -/
def windowForm (a n : Nat) (wr : Option Word) : Option HodOp :=
  let q := BitVec.ofNat 16 ((a - 0x10000000) / 8)
  match wr with
  | none => if a % 8 = 0 ∧ n = 2 then some (.get q) else if a % 8 = 4 ∧ n = 1 then some (.qst q) else none
  | some v => if n = 1 then some (.put q v (a % 8 == 4)) else none

/-- A frame's access has ended: its status, then its data; a lost frame returns neither (R261 to R263). -/
def endFrame (f : HostFrame) (err : Option (Nat × RespCode)) (d : List Byte) (s : State) : State :=
  match err with
  | some (a, c) =>
    let t := modHst (fun h => { h with erraddr := BitVec.ofNat 32 a }) s
    if f.lost then t else hostAnswer true (hostCode c) [] t
  | none => if f.lost then s else hostAnswer false 0 d s

/-- The first access of a frame in the window range, and later its response, as master 17: the frame still to end, if it has not. -/
def runWindow (f : HostFrame) (op : HodOp) (s : State) : Option HostFrame × State :=
  let n := if f.write then 1 else (match op with
    | .get _ => 2
    | _ => 1)
  if !f.asked && !regionOk s 17 f.addr (4 * n) (!f.write) f.write then
    (none, endFrame f (some (f.addr, .region)) [] (regionViolation 17 f.addr s))
  else match (if f.asked then (s.respOf 17, s) else windowOp 17 op s) with
    | (⟨.waits, _⟩, t) => (some { f with asked := true }, t.respond 17 .waits [])
    | (⟨.ok, d⟩, t) => (none, endFrame f none d t)
    | (r, t) => (none, endFrame f (some (f.addr, r.code)) [] t)

/-- A frame's access goes on until it ends or waits: the frame still to end, if it has not. -/
def runFrame (f : HostFrame) (s : State) : Option HostFrame × State :=
  match f.op with
  | some op => runWindow f op s
  | none =>
    let e := runPieces 17 f.write f.left f.data f.got s
    if e.left.isEmpty then (none, endFrame f e.err e.got e.s) else (some { f with left := e.left, data := e.data, got := e.got }, e.s)

/-- The frames' accesses go on, in their order. `n` is fuel. -/
def serveHost : Nat → State → State
  | 0, s => s
  | n + 1, s =>
    match s.hst.frames with
    | [] => s
    | f :: t =>
      match runFrame f (modHst (fun h => { h with frames := [] }) s) with
      | (none, u) => serveHost n (modHst (fun h => { h with frames := t }) u)
      | (some g, u) => modHst (fun h => { h with frames := g :: t }) u

/-- A READ or WRITE frame whose command, address, length and data have arrived: refused by its form, or its access begins; until that has
ended the port drives busy status bytes. -/
def startFrame (a n : Nat) (data : Option (List Word)) (s : State) : State :=
  let go (l : List (Nat × Nat)) (op : Option HodOp) : State :=
    serveHost (s.hst.frames.length + 1)
      (modHst (fun h => { h with frames := h.frames ++ [⟨data.isSome, a, l, data.getD [], [], op, false, false⟩] }) (hostBusy s))
  if !frameOk a n then hostAnswer true 3 [] s
  else if rangeOf a = some 1 then
    (match windowForm a n (data.map (·.headD 0)) with
      | some op => go [] (some op)
      | none => hostAnswer true 3 [] s)
  else go (pieces n a n) none

/-- HOST_READ (R260 to R262). -/
def execHostRead (width : BitVec 2) (addr : Word) (len : Byte) (st : State) : Host.Outcome State Fault Refusal :=
  .next (if !hostOn st then st
    else if width = 3 then ignoreFrame st
    else startFrame addr.toNat (len.toNat + 1) none st)

/-- HOST_WRITE (R260 to R262): the words in order, up to the first that fails. -/
def execHostWrite (width : BitVec 2) (addr : Word) (len : Byte) (data : List Word) (st : State) :
    Host.Outcome State Fault Refusal :=
  .next (if !hostOn st || data.length != len.toNat + 1 then st
    else if width = 3 then ignoreFrame st
    else startFrame addr.toNat (len.toNat + 1) (some data) st)

/-- HOST_STATUS (R260): HST_STATUS is read without clearing. -/
def execHostStatus (width : BitVec 2) (st : State) : Host.Outcome State Fault Refusal :=
  .next (if !hostOn st then st
    else if width = 3 then ignoreFrame st
    else hostAnswer false 0 (leBytes 4 (hstStatus st.hst).toNat) st)

/-- HOST_ECHO (R260). -/
def execHostEcho (width : BitVec 2) (data : List Byte) (st : State) : Host.Outcome State Fault Refusal :=
  .next (if !hostOn st then st
    else if width = 3 then ignoreFrame st
    else hostAnswer false 0 data st)

/-- HOST_BAD_COMMAND (R260): an unknown operation, or W = 3. -/
def execHostBadCommand (cmd : Byte) (st : State) : Host.Outcome State Fault Refusal :=
  .next (let op := (field cmd 5 0).toNat
    if !hostOn st then st
    else if field cmd 7 6 = 3 ∨ op = 0 ∨ 4 < op then ignoreFrame st
    else st)

/-- The operation takes nothing to its queue. -/
def readsQueueOp (op : HodOp) : Bool :=
  match op with
  | .put _ _ _ => false
  | _ => true

/-- Master 17 drops its raised store request, unless that is the write of a frame that ended before (R185, R263). -/
def dropRead17 (s : State) : State :=
  if ((reqOf s.arb.ord 17).map (·.write)).getD false || ((reqOf s.arb.kreq 17).map (·.write)).getD false then s else dropReq 17 s

/-- The last frame's access, a read, is dropped before it was granted: it waits nowhere any more (R185, R263). A GET at the lane has
removed its element, which is lost. The writes of frames that ended before go on. -/
def dropRead (s : State) : State :=
  let atLane := s.hod.lane.any (fun l => l.1.who == .bus 17 && (match l.1.op with
    | .get _ => true
    | _ => false))
  let t := modHst (fun h => { h with
    frames := h.frames.filter (·.lost), lostget := BitVec.ofNat 8 (satAdd 8 h.lostget.toNat atLane.toNat), owe6 := h.owe6 || atLane }) s
  dropRead17 { t with stalled := t.stalled.filter (fun a => a.master != 17 || !a.op.any readsQueueOp),
                      hod := { t.hod with keyWait := t.hod.keyWait.filter (fun l => l.who != .bus 17 || !readsQueueOp l.op) } }

/-- HOST_FRAME_ABORT (R263): ABORTS; a write goes on without its status; a waiting read is dropped; a lost element is counted and owed
to the next status phase. -/
def execHostFrameAbort (at_ : AbortPhase) (st : State) : Host.Outcome State Fault Refusal :=
  .next (if !hostOn st then st else
    let s1 := modHst (fun h => { h with aborts := BitVec.ofNat 8 (satAdd 8 h.aborts.toNat 1), answer := [] }) st
    match at_ with
    | .beforeAccess => s1
    | .writeStatus => modHst (fun h => { h with frames := h.frames.map (fun f => { f with lost := true }) }) s1
    | .readWaiting => dropRead s1
    | .readDone => s1
    | .getDone => modHst (fun h => { h with lostget := BitVec.ofNat 8 (satAdd 8 h.lostget.toNat 1), owe6 := true }) s1)

end Sys2Proof.Machine
end

