-- ==== Sys2Proof/Machine/Immediate.lean ====
section
/-! DEFINITION. Opcodes 0x02 to 0x08: the immediate instructions (R89, R90). -/

namespace Sys2Proof.Machine

/-- An immediate operation: reads ga, writes gd and the flags, costs 1 setter cycle; no operand for a reserved mode, which
takes subcode 1 (R89). -/
def immOp (s : SetterId) (d a : Reg) (x : Option Word) (op : Flags → Word → Word → Word × Flags) (st : State) : State :=
  issue s [a] false (fun st =>
    match x with
    | none => .trap st 1 1 0
    | some x => .done (st.modS s (fun y => (y.alu d (op y.flags (y.reg a) x)).adv)) 1 none false) st

/-- A shift by an immediate: immediate [15:5] must be 0 (R90). -/
def shiftImm (s : SetterId) (d a : Reg) (imm : BitVec 16) (op : Flags → Word → Nat → Word × Flags) (st : State) : State :=
  issue s [a] false (needZero (field imm 15 5 == 0) (fun st =>
    .done (st.modS s (fun y => (y.alu d (op y.flags (y.reg a) (imm.toNat % 32))).adv)) 1 none false)) st

/-- ADDI (R89). -/
def execAddi (s : SetterId) (d a : Reg) (mode : BitVec 2) (imm : BitVec 16) (st : State) :
    Host.Outcome State Fault Refusal :=
  .next (immOp s d a (immAdd mode imm) (fun f a b => (addRes a b false, addFlags f a b false)) st)
/-- ANDI (R89). -/
def execAndi (s : SetterId) (d a : Reg) (mode : BitVec 2) (imm : BitVec 16) (st : State) :
    Host.Outcome State Fault Refusal :=
  .next (immOp s d a (some (immLogic mode imm)) (znOp (fun a b => a &&& b)) st)
/-- ORI (R89). -/
def execOri (s : SetterId) (d a : Reg) (mode : BitVec 2) (imm : BitVec 16) (st : State) :
    Host.Outcome State Fault Refusal :=
  .next (immOp s d a (some (immLogic mode imm)) (znOp (fun a b => a ||| b)) st)
/-- XORI (R89). -/
def execXori (s : SetterId) (d a : Reg) (mode : BitVec 2) (imm : BitVec 16) (st : State) :
    Host.Outcome State Fault Refusal :=
  .next (immOp s d a (some (immLogic mode imm)) (znOp (fun a b => a ^^^ b)) st)
/-- SHLI (R90). -/
def execShli (s : SetterId) (d a : Reg) (imm : BitVec 16) (st : State) : Host.Outcome State Fault Refusal :=
  .next (shiftImm s d a imm shlOp st)
/-- SHRI (R90). -/
def execShri (s : SetterId) (d a : Reg) (imm : BitVec 16) (st : State) : Host.Outcome State Fault Refusal :=
  .next (shiftImm s d a imm shrOp st)
/-- SARI (R90). -/
def execSari (s : SetterId) (d a : Reg) (imm : BitVec 16) (st : State) : Host.Outcome State Fault Refusal :=
  .next (shiftImm s d a imm sarOp st)
/-- ROLI (R90). -/
def execRoli (s : SetterId) (d a : Reg) (imm : BitVec 16) (st : State) : Host.Outcome State Fault Refusal :=
  .next (shiftImm s d a imm rolOp st)

/-- The operand of CMPI: sign-extended for the signed compare, zero-extended for the unsigned one (R89). -/
def cmpImm (mode : BitVec 2) (imm : BitVec 16) : Option Word :=
  match mode.toNat with
  | 0 => some (imm.signExtend 32)
  | 1 => some (imm.setWidth 32)
  | _ => none

/-- CMPI (R89). -/
def execCmpi (s : SetterId) (d a : Reg) (mode : BitVec 2) (imm : BitVec 16) (st : State) :
    Host.Outcome State Fault Refusal :=
  .next (immOp s d a (cmpImm mode imm)
    (fun f a b => (if mode = 0 then cmpRes a b else cmpuRes a b, subFlags f a b false)) st)

/-- LUI (R89): a must be 0, modes other than 0 are reserved. -/
def execLui (s : SetterId) (d a : Reg) (mode : BitVec 2) (imm : BitVec 16) (st : State) :
    Host.Outcome State Fault Refusal :=
  .next (issue s [] false (fun st =>
    if mode ≠ 0 then .trap st 1 1 0
    else needZero (a == 0) (local1 s (fun x => x.setReg d (imm.setWidth 32 <<< 16))) st) st)

end Sys2Proof.Machine
end

