-- ==== Sys2Proof/Machine/Balls.lean ====
section
/-! DEFINITION. The system balls with output cells (R371 to R373, R379, R380): what drives each of them, and where their boundary cells
stand. -/

namespace Sys2Proof.Machine

/-- The system balls that the device can drive (R372, R379). -/
inductive SysBall where
  | rstout
  | fault
  | hio (i : Fin 4)
  | hirq
  | csck
  | ccs
  | cio (i : Fin 4)
  | msda
  deriving DecidableEq, Repr

/-- The system balls with output cells, in the order of their cells. -/
def sysBalls : List SysBall :=
  [.rstout, .fault, .hio 0, .hio 1, .hio 2, .hio 3, .hirq, .csck, .ccs, .cio 0, .cio 1, .cio 2, .cio 3, .msda]

/-- The ball's output cell in the boundary register; its enable cell is the next (R372). -/
def SysBall.outCell : SysBall → Nat
  | .rstout => 401
  | .fault => 403
  | .hio i => 408 + 3 * i.val
  | .hirq => 419
  | .csck => 421
  | .ccs => 423
  | .cio i => 426 + 3 * i.val
  | .msda => 439

/-- The ball's input cell, where it has one: just before its output cell (R372). -/
def SysBall.inCell : SysBall → Option Nat
  | .hio i => some (407 + 3 * i.val)
  | .cio i => some (425 + 3 * i.val)
  | .msda => some 438
  | _ => none

/-- An open-drain output drives only low (R379). -/
def SysBall.openDrain : SysBall → Bool
  | .rstout => true
  | .fault => true
  | .hirq => true
  | .msda => true
  | _ => false

/-- An open-drain output: low, or released. -/
def pullLow (low : Bool) : PinDrive := if low then .level false else .off

/-- The loader reads or takes a flash stream on the CFG balls (R275, R379). -/
def cfgBusy (s : State) : Bool :=
  match s.img.stream with
  | some x => x.src == .cfg
  | none => false

/-- The loader drives CSCK and CCS_N: from the release of PORST_N, and not in DORMANT (R379). -/
def cfgDriven (s : State) : Bool := s.pwr.stage == .run && s.pwr.state != 3

/-- What drives the ball while it keeps its function (R379). What the loader, the host port and the I²C target shift out, bit by bit,
is free. DEDUCED (log 33): CSCK and CCS_N idle low and high from the release of PORST_N on, whether or not the image has loaded. -/
def ownDrive (s : State) : SysBall → PinDrive
  | .rstout => pullLow s.rstout
  | .fault => pullLow s.faultn
  | .hio _ => if hostOn s && !s.hst.answer.isEmpty then .free else .weak true
  | .hirq => pullLow (hirqLow s)
  | .csck => if !cfgDriven s then .weak false else if cfgBusy s then .free else .level false
  | .ccs => if !cfgDriven s then .weak true else if cfgBusy s then .free else .level true
  | .cio _ => if cfgDriven s && cfgBusy s then .free else .weak true
  | .msda => if i2cOn s then .free else .off

/-- What the boundary cells drive under EXTEST and CLAMP; under HIGHZ the ball is off, with no pull (R371). -/
def cellDrive (s : State) (b : SysBall) : PinDrive :=
  let out := s.tap.upd.getLsbD b.outCell
  if s.tap.ir ≠ 4 && s.tap.upd.getLsbD (b.outCell + 1) && !(out && b.openDrain) then .level out else .off

/-- What drives a system ball: nothing without VIO4 or VSUP; its function in a brown-out; then the boundary cells, while an instruction
that governs the balls is selected (R373, R379, R380). -/
def sysDrive (s : State) (b : SysBall) : PinDrive :=
  if !vio4 s || s.pwr.stage == .off then .off
  else if scanControls s && !s.io.trip then cellDrive s b
  else ownDrive s b

/-- A captured cell observes its ball: where the device itself drives the ball, at that level (R372). -/
def seeDrive (cell : Nat) (d : PinDrive) (seen : BitVec 441) : BitVec 441 :=
  match d with
  | .level v => setBit seen cell v
  | _ => seen

/-- What the boundary register captures: the cells as the command gives them, but for the input cells of balls that the device drives. -/
def seenBalls (s : State) (seen : BitVec 441) : BitVec 441 :=
  let pins := (List.range 132).foldl (fun v p => seeDrive (3 * p) (pinDrive s p) v) seen
  sysBalls.foldl (fun v b => match b.inCell with
    | some c => seeDrive c (sysDrive s b) v
    | none => v) pins

end Sys2Proof.Machine
end

