-- ==== Sys2Proof/Machine/Tables.lean ====
section
/-! DEFINITION. The tables of an image (R273, R274, R347): their records, the checks of each, and what each sets up. A rule
that fails anywhere is a format error, cause 5 of R286, which `none` stands for. -/

namespace Sys2Proof.Machine

/-! ### Records -/

/-- One record: its TYPE, and where its body begins and how long it is, in the payload. -/
structure TableRec where
  type : Nat
  at_  : Nat
  len  : Nat
  deriving DecidableEq, Repr

/-- The records from offset o of a section that ends at `stop`, up to the record of TYPE 0 (R273). -/
def recordsFrom (pay : Mem) (stop : Nat) : Nat → Nat → Option (List TableRec)
  | 0, _ => none
  | f + 1, o =>
    if stop < o + 4 then none
    else
      let t := memNat pay o 2
      let n := memNat pay (o + 2) 2
      if t = 0 then some []
      else if stop < o + 4 + n ∨ n % 4 ≠ 0 then none
      else (recordsFrom pay stop f (o + 4 + n)).map (fun l => ⟨t, o + 4, n⟩ :: l)

/-- The records of a slot's tables section (R269, R273). -/
def tableRecords (x : Slot) : Option (List TableRec) :=
  recordsFrom x.payload (secAt x.manifest 0 + mLen x.manifest 0) (mLen x.manifest 0 / 4 + 1) (secAt x.manifest 0)

/-- The address and value pairs of a TYPE 1 record. -/
def writesOf (pay : Mem) (r : TableRec) : List (Nat × Word) :=
  (List.range (r.len / 8)).map (fun k => (memNat pay (r.at_ + 8 * k) 4, memWord pay (r.at_ + 8 * k + 4)))

/-- The record writes the CLK block or a PLL register. -/
def clockRecord (pay : Mem) (r : TableRec) : Bool :=
  r.type == 1 && (writesOf pay r).any (fun w => match placeOf w.1 with
    | .reg .clk _ => true
    | _ => false)

/-- Clock records come before every other record (R273). -/
def clockFirst (pay : Mem) (l : List TableRec) : Bool := (l.dropWhile (clockRecord pay)).all (fun r => !clockRecord pay r)

/-- What a record is about: one of TYPE 2, 3 or 5 its setter or bay, one of TYPE 4 its queue (R274). -/
def recordKey (pay : Mem) (r : TableRec) : Nat × Nat :=
  (r.type, if r.type = 4 then memNat pay r.at_ 2 else if r.type = 2 ∨ r.type = 3 ∨ r.type = 5 then memNat pay r.at_ 1 else 0)

/-- No two records for one setter, bay or queue, and at most one of TYPE 6 and of TYPE 7 (R274). -/
def noTwice (pay : Mem) (l : List TableRec) : Bool := decide (((l.filter (fun r => r.type != 1)).map (recordKey pay)).Nodup)

/-- The REFCLK frequency that the image declares, wherever its record stands (R168, R274). -/
def declaredKhz (pay : Mem) (l : List TableRec) : Option Nat :=
  (l.find? (fun r => r.type == 6)).map (fun r => memNat pay r.at_ 4)

/-! ### TYPE 1 (R8, R201, R273) -/

/-- A value that the register ignores is a format error (R273): values that a register's own rule says it ignores. -/
def ignoredValue (b : Block) (off : Nat) (v : Word) (s : State) : Bool :=
  match b with
  | .glb => decide (0x100 ≤ off ∧ off < 0x110) && field v 15 0 == 0
  | .str => decide (0xF80 ≤ off ∧ off < 0x1000)
  | .evt => off == 0x10 && decide (640 ≤ (field v 9 0).toNat)
  | .irs =>
    (off == 0 && v.getLsbD 29 && !v.getLsbD 30)
      || (off == 0x50 && !(s.irs.head && decide (1 ≤ (field v 3 0).toNat) && decide ((field v 3 0).toNat ≤ 3)))
      || (off == 0x18 && !(decide (10 ≤ (field v 9 0).toNat) && decide ((field v 9 0).toNat ≤ 1000)))
      || (off == 0x1C && !(s.irs.head && (field v 13 0 == 0 || (decide (10 ≤ (field v 13 0).toNat) && decide ((field v 13 0).toNat ≤ 10000)))))
  | .bst => off == 0 && !(decide (50 ≤ (field v 9 0).toNat) && decide ((field v 9 0).toNat ≤ 1000))
  | .pln => decide (0x800 ≤ off ∧ off < 0x818) && (field v 28 24 == 0 || decide (16 < (field v 28 24).toNat) || field v 19 0 == 0)
  | .clk => decide (0x100 ≤ off ∧ off < 0x180) && (off - 0x100) / 16 % 2 == 0
      && ((off % 16 == 0 && v.getLsbD 30) || (off % 16 == 4 && !v.getLsbD 7))
  | .pwr => off == 0x44 && v.getLsbD 0 && !s.pwr.bor
  | .set _ => off == 0x50 && decide (16 < (field v 20 16).toNat)
  | _ => false

/-- PLL settings as the tables give them; their ranges are checked together afterwards (R168, R177). A record that changes SRC, RDIV or
NDIV of an odd PLL while EN is 1, or one that leaves an odd PLL enabled with a setting that R168 does not admit, is one that the register
ignores (R176, R273). -/
def tablePll (off : Nat) (v : Word) (s : State) : Option State :=
  let p := (off - 0x100) / 16
  let even := p % 2 == 0
  let w := v &&& pllMask even
  let put (x : Pll) : Pll := if off % 16 = 0 then x.takeCtrl w else { x with odiv := if even then v ||| 0x80#32 else v }
  let moved (x : Pll) : Bool := off % 16 == 0 && x.en && (w ^^^ x.ctrl) &&& 0x200F01FF#32 != 0
  let broken (x : Pll) : Bool := (put x).en && !pllValid s.clk.khz (put x)
  if !even && ((nth s.clk.pll p).map (fun x => moved x || broken x)).getD false then none else some (modPll p put s)

/-- A register write of the image, as master 20, whose region check does not apply (R273). A bond-table value goes into both
copies (R201); regions, lines and ranks are in effect for the records after it, which come more than two store cycles later (R189, R212). -/
def tableWrite (a : Nat) (v : Word) (s : State) : Option State :=
  if a % 4 ≠ 0 then none
  else match placeOf a with
    | .reg b off =>
      if ignoredValue b off v s then none
      else if b = .clk ∧ 0x100 ≤ off ∧ off < 0x180 ∧ off % 16 < 8 then tablePll off v s
      else
        (blockWrite 20 b off v (freeEnv s) { s with free := s.free + 2 }).map (fun t =>
          match b with
          | .iob k =>
            { t with io := { t.io with
              bank := updf t.io.bank k (fun x => { x with conf := x.conf || off == 0 || decide (0x100 ≤ off) }),
              pinConf := if 0x100 ≤ off then setBit t.io.pinConf (22 * k.val + (off - 0x100) / 4) true else t.io.pinConf } }
          | .str => modBond (fun x => { x with act := if 0x1100 ≤ off then x.next else x.act }) { t with arb := settleArb t.arb }
          | .irs => modIrs (fun r => { r with bond := { r.bond with act := if 0x1100 ≤ off then r.bond.next else r.bond.act } }) t
          | _ => t)
    | _ => none

/-- The writes of a TYPE 1 record in order. -/
def tableWrites : List (Nat × Word) → State → Option State
  | [], s => some s
  | (a, v) :: t, s => (tableWrite a v s).bind (tableWrites t)

/-! ### TYPE 2 (R40, R274) -/

/-- KIND of a net word. -/
def netKind (w : Word) : Nat := (field w 31 30).toNat

/-- A net word of the input list, or of the output list, is in range (R274). -/
def netOk (out : Bool) (w : Word) : Bool :=
  match netKind w with
  | 0 => field w 29 1 == 0
  | 1 => !out && field w 13 12 != 3 && field w 11 1 == 0
  | 2 => out && field w 13 12 == 0 && field w 11 1 == 0
  | _ => false

/-- The 256 net words from a place. -/
def netWords (pay : Mem) (a : Nat) : List (Nat × Word) := (List.range 256).map (fun n => (n, memWord pay (a + 4 * n)))

/-- The nets that the output taps of a list drive. -/
def drivenNets (l : List (Nat × Word)) : List (BitVec 18) :=
  (l.filter (fun e => netKind e.2 == 2)).map (fun e => field e.2 31 14)

/-- A tap map; output taps take their INIT values (R37, R40). -/
def tapMap (pay : Mem) (r : TableRec) (s : State) : Option State :=
  let n := memNat pay r.at_ 1
  let ins := netWords pay (r.at_ + 4)
  let outs := netWords pay (r.at_ + 1028)
  let others := (List.range 4).flatMap (fun j => match nth s.setters (n / 4 * 4 + j) with
    | some x => drivenNets x.tapOut
    | none => [])
  if h : n < 16 then
    if r.len = 2052 ∧ memNat pay (r.at_ + 1) 3 = 0 ∧ ins.all (fun e => netOk false e.2) ∧ outs.all (fun e => netOk true e.2)
      ∧ (drivenNets outs ++ others).Nodup then
      let init : BitVec 256 := outs.foldl (fun v e => setBit v e.1 (e.2.getLsbD 0)) 0
      some (s.modS ⟨n, h⟩ (fun x => { x with
        tapIn := ins.filter (fun e => netKind e.2 == 1), tapOut := outs.filter (fun e => e.2 != 0), obuf := init, olat := init }))
    else none
  else none

/-! ### TYPE 3 (R38, R59, R124, R274) -/

/-- A setter table; RUN follows the enable bit at the global release. -/
def setterTable (pay : Mem) (r : TableRec) (s : State) : Option State :=
  let n := memNat pay r.at_ 1
  let en := memNat pay (r.at_ + 1) 1
  let ctrl := memWord pay (r.at_ + 4)
  let fsrc := memWord pay (r.at_ + 8)
  let fper := memWord pay (r.at_ + 12)
  let ftb := memWord pay (r.at_ + 16)
  let perm := memNat pay (r.at_ + 20) 4
  if h : n < 16 then
    let y := { s.st ⟨n, h⟩ with
      enabled := en == 1, dbgfrz := ctrl.getLsbD 8, ovrtrap := ctrl.getLsbD 6, systrap := ctrl.getLsbD 5,
      ovrpol := ctrl.getLsbD 4, fen := ctrl.getLsbD 3, fsrc := fsrc, fperiod := fper, ftb := ftb, tabFsrc := fsrc, tabFper := fper, tabFtb := ftb,
      perm := BitVec.ofNat 6 perm }
    if r.len = 24 ∧ en < 2 ∧ memNat pay (r.at_ + 2) 2 = 0 ∧ ctrl &&& 0xFFFFFE87#32 = 0 ∧ fsrc.toNat < 128
      ∧ fper.toNat < 65536 ∧ perm < 64 ∧ !y.srcBad y.src then some (s.putS ⟨n, h⟩ y)
    else none
  else none

/-! ### TYPE 4 (R206, R212, R274) -/

/-- The queue and descriptor of a TYPE 4 record. -/
def queueRec (pay : Mem) (r : TableRec) : QueueId × Desc :=
  (BitVec.ofNat 16 (memNat pay r.at_ 2),
   ⟨memWord pay (r.at_ + 4), memWord pay (r.at_ + 8), memWord pay (r.at_ + 12), memWord pay (r.at_ + 16)⟩)

/-- No reserved bit, and HEAD, TAIL and SEQ 0. -/
def descClean (d : Desc) : Bool :=
  d.w0 &&& 0x1080003F#32 == 0 && d.w1 == 0 && d.w2 &&& 0xC000C000#32 == 0 && d.w3 &&& 0x00007FFF#32 == 0

/-- A queue: its descriptor, with the checks of R212. -/
def queueTable (pay : Mem) (r : TableRec) (s : State) : Option State :=
  let (q, d) := queueRec pay r
  if r.len = 20 ∧ memNat pay (r.at_ + 2) 2 = 0 ∧ 64 ≤ q.toNat ∧ descClean d ∧ descCheck q d s = 0 then some (putDesc q d s) else none

/-! ### TYPE 5 to 7 -/

/-- Live-cell owners (R141, R274); owner 0 is not listed. -/
def ownerTable (pay : Mem) (r : TableRec) (s : State) : Option State :=
  let b := memNat pay r.at_ 1
  let owners := (List.range 256).filterMap (fun c =>
    let o := BitVec.ofNat 2 (memNat pay (r.at_ + 4 + c / 4) 1 / 4 ^ (c % 4))
    if o = 0 then none else some (c, o))
  if r.len = 68 ∧ memNat pay (r.at_ + 1) 3 = 0 ∧ b < 64 then some (s.modBayN b (fun x => { x with own := owners })) else none

/-- An entry of a TYPE 7 record (R347). -/
def vaultEntry (pay : Mem) (a : Nat) : VaultEntry :=
  let w := memNat pay a 4
  ⟨w % 16, w / 16 % 16, memNat pay (a + 4) 4, memNat pay (a + 8) 4⟩

/-- An entry is in range (R347). -/
def vaultEntryOk (pay : Mem) (a : Nat) : Bool :=
  let e := vaultEntry pay a
  decide (memNat pay a 4 < 256) && decide (1 ≤ e.kind) && decide (e.kind ≤ 3) && e.addr % 16 == 0 && e.len % 16 == 0
    && decide (16 ≤ e.len) && decide (e.addr + e.len ≤ (if e.kind = 1 then 32768 else storeEnd))

/-- Bytes of the entries whose kind is in a list. -/
def vaultTotal (l : List VaultEntry) (kinds : List Nat) : Nat :=
  (l.filter (fun e => kinds.contains e.kind)).foldl (fun n e => n + e.len) 0

/-- The vault and brown-out sets (R347). -/
def vaultTable (pay : Mem) (r : TableRec) (s : State) : Option State :=
  let n := memNat pay r.at_ 4
  let l := (List.range n).map (fun k => vaultEntry pay (r.at_ + 4 + 12 * k))
  if n ≤ 16 ∧ r.len = 4 + 12 * n ∧ (List.range n).all (fun k => vaultEntryOk pay (r.at_ + 4 + 12 * k))
    ∧ vaultTotal l [1, 2] ≤ 16384 ∧ vaultTotal l [3] ≤ 32768 then some (modImg (fun i => { i with ventries := l }) s)
  else none

/-! ### All tables -/

/-- Apply one record. -/
def applyRecord (pay : Mem) (r : TableRec) (s : State) : Option State :=
  match r.type with
  | 1 => if r.len % 8 = 0 then tableWrites (writesOf pay r) s else none
  | 2 => tapMap pay r s
  | 3 => setterTable pay r s
  | 4 => queueTable pay r s
  | 5 => ownerTable pay r s
  | 6 => if r.len = 4 ∧ 10000 ≤ memNat pay r.at_ 4 ∧ memNat pay r.at_ 4 ≤ 50000 then some s else none
  | 7 => vaultTable pay r s
  | _ => none

/-- Apply records in order. -/
def applyRecords (pay : Mem) : List TableRec → State → Option State
  | [], s => some s
  | r :: t, s => (applyRecord pay r s).bind (applyRecords pay t)

/-- Clock settings (R168, R169): every even PLL enabled, valid and at 300 MHz on output 0; every other enabled PLL valid; no
reference that is not declared. -/
def clocksOk (c : Clk) : Bool :=
  (List.finRange 8).all (fun p =>
    let x := c.pll.get p
    (x.en || p.val % 2 == 1) && (!x.en || pllValid c.khz x) && (p.val % 2 == 1 || pll300 c.khz x) && !(x.src && c.khz.isNone))

/-- One pin's settings (R157 to R159, R161): no SAFE 3; TTL at 5.0 V in banks 0 to 3 only; DIFF in banks 4 and 5, on even pins, not
at 1.8 V. -/
def pinOk (io : Io) (p : Nat) : Bool :=
  match nth io.bank (p / 22) with
  | none => true
  | some b =>
    let w := pinWord io p
    let ignored := decide (88 ≤ p) && p % 2 == 1 && (pinWord io (p - 1)).getLsbD 23
    ignored || (field w 31 30 != 3 && (!w.getLsbD 18 || (b.vio == 3 && decide (p < 88)))
      && (!w.getLsbD 23 || (decide (88 ≤ p) && p % 2 == 0 && b.vio != 0)))

/-- The probe pin that the image names for an output of a wing lies in the wing's own bank or the serialiser bank that serves the wing
(R154). -/
def probePinOk (pay : Mem) (p : Nat) : Bool :=
  match Config.probePin pay p with
  | none => true
  | some (w, j) => decide (j < 16) && decide (w < 4) &&
      (if p < 88 then p / 22 == w else if p < 110 then decide (w < 2) else decide (2 ≤ w))

/-- I/O settings (R154, R157 to R161). What depends on the frames' routing is read by an uninterpreted function (log 12). -/
def pinsOk (pay : Mem) (io : Io) : Bool :=
  (List.range 132).all (fun p => !io.pinConf.getLsbD p || pinOk io p)
    && (List.finRange 6).all (fun k => !(io.bank.get k).conf ||
      ((decide (k.val < 4) || (io.bank.get k).vio != 3) && (decide (4 ≤ k.val) || !(io.bank.get k).serclk.getLsbD 4)))
    && (List.range 132).all (probePinOk pay) && Config.pinPathsOk pay ((List.range 132).map (pinWord io))

/-- A bond table passes validation (R201, R202). -/
def bondOk (lastOwner : Nat) (b : Bond) : Option Nat :=
  match validateBond lastOwner b.next with
  | .inl g => some g
  | .inr _ => none

/-- Region 0 of masters 16 and 18 stands as at reset (R187, R305). -/
def regionsKept (a : Arb) : Bool :=
  [16, 18].all (fun m => ((nth a.rbase m).map (·.get 0)) == some ((rbaseReset m).get 0)
    && ((nth a.rlim m).map (·.get 0)) == some ((rlimReset m).get 0))

/-- A refused write left a mark somewhere. -/
def refusedWrite (s : State) : Bool := s.arb.cfgerr || s.irs.kicfg || s.setters.toList.any (·.cfgerr)

/-- After the last record: the checks that look at everything, G of both bond tables, setters stopped at reset, queues waiting for
the global release to be enabled (R201, R274, R283). -/
def tablesEnd (pay : Mem) (s : State) : Option State :=
  match bondOk 29 s.arb.bond, bondOk 3 s.irs.bond with
  | some g, some k =>
    if clocksOk s.clk && pinsOk pay s.io && regionsKept s.arb && !refusedWrite s then
      some { s with
        arb := { s.arb with bond := { s.arb.bond with ag := BitVec.ofNat 7 g } },
        irs := { s.irs with bond := { s.irs.bond with ag := BitVec.ofNat 7 k } },
        setters := s.setters.map (fun x => { x with run := false, stopped := true, needSnap := true, skipBk := false }),
        hod := { s.hod with desc := s.hod.desc.map (fun e => if e.1 < 64 then e else (e.1, e.2.setEn false)) } }
    else none
  | _, _ => none

/-- The tables of a slot, applied to a machine just set back for a load; none is a format error. -/
def applyTables (x : Slot) (s : State) : Option State :=
  match tableRecords x with
  | none => none
  | some l =>
    if clockFirst x.payload l && noTwice x.payload l then
      let s1 := { s with clk := { s.clk with khz := declaredKhz x.payload l } }
      (applyRecords x.payload l s1).bind (tablesEnd x.payload)
    else none

/-- The queues that the tables enable at the global release (R274). -/
def enabledQueues (x : Slot) : List QueueId :=
  ((tableRecords x).getD []).filterMap (fun r =>
    if r.type = 4 ∧ (queueRec x.payload r).2.en then some (queueRec x.payload r).1 else none)

/-- A register of the plinth, power or self-test block, whose reset value a load does not restore by itself. -/
def lateReg (a : Nat) : Option (Block × Nat) :=
  match placeOf a with
  | .reg .pln off => some (.pln, off)
  | .reg .pwr off => some (.pwr, off)
  | .reg .bst off => some (.bst, off)
  | _ => none

/-- The writes of a TYPE 1 record that come before its first format error. -/
def goodWrites : List (Nat × Word) → State → List Nat
  | [], _ => []
  | (a, v) :: t, s =>
    match tableWrite a v s with
    | some u => a :: goodWrites t u
    | none => []

/-- The addresses that records write until the first of them fails. -/
def writtenBy (pay : Mem) : List TableRec → State → List Nat
  | [], _ => []
  | r :: t, s =>
    match applyRecord pay r s with
    | some u => (if r.type = 1 then (writesOf pay r).map Prod.fst else []) ++ writtenBy pay t u
    | none => if r.type = 1 ∧ r.len % 8 = 0 then goodWrites (writesOf pay r) s else []

/-- The addresses that an attempt which failed with this cause had written: none before its tables, those up to a format error, else
all of them (R286, R287). -/
def writtenIn (x : Slot) (cause : Nat) (s : State) : List Nat :=
  match tableRecords x with
  | none => []
  | some l =>
    if cause ≤ 4 then []
    else if cause = 5 ∧ !(clockFirst x.payload l && noTwice x.payload l) then []
    else writtenBy x.payload l { s with clk := { s.clk with khz := declaredKhz x.payload l } }

/-- What a failed attempt wrote of the plinth's, power and self-test registers returns to reset (R287). -/
def undoWrites (x : Slot) (cause : Nat) (s : State) : State :=
  ((writtenIn x cause s).filterMap lateReg).foldl (fun t w =>
    match blockRead w.1 w.2 none State.reset with
    | some (v, _) => (blockWrite 16 w.1 w.2 v (freeEnv t) t).getD t
    | none => t) s

end Sys2Proof.Machine
end

