-- ==== Sys2Proof/Machine/Load.lean ====
section
/-! DEFINITION. Loading an image (R280 to R289): the boot's candidates, the state of every block during a load, an attempt, its
failure, the global release (R158, R284), and the background digest (R285). -/

namespace Sys2Proof.Machine

/-! ### The device during a load (R230, R283, R287) -/

/-- IRS during a load: registers at reset, CHEN as the boot source has it (R247); address, hop delay and time stay (R258), and so
does what is on the ring while the bypass stays open. -/
def loadIrs (chain : Bool) (r : Irs) : Irs :=
  { (if chain then r else { Irs.reset with addr := r.addr, addrv := r.addrv, hop := r.hop, time := r.time,
                                           inlock := r.inlock }) with
    chen := chain, head := false, autoenum := false, ken := false, kicfg := false, bprun := false, ki := 100, keyEff := 100,
    tbper := 0, bond := Bond.reset, crank := 0, rx := Vector.replicate 16 0, tx := Vector.replicate 16 TxStream.reset }

/-- The clock block during a load: wing PLLs off, no reference declared; the device PLLs and the trim stay. -/
def loadClk (c : Clk) : Clk :=
  { c with refok := false, refctl := 0, goodWin := 0, khz := none,
           pll := Vector.ofFn (fun p : Fin 8 => Pll.reset (p.val % 2 == 0)) }

/-- Every block that a full load sets up is at reset (R283), RW-L fields are unlocked (R8), and the firmware sets queues 0 to 3 up
again (R206). A load ends a power state and a self-test slice, and cancels a swap (log 20). -/
def loadReset (s : State) : State :=
  let s1 := cutSlice s
  let s2 : State := { s1 with
    setters := Vector.replicate 16 Setter.reset
    bays := Vector.replicate 64 Bay.reset
    io := keepIo s1.io
    clk := loadClk s1.clk
    store := { Store.reset with mem := s1.store.mem, err := s1.store.err, epoch := s1.store.epoch }
    arb := Arb.reset
    hod := Hod.reset
    irs := loadIrs (field s1.img.mode 1 0 == 2) s1.irs
    glb := State.reset.glb
    evt := { s1.evt with route := [], note := [] }
    rpt := Vector.replicate 4 Rpt.reset
    rptHb := 100
    rstout := true
    stalled := []
    tap := { s1.tap with selW := [] }
    hst := { s1.hst with frames := s1.hst.frames.map (fun f => { f with asked := false }) }
    pwr := { s1.pwr with state := 0, inflight := false, target := 0, reached := 0, waking := false, caller := none, begun := [],
                         recs := Vector.replicate 16 none }
    pln := { s1.pln with qdrop := false, posts := [] }
    img := { s1.img with hold := true, locked := false, load := none, swap := none, ventries := [], digest := 0 } }
  if s2.pln.ready then setupQueues s2 else s2

/-- A full load begins, with its candidates in order (R280, R283). -/
def beginLoad (cands : List (BitVec 2)) (s : State) : State :=
  modImg (fun i => { i with cands := cands, failed := 0, fallback := false, stream := i.stream.filter (fun x => !x.boot) }) (loadReset s)

/-- No candidate is left: the no-image state (R288). -/
def noImage (s : State) : State := { modImg (fun i => { i with noimage := true, cands := [] }) s with rstout := true, faultn := true }

/-- An attempt fails (R286, R287): its cause is kept and logged, what it wrote returns to reset, and the next candidate follows. -/
def failAttempt (slot : Nat) (cause bay frame : Nat) (s : State) : State :=
  let s1 := undoWrites (slotOf s.img slot) cause (loadReset s)
  let s2 := modImg (fun i => { i with cands := i.cands.drop 1 }) (loadFailed slot cause bay frame s1)
  if s2.img.cands.isEmpty then noImage s2 else s2

/-! ### Boot (R280, R281) -/

/-- Candidates without a second slot 0. -/
def thenZero (k : BitVec 2) : List (BitVec 2) := if k = 0 then [0] else [k, 0]

/-- The boot starts afresh (R280): internal slots, a copy into EXTSLOT and then EXTSLOT, or none until a JTAG instruction. -/
def startBoot (s : State) : State :=
  let i := s.img
  match (field i.mode 1 0).toNat with
  | 0 => beginLoad (thenZero (if i.trial ≠ 0 then i.trial else i.primary)) s
  | 1 => openStream .cfg .queue i.extslot.toNat true (beginLoad (thenZero i.extslot) { s with img := { i with stream := none } })
  | 2 => openStream .chain .queue i.extslot.toNat true (beginLoad (thenZero i.extslot) { s with img := { i with stream := none } })
  | _ => beginLoad [] s

/-- The code of a start in the log (R326). -/
def causeCode : StartCause → Nat
  | .powerOn => 1
  | .porst => 2
  | .brownout => 3

/-- BOOT_START (R280, R349 stage 3, R380): the straps are sampled, and read 0 without VIO4, the plinth starts and the boot begins. FAULT_N stays low until the
plinth is ready. -/
def execBootStart (mode : BitVec 3) (cause : StartCause) (st : State) : Host.Outcome State Fault Refusal :=
  .next (if st.pwr.stage != .core then st else
    let mode := if vio4 st then mode else 0
    let s1 : State := { st with
      pwr := { st.pwr with stage := .run, on := true }
      img := { st.img with mode := mode }
      pln := { st.pln with bootcnt := st.pln.bootcnt + 1, i2caddr := BitVec.ofNat 7 (0x58 + mode.toNat) }
      faultn := true }
    let s2 := logRec 0x0001 0 noSource (valAt 0 (causeCode cause)) mmark s1
    let s3 := if cause = .brownout then logRec 0x0031 2 noSource (st.pwr.vsup.setWidth 32) 0 s2 else s2
    startBoot s3)

/-! ### An attempt (R282, R286) -/

/-- Step 1: the slot's state and manifest header; a cause. -/
def headerCause (i : Img) (x : Slot) : Option Nat :=
  if x.state ≠ 2 then some 3
  else if x.manErr || !magicOk x.manifest 1 || !flagsOk x.manifest then some 1
  else if !targetOk x.manifest then some 2
  else if !keyPass i x.manifest then some 4
  else none

/-- A bay as its frames leave it: flip-flops at INIT, block memories and masks from the image (R164, R272). -/
def loadBay (x : Slot) (b : Nat) (y : Bay) : Bay := { y with bram := imageBram x b, lmask := imageMasks x b }

/-- Frames and setter memories (R282 steps 4 and 5). -/
def loadMemories (x : Slot) (s : State) : State :=
  { s with
    bays := Vector.ofFn (fun b : Fin 64 => loadBay x b.val (s.bays.get b))
    setters := Vector.ofFn (fun i : Fin 16 => { s.setters.get i with
      prog := imageProg x i.val, data := imageData x i.val, dbgwr := fDbgwr x.manifest }) }

/-- The moment in a load attempt, in ns, when a cause stands in frame f, 7 at its re-read 40 ns after the read, and when word w of the
setter areas is read (R282, R286). -/
def frameTime (cause f : Nat) : Nat := 10000 + 40 * (f + if cause = 7 then 2 else 1)
def areaTime (w : Nat) : Nat := 10000 + 100000 * w / 24576

/-- The first failure of steps 4 and 5, which run alongside one another (R282, R286): a frame, or an unreadable word of the setter
areas; cause, bay, frame. -/
def memoryCause (x : Slot) : Option (Nat × Nat × Nat) :=
  match badFrame x (List.range 64), x.areaErr with
  | some (c, b, f), some w => if areaTime (w % 24576) < frameTime c f then some (13, 0, 0) else some (c, b, f)
  | some r, none => some r
  | none, some _ => some (13, 0, 0)
  | none, none => none

/-- Steps 1 to 5: the cause of the first failure with its bay and frame, or the loaded machine. -/
def attempt (x : Slot) (s : State) : (Nat × Nat × Nat) ⊕ State :=
  match headerCause s.img x with
  | some c => .inl (c, 0, 0)
  | none =>
    match applyTables x s with
    | none => .inl (5, 0, 0)
    | some t =>
      match memoryCause x with
      | some r => .inl r
      | none => .inr (loadMemories x t)

/-- An attempt can start on a slot: the device started, no attempt in progress, its turn, no copy awaited. -/
def mayAttempt (slot : BitVec 2) (s : State) : Bool :=
  s.pwr.stage == .run && s.pwr.state != 3 && s.img.hold && s.img.load.isNone && s.img.cands.head? == some slot
    && !(match s.img.stream with
      | some x => x.boot
      | none => false)

/-- The trial slot is cleared as its attempt begins; the boot selection has changed, which is logged (R280, R326). -/
def clearTrial (slot : BitVec 2) (s : State) : State :=
  if field s.img.mode 1 0 = 0 ∧ s.img.trial ≠ 0 ∧ s.img.trial = slot then
    let t := modImg (fun i => { i with trial := 0 }) s
    logRec 0x0014 0 noSource (bootWord t.img) 0 t
  else s

/-- LOAD_ATTEMPT (R280, R282, R286). -/
def execLoadAttempt (slot : BitVec 2) (st : State) : Host.Outcome State Fault Refusal :=
  .next (if !mayAttempt slot st then st else
    let s1 := clearTrial slot (modImg (fun i => { i with load := some slot }) (loadReset st))
    match attempt (slotOf s1.img slot.toNat) s1 with
    | .inl (c, b, f) => failAttempt slot.toNat c b f s1
    | .inr t => t)

/-- LOAD_LOCK_TIMEOUT (R177, R286): of a PLL that the image enables, as it must every PLL 0 (R169). -/
def execLoadLockTimeout (p : PllId) (st : State) : Host.Outcome State Fault Refusal :=
  .next (match st.img.load with
    | none => st
    | some slot =>
      let x := st.clk.pll.get p
      if (x.en || p.val % 2 == 0) && !x.lock then failAttempt slot.toNat 8 0 0 st else st)

/-! ### The global release (R158, R284, R287) -/

/-- Every enabled wing PLL is locked and its enabled outputs have started (R177); every PLL 0 is enabled (R169). -/
def pllsReady (c : Clk) : Bool :=
  (List.range 4).all (fun w => ((nth c.pll (2 * w)).map Pll.en).getD false) && c.pll.toList.all (fun x => !x.en || (x.lock && (List.range 4).all (fun o => !x.oen o || x.outs.getLsbD o)))

/-- A bank at the global release (R158). -/
def bankRelease (b : IoBank) : IoBank :=
  if b.conf then (if b.band = some b.vio then { b with inEffect := true } else { b with vioerr := true }) else b

/-- Banks whose comparison failed are logged (R326). -/
def logBanks (s : State) : State :=
  (List.finRange 6).foldl (fun t k =>
    let b := t.io.bank.get k
    if b.vioerr then logRec 0x0023 2 noSource (valAt 0 k.val) (valAt 0 (b.band.getD 0).toNat) t else t) s

/-- Enabled setters start, each with its initial snapshot (R38). -/
def startEnabled (nets : List (BitVec 256)) (s : State) : State :=
  (List.finRange 16).foldl (fun t i =>
    let u := t.modS i (fun x => x.seeTb t.irs.tbvalid)
    if (t.st i).enabled then startSetter i (sampleTaps i (nets.getD i.val 0) s) true u else u) s

/-- The image's queues are enabled (R274). -/
def enableQueues (x : Slot) (s : State) : State :=
  (enabledQueues x).foldl (fun t q => putDesc q ((descOf t q).setEn true) t) s

/-- The global release of a slot (R284). What the tables wrote is in effect by then: arbiter settings (R189, R194, R197), and every
regional clock on its line (R150). -/
def releaseAll (slot : BitVec 2) (nets : List (BitVec 256)) (s : State) : State :=
  let x := slotOf s.img slot.toNat
  let m := x.manifest
  let bad := decide (0 < s.img.failed)
  let s1 : State := { s with
    img := { s.img with load := none, cands := [], hold := false, locked := true, everRel := true, noimage := false,
                        fallback := bad, digest := if fStrict m then 1 else 0, strict := fStrict m,
                        mismatch := fMismatch m, dbgwr := fDbgwr m, bootslot := slot, tableid := mTableid m,
                        bayslot := Vector.replicate 64 slot, setslot := Vector.replicate 16 slot, iopay := x.payload }
    arb := settleArb s.arb
    bays := s.bays.map (fun b => { b with
      rstSrc := b.rstSrc.map (fun w => setBit w 0 false), rclk := b.rclk.map RClk.released })
    io := { s.io with bank := s.io.bank.map bankRelease }
    rpt := s.rpt.map rptRelease
    rstout := false
    faultn := !s.pln.ready }
  let s2 := startEnabled nets (enableQueues x (logBanks s1))
  let s3 := logRec 0x0002 (if bad then 1 else 0) (if bad then 609 else noSource) (valAt 0 slot.toNat) (imgStatus s2.img) s2
  raiseIf s.pwr.bor 554 (raiseIf bad 609 s3)

/-- GLOBAL_RELEASE (R206, R282 steps 6 and 7, R284): once the PLLs are ready and queues 0 to 3 are set up again, unless no
firmware runs. -/
def execGlobalRelease (nets : List (BitVec 256)) (st : State) : Host.Outcome State Fault Refusal :=
  .next (match st.img.load with
    | none => st
    | some slot =>
      let x := slotOf st.img slot.toNat
      if !pllsReady st.clk || !(st.pln.ready || st.pln.romonly) then st
      else if fStrict x.manifest && !digestOk x then failAttempt slot.toNat 9 0 0 st
      else releaseAll slot nets st)

/-! ### The background digest (R285) -/

/-- BACKGROUND_DIGEST_DONE (R285, R326): of the slot last fully loaded, under FAST. A load it starts logs cause 12 first. -/
def execBackgroundDigestDone (st : State) : Host.Outcome State Fault Refusal :=
  .next (if st.img.hold || st.img.digest != 0 || st.img.strict || st.pwr.state == 3 || st.pwr.stage != .run then st else
    let slot := st.img.bootslot
    if digestOk (slotOf st.img slot.toNat) then modImg (fun i => { i with digest := 1 }) st
    else
      let s1 := logRec 0x0004 2 608 (valAt 0 slot.toNat) 0
        (invalidate slot.toNat (raise 608 (modImg (fun i => { i with digest := 2 }) st)))
      if s1.img.mismatch && slot != 0 then loadFailed slot.toNat 12 0 0 (beginLoad [0] s1) else s1)

end Sys2Proof.Machine
end

