-- ==== Sys2Proof/Machine/Jtag.lean ====
section
/-! DEFINITION. The test access port (R370 to R377): an instruction is selected, and one scan of its register captures and updates. -/

namespace Sys2Proof.Machine

/-- Change the port. -/
def modTap (f : Tap → Tap) (s : State) : State := { s with tap := f s.tap }

/-- The port works: the AO domain on and its balls powered (R370, R380). -/
def jtagOn (s : State) : Bool := vio4 s && s.pwr.stage != .off

/-- TAP_RESET (R370). -/
def execTapReset (st : State) : Host.Outcome State Fault Refusal :=
  .next (modTap (fun t => { t with ir := 2 }) (latchKeepers st).usedFree)

/-- What Capture-IR loads: 01, READY, NOIMAGE (R370). -/
def irCapture (s : State) : BitVec 8 := BitVec.ofNat 8 (1 + 4 * s.pln.ready.toNat + 8 * s.img.noimage.toNat)

/-- An instruction is selected, with what its register captures; pins may change hands, and keepers hold what stood there (R373, R388). -/
def scan (ir : Nat) (cap : BitVec 512) (f : Tap → Tap) (s : State) : State :=
  if jtagOn s then
    modTap (fun t => f { t with ir := BitVec.ofNat 8 ir, dr := cap, irOut := irCapture s }) (latchKeepers s).usedFree
  else s

/-- An instruction whose register is the boundary register: it captures the balls as they stand under that instruction, then its update
stage is loaded (R371, R372). -/
def boundary (ir : Nat) (upd seen : BitVec 441) (s : State) : State :=
  let cap := seenBalls (modTap (fun t => { t with ir := BitVec.ofNat 8 ir }) s) seen
  scan ir (cap.setWidth 512) (fun t => { t with upd := upd, cap := cap }) s

/-- EXTEST (R371, R373). -/
def execExtest (upd seen : BitVec 441) (st : State) : Host.Outcome State Fault Refusal :=
  .next (boundary 0x00 upd seen st)
/-- SAMPLE_PRELOAD (R371). -/
def execSamplePreload (upd seen : BitVec 441) (st : State) : Host.Outcome State Fault Refusal :=
  .next (boundary 0x01 upd seen st)

/-- The identification code (R371). -/
def idCode : Word := (Config.minor.setWidth 32 <<< 28) ||| 0x057095AB#32

/-- IDCODE (R371). -/
def execIdcode (st : State) : Host.Outcome State Fault Refusal := .next (scan 0x02 (idCode.setWidth 512) id st)
/-- CLAMP (R373). -/
def execClamp (st : State) : Host.Outcome State Fault Refusal := .next (scan 0x03 0 id st)
/-- HIGHZ (R373). -/
def execHighz (st : State) : Host.Outcome State Fault Refusal := .next (scan 0x04 0 id st)
/-- BYPASS (R371). -/
def execBypass (st : State) : Host.Outcome State Fault Refusal := .next (scan 0xFF 0 id st)

/-! ### Private instructions (R374 to R377) -/

/-- The plinth's domain is on and READY is 1 (R374). -/
def privateOn (s : State) : Bool := s.pln.ready && s.pwr.on

/-- A private instruction: its register captures, then its update acts; without READY it captures 0 and does nothing. -/
def privScan (ir : Nat) (cap : BitVec 512) (act : State → State) (s : State) : State :=
  if !jtagOn s then s
  else if privateOn s then act (scan ir cap id s)
  else scan ir 0 id s

/-- ZIMGCTL as captured (R374): BUSY while a stream is in progress, ROOM as the engine keeps up (R375), REFUSED, RESULT. -/
def zimgWord (s : State) : Word :=
  flagAt 31 s.img.stream.isSome ||| flagAt 30 true ||| flagAt 27 s.tap.refused ||| valAt 20 s.img.wrResult.toNat

/-- OPEN (R375): refused while IMGEN is 0, while another stream is in progress, and for a slot that does not exist. -/
def openJtag (slot : BitVec 2) (s : State) : State :=
  if !s.bst.imgen || s.img.stream.isSome || slot == 3 then modTap (fun t => { t with refused := true }) s
  else openStream .jtag .queue slot.toNat false (modTap (fun t => { t with refused := false }) s)

/-- ABORT closes the JTAG stream (R315, R374). -/
def abortJtag (s : State) : State := if (streamFrom .jtag s).isSome then endStream 7 s else s

/-- ZIMGCTL_OPEN (R374, R375): OPEN, else ABORT where its bit stands (log 19). -/
def execZimgctlOpen (v : Word) (st : State) : Host.Outcome State Fault Refusal :=
  .next (privScan 0x20 ((zimgWord st).setWidth 512) (fun s =>
    if v.getLsbD 31 then openJtag (field v 1 0) s else if v.getLsbD 30 then abortJtag s else s) st)

/-- ZIMGCTL_ABORT (R374). -/
def execZimgctlAbort (st : State) : Host.Outcome State Fault Refusal :=
  .next (privScan 0x20 ((zimgWord st).setWidth 512) abortJtag st)

/-- ZIMGDATA (R374): four bytes, [7:0] first. -/
def execZimgdata (v : Word) (st : State) : Host.Outcome State Fault Refusal :=
  .next (privScan 0x21 ((zimgWord st).setWidth 512) (fun s =>
    if (streamFrom .jtag s).isSome then engineBytes (leBytes 4 v.toNat) s else s) st)

/-- ZBOOT as captured (R374). -/
def zbootWord (i : Img) : Word :=
  flagAt 7 (i.load.isSome || !i.cands.isEmpty) ||| flagAt 6 i.noimage ||| valAt 0 i.bootslot.toNat

/-- ZBOOT (R288, R375): GO loads the named slot under MODE1:0 = 3, with slot 0 next; it does not end the no-image state. -/
def execZboot (v : Byte) (st : State) : Host.Outcome State Fault Refusal :=
  .next (privScan 0x22 ((zbootWord st.img).setWidth 512) (fun s =>
    if v.getLsbD 7 && field s.img.mode 1 0 == 3 && field v 1 0 != 3 && !s.img.noimage then beginLoad (thenZero (field v 1 0)) s else s) st)

/-- A selection writes BAY_PROBEn as a control-space write does, for no master; one to a gated bay waits for its wake (R343, R377). -/
def selectProbe (v : Word) (s : State) : State :=
  let s1 := modTap (fun t => { t with probe := v }) s
  if asleep (.bay (selBay v)) s then startWake (.bay (selBay v)) (modTap (fun t => { t with selW := t.selW ++ [v] }) s1)
  else putProbe v s1

/-- ZPROBESEL (R374, R376, R377). -/
def execZprobesel (v : Word) (st : State) : Host.Outcome State Fault Refusal :=
  .next (privScan 0x30 (if st.bst.probeen then st.tap.probe.setWidth 512 else 0) (fun s =>
    if s.bst.probeen && field v 20 12 == 0 then selectProbe v s else s) st)

/-- Lines of bays that run, with their EN set (R153, R376). -/
def probeMask (s : State) : BitVec 512 :=
  (List.finRange 64).foldl (fun m b => (List.finRange 8).foldl (fun m n =>
    setBit m (8 * b.val + n.val) ((s.bay b).runs && s.pwr.on && ((s.bay b).probe.get n).getLsbD 31)) m) 0

/-- ZPROBECAP (R374, R376). -/
def execZprobecap (lines : BitVec 512) (st : State) : Host.Outcome State Fault Refusal :=
  .next (privScan 0x31 (if st.bst.probeen then lines &&& probeMask st else 0) id st)

end Sys2Proof.Machine
end

