-- ==== Sys2Proof/Machine/LocalMem.lean ====
section
/-! DEFINITION. Opcode 0x0A: local loads and stores, with the data memory's ECC (R36, R66, R93, R94). -/

namespace Sys2Proof.Machine

/-- A local load of n bytes, widened by f. Checks in order: range, alignment, ECC (R93, R94). -/
def localLoad (s : SetterId) (d a : Reg) (off : BitVec 14) (n : Nat) (f : Nat → Word) (st : State) : State :=
  issue s [a] false (fun st =>
    let x := st.st s
    let ea := effAddr (x.reg a) off
    if 0x8000 ≤ ea.toNat then .trap st 2 0 ea
    else if !aligned ea n then .trap st 3 0 ea
    else
      let y := (x.setReg d (f (memNat x.data ea.toNat n))).adv
      match kvGet x.dataErr (ea.toNat / 4) with
      | some .double => .trap st 4 1 ea
      | some .single =>
        .done (raise (srcOf s 3) (st.putS s { y with dataErr := kvDel (ea.toNat / 4) x.dataErr })) 1 (some d) false
      | none => .done (st.putS s y) 1 (some d) false) st

/-- A local store of gd's n low bytes. A part of a word merges into it, so an uncorrectable word stops the store; a whole
word gets fresh ECC (R93, R94). -/
def localStore (s : SetterId) (d a : Reg) (off : BitVec 14) (n : Nat) (st : State) : State :=
  issue s [a, d] false (fun st =>
    let x := st.st s
    let ea := effAddr (x.reg a) off
    if 0x8000 ≤ ea.toNat then .trap st 2 0 ea
    else if !aligned ea n then .trap st 3 0 ea
    else
      let y := { x with data := memWrite x.data ea.toNat (leBytes n (x.reg d).toNat),
                        dataErr := kvDel (ea.toNat / 4) x.dataErr }.adv
      match (if n = 4 then none else kvGet x.dataErr (ea.toNat / 4)) with
      | some .double => .trap st 4 1 ea
      | some .single => .done (raise (srcOf s 3) (st.putS s y)) 1 none false
      | none => .done (st.putS s y) 1 none false) st

/-- A halfword or byte sign-extended. -/
def sextLoad (bits v : Nat) : Word := (BitVec.ofNat bits v).signExtend 32

/-- LD (R93). -/
def execLd (s : SetterId) (d a : Reg) (off : BitVec 14) (st : State) : Host.Outcome State Fault Refusal :=
  .next (localLoad s d a off 4 (BitVec.ofNat 32) st)
/-- LDH (R93). -/
def execLdh (s : SetterId) (d a : Reg) (off : BitVec 14) (st : State) : Host.Outcome State Fault Refusal :=
  .next (localLoad s d a off 2 (sextLoad 16) st)
/-- LDHU (R93). -/
def execLdhu (s : SetterId) (d a : Reg) (off : BitVec 14) (st : State) : Host.Outcome State Fault Refusal :=
  .next (localLoad s d a off 2 (BitVec.ofNat 32) st)
/-- LDB (R93). -/
def execLdb (s : SetterId) (d a : Reg) (off : BitVec 14) (st : State) : Host.Outcome State Fault Refusal :=
  .next (localLoad s d a off 1 (sextLoad 8) st)
/-- LDBU (R93). -/
def execLdbu (s : SetterId) (d a : Reg) (off : BitVec 14) (st : State) : Host.Outcome State Fault Refusal :=
  .next (localLoad s d a off 1 (BitVec.ofNat 32) st)
/-- ST (R93). -/
def execSt (s : SetterId) (d a : Reg) (off : BitVec 14) (st : State) : Host.Outcome State Fault Refusal :=
  .next (localStore s d a off 4 st)
/-- STH (R93, R94). -/
def execSth (s : SetterId) (d a : Reg) (off : BitVec 14) (st : State) : Host.Outcome State Fault Refusal :=
  .next (localStore s d a off 2 st)
/-- STB (R93, R94). -/
def execStb (s : SetterId) (d a : Reg) (off : BitVec 14) (st : State) : Host.Outcome State Fault Refusal :=
  .next (localStore s d a off 1 st)

end Sys2Proof.Machine
end

