-- ==== Sys2Proof/Machine/Mult.lean ====
section
/-! DEFINITION. Opcode 0x09: the multiplier and the accumulator (R91, R92). Function [13:5] is the operand `hi`. -/

namespace Sys2Proof.Machine

/-- A product written to gd; the next instruction that reads gd waits 1 setter cycle (R78, R91). -/
def mulOp (s : SetterId) (r : Regs) (hi : BitVec 9) (f : Word → Word → Word) (st : State) : State :=
  issue s [r.a, r.b] false (needZero (hi == 0) (fun st =>
    .done (st.modS s (fun x => (x.setReg r.d (f (x.reg r.a) (x.reg r.b))).adv)) 1 (some r.d) false)) st

/-- High 32 bits of the signed product (R91). -/
def mulhRes (a b : Word) : Word := (BitVec.ofInt 64 (a.toInt * b.toInt)).extractLsb' 32 32
/-- High 32 bits of the unsigned product (R91). -/
def mulhuRes (a b : Word) : Word := (BitVec.ofNat 64 (a.toNat * b.toNat)).extractLsb' 32 32

/-- The exact sum of MAC and MACS (R91). -/
def macSum (acc : BitVec 64) (a b : Word) : Int := acc.toInt + a.toInt * b.toInt
/-- Whether a sum leaves the signed 64-bit range. -/
def ovf64 (v : Int) : Bool := decide (v < -2 ^ 63) || decide (2 ^ 63 ≤ v)
/-- ACC after MAC: modulo 2^64 (R91). -/
def macRes (v : Int) : BitVec 64 := BitVec.ofInt 64 v
/-- ACC after MACS: saturated (R91). -/
def macsRes (v : Int) : BitVec 64 := BitVec.ofInt 64 (clampInt v (-2 ^ 63) (2 ^ 63 - 1))

/-- MAC or MACS: ACC and V; field d must be 0. -/
def macOp (s : SetterId) (r : Regs) (hi : BitVec 9) (f : Int → BitVec 64) (st : State) : State :=
  issue s [r.a, r.b] false (needZero (hi == 0 && r.d == 0) (fun st =>
    .done (st.modS s (fun x =>
      let v := macSum x.acc (x.reg r.a) (x.reg r.b)
      { x.adv with acc := f v, flags := { x.flags with v := ovf64 v } })) 1 none true)) st

/-- The value of ACCRD before it is narrowed (R92). -/
def accShift (acc : BitVec 64) (sh : Nat) (rnd : Bool) : Int :=
  (acc.toInt + (if rnd && decide (0 < sh) then 2 ^ (sh - 1) else 0)) / 2 ^ sh

/-- It fits 32 bits (R92). -/
def accFits (v : Int) : Bool := decide (-2 ^ 31 ≤ v) && decide (v ≤ 2 ^ 31 - 1)

/-- The result of ACCRD (R92). -/
def accRes (v : Int) (sat : Bool) : Word :=
  if sat && !accFits v then (if v < 0 then 0x80000000#32 else 0x7FFFFFFF#32) else BitVec.ofInt 32 v

/-- MUL (R91). -/
def execMul (s : SetterId) (r : Regs) (hi : BitVec 9) (st : State) : Host.Outcome State Fault Refusal :=
  .next (mulOp s r hi (fun a b => a * b) st)
/-- MULH (R91). -/
def execMulh (s : SetterId) (r : Regs) (hi : BitVec 9) (st : State) : Host.Outcome State Fault Refusal :=
  .next (mulOp s r hi mulhRes st)
/-- MULHU (R91). -/
def execMulhu (s : SetterId) (r : Regs) (hi : BitVec 9) (st : State) : Host.Outcome State Fault Refusal :=
  .next (mulOp s r hi mulhuRes st)
/-- MAC (R91). -/
def execMac (s : SetterId) (r : Regs) (hi : BitVec 9) (st : State) : Host.Outcome State Fault Refusal :=
  .next (macOp s r hi macRes st)
/-- MACS (R91). -/
def execMacs (s : SetterId) (r : Regs) (hi : BitVec 9) (st : State) : Host.Outcome State Fault Refusal :=
  .next (macOp s r hi macsRes st)
/-- ACCRD (R92): sh in hi[5:0], RND hi[6], SAT hi[7], hi[8] must be 0. -/
def execAccrd (s : SetterId) (r : Regs) (hi : BitVec 9) (st : State) : Host.Outcome State Fault Refusal :=
  .next (issue s [] true (needZero (!hi.getLsbD 8 && r.a == 0 && r.b == 0) (local1 s (fun x =>
    let v := accShift x.acc (field hi 5 0).toNat (hi.getLsbD 6)
    x.alu r.d (accRes v (hi.getLsbD 7), { setZN x.flags (accRes v (hi.getLsbD 7)) with v := !accFits v })))) st)
/-- ACCLD (R91). -/
def execAccld (s : SetterId) (r : Regs) (hi : BitVec 9) (st : State) : Host.Outcome State Fault Refusal :=
  .next (issue s [r.a, r.b] false (needZero (hi == 0 && r.d == 0)
    (local1 s (fun x => { x with acc := x.reg r.b ++ x.reg r.a }))) st)
/-- ACCCLR (R91). -/
def execAccclr (s : SetterId) (r : Regs) (hi : BitVec 9) (st : State) : Host.Outcome State Fault Refusal :=
  .next (issue s [] false (needZero (hi == 0 && r.d == 0 && r.a == 0 && r.b == 0)
    (local1 s (fun x => { x with acc := 0 }))) st)

end Sys2Proof.Machine
end

