-- ==== Sys2Proof/Machine/Swap.lean ====
section
/-! DEFINITION. The background swap (R128, R290 to R294): its request, the swap release of the named bays, the transfer of setter
programs into the shadow banks, and its end. -/

namespace Sys2Proof.Machine

/-- Change the swap in progress. -/
def modSwap (f : Swap → Swap) (s : State) : State := modImg (fun i => { i with swap := i.swap.map f }) s

/-- Put a bay's active slot. -/
def putBaySlot (b : BayId) (k : BitVec 2) (s : State) : State := modImg (fun i => { i with bayslot := upd i.bayslot b k }) s

/-- The slot can be swapped in (R290): VALID, its key and SVN pass, its tables are those of the slot last fully loaded. -/
def swapSlotOk (i : Img) (slot : Nat) : Bool :=
  let x := slotOf i slot
  x.state == 2 && keyPass i x.manifest && mTableid x.manifest == i.tableid

/-- A named bay or setter under self-test isolation (R290, R366). -/
def swapBusy (s : State) (bays : BitVec 64) (setters : BitVec 16) : Bool :=
  (List.finRange 64).any (fun b => bays.getLsbD b.val && (s.bay b).isol)
    || (List.finRange 16).any (fun i => setters.getLsbD i.val && ((s.st i).isol || (s.st i).testW))

/-- The hold begins in a named bay; the slot of one that is gated changes at once (R291, R294). -/
def swapBay (slot : BitVec 2) (b : BayId) (s : State) : State :=
  if (s.bay b).gated then putBaySlot b slot s else enterHold b (fun x => { x with held := true }) s

/-- The swap that a request begins. With no bay named, nothing is left to release. -/
def newSwap (slot : BitVec 2) (bays : BitVec 64) (setters : BitVec 16) (reload : Bool) (s : State) : Swap :=
  ⟨slot, bays, setters, reload, s.img.bayslot, false, bays == 0, setters, 1, 0⟩

/-- A request for a swap, with its must-be-zero bits judged by the caller (R128, R290): its code and the state. Before
the release of a load no slot is usable (log 16); the order is R124's. -/
def askSwap (slot : Nat) (bays : BitVec 64) (setters : BitVec 16) (reload zeros : Bool) (s : State) : Nat × State :=
  if 2 < slot || (bays == 0 && setters == 0) || !zeros then (2, s)
  else if swapBusy s bays setters then (4, s)
  else if s.img.hold || !swapSlotOk s.img slot then (5, s)
  else if s.img.swap.isSome then (6, s)
  else
    let k := BitVec.ofNat 2 slot
    let w := newSwap k bays setters reload s
    (0, eachBay bays (swapBay k) (modImg (fun i => { i with swap := some w, swSlot := k }) s))

/-- The request of SYS SWAP and of the plinth's SWAP: their four words (R126, R314). -/
def askSwapWords (w1 w2 w3 w4 : Word) (s : State) : Nat × State :=
  askSwap w1.toNat (w3 ++ w2) (field w4 15 0) (w4.getLsbD 16) (field w4 31 17 == 0) s

/-! ### The swap release (R291, R294) -/

/-- The named bays that are held for the swap. -/
def heldBays (w : Swap) (s : State) : List Nat :=
  (List.finRange 64).filterMap (fun b => if w.bays.getLsbD b.val && (s.bay b).held then some b.val else none)

/-- A held bay is re-initialised from its active plane and released (R164, R291). -/
def releaseBay (b : BayId) (s : State) : State := (reloadBay b true s).modBay b (fun x => { x with held := false })

/-- A mask holds every bay of a list. -/
def inBays (l : List Nat) (b : Nat) : Bool := l.contains b

/-- Every named bay takes the new plane. -/
def swapIn (w : Swap) (l : List Nat) (s : State) : State :=
  let s1 := eachBay w.bays (fun b t => if inBays l b.val then releaseBay b (putBaySlot b w.slot t) else t) s
  modSwap (fun w => { w with rel := true }) (returnHold (inBays l) s1)

/-- A bay goes back to its former plane, or stays held with 4b + 1 where that fails too. -/
def revertBay (w : Swap) (l : List Nat) (b : BayId) (s : State) : State :=
  let k := (nth w.oldSlot b.val).getD 0
  let t := putBaySlot b k s
  if !inBays l b.val then t
  else if (badFrame (slotOf t.img k.toNat) [b.val]).isSome then raise (4 * b.val + 1) t
  else releaseBay b t

/-- The swap is reverted, its first failing bay kept: no named setter switches (R294). -/
def revertSwap (w : Swap) (l : List Nat) (bay : Nat) (s : State) : State :=
  let s1 := eachBay w.bays (revertBay w l) s
  let left := l.any (fun b => match s1.bayN b with
    | some x => x.held
    | none => false)
  let s2 := returnHold (fun b => inBays l b && !(heldBays w s1).contains b) s1
  modSwap (fun w => { w with rel := true, left := 0, result := if left then 3 else 2, bay := BitVec.ofNat 6 bay })
    (eachSet w.setters (fun i t => t.modS i (fun x => { x with shadow := none })) s2)

/-- SWAP_RELEASE (R291, R294). -/
def execSwapRelease (st : State) : Host.Outcome State Fault Refusal :=
  .next (match st.img.swap with
    | none => st
    | some w =>
      if w.rel then st else
      let l := heldBays w st
      match badFrame (slotOf st.img w.slot.toNat) l with
      | some (_, b, _) => revertSwap w l b st
      | none => swapIn w l st)

/-! ### Programs (R293) and the end (R294) -/

/-- A named setter's shadow banks. -/
def fillShadow (w : Swap) (i : SetterId) (s : State) : State :=
  let x := slotOf s.img w.slot.toNat
  let banks := (imageProg x i.val, if w.reload then some (imageData x i.val) else none, fDbgwr x.manifest)
  s.modS i (fun y => { y with shadow := some banks })

/-- SWAP_SETTER_TRANSFER_DONE (R293). -/
def execSwapSetterTransferDone (st : State) : Host.Outcome State Fault Refusal :=
  .next (match st.img.swap with
    | none => st
    | some w =>
      if w.moved || w.left == 0 then st
      else modSwap (fun w => { w with moved := true }) (eachSet w.left (fillShadow w) st))

/-- SWAP_END (R128, R294): 612, IMG_SWSTAT and the log. -/
def execSwapEnd (st : State) : Host.Outcome State Fault Refusal :=
  .next (match st.img.swap with
    | none => st
    | some w =>
      if !w.rel || w.left != 0 then st
      else
        let s1 := modImg (fun i => { i with swap := none, swResult := w.result, swBay := w.bay }) st
        logRec 0x0041 (if w.result = 1 then 0 else 2) 612 (swStat s1.img) 0 (raise 612 s1))

end Sys2Proof.Machine
end

