-- ==== Sys2Proof/Machine/Wake.lean ====
section
/-! DEFINITION. Waking (R341 to R344, R346, R348): what each domain holds when it is on again, the end of NAP, and the wake from
DORMANT. -/

namespace Sys2Proof.Machine

/-! ### One domain -/

/-- The device as the image's tables leave it: a register outside the vault takes its value from here when its domain wakes (R346).
The tables are those of the slot last fully loaded, which every active slot shares (R290); without a loaded image there are none. -/
def tableState (s : State) : State :=
  let base := loadReset { s with pln := { keepPln s.pln with i2caddr := s.pln.i2caddr }, bst := Bst.reset }
  if s.img.hold then base else (applyTables (baySlot s 0) base).getD base

/-- A bay is powered and reloaded from its active plane; `f` holds its registers that the vault does not (R334, R346). -/
def wakeBay (f : State) (b : BayId) (s : State) : State :=
  if !(s.bay b).gated then s else
  let t := f.bay b
  refreshTaps b ((reloadBay b true s).modBay b (fun x =>
    { x with gated := false, lperr := false, lpCount := 0, lpCell := 0, rstSw := t.rstSw, probe := t.probe,
             rstSrc := Vector.ofFn (fun n : Fin 4 => setBit (x.rstSrc.get n) 1 (t.rstSw.getLsbD n.val)),
             rclk := x.rclk.map (fun c => { RClk.settled c with busy := false }) }))

/-- A setter is powered and restored, and takes a fresh snapshot (R344). -/
def wakeSetter (f : State) (i : SetterId) (nets : BitVec 256) (s : State) : State :=
  if !(s.st i).gated then s else
  match s.pwr.recs.get i with
  | none => s.modS i (fun x => { x with gated := false })
  | some r =>
    let first := (s.st i).needSnap
    let t := f.st i
    let s0 := modPwr (fun p => { p with recs := upd p.recs i none }) (s.modS i (·.restored r))
    let s1 := initSnap i (sampleTaps i nets s0) s0
    wakeCaller i (s1.modS i (fun x =>
      { x.seeTb s.irs.tbvalid with needSnap := first, bkpt0 := t.bkpt0, bkpt1 := t.bkpt1, pmaddr := t.pmaddr }))

/-- The store has left retention; the slot pointer restarts at slot 0 (R204), and what takes effect two store cycles after a write has
done so (R189, R194, R197). -/
def wakeStore (s : State) : State :=
  if s.store.retn || s.store.waking then
    { s with store := { s.store with retn := false, waking := false }, arb := { settleArb s.arb with ptr := 0 } }
  else s

/-- HOD registers that the vault does not hold come from the tables (R230, R346); descriptors are retained. -/
def freshHod (f h : Hod) : Hod :=
  { f with desc := h.desc, fault := h.fault, derr := h.derr, keyports := h.keyports, skewwin := h.skewwin,
           comb := h.comb, flush := h.flush, lane := none, gated := false, waking := false,
           pack := h.pack.map (fun k => { k with drop := 0 }) }

/-- The hod has woken (R230). -/
def wakeHod (f s : State) : State := if s.hod.gated then { s with hod := freshHod f.hod s.hod } else s

/-- Some domain is still stopped. -/
def anyAsleep (s : State) : Bool :=
  s.bays.toList.any (·.gated) || s.setters.toList.any (·.gated) || s.store.retn || s.store.waking || s.hod.gated

/-! ### The end of NAP -/

/-- Every stopped domain is on again, with each setter's nets. -/
def wakeAll (f : State) (nets : List (BitVec 256)) (s : State) : State :=
  let s1 := wakeHod f (wakeStore (eachBay (BitVec.allOnes 64) (wakeBay f) s))
  (List.finRange 16).foldl (fun t i => wakeSetter f i (nets.getD i.val 0) t) s1

/-- A wake ends: STATE is RUN, pins return, 555 (R341). -/
def endWake (bays : Nat → Bool) (s : State) : State :=
  logPower 555 0 (raise 555 (returnHold bays
    (modPwr (fun p => { p with state := 0, inflight := false, waking := false, begun := [] }) s)))

/-- After one domain has woken by access, NAP has ended once none is stopped (R343). -/
def napOver (s : State) : State :=
  if s.pwr.state = 2 && !s.pwr.inflight && !anyAsleep s then endWake (fun _ => false) s else s

/-- One domain woken by access is on again (R343). -/
def domainOn (d : Domain) (nets : BitVec 256) (s : State) : State :=
  let s1 := modPwr (fun p => { p with begun := p.begun.filter (· != d) }) s
  let f := tableState s
  match d with
  | .bay b => returnHold (fun k => k == b.val) (wakeBay f b s1)
  | .setter i => wakeSetter f i nets s1
  | .store => wakeStore s1
  | .hod => wakeHod f s1

/-! ### The wake from DORMANT (R342, R346, R348) -/

/-- The PLLs start again with the vault's settings: their status begins afresh (R179, R342). -/
def dormantClocks (c : Clk) : Clk :=
  { c with devOn := true, slock := false, hlock := false, sulcnt := 0, hulcnt := 0, sgood := 0, hgood := 0,
           pll := c.pll.map (fun x => { x with lock := false, cfgerr := false, unlocked := false, diff := 0, ulcnt := 0, good := 0,
                                               outs := 0, ulpol := x.ctrl.getLsbD 30 }) }

/-- DORMANT_WAKE (R342): a flagged source starts the buck; every domain is powered and the PLLs are enabled. -/
def execDormantWake (st : State) : Host.Outcome State Fault Refusal :=
  .next (if st.pwr.state != 3 || st.pwr.inflight || st.pwr.wakesrc == 0 || st.pwr.stage != .run then st
    else { modPwr (fun p => { p with inflight := true, waking := true, target := 0, on := true }) st with clk := dormantClocks st.clk })

/-- The arbiter as the vault restores it; STR_STATUS is not in its list (R346). -/
def vaultArb (a : Arb) : Arb :=
  settleArb { Arb.reset with
    rlock := a.rlock, key := a.key, mctl := a.mctl, rbase := a.rbase, rlim := a.rlim,
    bond := { Bond.reset with act := a.bond.act, next := a.bond.next, ag := a.bond.ag } }

/-- The chain interface as the vault restores it; its link may have aligned meanwhile. -/
def vaultIrs (r : Irs) : Irs :=
  { Irs.reset with
    chen := r.chen, head := r.head, autoenum := r.autoenum, ken := r.ken, waitjoin := r.waitjoin, inlock := r.inlock,
    bypopen := r.bypopen, addrv := r.addrv, addr := r.addr, bpout := r.bpout, hop := r.hop, ringS := r.ringS, ringN := r.ringN,
    lap := r.lap, ki := r.ki, keyEff := r.keyEff, kenref := r.kenref, tbper := r.tbper, crank := r.crank, rx := r.rx,
    tx := r.tx.map (fun x => { TxStream.reset with ctl := x.ctl, q := x.q }),
    bond := { Bond.reset with act := r.bond.act, next := r.bond.next, ag := r.bond.ag } }

/-- A setter's program and data memories come from its active program slot; nothing is on its way to a bay (R342). -/
def reloadSetter (i : SetterId) (s : State) : State :=
  let k := slotOf s.img (s.img.setslot.get i).toNat
  s.modS i (fun x => { x with prog := imageProg k i.val, progErr := [], data := imageData k i.val, dataErr := [],
                              dbgwr := fDbgwr k.manifest, lutw := [], toutd := [] })

/-- User entries go back where they came from, in entry order from byte `at_` of the user area (R348). -/
def copyBack : List VaultEntry → Nat → State → State
  | [], _, s => s
  | e :: t, at_, s =>
    let bytes := memRead s.pwr.user at_ e.len
    copyBack t (at_ + e.len)
      (if e.kind = 1 then { s with setters := nthUpd s.setters e.setter (fun x =>
          { x with data := memWrite x.data e.addr bytes }) }
       else restoreStore [(e.addr, bytes)] s)

/-- The hod's descriptors are rewritten from the queue table, enabled where the image enables them; queues 0 to 3 follow with the
plinth's start (R230, R342). -/
def dormantHod (f s : State) : State :=
  { s with hod := { f.hod with keyports := s.hod.keyports, skewwin := s.hod.skewwin, gated := false, waking := false } }

/-- What the active slot gives at the wake from DORMANT: program and data memories, enabled queues, user entries (R342, R348). Without a
loaded image the bays stand at reset (R288). -/
def dormantImage (s : State) : State :=
  if s.img.hold then { s with bays := Vector.replicate 64 Bay.reset }
  else copyBack (s.img.ventries.filter (fun e => e.kind != 3)) 0
    (enableQueues (baySlot s 0) ((List.finRange 16).foldl (fun t i => reloadSetter i t) s))

/-- The loader's registers that tell of attempts, swaps and slot writes are at reset after DORMANT. The active slots, and what IMG_STATUS
tells of the image that runs, stay, though R346 does not list them: the wake reloads from them (R342; DEDUCED, log 20). -/
def dormantImg (i : Img) : Img :=
  { i with failSlot := 0, failCause := 0, failBay := 0, failFrame := 0, swResult := 0, swBay := 0, swSlot := 0,
           wrSource := 0, wrSlot := 0, wrResult := 0, wrBytes := 0 }

/-- Everything that the wake from DORMANT brings back before its release (R342, R346, R348). -/
def dormantRestore (nets : List (BitVec 256)) (s : State) : State :=
  let f := tableState s
  let s1 : State := { s with
    arb := vaultArb s.arb, irs := vaultIrs s.irs, pln := f.pln, bst := f.bst, rpt := f.rpt.map rptRelease, rptHb := f.rptHb,
    glb := { s.glb with wprobe := f.glb.wprobe }, hst := { Hst.reset with ready := s.hst.ready },
    store := { Store.reset with mem := s.store.mem, err := s.store.err, epoch := s.store.epoch }, img := dormantImg s.img }
  startFirmware (wakeAll f nets (dormantImage (dormantHod f s1)))

/-- DORMANT_WAKE_RELEASE (R179, R342): once the PLLs are ready. In the no-image state the device stays in it, its RSTOUT_N low again
(R288); a load that DORMANT cut short begins afresh (log 20). -/
def execDormantWakeRelease (nets : List (BitVec 256)) (st : State) : Host.Outcome State Fault Refusal :=
  .next (if st.pwr.state != 3 || !st.pwr.waking || st.pwr.stage != .run then st
    else if !st.clk.slock || !st.clk.hlock then st
    else if !st.img.hold && !pllsReady st.clk then st
    else
      let t := endWake (gatedBay st) (dormantRestore nets st)
      if !st.img.hold then t
      else if st.img.noimage then { t with rstout := true }
      else startBoot t)

end Sys2Proof.Machine
end

