-- ==== Sys2Proof/Machine/PlinthCmds.lean ====
section
/-! DEFINITION. The plinth's commands (R313 to R318, R321, R322, R324, R328): one definition for each, over the command block that its
channel holds. -/

namespace Sys2Proof.Machine

/-- Argument k. -/
def arg (l : List Word) (k : Nat) : Word := l.getD k 0

/-- An answer with no result. -/
def plain (s : State) (status : Nat) : Answer := .now s status []

/-- A refused or accepted request that has no result. -/
def codeOnly (r : Nat × State) : Answer := plain r.2 r.1

/-- A command with a fixed number of arguments. -/
def fixedCmd (cmd : Nat) (group : Option Nat) (n : Nat) (ch : Channel) (tag : Byte) (args : List Word) (work : State → Answer)
    (s : State) : State := runCmd cmd group (fun k => k == n) ch tag args work s

/-- The word that RELOAD and CALCLEAR must carry. -/
def keyWord : Word := 0x5A57#32

/-! ### Status and control -/

/-- INFO (R313). The plinth's uptime is free (log 9). -/
def execInfo (ch : Channel) (tag : Byte) (args : List Word) (st : State) : Host.Outcome State Fault Refusal :=
  .next (fixedCmd 0x01 none 0 ch tag args (fun s =>
    let p := s.pln
    .now s.usedFree 0 [(nth p.fwVer p.copy.toNat).getD 0, flagAt 1 p.firmbad ||| flagAt 0 p.copy, p.bootcnt.setWidth 32,
      BitVec.ofNat 32 (Config.freeCost s.free)]) st)

/-- A boot begins afresh by command; a stream that its own copy replaces ends as one cut short (R276, R314, log 20). -/
def reloadBoot (s : State) : State :=
  let m := field s.img.mode 1 0
  startBoot (if m = 1 ∨ m = 2 then endStream 7 s else s)

/-- RELOAD (R314): no response. -/
def execReload (ch : Channel) (tag : Byte) (args : List Word) (st : State) : Host.Outcome State Fault Refusal :=
  .next (fixedCmd 0x02 (some 0) 1 ch tag args (fun s =>
    if arg args 0 = keyWord then .never (reloadBoot s) else plain s 2) st)

/-- A field of SETBOOT: all ones leave it unchanged. -/
def bootField (v : Word) (old : BitVec 2) : Nat := if v = 0xFFFFFFFF#32 then old.toNat else v.toNat

/-- A slot that a changed field names is not VALID (R314). -/
def namesBad (i : Img) (v : Word) (none0 : Bool) : Bool :=
  v != 0xFFFFFFFF#32 && !(none0 && v == 0) && (slotOf i v.toNat).state != 2

/-- SETBOOT (R314). -/
def execSetboot (ch : Channel) (tag : Byte) (args : List Word) (st : State) : Host.Outcome State Fault Refusal :=
  .next (fixedCmd 0x03 (some 0) 3 ch tag args (fun s =>
    let i := s.img
    let pri := bootField (arg args 0) i.primary
    let tri := bootField (arg args 1) i.trial
    let ext := bootField (arg args 2) i.extslot
    if 2 < pri ∨ 2 < tri ∨ ext = 0 ∨ 2 < ext then plain s 2
    else if namesBad i (arg args 0) false || namesBad i (arg args 1) true then plain s 5
    else
      let t := writeBoot (valAt 4 ext ||| valAt 2 tri ||| valAt 0 pri) s
      .now t 0 [bootWord t.img]) st)

/-- PLINTH_SWAP (R314). -/
def execPlinthSwap (ch : Channel) (tag : Byte) (args : List Word) (st : State) : Host.Outcome State Fault Refusal :=
  .next (fixedCmd 0x04 (some 0) 4 ch tag args (fun s =>
    codeOnly (askSwapWords (arg args 0) (arg args 1) (arg args 2) (arg args 3) s)) st)

/-- PLINTH_TEST (R314). -/
def execPlinthTest (ch : Channel) (tag : Byte) (args : List Word) (st : State) : Host.Outcome State Fault Refusal :=
  .next (fixedCmd 0x05 (some 0) 3 ch tag args (fun s =>
    if field (arg args 2) 31 1 ≠ 0 then plain s 2
    else match askTest none (arg args 0).toNat (arg args 1) ((arg args 2).getLsbD 0) s with
      | (code, n, t) => .now t code (if code = 0 then [n.setWidth 32] else [])) st)

/-! ### Streams (R315) -/

/-- SWBEGIN (R315). -/
def execSwbegin (ch : Channel) (tag : Byte) (args : List Word) (st : State) : Host.Outcome State Fault Refusal :=
  .next (fixedCmd 0x10 (some 1) 1 ch tag args (fun s =>
    let t := (arg args 0).toNat
    if 5 < t ∨ t = 3 then plain s 2
    else if s.img.stream.isSome then plain s 6
    else plain (openStream .plinth ch t false s) 0) st)

/-- Why a command for the stream is turned away: none open, or one of another channel or source (R310, R315). -/
def streamBar (ch : Channel) (s : State) : Option Nat :=
  match s.img.stream with
  | none => some 2
  | some x => if x.src = .plinth ∧ x.ch = ch then none else some 6

/-- The answer to words that the engine has taken: now, FAILED, or when the stream ends. -/
def streamAnswer (s : State) : Answer :=
  match s.img.stream with
  | none => .now s 11 [s.img.wrResult.setWidth 32]
  | some x => if x.verify then .later s else plain s 0

/-- SWDATA (R315). -/
def execSwdata (ch : Channel) (tag : Byte) (args : List Word) (st : State) : Host.Outcome State Fault Refusal :=
  .next (runCmd 0x11 (some 1) (fun k => decide (1 ≤ k) && decide (k ≤ 64)) ch tag args (fun s =>
    match streamBar ch s with
    | some c => plain s c
    | none => streamAnswer (engineBytes (args.flatMap (fun w => leBytes 4 w.toNat)) s)) st)

/-- A SWCHUNK's reads go on as master 16, their bytes to the engine, until one waits: what is left is then kept. An error of the store is
FAILED with a detail that no rule states (log 18). -/
def runChunk (l : List (Nat × Nat)) (s : State) : Answer :=
  let e := runPieces 16 false l [] [] s
  let t := engineBytes e.got e.s
  if t.img.stream.isNone then streamAnswer t
  else if !e.left.isEmpty then .later (modPln (fun p => { p with chunk := some e.left }) t)
  else if e.err.isSome then .now t.usedFree 11 [BitVec.ofNat 32 (Config.freeCost t.free)]
  else streamAnswer t

/-- SWCHUNK (R315): bytes of the store as master 16, once its group, its arguments and its stream allow it; it waits while the store
sleeps or another master locks a beat. -/
def execSwchunk (ch : Channel) (tag : Byte) (args : List Word) (st : State) : Host.Outcome State Fault Refusal :=
  .next (fixedCmd 0x12 (some 1) 2 ch tag args (fun s =>
    let a := (arg args 0).toNat
    let n := (arg args 1).toNat
    if a % 4 ≠ 0 ∨ n % 4 ≠ 0 ∨ n < 4 ∨ 1048576 < n ∨ storeEnd < a + n then plain s 2
    else match streamBar ch s with
      | some c => plain s c
      | none => runChunk (pieces (n / 4) a (n / 4)) s) st)

/-- A SWCHUNK whose reads waited goes on, and is answered once they are done. -/
def serveChunk (s : State) : State :=
  match s.pln.chunk, s.pln.owed with
  | some l, some (ch, h) =>
    (match runChunk l (modPln (fun p => { p with chunk := none, owed := none }) s) with
      | .now t status res => respondTo ch h status res t
      | .later t => modPln (fun p => { p with owed := some (ch, h) }) t
      | .never t => t)
  | _, _ => s

/-- SWABORT (R315). With no stream open its STATUS is not stated: free between OK and BADARG (log 18). -/
def execSwabort (ch : Channel) (tag : Byte) (args : List Word) (st : State) : Host.Outcome State Fault Refusal :=
  .next (fixedCmd 0x13 (some 1) 0 ch tag args (fun s =>
    match streamBar ch s with
    | none => plain (endStream 7 s) 0
    | some 6 => plain s 6
    | some _ => plain s.usedFree (if Config.freeLevel s.free then 0 else 2)) st)

/-- SWSTAT (R313). -/
def execSwstat (ch : Channel) (tag : Byte) (args : List Word) (st : State) : Host.Outcome State Fault Refusal :=
  .next (fixedCmd 0x14 none 0 ch tag args (fun s => .now s 0 [wrStat s.img]) st)

/-- FIRMSWITCH (R303, R304): answered by the restarted firmware. -/
def execFirmswitch (ch : Channel) (tag : Byte) (args : List Word) (st : State) : Host.Outcome State Fault Refusal :=
  .next (fixedCmd 0x15 (some 1) 1 ch tag args (fun s =>
    if 1 < (arg args 0).toNat then plain s 2
    else .later (beginRestart (modPln (fun p => { p with fwSel := arg args 0 == 1 }) s))) st)

/-! ### Keys (R318) -/

/-- Twelve words as the 48 bytes of a hash. -/
def hashOf (l : List Word) : List Byte := (l.take 12).flatMap (fun w => leBytes 4 w.toNat)

/-- KEYPROG (R318). -/
def execKeyprog (ch : Channel) (tag : Byte) (args : List Word) (st : State) : Host.Outcome State Fault Refusal :=
  .next (fixedCmd 0x20 (some 2) 25 ch tag args (fun s =>
    let k := (arg args 0).toNat
    if s.img.prog ≠ 0 then plain s 7
    else if 3 < k then plain s 2
    else plain (logRec 0x0011 1 noSource 1 (valAt 0 k)
      (modImg (programKey k (hashOf (args.drop 1)) (hashOf (args.drop 13))) s)) 0) st)

/-- MINSVN (R318). -/
def execMinsvn (ch : Channel) (tag : Byte) (args : List Word) (st : State) : Host.Outcome State Fault Refusal :=
  .next (fixedCmd 0x21 (some 2) 1 ch tag args (fun s =>
    let v := (arg args 0).toNat
    let x := slotOf s.img 0
    if v ≤ s.img.minsvn.toNat ∨ 65535 < v ∨ (x.state = 2 ∧ mSvn x.manifest < v) then plain s 2
    else plain (logRec 0x0012 1 noSource (valAt 0 v) 0 (modImg (fun i => { i with minsvn := BitVec.ofNat 16 v }) s)) 0) st)

/-! ### Calibration (R322) -/

/-- The user page is written into the copy that is not in force, with the next sequence number (R322). -/
def writePage (p : Pln) : Pln :=
  let c : CalCopy := ⟨((calPage p).map (fun c => c.seq + 1)).getD 0, p.calU⟩
  { p with calPg := if calPage p == p.calPg.get 0 then p.calPg.set 1 (some c) else p.calPg.set 0 (some c) }

/-- A user value changes, and the change is logged. -/
def putCal (k : Nat) (v : Word) (s : State) : State :=
  logRec 0x0040 0 noSource (valAt 0 k) v (modPln (fun p => { p with calU := nthUpd p.calU k (fun _ => field v 15 0) }) s)

/-- A CALSET value is in its user range. -/
def calInRange (k : Nat) (v : Word) : Bool := decide (v.toInt.natAbs ≤ calUser k) && !(decide (29 ≤ k) && decide (k < 45))

/-- CALSET (R322). -/
def execCalset (ch : Channel) (tag : Byte) (args : List Word) (st : State) : Host.Outcome State Fault Refusal :=
  .next (fixedCmd 0x30 (some 3) 2 ch tag args (fun s =>
    let k := (arg args 0).toNat
    if 51 < k || !calInRange k (arg args 1) then plain s 2
    else
      let t := modPln writePage (putCal k (arg args 1) s)
      .now t 0 (calWords t.pln k)) st)

/-- CALCLEAR (R322): every user value that was not 0 changes; the page is written once. -/
def execCalclear (ch : Channel) (tag : Byte) (args : List Word) (st : State) : Host.Outcome State Fault Refusal :=
  .next (fixedCmd 0x31 (some 3) 1 ch tag args (fun s =>
    if arg args 0 ≠ keyWord then plain s 2
    else plain (modPln writePage ((List.range 52).foldl (fun t k => if calU t.pln k = 0 then t else putCal k 0 t) s)) 0) st)

/-- CALGET (R313). -/
def execCalget (ch : Channel) (tag : Byte) (args : List Word) (st : State) : Host.Outcome State Fault Refusal :=
  .next (fixedCmd 0x32 none 1 ch tag args (fun s =>
    let k := (arg args 0).toNat
    if 51 < k then plain s 2 else .now s 0 (calWords s.pln k)) st)

/-! ### Log (R314, R324) -/

/-- Every record, oldest first: the ring, then those that await their write. -/
def allRecs (p : Pln) : List LogRec := p.ring.reverse ++ p.ram

/-- A SEQ is newer than the last record. -/
def newer (p : Pln) (q : Word) : Bool := decide (0 < (q - p.seq).toNat) && decide ((q - p.seq).toNat < 2 ^ 31)

/-- LOGREAD (R314). -/
def execLogread (ch : Channel) (tag : Byte) (args : List Word) (st : State) : Host.Outcome State Fault Refusal :=
  .next (fixedCmd 0x40 none 2 ch tag args (fun s =>
    let q := arg args 0
    let n := (arg args 1).toNat
    let l := allRecs s.pln
    if n = 0 ∨ 8 < n ∨ !l.any (fun r => r.seq == q) then plain s 2
    else .now s 0 (((l.dropWhile (fun r => r.seq != q)).take n).flatMap recWords)) st)

/-- LOGACK (R324): records up to SEQ are read; those already read stay so. -/
def execLogack (ch : Channel) (tag : Byte) (args : List Word) (st : State) : Host.Outcome State Fault Refusal :=
  .next (fixedCmd 0x41 (some 4) 1 ch tag args (fun s =>
    let q := arg args 0
    if newer s.pln q then plain s 2
    else
      let t := modPln (fun p => { p with acked := if (q - p.acked).toNat < 2 ^ 31 then q else p.acked, rais550 := false }) s
      .now t 0 [BitVec.ofNat 32 (unread t.pln)]) st)

/-- LOGSTREAM (R324): turned on, it begins with the next record. -/
def execLogstream (ch : Channel) (tag : Byte) (args : List Word) (st : State) : Host.Outcome State Fault Refusal :=
  .next (fixedCmd 0x42 (some 4) 1 ch tag args (fun s =>
    if 1 < (arg args 0).toNat then plain s 2
    else
      let on := arg args 0 == 1
      plain (modPln (fun p => { p with logOn := on, logNext := if on && !p.logOn then p.seq + 1 else p.logNext }) s) 0) st)

/-- SENSSTREAM (R321). -/
def execSensstream (ch : Channel) (tag : Byte) (args : List Word) (st : State) : Host.Outcome State Fault Refusal :=
  .next (fixedCmd 0x43 (some 4) 1 ch tag args (fun s =>
    let n := (arg args 0).toNat
    if 1000 < n then plain s 2 else plain (modPln (fun p => { p with period := BitVec.ofNat 16 n, senCnt := 0 }) s) 0) st)

/-! ### Faults and repointers (R298, R328) -/

/-- FLTCLR (R328): one unit, or all of the category. -/
def execFltclr (ch : Channel) (tag : Byte) (args : List Word) (st : State) : Host.Outcome State Fault Refusal :=
  .next (fixedCmd 0x50 (some 5) 2 ch tag args (fun s =>
    let c := (arg args 0).toNat
    let u := arg args 1
    if 5 < c then plain s 2
    else if u = 0xFFFFFFFF#32 then plain (modPln (fun p => (List.range (fltUnits c)).foldl (fun q k => clearUnit c k q) p) s) 0
    else if fltUnits c ≤ u.toNat then plain s 2
    else plain (modPln (clearUnit c u.toNat) s) 0) st)

/-- RPTSET (R298, R314). -/
def execRptset (ch : Channel) (tag : Byte) (args : List Word) (st : State) : Host.Outcome State Fault Refusal :=
  .next (fixedCmd 0x51 (some 5) 3 ch tag args (fun s =>
    let w := (arg args 0).toNat
    let en := (arg args 1).toNat
    let rate := (arg args 2).toNat
    if 3 < w ∨ 1 < en ∨ rate = 0 ∨ 255 < rate then plain s 2
    else plain (modRpt w (rptWrite (valAt 31 en ||| valAt 0 rate)) s) 0) st)

/-- RPTHB (R298, R314). -/
def execRpthb (ch : Channel) (tag : Byte) (args : List Word) (st : State) : Host.Outcome State Fault Refusal :=
  .next (fixedCmd 0x52 (some 5) 1 ch tag args (fun s =>
    let n := (arg args 0).toNat
    if n = 0 ∨ 1000 < n then plain s 2 else plain { s with rptHb := BitVec.ofNat 10 n } 0) st)

end Sys2Proof.Machine
end

