-- ==== Sys2Proof/Machine/Fetch.lean ====
section
/-! DEFINITION. The setter's instruction word in program memory and the command that it spells (R75 to R77, R82, R85, R89 to R91, R93,
R95, R97, R100 to R104, R106, R108, R111, R114, R118). A STEP runs such a word (R67). -/

namespace Sys2Proof.Machine

/-- A register field of a word. -/
def regAt (w : Word) (lo : Nat) : Reg := ⟨(w.toNat >>> lo) % 16, Nat.mod_lt _ (by decide)⟩

/-- Fields d, a and b of the A format (R75). -/
def regsOf (w : Word) : Regs := ⟨regAt w 22, regAt w 18, regAt w 14⟩

/-- A reserved major opcode (R76, R77). -/
def badOpcode (s : SetterId) : Instr := .nop s (some .reservedOpcode)

/-- A reserved function, mode or op value (R76). -/
def badFunction (s : SetterId) : Instr := .nop s (some .reservedFunction)

/-- Entry n of a list of operations; beyond its end the value is reserved. -/
def pick (s : SetterId) (l : List Instr) (n : Nat) : Instr := l.getD n (badFunction s)

/-- SYS by its service number (R126). -/
def decodeSys (s : SetterId) (r : Regs) (n : BitVec 10) : Instr :=
  match n.toNat with
  | 0x010 => .sleep s r
  | 0x011 => .sysResume s r
  | 0x020 => .sysTest s r
  | 0x021 => .sysTestAbort s r
  | 0x030 => .sysSwap s r
  | 0x040 => .bondSwap s r
  | _ => .sysUndefinedService s r n

/-- Opcode 0x00 (R82, R83). NOP uses no field. -/
def decodeSystem (s : SetterId) (w : Word) : Instr :=
  let r := regsOf w
  let svc : BitVec 10 := w.extractLsb' 0 10
  pick s [.nop s (if w = 0 then none else some .operandRule), .halt s r svc, .fence s r svc, decodeSys s r svc, .csrr s r svc,
    .csrw s r svc] ((w.toNat >>> 10) % 16)

/-- Opcode 0x01 (R85). -/
def decodeAlu (s : SetterId) (w : Word) : Instr :=
  let r := regsOf w
  pick s [.add s r, .addc s r, .sub s r, .subb s r, .and s r, .or s r, .xor s r, .andn s r, .shl s r, .shr s r, .sar s r, .rol s r,
    .min s r, .max s r, .minu s r, .maxu s r, .cmp s r, .cmpu s r, .clz s r, .popc s r, .divu s r, .divs s r, .remu s r, .rems s r]
    (w.toNat % 16384)

/-- Opcode 0x09 (R91). -/
def decodeMult (s : SetterId) (w : Word) : Instr :=
  let r := regsOf w
  let hi : BitVec 9 := w.extractLsb' 5 9
  pick s [.mul s r hi, .mulh s r hi, .mulhu s r hi, .mac s r hi, .macs s r hi, .accrd s r hi, .accld s r hi, .accclr s r hi]
    (w.toNat % 32)

/-- Opcodes 0x0A and 0x0C, the op form (R93, R114). -/
def decodeMem (s : SetterId) (local_ : Bool) (w : Word) : Instr :=
  let d := regAt w 22
  let a := regAt w 18
  let off : BitVec 14 := w.extractLsb' 0 14
  pick s (if local_ then [.ld s d a off, .ldh s d a off, .ldhu s d a off, .ldb s d a off, .ldbu s d a off, .st s d a off,
      .sth s d a off, .stb s d a off]
    else [.sld s d a off, .sst s d a off, .sldq s d a off, .sstq s d a off, .sswap s d a off]) ((w.toNat >>> 14) % 16)

/-- Opcode 0x10 (R95). -/
def decodeBit (s : SetterId) (w : Word) : Instr :=
  let r := regsOf w
  let lo : BitVec 9 := w.extractLsb' 0 9
  pick s [.bld s r lo, .bldn s r lo, .band s r lo, .bandn s r lo, .bor s r lo, .born s r lo, .bxor s r lo, .bnot s r lo,
    .bpush s r lo, .bpop s r lo, .bout s r lo, .bset s r lo, .brst s r lo, .bedge s r lo] ((w.toNat >>> 9) % 32)

/-- Opcode 0x11 (R103, R104); `net` is what TIND samples. -/
def decodeTap (s : SetterId) (w : Word) (net : Bool) : Instr :=
  let r := regsOf w
  let lo : BitVec 10 := w.extractLsb' 0 10
  pick s [.tin s r lo, .tout s r lo, .tbit s r lo, .tedge s r lo, .tind s r lo net, .toutd s r lo] ((w.toNat >>> 10) % 16)

/-- The opcodes whose operation stands in function [13:12] (R97, R103). -/
def decodeTwo (l : List (Regs → BitVec 12 → Instr)) (s : SetterId) (w : Word) : Instr :=
  pick s (l.map (fun f => f (regsOf w) (w.extractLsb' 0 12))) ((w.toNat >>> 12) % 4)

/-- Opcode 0x16 (R106); `nets` is the snapshot of a FRAME whose tick is pending. -/
def decodeFrame (s : SetterId) (w : Word) (nets : BitVec 256) : Instr :=
  pick s [.frame s (regsOf w) nets, .fcnt s (regsOf w)] (w.toNat % 16384)

/-- The immediate formats (R75, R89, R90, R102). -/
def decodeImm (f : Reg → Reg → BitVec 2 → BitVec 16 → Instr) (w : Word) : Instr :=
  f (regAt w 22) (regAt w 18) (w.extractLsb' 16 2) (w.extractLsb' 0 16)

/-- The four shifts by mode (R90). -/
def decodeShift (s : SetterId) (w : Word) : Instr :=
  decodeImm (fun d a mode imm => pick s [.shli s d a imm, .shri s d a imm, .sari s d a imm, .roli s d a imm] mode.toNat) w

/-- The instruction that a word spells, by its major opcode (R77). -/
def decodeWord (s : SetterId) (w : Word) (net : Bool) (nets : BitVec 256) : Instr :=
  match w.toNat >>> 26 with
  | 0x00 => decodeSystem s w
  | 0x01 => decodeAlu s w
  | 0x02 => decodeImm (.addi s) w
  | 0x03 => decodeImm (.andi s) w
  | 0x04 => decodeImm (.ori s) w
  | 0x05 => decodeImm (.xori s) w
  | 0x06 => decodeShift s w
  | 0x07 => decodeImm (.cmpi s) w
  | 0x08 => decodeImm (.lui s) w
  | 0x09 => decodeMult s w
  | 0x0A => decodeMem s true w
  | 0x0C => decodeMem s false w
  | 0x10 => decodeBit s w
  | 0x11 => decodeTap s w net
  | 0x12 => decodeTwo [.tmrs s, .tmrq s, .tmrc s, .tmrrd s] s w
  | 0x14 => decodeTwo [.put s, .get s, .peek s, .qst s] s w
  | 0x15 => decodeTwo [.wev s, .sev s, .evq s] s w
  | 0x16 => decodeFrame s w nets
  | 0x17 => if w.getLsbD 0 then .lutws s (regsOf w) (w.extractLsb' 1 13) else .lutw s (regsOf w) (w.extractLsb' 1 13)
  | 0x18 => .br s (w.extractLsb' 22 4) (w.extractLsb' 0 22)
  | 0x19 => .brl s (w.extractLsb' 22 4) (w.extractLsb' 0 22)
  | 0x1A => if w.toNat % 16384 = 0 then .jmp s (regsOf w) else badFunction s
  | 0x1B => decodeImm (.loop s) w
  | _ => badOpcode s

/-! ### The encoder -/

/-- An instruction in program memory: its setter, its word, and what the device gives it when it issues. -/
structure Fetched where
  s    : SetterId
  word : Word
  net  : Bool
  nets : BitVec 256
  deriving DecidableEq, Repr

/-- The A format (R75): major opcode, d, a, b, function. -/
def wordA (op : Nat) (r : Regs) (fn : Nat) : Word :=
  BitVec.ofNat 32 (op * 2 ^ 26 + r.d.val * 2 ^ 22 + r.a.val * 2 ^ 18 + r.b.val * 2 ^ 14 + fn)

/-- The I format (R75, R89): major opcode, d, a, mode, immediate. -/
def wordI (op : Nat) (d a : Reg) (mode : BitVec 2) (imm : BitVec 16) : Word :=
  BitVec.ofNat 32 (op * 2 ^ 26 + d.val * 2 ^ 22 + a.val * 2 ^ 18 + mode.toNat * 2 ^ 16 + imm.toNat)

/-- The op form of opcodes 0x0A and 0x0C (R93, R114): major opcode, d, a, op, byte offset. -/
def wordM (op : Nat) (d a : Reg) (k : Nat) (off : BitVec 14) : Word :=
  BitVec.ofNat 32 (op * 2 ^ 26 + d.val * 2 ^ 22 + a.val * 2 ^ 18 + k * 2 ^ 14 + off.toNat)

/-- A word that takes nothing from outside. -/
def plainWord (s : SetterId) (w : Word) : Option Fetched := some ⟨s, w, false, 0⟩

/-- The word of a setter's instruction, by R75, R77 and the tables of opcodes; none for a reserved encoding and for every command
that is no instruction. -/
def encodeWord : Instr → Option Fetched
  | .nop s none => plainWord s 0
  | .halt s r svc => plainWord s (wordA 0x00 r (1 * 1024 + svc.toNat))
  | .fence s r svc => plainWord s (wordA 0x00 r (2 * 1024 + svc.toNat))
  | .csrr s r svc => plainWord s (wordA 0x00 r (4 * 1024 + svc.toNat))
  | .csrw s r svc => plainWord s (wordA 0x00 r (5 * 1024 + svc.toNat))
  | .sleep s r => plainWord s (wordA 0x00 r (3 * 1024 + 0x010))
  | .sysResume s r => plainWord s (wordA 0x00 r (3 * 1024 + 0x011))
  | .sysTest s r => plainWord s (wordA 0x00 r (3 * 1024 + 0x020))
  | .sysTestAbort s r => plainWord s (wordA 0x00 r (3 * 1024 + 0x021))
  | .sysSwap s r => plainWord s (wordA 0x00 r (3 * 1024 + 0x030))
  | .bondSwap s r => plainWord s (wordA 0x00 r (3 * 1024 + 0x040))
  | .sysUndefinedService s r n =>
    if n.toNat ∈ [0x010, 0x011, 0x020, 0x021, 0x030, 0x040] then none else plainWord s (wordA 0x00 r (3 * 1024 + n.toNat))
  | .add s r => plainWord s (wordA 0x01 r 0)
  | .addc s r => plainWord s (wordA 0x01 r 1)
  | .sub s r => plainWord s (wordA 0x01 r 2)
  | .subb s r => plainWord s (wordA 0x01 r 3)
  | .and s r => plainWord s (wordA 0x01 r 4)
  | .or s r => plainWord s (wordA 0x01 r 5)
  | .xor s r => plainWord s (wordA 0x01 r 6)
  | .andn s r => plainWord s (wordA 0x01 r 7)
  | .shl s r => plainWord s (wordA 0x01 r 8)
  | .shr s r => plainWord s (wordA 0x01 r 9)
  | .sar s r => plainWord s (wordA 0x01 r 10)
  | .rol s r => plainWord s (wordA 0x01 r 11)
  | .min s r => plainWord s (wordA 0x01 r 12)
  | .max s r => plainWord s (wordA 0x01 r 13)
  | .minu s r => plainWord s (wordA 0x01 r 14)
  | .maxu s r => plainWord s (wordA 0x01 r 15)
  | .cmp s r => plainWord s (wordA 0x01 r 16)
  | .cmpu s r => plainWord s (wordA 0x01 r 17)
  | .clz s r => plainWord s (wordA 0x01 r 18)
  | .popc s r => plainWord s (wordA 0x01 r 19)
  | .divu s r => plainWord s (wordA 0x01 r 20)
  | .divs s r => plainWord s (wordA 0x01 r 21)
  | .remu s r => plainWord s (wordA 0x01 r 22)
  | .rems s r => plainWord s (wordA 0x01 r 23)
  | .addi s d a mode imm => plainWord s (wordI 0x02 d a mode imm)
  | .andi s d a mode imm => plainWord s (wordI 0x03 d a mode imm)
  | .ori s d a mode imm => plainWord s (wordI 0x04 d a mode imm)
  | .xori s d a mode imm => plainWord s (wordI 0x05 d a mode imm)
  | .shli s d a imm => plainWord s (wordI 0x06 d a 0 imm)
  | .shri s d a imm => plainWord s (wordI 0x06 d a 1 imm)
  | .sari s d a imm => plainWord s (wordI 0x06 d a 2 imm)
  | .roli s d a imm => plainWord s (wordI 0x06 d a 3 imm)
  | .cmpi s d a mode imm => plainWord s (wordI 0x07 d a mode imm)
  | .lui s d a mode imm => plainWord s (wordI 0x08 d a mode imm)
  | .mul s r hi => plainWord s (wordA 0x09 r (hi.toNat * 32 + 0))
  | .mulh s r hi => plainWord s (wordA 0x09 r (hi.toNat * 32 + 1))
  | .mulhu s r hi => plainWord s (wordA 0x09 r (hi.toNat * 32 + 2))
  | .mac s r hi => plainWord s (wordA 0x09 r (hi.toNat * 32 + 3))
  | .macs s r hi => plainWord s (wordA 0x09 r (hi.toNat * 32 + 4))
  | .accrd s r hi => plainWord s (wordA 0x09 r (hi.toNat * 32 + 5))
  | .accld s r hi => plainWord s (wordA 0x09 r (hi.toNat * 32 + 6))
  | .accclr s r hi => plainWord s (wordA 0x09 r (hi.toNat * 32 + 7))
  | .ld s d a off => plainWord s (wordM 0x0A d a 0 off)
  | .ldh s d a off => plainWord s (wordM 0x0A d a 1 off)
  | .ldhu s d a off => plainWord s (wordM 0x0A d a 2 off)
  | .ldb s d a off => plainWord s (wordM 0x0A d a 3 off)
  | .ldbu s d a off => plainWord s (wordM 0x0A d a 4 off)
  | .st s d a off => plainWord s (wordM 0x0A d a 5 off)
  | .sth s d a off => plainWord s (wordM 0x0A d a 6 off)
  | .stb s d a off => plainWord s (wordM 0x0A d a 7 off)
  | .sld s d a off => plainWord s (wordM 0x0C d a 0 off)
  | .sst s d a off => plainWord s (wordM 0x0C d a 1 off)
  | .sldq s d a off => plainWord s (wordM 0x0C d a 2 off)
  | .sstq s d a off => plainWord s (wordM 0x0C d a 3 off)
  | .sswap s d a off => plainWord s (wordM 0x0C d a 4 off)
  | .bld s r lo => plainWord s (wordA 0x10 r (0 * 512 + lo.toNat))
  | .bldn s r lo => plainWord s (wordA 0x10 r (1 * 512 + lo.toNat))
  | .band s r lo => plainWord s (wordA 0x10 r (2 * 512 + lo.toNat))
  | .bandn s r lo => plainWord s (wordA 0x10 r (3 * 512 + lo.toNat))
  | .bor s r lo => plainWord s (wordA 0x10 r (4 * 512 + lo.toNat))
  | .born s r lo => plainWord s (wordA 0x10 r (5 * 512 + lo.toNat))
  | .bxor s r lo => plainWord s (wordA 0x10 r (6 * 512 + lo.toNat))
  | .bnot s r lo => plainWord s (wordA 0x10 r (7 * 512 + lo.toNat))
  | .bpush s r lo => plainWord s (wordA 0x10 r (8 * 512 + lo.toNat))
  | .bpop s r lo => plainWord s (wordA 0x10 r (9 * 512 + lo.toNat))
  | .bout s r lo => plainWord s (wordA 0x10 r (10 * 512 + lo.toNat))
  | .bset s r lo => plainWord s (wordA 0x10 r (11 * 512 + lo.toNat))
  | .brst s r lo => plainWord s (wordA 0x10 r (12 * 512 + lo.toNat))
  | .bedge s r lo => plainWord s (wordA 0x10 r (13 * 512 + lo.toNat))
  | .tin s r lo => plainWord s (wordA 0x11 r (0 * 1024 + lo.toNat))
  | .tout s r lo => plainWord s (wordA 0x11 r (1 * 1024 + lo.toNat))
  | .tbit s r lo => plainWord s (wordA 0x11 r (2 * 1024 + lo.toNat))
  | .tedge s r lo => plainWord s (wordA 0x11 r (3 * 1024 + lo.toNat))
  | .tind s r lo net => some ⟨s, wordA 0x11 r (4 * 1024 + lo.toNat), net, 0⟩
  | .toutd s r lo => plainWord s (wordA 0x11 r (5 * 1024 + lo.toNat))
  | .tmrs s r lo => plainWord s (wordA 0x12 r (0 * 4096 + lo.toNat))
  | .tmrq s r lo => plainWord s (wordA 0x12 r (1 * 4096 + lo.toNat))
  | .tmrc s r lo => plainWord s (wordA 0x12 r (2 * 4096 + lo.toNat))
  | .tmrrd s r lo => plainWord s (wordA 0x12 r (3 * 4096 + lo.toNat))
  | .put s r lo => plainWord s (wordA 0x14 r (0 * 4096 + lo.toNat))
  | .get s r lo => plainWord s (wordA 0x14 r (1 * 4096 + lo.toNat))
  | .peek s r lo => plainWord s (wordA 0x14 r (2 * 4096 + lo.toNat))
  | .qst s r lo => plainWord s (wordA 0x14 r (3 * 4096 + lo.toNat))
  | .wev s r lo => plainWord s (wordA 0x15 r (0 * 4096 + lo.toNat))
  | .sev s r lo => plainWord s (wordA 0x15 r (1 * 4096 + lo.toNat))
  | .evq s r lo => plainWord s (wordA 0x15 r (2 * 4096 + lo.toNat))
  | .frame s r nets => some ⟨s, wordA 0x16 r 0, false, nets⟩
  | .fcnt s r => plainWord s (wordA 0x16 r 1)
  | .lutw s r lo => plainWord s (wordA 0x17 r (2 * lo.toNat))
  | .lutws s r lo => plainWord s (wordA 0x17 r (2 * lo.toNat + 1))
  | .br s c off => plainWord s (BitVec.ofNat 32 (0x18 * 2 ^ 26 + c.toNat * 2 ^ 22 + off.toNat))
  | .brl s c off => plainWord s (BitVec.ofNat 32 (0x19 * 2 ^ 26 + c.toNat * 2 ^ 22 + off.toNat))
  | .jmp s r => plainWord s (wordA 0x1A r 0)
  | .loop s d a mode imm => plainWord s (wordI 0x1B d a mode imm)
  | _ => none

end Sys2Proof.Machine
end

