-- ==== Sys2Proof/Machine/Services.lean ====
section
/-! DEFINITION. SYS (R124 to R130): permission, refusals, return codes and the services; and the return from a trap through SET_TRET
(R66, R123). -/

namespace Sys2Proof.Machine

/-- A SYS that has been answered: g0 takes the code, g1 a result, and the next instruction is next; 11 to 13 setter cycles (R124, log
9). -/
def sysDone (i : SetterId) (code : Nat) (res : Option Word) (s : State) : Fate :=
  .done (s.modS i (fun x =>
    let y := x.setReg 0 (BitVec.ofNat 32 code)
    (match res with
      | some v => y.setReg 1 v
      | none => y).adv)).usedFree (freeIn 11 3 s) none false

/-- A refusal: source 4, and with SYSTRAP the held trap (R124). DESIGN CHOICE (log 32): a second refusal before the held trap is
taken overwrites its code and service number. -/
def sysRefuse (i : SetterId) (n code : Nat) (s : State) : Fate :=
  sysDone i code none (raise (srcOf i 4) (s.modS i (fun x =>
    if x.systrap then { x with heldSys := some (BitVec.ofNat 8 code, BitVec.ofNat 10 n) } else x)))

/-- The answer of a service: refused with its code, or OK with a result. -/
def sysAnswer (i : SetterId) (n : Nat) (s : State) (a : Nat × Option Word × State) : Fate :=
  if a.1 = 0 then sysDone i 0 a.2.1 a.2.2 else sysRefuse i n a.1 s

/-- The image permits this setter the service (R124, R274). -/
def permits (x : Setter) (bit : Nat) : Bool := x.perm.getLsbD bit

/-- What every SYS reads in its issue cycle (R78). -/
def sysReads : List Reg := [1, 2, 3, 4]

/-- A service behind its permission. -/
def sysCall (i : SetterId) (r : Regs) (n bit : Nat) (work : State → Fate) (s : State) : State :=
  issue i sysReads false (needZero (r.d == 0 && r.a == 0 && r.b == 0) (fun st =>
    if permits (st.st i) bit then work st else sysRefuse i n 7 st)) s

/-- SLEEP (R127, R336): the caller waits for the entry to complete or to be abandoned; a refused request ends at once. -/
def askSleep (i : SetterId) (st : State) : Fate :=
  let v := ((st.st i).reg 1).toNat
  if v = 0 ∨ 3 < v then sysRefuse i 0x010 2 st
  else match askState v (some i) (st.modS i (fun x => { x with wait := .sleep })) with
    | (0, t) => .going t
    | (code, _) => sysRefuse i 0x010 code st

/-- SLEEP (R127). -/
def execSleep (s : SetterId) (r : Regs) (st : State) : Host.Outcome State Fault Refusal :=
  .next (sysCall s r 0x010 0 (askSleep s) st)

/-- SYS_RESUME (R126, R336). -/
def execSysResume (s : SetterId) (r : Regs) (st : State) : Host.Outcome State Fault Refusal :=
  .next (sysCall s r 0x011 1 (fun st => sysAnswer s 0x011 st (match askResume st with
    | (code, t) => (code, none, t))) st)

/-- SYS_TEST (R129). -/
def execSysTest (s : SetterId) (r : Regs) (st : State) : Host.Outcome State Fault Refusal :=
  .next (sysCall s r 0x020 2 (fun st =>
    let x := st.st s
    sysAnswer s 0x020 st (
      if field (x.reg 3) 31 1 ≠ 0 then (2, none, st)
      else match askTest (some s) (x.reg 1).toNat (x.reg 2) ((x.reg 3).getLsbD 0) st with
        | (code, n, t) => (code, some (n.setWidth 32), t))) st)

/-- SYS_TESTABORT (R129). -/
def execSysTestAbort (s : SetterId) (r : Regs) (st : State) : Host.Outcome State Fault Refusal :=
  .next (sysCall s r 0x021 3 (fun st => sysAnswer s 0x021 st (match askAbort ((st.st s).reg 1).toNat st with
    | (code, t) => (code, none, t))) st)

/-- SYS_SWAP (R128, R290). -/
def execSysSwap (s : SetterId) (r : Regs) (st : State) : Host.Outcome State Fault Refusal :=
  .next (sysCall s r 0x030 4 (fun st =>
    let x := st.st s
    sysAnswer s 0x030 st (match askSwapWords (x.reg 1) (x.reg 2) (x.reg 3) (x.reg 4) st with
      | (code, t) => (code, none, t))) st)

/-- A request to swap a bond table (R130). -/
def askBond (which : Word) (s : State) : Nat × State :=
  if which = 0 then (if s.arb.bond.pend then (6, s) else (0, modBond Bond.request s))
  else if which = 1 then (if s.irs.bond.pend then (6, s) else (0, chainSwap s))
  else (2, s)

/-- BONDSWAP (R130). -/
def execBondSwap (s : SetterId) (r : Regs) (st : State) : Host.Outcome State Fault Refusal :=
  .next (sysCall s r 0x040 5 (fun st => sysAnswer s 0x040 st (match askBond ((st.st s).reg 1) st with
    | (code, t) => (code, none, t))) st)

/-- The services of R126. -/
def sysDefined (n : Nat) : Bool := [0x010, 0x011, 0x020, 0x021, 0x030, 0x040].contains n

/-- SYS_UNDEFINED_SERVICE (R126): BADSVC. A defined number is the row of its own service. -/
def execSysUndefinedService (s : SetterId) (r : Regs) (n : BitVec 10) (st : State) : Host.Outcome State Fault Refusal :=
  .next (issue s sysReads false (needZero (r.d == 0 && r.a == 0 && r.b == 0) (fun st =>
    if sysDefined n.toNat then .hold st else sysRefuse s n.toNat 1 st)) st)

/-- TRAP_RETURN (R66, R123): a write to SET_TRET by the setter itself. -/
def execTrapReturn (s : SetterId) (v : Word) (st : State) : Host.Outcome State Fault Refusal :=
  .next (writeFree s.val (blockAddr (.set s) 0x44) v st)

end Sys2Proof.Machine
end

