-- ==== Sys2Proof/Machine/Taps.lean ====
section
/-! DEFINITION. Opcode 0x11: the tap instructions (R42, R43, R104, R105), and the landing of TOUTD (R14). Function [9:0] is
the operand `lo`: F in [9], [8] must be 0, tap n in [7:0] or group k in [2:0] with [7:3] = 0. -/

namespace Sys2Proof.Machine

/-- The group number of TIN and TOUT. -/
def tapGroup (lo : BitVec 10) : Nat := (field lo 2 0).toNat
/-- The tap number of the other tap instructions. -/
def tapNo (lo : BitVec 10) : Nat := (field lo 7 0).toNat

/-- TIN (R104): d and k are used. -/
def execTin (s : SetterId) (r : Regs) (lo : BitVec 10) (st : State) : Host.Outcome State Fault Refusal :=
  .next (issue s [] false (needZero (r.a == 0 && r.b == 0 && field lo 9 3 == 0)
    (local1 s (fun x => x.setReg r.d (slice32 x.snap (tapGroup lo))))) st)
/-- TOUT (R104): d, which it reads, and k are used. -/
def execTout (s : SetterId) (r : Regs) (lo : BitVec 10) (st : State) : Host.Outcome State Fault Refusal :=
  .next (issue s [r.d] false (needZero (r.a == 0 && r.b == 0 && field lo 9 3 == 0)
    (local1 s (fun x => { x with obuf := putSlice32 x.obuf (tapGroup lo) (x.reg r.d) }))) st)
/-- TBIT (R104). -/
def execTbit (s : SetterId) (r : Regs) (lo : BitVec 10) (st : State) : Host.Outcome State Fault Refusal :=
  .next (issue s [] false (needZero (r.d == 0 && r.a == 0 && r.b == 0 && field lo 9 8 == 0)
    (local1 s (fun x => x.setB (x.snap.getLsbD (tapNo lo))))) st)
/-- TEDGE (R104): F picks the edge. -/
def execTedge (s : SetterId) (r : Regs) (lo : BitVec 10) (st : State) : Host.Outcome State Fault Refusal :=
  .next (issue s [] false (needZero (r.d == 0 && r.a == 0 && r.b == 0 && !lo.getLsbD 8) (local1 s (fun x =>
    let c := x.snap.getLsbD (tapNo lo)
    let p := x.prev.getLsbD (tapNo lo)
    x.setB (if lo.getLsbD 9 then !c && p else c && !p)))) st)
/-- The bay in which a mapped tap's net lies (R40, R274). -/
def tapBay (s : SetterId) (l : List (Nat × Word)) (n : Nat) : Option BayId :=
  match kvGet l n with
  | some w => if field w 31 30 == 0 then none else some (Fin.ofNat 64 (wingOf s * 16 + (field w 29 26).toNat))
  | none => none

/-- A direct access to a tap: a net in a gated bay wakes the bay, and the setter waits (R343). -/
def direct (s : SetterId) (bay : Option BayId) (ins : Instr) (body : State → Fate) (st : State) : Fate :=
  match bay with
  | some b => if asleep (.bay b) st then waitFor s (.bay b) ins st else body st
  | none => body st

/-- What TIND samples: an unmapped tap reads 0; a tap whose bay is held keeps the value latched before (R105, R292). -/
def sampleOne (s : SetterId) (n : Nat) (net : Bool) (st : State) : Bool :=
  match tapBay s (st.st s).tapIn n with
  | none => false
  | some b => if (st.bay b).runs then net else (st.st s).ilat.getLsbD n

/-- TIND (R104, R105): the net as it is sampled is the operand. -/
def execTind (s : SetterId) (r : Regs) (lo : BitVec 10) (net : Bool) (st : State) : Host.Outcome State Fault Refusal :=
  .next (issue s [] false (needZero (r.d == 0 && r.a == 0 && r.b == 0 && field lo 9 8 == 0)
    (direct s (tapBay s (st.st s).tapIn (tapNo lo)) (.tind s r lo net) (fun st =>
      .done (st.modS s (fun x => (x.setB (sampleOne s (tapNo lo) net st)).adv)).usedFree (freeIn 4 3 st) none false))) st)
/-- TOUTD (R104, R105): the buffer bit at once; the bit goes to the output tap latch. -/
def execToutd (s : SetterId) (r : Regs) (lo : BitVec 10) (st : State) : Host.Outcome State Fault Refusal :=
  .next (issue s [] false (needZero (r.d == 0 && r.a == 0 && r.b == 0 && field lo 9 8 == 0)
    (direct s (tapBay s (st.st s).tapOut (tapNo lo)) (.toutd s r lo) (fun st =>
      .done (st.modS s (fun x =>
          { x.adv with obuf := setBit x.obuf (tapNo lo) x.flags.b, toutd := x.toutd ++ [(tapNo lo, x.flags.b)] })).usedFree
        (freeIn 4 3 st) none false))) st)

/-- TOUTD_LANDING (R14, R105): the oldest bit on its way lands in its output tap latch; a FENCE that waited for it may end. -/
def execToutdLanding (s : SetterId) (st : State) : Host.Outcome State Fault Refusal :=
  .next (fenceEnd s ((latchKeepers st).usedFree.modS s (fun x =>
    match x.toutd with
    | [] => x
    | (n, v) :: rest => { x with olat := setBit x.olat n v, toutd := rest })))

end Sys2Proof.Machine
end

