-- ==== Sys2Proof/Machine/Run.lean ====
section
/-! DEFINITION. Instructions that the block runs by itself: the one word that a STEP runs (R67), and the accesses and instructions
that waited for a gated domain (R22, R343), with the two releases that let them proceed. -/

namespace Sys2Proof.Machine

/-- The meaning of a setter's own instruction; no other command runs here. -/
def runInstr (c : Instr) : State → Host.Outcome State Fault Refusal :=
  match c with
  | .nop s bad => execNop s bad
  | .halt s r svc => execHalt s r svc
  | .fence s r svc => execFence s r svc
  | .csrr s r svc => execCsrr s r svc
  | .csrw s r svc => execCsrw s r svc
  | .sleep s r => execSleep s r
  | .sysResume s r => execSysResume s r
  | .sysTest s r => execSysTest s r
  | .sysTestAbort s r => execSysTestAbort s r
  | .sysSwap s r => execSysSwap s r
  | .bondSwap s r => execBondSwap s r
  | .sysUndefinedService s r n => execSysUndefinedService s r n
  | .add s r => execAdd s r
  | .addc s r => execAddc s r
  | .sub s r => execSub s r
  | .subb s r => execSubb s r
  | .and s r => execAnd s r
  | .or s r => execOr s r
  | .xor s r => execXor s r
  | .andn s r => execAndn s r
  | .shl s r => execShl s r
  | .shr s r => execShr s r
  | .sar s r => execSar s r
  | .rol s r => execRol s r
  | .min s r => execMin s r
  | .max s r => execMax s r
  | .minu s r => execMinu s r
  | .maxu s r => execMaxu s r
  | .cmp s r => execCmp s r
  | .cmpu s r => execCmpu s r
  | .clz s r => execClz s r
  | .popc s r => execPopc s r
  | .divu s r => execDivu s r
  | .divs s r => execDivs s r
  | .remu s r => execRemu s r
  | .rems s r => execRems s r
  | .addi s d a mode imm => execAddi s d a mode imm
  | .andi s d a mode imm => execAndi s d a mode imm
  | .ori s d a mode imm => execOri s d a mode imm
  | .xori s d a mode imm => execXori s d a mode imm
  | .shli s d a imm => execShli s d a imm
  | .shri s d a imm => execShri s d a imm
  | .sari s d a imm => execSari s d a imm
  | .roli s d a imm => execRoli s d a imm
  | .cmpi s d a mode imm => execCmpi s d a mode imm
  | .lui s d a mode imm => execLui s d a mode imm
  | .mul s r hi => execMul s r hi
  | .mulh s r hi => execMulh s r hi
  | .mulhu s r hi => execMulhu s r hi
  | .mac s r hi => execMac s r hi
  | .macs s r hi => execMacs s r hi
  | .accrd s r hi => execAccrd s r hi
  | .accld s r hi => execAccld s r hi
  | .accclr s r hi => execAccclr s r hi
  | .ld s d a off => execLd s d a off
  | .ldh s d a off => execLdh s d a off
  | .ldhu s d a off => execLdhu s d a off
  | .ldb s d a off => execLdb s d a off
  | .ldbu s d a off => execLdbu s d a off
  | .st s d a off => execSt s d a off
  | .sth s d a off => execSth s d a off
  | .stb s d a off => execStb s d a off
  | .bld s r lo => execBld s r lo
  | .bldn s r lo => execBldn s r lo
  | .band s r lo => execBand s r lo
  | .bandn s r lo => execBandn s r lo
  | .bor s r lo => execBor s r lo
  | .born s r lo => execBorn s r lo
  | .bxor s r lo => execBxor s r lo
  | .bnot s r lo => execBnot s r lo
  | .bpush s r lo => execBpush s r lo
  | .bpop s r lo => execBpop s r lo
  | .bout s r lo => execBout s r lo
  | .bset s r lo => execBset s r lo
  | .brst s r lo => execBrst s r lo
  | .bedge s r lo => execBedge s r lo
  | .tmrs s r lo => execTmrs s r lo
  | .tmrq s r lo => execTmrq s r lo
  | .tmrc s r lo => execTmrc s r lo
  | .tmrrd s r lo => execTmrrd s r lo
  | .br s cond off => execBr s cond off
  | .brl s cond off => execBrl s cond off
  | .jmp s r => execJmp s r
  | .loop s d a mode imm => execLoop s d a mode imm
  | .tin s r lo => execTin s r lo
  | .tout s r lo => execTout s r lo
  | .tbit s r lo => execTbit s r lo
  | .tedge s r lo => execTedge s r lo
  | .tind s r lo net => execTind s r lo net
  | .toutd s r lo => execToutd s r lo
  | .frame s r nets => execFrame s r nets
  | .fcnt s r => execFcnt s r
  | .lutw s r hi => execLutw s r hi
  | .lutws s r hi => execLutws s r hi
  | .wev s r lo => execWev s r lo
  | .sev s r lo => execSev s r lo
  | .evq s r lo => execEvq s r lo
  | .sld s d a off => execSld s d a off
  | .sst s d a off => execSst s d a off
  | .sldq s d a off => execSldq s d a off
  | .sstq s d a off => execSstq s d a off
  | .sswap s d a off => execSswap s d a off
  | .put s r lo => execPut s r lo
  | .get s r lo => execGet s r lo
  | .peek s r lo => execPeek s r lo
  | .qst s r lo => execQst s r lo
  | _ => .next

/-- The state that a setter's instruction leaves. -/
def afterInstr (c : Instr) (s : State) : State :=
  match runInstr c s with
  | .next t => t
  | _ => s

/-! ### A step of a stopped setter (R67) -/

/-- The word at the setter's PC; an unlisted word is 0 (log 7). -/
def wordAt (x : Setter) : Word := (kvGet x.prog x.pc.toNat).getD 0

/-- Run the instruction at the PC; what its direct tap or its tick's snapshot samples is free (logs 6, 11). -/
def runAtPc (i : SetterId) (s : State) : State :=
  afterInstr (decodeWord i (wordAt (s.st i)) (Config.freeLevel s.free) (Config.freeNets s.free)) s.usedFree

/-- A held cause is taken before the first instruction, which is then the vector's (R64, R67). -/
def heldFirst (i : SetterId) (s : State) : State :=
  match (if (s.st i).tm then none else (s.st i).nextHeld) with
  | some c => takeHeld i c s
  | none => s

/-- SETTER_STEP (R67): a stopped setter executes one instruction and stops again; RUN stays 0. -/
def execSetterStep (m : Master) (s : SetterId) (nets : BitVec 256) (st : State) : Host.Outcome State Fault Refusal :=
  .next (let t := ctrlRow m s 1 0x80 nets st
    if (st.st s).stopped && (t.st s).issues then runAtPc s (heldFirst s t) else t)

/-! ### Waits (R22, R198, R214, R220, R343) -/

/-- One access that waited proceeds, or waits again; its master has the response now. -/
def serveAccess (a : BusAccess) (s : State) : State :=
  match a.op with
  | some op => (match windowOp a.master op s with
    | (r, t) => answer a.master r t)
  | none => if a.write then writeFree a.master a.addr a.value s else readAs a.master a.addr none s

/-- The accesses whose domains are on proceed, oldest first. -/
def serveBus (s : State) : State :=
  let on := s.stalled.filter (fun a => !asleep a.dom s)
  on.foldl (fun t a => serveAccess a t) { s with stalled := s.stalled.filter (fun a => asleep a.dom s) }

/-- The probe selections whose bays are on take effect, oldest first (R377). -/
def serveProbes (s : State) : State :=
  (s.tap.selW.filter (fun v => !asleep (.bay (selBay v)) s)).foldl (fun t v => putProbe v t)
    { s with tap := { s.tap with selW := s.tap.selW.filter (fun v => asleep (.bay (selBay v)) s) } }

/-- A setter whose instruction waited for a domain that is on runs it. -/
def serveSetter (i : SetterId) (s : State) : State :=
  match (s.st i).wait with
  | .access d c => if asleep d s then s else afterInstr c (s.modS i (fun x => { x with wait := .none }))
  | _ => s

/-- Bytes that fabric presented while the hod slept are packed. -/
def servePacker (p : Nat) (s : State) : State := if (packOf s p).fifo.isEmpty then s else drainPack p 8 s

/-- Everything that waited for what is there now proceeds: probe selections, bus masters in the order of their accesses, cells at the chain
port, host frames, the plinth's own operations, byte ports, then setters by number. -/
def serveAll (s : State) : State :=
  let s1 := serveBus (serveProbes s)
  let s2 := serveHost (s1.hst.frames.length + 1) (serveCells (s1.hod.cells.length + 1) s1)
  let s3 := serveChunk (servePosts (s2.pln.posts.length + 1) s2)
  (List.finRange 16).foldl (fun t i => serveSetter i t) ((List.range 16).foldl (fun t p => servePacker p t) s3)

/-- NAP_WAKE_RELEASE (R341): every domain is ready. -/
def execNapWakeRelease (nets : List (BitVec 256)) (st : State) : Host.Outcome State Fault Refusal :=
  .next (if st.pwr.state != 2 || !st.pwr.inflight || !st.pwr.waking || st.pwr.stage != .run then st
    else serveAll (endWake (gatedBay st) (wakeAll (tableState st) nets st)))

/-- DOMAIN_WAKE_COMPLETE (R343): a domain woken by access is ready; NAP ends when it was the last one. -/
def execDomainWakeComplete (dom : Domain) (nets : BitVec 256) (st : State) : Host.Outcome State Fault Refusal :=
  .next (if !off dom st || !st.pwr.begun.contains dom || st.pwr.state == 3 || st.pwr.stage != .run then st
    else serveAll (napOver (domainOn dom nets st)))

end Sys2Proof.Machine
end

