-- ==== Sys2Proof/Machine/Sensors.lean ====
section
/-! DEFINITION. The sensors (R319 to R321, R335, R340): the values of a cycle, thresholds with their hysteresis, and the stream on
queue 3. -/

namespace Sys2Proof.Machine

/-- A 12-bit code through gain and offset items of the calibration (R319, R322). -/
def scaled (p : Pln) (gain off : Nat) (code : BitVec 12) : Int := code.toNat * calE p gain / 4096 + calE p off

/-- A signed 16-bit reading; one outside the field is free (log 17). -/
def fitSigned (k : Nat) (v : Int) : BitVec 16 :=
  if -32768 ≤ v ∧ v ≤ 32767 then BitVec.ofInt 16 v else BitVec.ofNat 16 (Config.freeCost k)

/-- An unsigned 16-bit reading; one outside the field is free (log 17). -/
def fitUnsigned (k : Nat) (v : Int) : BitVec 16 :=
  if 0 ≤ v ∧ v ≤ 65535 then BitVec.ofInt 16 v else BitVec.ofNat 16 (Config.freeCost k)

/-- The values of a cycle, with MAX and MIN kept (R319). `k` is the free index. -/
def takeReadings (k : Nat) (v : SensorInput) (p : Pln) : Pln :=
  let t : Vector (BitVec 16) 5 := Vector.ofFn (fun i => fitSigned (k + i.val) (scaled p (5 + i.val) i.val (v.temps.getD i.val 0)))
  let r : Vector (BitVec 16) 9 :=
    Vector.ofFn (fun i => fitUnsigned (k + 5 + i.val) (scaled p (19 + i.val) (10 + i.val) (v.rails.getD i.val 0)))
  { p with
    temp := t, rail := r, cur := Vector.ofFn (fun i => v.cur.getD i.val 0),
    tmax := Vector.ofFn (fun i => if (p.tmax.get i).toInt < (t.get i).toInt then t.get i else p.tmax.get i),
    rmin := Vector.ofFn (fun i => if (r.get i).toNat < (p.rmin.get i).toNat then r.get i else p.rmin.get i) }

/-- A threshold of PLN_SENSEN bit i: the value as logged, whether it is past, whether it has come back (R320). -/
def threshold (p : Pln) (i : Nat) : Word × Bool × Bool :=
  if i < 10 then
    let v := (nth p.temp (i / 2)).getD 0
    let w := (nth p.tthr (i / 2)).getD 0
    let hi := (field w 31 16).toInt
    let lo := (field w 15 0).toInt
    let h : Int := p.thyst.toNat
    (v.signExtend 32,
      if i % 2 = 0 then (decide (hi < v.toInt), decide (v.toInt ≤ hi - h)) else (decide (v.toInt < lo), decide (lo + h ≤ v.toInt)))
  else if i < 28 then
    let v := (nth p.rail ((i - 10) / 2)).getD 0
    let w := (nth p.rthr ((i - 10) / 2)).getD 0
    let hi := (field w 31 16).toNat
    let lo := (field w 15 0).toNat
    let h := p.rhyst.toNat
    (v.setWidth 32,
      if i % 2 = 0 then (decide (v.toNat < lo), decide (lo + h ≤ v.toNat)) else (decide (hi < v.toNat), decide (v.toNat + h ≤ hi)))
  else
    let v := (nth p.cur (i - 28)).getD 0
    let thr := ((nth p.cthr (i - 28)).getD 0).toNat
    (v.setWidth 32, decide (thr < v.toNat), decide (16 * v.toNat ≤ 15 * thr))

/-- One threshold is judged: its source 512 + i, the sensor wake source, and the log unless the plinth is off; or it rearms (R320,
R335, R340). -/
def judge (logs : Bool) (s : State) (i : Nat) : State :=
  match threshold s.pln i with
  | (v, past, back) =>
    if s.pln.armed.getLsbD i then
      (if s.pln.sensen.getLsbD i && past then
        let t := raise (512 + i) (modPln (fun p => { p with armed := setBit p.armed i false }) s)
        activate (BitVec.ofNat 20 (2 ^ 18)) (if logs then logRec 0x0030 1 (512 + i) v 0 t else t)
       else s)
    else if back then modPln (fun p => { p with armed := setBit p.armed i true }) s
    else s

/-- The 19 words of a sensor record (R321). -/
def sensorWords (p : Pln) : List Word :=
  (valAt 16 p.senSeq.toNat ||| p.period.setWidth 32) :: p.temp.toList.map (·.signExtend 32)
    ++ p.rail.toList.map (·.setWidth 32) ++ p.cur.toList.map (·.setWidth 32)

/-- The stream: a record at every P-th cycle, skipped where queue 3 has no room (R321). -/
def streamSensors (s : State) : State :=
  if s.pln.period = 0 then s
  else if s.pln.senCnt + 1 < s.pln.period.toNat then modPln (fun p => { p with senCnt := p.senCnt + 1 }) s
  else
    modPln (fun p => { p with senCnt := 0, senSeq := p.senSeq + 1 }) ((postBlock 3 (sensorWords s.pln) s).getD s)

/-- SENSOR_CYCLE (R319 to R321): with the plinth's domain on; thresholds and stream wait while the plinth restarts (R304). In
DORMANT only temperature 4 and VSUP are compared, and an enabled crossing wakes the device (R335, R340). -/
def execSensorCycle (v : SensorInput) (st : State) : Host.Outcome State Fault Refusal :=
  .next (if st.pwr.stage != .run then st
    else if st.pwr.state = 3 then [8, 9, 10, 11].foldl (judge false) (modPln (fun p =>
      let q := takeReadings st.free v p
      { p with temp := p.temp.set 4 (q.temp.get 4), rail := p.rail.set 0 (q.rail.get 0) }) { st with free := st.free + 14 })
    else
      let s1 := modPln (takeReadings st.free v) { st with free := st.free + 14 }
      if s1.pln.ready then streamSensors ((List.range 32).foldl (judge true) s1) else s1)

end Sys2Proof.Machine
end

