-- ==== Sys2Proof/Machine/Dispatch.lean ====
section
/-! DEFINITION. One arm for every command: a direct call of its meaning. -/

namespace Sys2Proof.Machine

/-- The effect of a command on everything but the queue. -/
def exec (i : Instr) (s : State) : Host.Outcome State Fault Refusal :=
  match i with
  | .nop sid bad => Sys2Proof.Machine.execNop sid bad s
  | .halt sid r svc => Sys2Proof.Machine.execHalt sid r svc s
  | .fence sid r svc => Sys2Proof.Machine.execFence sid r svc s
  | .csrr sid r svc => Sys2Proof.Machine.execCsrr sid r svc s
  | .csrw sid r svc => Sys2Proof.Machine.execCsrw sid r svc s
  | .sleep sid r => Sys2Proof.Machine.execSleep sid r s
  | .sysResume sid r => Sys2Proof.Machine.execSysResume sid r s
  | .sysTest sid r => Sys2Proof.Machine.execSysTest sid r s
  | .sysTestAbort sid r => Sys2Proof.Machine.execSysTestAbort sid r s
  | .sysSwap sid r => Sys2Proof.Machine.execSysSwap sid r s
  | .bondSwap sid r => Sys2Proof.Machine.execBondSwap sid r s
  | .sysUndefinedService sid r n => Sys2Proof.Machine.execSysUndefinedService sid r n s
  | .add sid r => Sys2Proof.Machine.execAdd sid r s
  | .addc sid r => Sys2Proof.Machine.execAddc sid r s
  | .sub sid r => Sys2Proof.Machine.execSub sid r s
  | .subb sid r => Sys2Proof.Machine.execSubb sid r s
  | .and sid r => Sys2Proof.Machine.execAnd sid r s
  | .or sid r => Sys2Proof.Machine.execOr sid r s
  | .xor sid r => Sys2Proof.Machine.execXor sid r s
  | .andn sid r => Sys2Proof.Machine.execAndn sid r s
  | .shl sid r => Sys2Proof.Machine.execShl sid r s
  | .shr sid r => Sys2Proof.Machine.execShr sid r s
  | .sar sid r => Sys2Proof.Machine.execSar sid r s
  | .rol sid r => Sys2Proof.Machine.execRol sid r s
  | .min sid r => Sys2Proof.Machine.execMin sid r s
  | .max sid r => Sys2Proof.Machine.execMax sid r s
  | .minu sid r => Sys2Proof.Machine.execMinu sid r s
  | .maxu sid r => Sys2Proof.Machine.execMaxu sid r s
  | .cmp sid r => Sys2Proof.Machine.execCmp sid r s
  | .cmpu sid r => Sys2Proof.Machine.execCmpu sid r s
  | .clz sid r => Sys2Proof.Machine.execClz sid r s
  | .popc sid r => Sys2Proof.Machine.execPopc sid r s
  | .divu sid r => Sys2Proof.Machine.execDivu sid r s
  | .divs sid r => Sys2Proof.Machine.execDivs sid r s
  | .remu sid r => Sys2Proof.Machine.execRemu sid r s
  | .rems sid r => Sys2Proof.Machine.execRems sid r s
  | .addi sid d a mode imm => Sys2Proof.Machine.execAddi sid d a mode imm s
  | .andi sid d a mode imm => Sys2Proof.Machine.execAndi sid d a mode imm s
  | .ori sid d a mode imm => Sys2Proof.Machine.execOri sid d a mode imm s
  | .xori sid d a mode imm => Sys2Proof.Machine.execXori sid d a mode imm s
  | .shli sid d a imm => Sys2Proof.Machine.execShli sid d a imm s
  | .shri sid d a imm => Sys2Proof.Machine.execShri sid d a imm s
  | .sari sid d a imm => Sys2Proof.Machine.execSari sid d a imm s
  | .roli sid d a imm => Sys2Proof.Machine.execRoli sid d a imm s
  | .cmpi sid d a mode imm => Sys2Proof.Machine.execCmpi sid d a mode imm s
  | .lui sid d a mode imm => Sys2Proof.Machine.execLui sid d a mode imm s
  | .mul sid r hi => Sys2Proof.Machine.execMul sid r hi s
  | .mulh sid r hi => Sys2Proof.Machine.execMulh sid r hi s
  | .mulhu sid r hi => Sys2Proof.Machine.execMulhu sid r hi s
  | .mac sid r hi => Sys2Proof.Machine.execMac sid r hi s
  | .macs sid r hi => Sys2Proof.Machine.execMacs sid r hi s
  | .accrd sid r hi => Sys2Proof.Machine.execAccrd sid r hi s
  | .accld sid r hi => Sys2Proof.Machine.execAccld sid r hi s
  | .accclr sid r hi => Sys2Proof.Machine.execAccclr sid r hi s
  | .ld sid d a off => Sys2Proof.Machine.execLd sid d a off s
  | .ldh sid d a off => Sys2Proof.Machine.execLdh sid d a off s
  | .ldhu sid d a off => Sys2Proof.Machine.execLdhu sid d a off s
  | .ldb sid d a off => Sys2Proof.Machine.execLdb sid d a off s
  | .ldbu sid d a off => Sys2Proof.Machine.execLdbu sid d a off s
  | .st sid d a off => Sys2Proof.Machine.execSt sid d a off s
  | .sth sid d a off => Sys2Proof.Machine.execSth sid d a off s
  | .stb sid d a off => Sys2Proof.Machine.execStb sid d a off s
  | .bld sid r lo => Sys2Proof.Machine.execBld sid r lo s
  | .bldn sid r lo => Sys2Proof.Machine.execBldn sid r lo s
  | .band sid r lo => Sys2Proof.Machine.execBand sid r lo s
  | .bandn sid r lo => Sys2Proof.Machine.execBandn sid r lo s
  | .bor sid r lo => Sys2Proof.Machine.execBor sid r lo s
  | .born sid r lo => Sys2Proof.Machine.execBorn sid r lo s
  | .bxor sid r lo => Sys2Proof.Machine.execBxor sid r lo s
  | .bnot sid r lo => Sys2Proof.Machine.execBnot sid r lo s
  | .bpush sid r lo => Sys2Proof.Machine.execBpush sid r lo s
  | .bpop sid r lo => Sys2Proof.Machine.execBpop sid r lo s
  | .bout sid r lo => Sys2Proof.Machine.execBout sid r lo s
  | .bset sid r lo => Sys2Proof.Machine.execBset sid r lo s
  | .brst sid r lo => Sys2Proof.Machine.execBrst sid r lo s
  | .bedge sid r lo => Sys2Proof.Machine.execBedge sid r lo s
  | .tmrs sid r lo => Sys2Proof.Machine.execTmrs sid r lo s
  | .tmrq sid r lo => Sys2Proof.Machine.execTmrq sid r lo s
  | .tmrc sid r lo => Sys2Proof.Machine.execTmrc sid r lo s
  | .tmrrd sid r lo => Sys2Proof.Machine.execTmrrd sid r lo s
  | .br sid cond off => Sys2Proof.Machine.execBr sid cond off s
  | .brl sid cond off => Sys2Proof.Machine.execBrl sid cond off s
  | .jmp sid r => Sys2Proof.Machine.execJmp sid r s
  | .loop sid d a mode imm => Sys2Proof.Machine.execLoop sid d a mode imm s
  | .tin sid r lo => Sys2Proof.Machine.execTin sid r lo s
  | .tout sid r lo => Sys2Proof.Machine.execTout sid r lo s
  | .tbit sid r lo => Sys2Proof.Machine.execTbit sid r lo s
  | .tedge sid r lo => Sys2Proof.Machine.execTedge sid r lo s
  | .tind sid r lo net => Sys2Proof.Machine.execTind sid r lo net s
  | .toutd sid r lo => Sys2Proof.Machine.execToutd sid r lo s
  | .toutdLanding sid => Sys2Proof.Machine.execToutdLanding sid s
  | .frame sid r nets => Sys2Proof.Machine.execFrame sid r nets s
  | .fcnt sid r => Sys2Proof.Machine.execFcnt sid r s
  | .lutw sid r hi => Sys2Proof.Machine.execLutw sid r hi s
  | .lutws sid r hi => Sys2Proof.Machine.execLutws sid r hi s
  | .lutwLanding sid => Sys2Proof.Machine.execLutwLanding sid s
  | .wev sid r lo => Sys2Proof.Machine.execWev sid r lo s
  | .wevTimeout sid => Sys2Proof.Machine.execWevTimeout sid s
  | .sev sid r lo => Sys2Proof.Machine.execSev sid r lo s
  | .evq sid r lo => Sys2Proof.Machine.execEvq sid r lo s
  | .sld sid d a off => Sys2Proof.Machine.execSld sid d a off s
  | .sst sid d a off => Sys2Proof.Machine.execSst sid d a off s
  | .sldq sid d a off => Sys2Proof.Machine.execSldq sid d a off s
  | .sstq sid d a off => Sys2Proof.Machine.execSstq sid d a off s
  | .sswap sid d a off => Sys2Proof.Machine.execSswap sid d a off s
  | .put sid r lo => Sys2Proof.Machine.execPut sid r lo s
  | .get sid r lo => Sys2Proof.Machine.execGet sid r lo s
  | .peek sid r lo => Sys2Proof.Machine.execPeek sid r lo s
  | .qst sid r lo => Sys2Proof.Machine.execQst sid r lo s
  | .heldTrapEntry sid => Sys2Proof.Machine.execHeldTrapEntry sid s
  | .trapReturn sid v => Sys2Proof.Machine.execTrapReturn sid v s
  | .setterSrst m sid nets => Sys2Proof.Machine.execSetterSrst m sid nets s
  | .setterRun m sid nets => Sys2Proof.Machine.execSetterRun m sid nets s
  | .setterStop m sid => Sys2Proof.Machine.execSetterStop m sid s
  | .setterStep m sid nets => Sys2Proof.Machine.execSetterStep m sid nets s
  | .setterStateWrite m sid off v => Sys2Proof.Machine.execSetterStateWrite m sid off v s
  | .frameSourceWrite m sid reg v => Sys2Proof.Machine.execFrameSourceWrite m sid reg v s
  | .pmDebugWrite m sid v => Sys2Proof.Machine.execPmDebugWrite m sid v s
  | .pmDebugRead m sid => Sys2Proof.Machine.execPmDebugRead m sid s
  | .timerDebugWrite m sid t v => Sys2Proof.Machine.execTimerDebugWrite m sid t v s
  | .frameTimerTick sid nets => Sys2Proof.Machine.execFrameTimerTick sid nets s
  | .wingTick w nets => Sys2Proof.Machine.execWingTick w nets s
  | .timeBaseTick t nets => Sys2Proof.Machine.execTimeBaseTick t nets s
  | .wingTickWrite m w v => Sys2Proof.Machine.execWingTickWrite m w v s
  | .setterTimerTick sid t => Sys2Proof.Machine.execSetterTimerTick sid t s
  | .softwareRaise m v => Sys2Proof.Machine.execSoftwareRaise m v s
  | .eventRaise n => Sys2Proof.Machine.execEventRaise n s
  | .pendingClear m k v raised => Sys2Proof.Machine.execPendingClear m k v raised s
  | .routeWrite m note n v => Sys2Proof.Machine.execRouteWrite m note n v s
  | .liveMaskCheck b => Sys2Proof.Machine.execLiveMaskCheck b s
  | .bayJointSend b dir j v => Sys2Proof.Machine.execBayJointSend b dir j v s
  | .bayJointArrival b dir j => Sys2Proof.Machine.execBayJointArrival b dir j s
  | .bayJointAck b dir j => Sys2Proof.Machine.execBayJointAck b dir j s
  | .regionalClockWrite m b n v => Sys2Proof.Machine.execRegionalClockWrite m b n v s
  | .regionalClockSwitchDone b n => Sys2Proof.Machine.execRegionalClockSwitchDone b n s
  | .regionalResetAssert b n src => Sys2Proof.Machine.execRegionalResetAssert b n src s
  | .regionalResetRelease b n src => Sys2Proof.Machine.execRegionalResetRelease b n src s
  | .probeSelect m b n v => Sys2Proof.Machine.execProbeSelect m b n v s
  | .wingProbeSelect m w j v => Sys2Proof.Machine.execWingProbeSelect m w j v s
  | .pinOptionWrite m k idx v => Sys2Proof.Machine.execPinOptionWrite m k idx v s
  | .bitslip k idx => Sys2Proof.Machine.execBitslip k idx s
  | .haltAssert => Sys2Proof.Machine.execHaltAssert s
  | .haltRelease => Sys2Proof.Machine.execHaltRelease s
  | .haltPinReturn => Sys2Proof.Machine.execHaltPinReturn s
  | .vioLoss k => Sys2Proof.Machine.execVioLoss k s
  | .vioReturn k band => Sys2Proof.Machine.execVioReturn k band s
  | .refclkWindow edges => Sys2Proof.Machine.execRefclkWindow edges s
  | .refclkMeasWindow edges => Sys2Proof.Machine.execRefclkMeasWindow edges s
  | .lockWindow p fb => Sys2Proof.Machine.execLockWindow p fb s
  | .pllCtrlWrite m p v => Sys2Proof.Machine.execPllCtrlWrite m p v s
  | .pllOdivWrite m p v => Sys2Proof.Machine.execPllOdivWrite m p v s
  | .pllOutputStart p o => Sys2Proof.Machine.execPllOutputStart p o s
  | .pllOutputStop p o => Sys2Proof.Machine.execPllOutputStop p o s
  | .storeRequestLand m q => Sys2Proof.Machine.execStoreRequestLand m q s
  | .arbiterDecision => Sys2Proof.Machine.execArbiterDecision s
  | .storeDataBeat => Sys2Proof.Machine.execStoreDataBeat s
  | .eccWriteback => Sys2Proof.Machine.execEccWriteback s
  | .requestDrop m => Sys2Proof.Machine.execRequestDrop m s
  | .lockCutoff m => Sys2Proof.Machine.execLockCutoff m s
  | .holdCutoff m => Sys2Proof.Machine.execHoldCutoff m s
  | .starvationLimit m => Sys2Proof.Machine.execStarvationLimit m s
  | .regionWrite m t k lim v => Sys2Proof.Machine.execRegionWrite m t k lim v s
  | .keystoneLineWrite m k v => Sys2Proof.Machine.execKeystoneLineWrite m k v s
  | .masterCtrlWrite m t v => Sys2Proof.Machine.execMasterCtrlWrite m t v s
  | .bondSwapRequest m => Sys2Proof.Machine.execBondSwapRequest m s
  | .bondValidationDone => Sys2Proof.Machine.execBondValidationDone s
  | .bondTableSwitch => Sys2Proof.Machine.execBondTableSwitch s
  | .windowGet m q => Sys2Proof.Machine.execWindowGet m q s
  | .windowQst m q => Sys2Proof.Machine.execWindowQst m q s
  | .windowPut m q v => Sys2Proof.Machine.execWindowPut m q v s
  | .windowPutEob m q v => Sys2Proof.Machine.execWindowPutEob m q v s
  | .hodDescriptorStep port op => Sys2Proof.Machine.execHodDescriptorStep port op s
  | .keyLaneStep port op => Sys2Proof.Machine.execKeyLaneStep port op s
  | .keyPayloadDone err => Sys2Proof.Machine.execKeyPayloadDone err s
  | .qcmdWrite m => Sys2Proof.Machine.execQcmdWrite m s
  | .qcmdEnable m => Sys2Proof.Machine.execQcmdEnable m s
  | .qcmdDisable m => Sys2Proof.Machine.execQcmdDisable m s
  | .qcmdFlush m => Sys2Proof.Machine.execQcmdFlush m s
  | .qcmdRead m => Sys2Proof.Machine.execQcmdRead m s
  | .qcmdUndefined m code => Sys2Proof.Machine.execQcmdUndefined m code s
  | .packerByte p v last => Sys2Proof.Machine.execPackerByte p v last s
  | .packerEndAlone p => Sys2Proof.Machine.execPackerEndAlone p s
  | .packerStallExpiry p => Sys2Proof.Machine.execPackerStallExpiry p s
  | .packerRoomResume p => Sys2Proof.Machine.execPackerRoomResume p s
  | .combineIdleFlush addr => Sys2Proof.Machine.execCombineIdleFlush addr s
  | .combineFlushDone failAt => Sys2Proof.Machine.execCombineFlushDone failAt s
  | .skewWindowEnd => Sys2Proof.Machine.execSkewWindowEnd s
  | .cellForward c => Sys2Proof.Machine.execCellForward c s
  | .cellInsert => Sys2Proof.Machine.execCellInsert s
  | .keyIntervalExpiry => Sys2Proof.Machine.execKeyIntervalExpiry s
  | .qputCell c => Sys2Proof.Machine.execQputCell c s
  | .qfailCell c => Sys2Proof.Machine.execQfailCell c s
  | .noteCell c => Sys2Proof.Machine.execNoteCell c s
  | .streamCell c => Sys2Proof.Machine.execStreamCell c s
  | .timeCell c => Sys2Proof.Machine.execTimeCell c s
  | .enumCell c flight bypassed => Sys2Proof.Machine.execEnumCell c flight bypassed s
  | .enumReturn c lap => Sys2Proof.Machine.execEnumReturn c lap s
  | .joinCell c => Sys2Proof.Machine.execJoinCell c s
  | .ringPause c => Sys2Proof.Machine.execRingPause c s
  | .ringResume c => Sys2Proof.Machine.execRingResume c s
  | .linkCellCrc c => Sys2Proof.Machine.execLinkCellCrc c s
  | .linkCellRetrained c => Sys2Proof.Machine.execLinkCellRetrained c s
  | .linkCellSend => Sys2Proof.Machine.execLinkCellSend s
  | .imgCell c => Sys2Proof.Machine.execImgCell c s
  | .wakeCell c => Sys2Proof.Machine.execWakeCell c s
  | .badCell c => Sys2Proof.Machine.execBadCell c s
  | .undeliveredCell c => Sys2Proof.Machine.execUndeliveredCell c s
  | .linkLost => Sys2Proof.Machine.execLinkLost s
  | .trainReceived => Sys2Proof.Machine.execTrainReceived s
  | .linkRealigned => Sys2Proof.Machine.execLinkRealigned s
  | .chainListenEnd inService => Sys2Proof.Machine.execChainListenEnd inService s
  | .timeCellDue now => Sys2Proof.Machine.execTimeCellDue now s
  | .timeBaseTimeout => Sys2Proof.Machine.execTimeBaseTimeout s
  | .headEnum m => Sys2Proof.Machine.execHeadEnum m s
  | .headEnumKeep m => Sys2Proof.Machine.execHeadEnumKeep m s
  | .headJoin m => Sys2Proof.Machine.execHeadJoin m s
  | .chainBondSwap m => Sys2Proof.Machine.execChainBondSwap m s
  | .txStreamDrain j => Sys2Proof.Machine.execTxStreamDrain j s
  | .txStreamIdleFlush j => Sys2Proof.Machine.execTxStreamIdleFlush j s
  | .hostPortReady => Sys2Proof.Machine.execHostPortReady s
  | .hostRead width addr len => Sys2Proof.Machine.execHostRead width addr len s
  | .hostWrite width addr len data => Sys2Proof.Machine.execHostWrite width addr len data s
  | .hostStatus width => Sys2Proof.Machine.execHostStatus width s
  | .hostEcho width data => Sys2Proof.Machine.execHostEcho width data s
  | .hostBadCommand cmd => Sys2Proof.Machine.execHostBadCommand cmd s
  | .hostFrameAbort at_ => Sys2Proof.Machine.execHostFrameAbort at_ s
  | .slotWriteStream src slot data => Sys2Proof.Machine.execSlotWriteStream src slot data s
  | .slotWriteStall => Sys2Proof.Machine.execSlotWriteStall s
  | .slotWriteVerifyDone => Sys2Proof.Machine.execSlotWriteVerifyDone s
  | .bootStart mode cause => Sys2Proof.Machine.execBootStart mode cause s
  | .loadAttempt slot => Sys2Proof.Machine.execLoadAttempt slot s
  | .loadLockTimeout p => Sys2Proof.Machine.execLoadLockTimeout p s
  | .globalRelease nets => Sys2Proof.Machine.execGlobalRelease nets s
  | .backgroundDigestDone => Sys2Proof.Machine.execBackgroundDigestDone s
  | .swapRelease => Sys2Proof.Machine.execSwapRelease s
  | .swapSetterTransferDone => Sys2Proof.Machine.execSwapSetterTransferDone s
  | .swapEnd => Sys2Proof.Machine.execSwapEnd s
  | .repointerVisit w => Sys2Proof.Machine.execRepointerVisit w s
  | .repointerHeartbeatRestart w => Sys2Proof.Machine.execRepointerHeartbeatRestart w s
  | .rptCtrlWrite m w v => Sys2Proof.Machine.execRptCtrlWrite m w v s
  | .plinthBoot => Sys2Proof.Machine.execPlinthBoot s
  | .plinthRestart => Sys2Proof.Machine.execPlinthRestart s
  | .info ch tag args => Sys2Proof.Machine.execInfo ch tag args s
  | .reload ch tag args => Sys2Proof.Machine.execReload ch tag args s
  | .setboot ch tag args => Sys2Proof.Machine.execSetboot ch tag args s
  | .plinthSwap ch tag args => Sys2Proof.Machine.execPlinthSwap ch tag args s
  | .plinthTest ch tag args => Sys2Proof.Machine.execPlinthTest ch tag args s
  | .swbegin ch tag args => Sys2Proof.Machine.execSwbegin ch tag args s
  | .swdata ch tag args => Sys2Proof.Machine.execSwdata ch tag args s
  | .swchunk ch tag args => Sys2Proof.Machine.execSwchunk ch tag args s
  | .swabort ch tag args => Sys2Proof.Machine.execSwabort ch tag args s
  | .swstat ch tag args => Sys2Proof.Machine.execSwstat ch tag args s
  | .firmswitch ch tag args => Sys2Proof.Machine.execFirmswitch ch tag args s
  | .keyprog ch tag args => Sys2Proof.Machine.execKeyprog ch tag args s
  | .minsvn ch tag args => Sys2Proof.Machine.execMinsvn ch tag args s
  | .calset ch tag args => Sys2Proof.Machine.execCalset ch tag args s
  | .calclear ch tag args => Sys2Proof.Machine.execCalclear ch tag args s
  | .calget ch tag args => Sys2Proof.Machine.execCalget ch tag args s
  | .logread ch tag args => Sys2Proof.Machine.execLogread ch tag args s
  | .logack ch tag args => Sys2Proof.Machine.execLogack ch tag args s
  | .logstream ch tag args => Sys2Proof.Machine.execLogstream ch tag args s
  | .sensstream ch tag args => Sys2Proof.Machine.execSensstream ch tag args s
  | .fltclr ch tag args => Sys2Proof.Machine.execFltclr ch tag args s
  | .rptset ch tag args => Sys2Proof.Machine.execRptset ch tag args s
  | .rpthb ch tag args => Sys2Proof.Machine.execRpthb ch tag args s
  | .plinthBadCommand ch hdr => Sys2Proof.Machine.execPlinthBadCommand ch hdr s
  | .commandBlockTimeout => Sys2Proof.Machine.execCommandBlockTimeout s
  | .responsePost => Sys2Proof.Machine.execResponsePost s
  | .i2cWrite data => Sys2Proof.Machine.execI2cWrite data s
  | .i2cRead n => Sys2Proof.Machine.execI2cRead n s
  | .sensorCycle v => Sys2Proof.Machine.execSensorCycle v s
  | .thresholdWrite m reg v => Sys2Proof.Machine.execThresholdWrite m reg v s
  | .logRecordWrite => Sys2Proof.Machine.execLogRecordWrite s
  | .logStreamPost => Sys2Proof.Machine.execLogStreamPost s
  | .faultReport c u n t => Sys2Proof.Machine.execFaultReport c u n t s
  | .faultWindowWrite m c v => Sys2Proof.Machine.execFaultWindowWrite m c v s
  | .powerRequest m v => Sys2Proof.Machine.execPowerRequest m v s
  | .powerResumeRequest m => Sys2Proof.Machine.execPowerResumeRequest m s
  | .powerEntryComplete => Sys2Proof.Machine.execPowerEntryComplete s
  | .wakeSourceActive idx => Sys2Proof.Machine.execWakeSourceActive idx s
  | .wakeTimerExpiry => Sys2Proof.Machine.execWakeTimerExpiry s
  | .wakeEnableWrite m pol v levels => Sys2Proof.Machine.execWakeEnableWrite m pol v levels s
  | .wakeTimerWrite m v => Sys2Proof.Machine.execWakeTimerWrite m v s
  | .napWake => Sys2Proof.Machine.execNapWake s
  | .napWakeRelease nets => Sys2Proof.Machine.execNapWakeRelease nets s
  | .dormantWake => Sys2Proof.Machine.execDormantWake s
  | .dormantWakeRelease nets => Sys2Proof.Machine.execDormantWakeRelease nets s
  | .domainWakeAccess m dom => Sys2Proof.Machine.execDomainWakeAccess m dom s
  | .domainWakeComplete dom nets => Sys2Proof.Machine.execDomainWakeComplete dom nets s
  | .powerOn => Sys2Proof.Machine.execPowerOn s
  | .buckStart => Sys2Proof.Machine.execBuckStart s
  | .vsupEarlyDrop => Sys2Proof.Machine.execVsupEarlyDrop s
  | .porstAssert => Sys2Proof.Machine.execPorstAssert s
  | .brownoutTrip => Sys2Proof.Machine.execBrownoutTrip s
  | .brownoutSaveAbandon => Sys2Proof.Machine.execBrownoutSaveAbandon s
  | .brownoutRestart => Sys2Proof.Machine.execBrownoutRestart s
  | .brownoutRestoreCmd m => Sys2Proof.Machine.execBrownoutRestoreCmd m s
  | .brownoutRestoreDone => Sys2Proof.Machine.execBrownoutRestoreDone s
  | .brownoutDiscard m => Sys2Proof.Machine.execBrownoutDiscard m s
  | .testBudgetExpiry => Sys2Proof.Machine.execTestBudgetExpiry s
  | .testSliceDone failAt => Sys2Proof.Machine.execTestSliceDone failAt s
  | .tapReset => Sys2Proof.Machine.execTapReset s
  | .extest upd seen => Sys2Proof.Machine.execExtest upd seen s
  | .samplePreload upd seen => Sys2Proof.Machine.execSamplePreload upd seen s
  | .idcode => Sys2Proof.Machine.execIdcode s
  | .clamp => Sys2Proof.Machine.execClamp s
  | .highz => Sys2Proof.Machine.execHighz s
  | .bypass => Sys2Proof.Machine.execBypass s
  | .zimgctlOpen v => Sys2Proof.Machine.execZimgctlOpen v s
  | .zimgctlAbort => Sys2Proof.Machine.execZimgctlAbort s
  | .zimgdata v => Sys2Proof.Machine.execZimgdata v s
  | .zboot v => Sys2Proof.Machine.execZboot v s
  | .zprobesel v => Sys2Proof.Machine.execZprobesel v s
  | .zprobecap lines => Sys2Proof.Machine.execZprobecap lines s
  | .rcFieldRead m addr rec => Sys2Proof.Machine.execRcFieldRead m addr rec s
  | .registerWrite m addr v => Sys2Proof.Machine.execRegisterWrite m addr v s
  | .vholdCharged => Sys2Proof.Machine.execVholdCharged s
  | .cleanIdleReturned => Sys2Proof.Machine.execCleanIdleReturned s

end Sys2Proof.Machine
end

