-- ==== Sys2Proof/Machine/Decay.lean ====
section
/-! DEFINITION. What may go wrong in the block's memories by itself (R66, R138, R184, R229, R276, R286, R296, R322): no row brings it, so a
moment without a command may, and which moment brings what is free (log 36). -/

namespace Sys2Proof.Machine

/-- The mark of an ECC word. -/
def eccMark (double : Bool) : MemErr := if double then .double else .single

/-- A mark never stands for nothing. -/
def keepMark (_ : MemErr) : Bool := false

/-- What an upset made of a latch row. -/
def rowMark (how : Fin 3) : RowErr :=
  match how.val with
  | 0 => .single
  | 1 => .double
  | _ => .wrong

/-- Change slot k of the loader. -/
def decaySlot (k : Fin 3) (f : Slot → Slot) (s : State) : State := { s with img := { s.img with slots := updf s.img.slots k f } }

/-- One thing goes wrong. -/
def decayed (d : Config.Decay) (s : State) : State :=
  match d with
  | .none => s
  | .row b f how => s.modBay b (fun x => { x with upset := kvPut (fun _ => false) f.val (rowMark how) x.upset })
  | .plane k r dbl => decaySlot k (fun x => { x with planeErr := kvPut keepMark r (eccMark dbl) x.planeErr }) s
  | .area k w => decaySlot k (fun x => { x with areaErr := some (min w.val (x.areaErr.getD w.val)) }) s
  | .manifest k => decaySlot k (fun x => { x with manErr := true }) s
  | .place t o => { s with img := { s.img with defects := (t, o) :: s.img.defects } }
  | .prog i w dbl => s.modS i (fun x => { x with progErr := kvPut keepMark (w % 16384) (eccMark dbl) x.progErr })
  | .data i w dbl => s.modS i (fun x => { x with dataErr := kvPut keepMark (w % 8192) (eccMark dbl) x.dataErr })
  | .store h dbl => { s with store := { s.store with err := kvPut keepMark (h % 1048576) (eccMark dbl) s.store.err } }
  | .descriptor q dbl => { s with hod := { s.hod with derr := kvPut keepMark q.toNat (eccMark dbl) s.hod.derr } }
  | .calPage k => { s with pln := { s.pln with calPg := s.pln.calPg.set k.val none } }

/-- What goes wrong at this moment. -/
def decay (s : State) : State := { decayed (Config.decayAt s.free) s with free := s.free + 1 }

end Sys2Proof.Machine
end

