-- ==== Sys2Proof/Machine/Fabric.lean ====
section
/-! DEFINITION. One moment of the fabric (R131 to R136, R140, R144 to R149, R160, R164): the clock edges that fall within 0.6 ns of each
other, which ones is free (log 35), and what flip-flops, block memories, MAC blocks, joints and serialisers make of them. -/

namespace Sys2Proof.Machine

/-! ### Block memories -/

/-- What port p of bay b does on its edge: nothing without one, nor while its enable is 0 (R145). -/
def portAct (s : State) (b : BayId) (p : Nat) : Option PortAct :=
  let g := Config.portCfg (latches s b.val) p
  let v := netNow s b.val
  if edgeNow s b g.clk && muxVal v g.en then
    some ⟨g.mode, g.wmode, muxBits v g.addr % 2 ^ modeAddr g.mode, muxVal v g.we, g.be.map (muxVal v), g.din.map (muxVal v)⟩
  else none

/-- The other port of a memory. -/
def otherPort (p : Nat) : Nat := if p % 2 = 0 then p + 1 else p - 1

/-- The output latch and register of port p after this moment (R145). -/
def portNext (s : State) (b : BayId) (x : Bay) (p : Nat) (l : List (Nat × PortOut)) : List (Nat × PortOut) :=
  match portAct s b p with
  | none => l
  | some a =>
    let o := (kvGet x.ports p).getD ⟨[], []⟩
    let free (k : Nat) : Bool := Config.outside s.free (4 * (36864 * (64 * p + b.val) + k) + 2)
    kvPut (fun _ => false) p ⟨portOut x.bram (p / 2) free a (portAct s b (otherPort p)) o.out, o.out⟩ l

/-- Block memory m of a bay after this moment (R145, R146). -/
def memNext (s : State) (b : BayId) (m : Nat) (l : List (Nat × Bool)) : List (Nat × Bool) :=
  bramEdge l m (fun k => Config.outside s.free (4 * (36864 * (64 * m + b.val) + k) + 1)) (portAct s b (2 * m)) (portAct s b (2 * m + 1))

/-! ### MAC blocks -/

/-- MAC block k after this moment (R148, R149): operands reach ACC through the registers that its options use. -/
def macNext (s : State) (b : BayId) (x : Bay) (k : Nat) (m : MacBlock) : MacBlock :=
  let g := Config.macCfg (latches s b.val) k
  let v := netNow s b.val
  if x.tree.getLsbD (g.clk % 4) then MacBlock.reset
  else if !edgeNow s b g.clk then m
  else
    let a := BitVec.ofNat 18 (muxBits v g.a)
    let c := BitVec.ofNat 18 (muxBits v g.b)
    let p := macProduct g.sa g.sb (if g.areg then m.areg else a) (if g.breg then m.breg else c)
    let r := macEdge (BitVec.ofNat 3 (muxBits v g.op)) (productVal g.sa g.sb (if g.preg then m.preg else p))
      (BitVec.ofNat 48 (muxBits v g.c)) (macCascin x.mac k) m.acc
    ⟨r.1, a, c, p, r.2⟩

/-! ### Bays -/

/-- ARRIVED of joint n out of bay b ends with the destination's cycle (R140). -/
def jointNext (s : State) (b : BayId) (n : Nat) (j : Joint) : Joint :=
  match jointSource b.val n with
  | some (d, _) =>
    if j.arrived && edgeNow s (Fin.ofNat 64 d) (Config.jointInClk (latches s d) n).val then { j with arrived := false } else j
  | none => j

/-- The flip-flops that do not hold the plane's INIT after this moment (R133). -/
def ffsNext (s : State) (b : BayId) (x : Bay) : List Nat :=
  (List.range 4096).filter (fun c =>
    cellNext s b.val x (edgeNow s b) c != (Config.cellCfg (planeLatches s b.val) c).init)

/-- A bay after this moment; the logic of one that does not run stands. -/
def bayNext (s : State) (b : BayId) (x : Bay) : Bay :=
  let y := { x with joints := Vector.ofFn (fun n : Fin 32 => jointNext s b n.val (x.joints.get n)),
                    rclk := Vector.ofFn (fun n : Fin 4 => divNext s b n.val (x.rclk.get n)) }
  if !x.runs then y else
  { y with
    ffs := ffsNext s b x
    bram := (List.range 9).foldl (fun l m => memNext s b m l) x.bram
    ports := (List.range 18).foldl (fun l p => portNext s b x p l) x.ports
    mac := Vector.ofFn (fun k : Fin 4 => macNext s b x k.val (x.mac.get k)) }

/-! ### Serialisers -/

/-- The wing whose clock lines serve a pin's serialiser (R160). -/
def serWing (s : State) (p : Nat) : Nat :=
  if p < 88 then p / 22
  else (if p < 110 then 0 else 2) + ((pinBank s p).map (fun b => (b.serclk.getLsbD 4).toNat)).getD 0

/-- An edge of the fast clock of a pin's bank falls at this moment: a rising edge of its line, or a falling one (R160). -/
def fastEdge (s : State) (p : Nat) : Bool :=
  let k := ((pinBank s p).map (fun b => (field b.serclk 2 0).toNat)).getD 0
  lineEdge s (serWing s p) k || (lineRuns s (serWing s p) k && Config.outside s.free (4 * (256 + 8 * serWing s p + k) + 3))

/-- An edge of the regional clock that clocks the parallel side of a pin's serialiser falls at this moment (R160); none in a bay that does not
run. DEDUCED (log 35): the registers of IREG, OREG and EREG take that clock too; R157 names none for them. -/
def pinEdge (s : State) (p : Nat) : Bool :=
  let b : BayId := Fin.ofNat 64 (pinBayOf s p)
  (s.bay b).runs && edgeNow s b (pinPaths s p).clk.val

/-- The parallel word that fabric gives a pin's serialiser, bit 0 first. -/
def serWord (s : State) (p : Nat) : List Bool :=
  ((pinPaths s p).ser.map (muxVal (netNow s (pinBayOf s p))) ++ List.replicate 8 false).take (serRatio s p)

/-- The parallel side's edge: fabric's next word is taken, and the last whole word received is shown (R160). -/
def serPar (s : State) (p : Nat) (d : Serdes) : Serdes :=
  { d with next := serWord s p, word := if d.full.isEmpty then d.word else d.full, full := [] }

/-- An edge of the fast clock (R160): the next bit goes out, bit 0 of a word first, and with no word to follow the line stands; a bit comes
in, and the last one of a word completes it at the word boundary that BITSLIP has set. -/
def serBit (s : State) (p : Nat) (d : Serdes) : Serdes :=
  let out := if d.out.isEmpty then d.next else d.out
  let hist := (pinLevel s p :: d.hist).take 16
  let slip := ((pinBank s p).bind (fun b => nth b.slip (p % 22))).getD 0
  let whole := decide (serRatio s p ≤ d.n + 1)
  { d with
    line := out.headD d.line, out := out.drop 1, next := if d.out.isEmpty then [] else d.next, hist := hist,
    n := if whole then 0 else d.n + 1,
    full := if whole then ((hist.drop slip.toNat).take (serRatio s p)).reverse else d.full }

/-- A serialiser and deserialiser after this moment. -/
def serNext (s : State) (p : Nat) (d : Serdes) : Serdes :=
  let d1 := if pinEdge s p then serPar s p d else d
  if fastEdge s p then serBit s p d1 else d1

/-- The serialisers after this moment: they run on under a safe value (R161). -/
def sersNext (s : State) : List (Nat × Serdes) :=
  (List.range 132).foldl (fun l p =>
    if pinLive s p && pinEntry s p == p && serRatio s p != 1 && (fastEdge s p || pinEdge s p)
    then kvPut (fun _ => false) p (serNext s p (serdesOf s p)) l
    else l) s.io.ser

/-- A register at each pin: on its clock's edge it takes this (R157). -/
def pinRegs (s : State) (f : Nat → Bool) (old : BitVec 132) : BitVec 132 :=
  (List.range 132).foldl (fun v p => if pinEdge s p then setBit v p (f p) else v) old

/-- The pins' input, output and enable registers, keepers and serialisers after this moment; input paths run on under a safe value (R157,
R161, R388). -/
def pinsNext (s : State) : Io :=
  let net (p : Nat) : Config.Net → Bool := netNow s (pinBayOf s p)
  { (latchKeepers s).io with
    ser := sersNext s
    ireg := pinRegs s (pinLevel s) s.io.ireg
    oreg := pinRegs s (fun p => muxVal (net p) (pinPaths s p).out) s.io.oreg
    ereg := pinRegs s (fun p => muxVal (net p) (pinPaths s p).oe) s.io.ereg }

/-! ### One moment -/

/-- The fabric after one moment: before the global release its clocks are gated (R164), and without power nothing runs. -/
def fabricTick (s : State) : State :=
  if s.img.hold || s.pwr.stage != .run then s else
  { s with
    bays := Vector.ofFn (fun b : Fin 64 => bayNext s b (s.bays.get b))
    io := pinsNext s
    free := s.free + 1 }

end Sys2Proof.Machine
end

