-- ==== Sys2Proof/Machine/Idle.lean ====
section
/-! DEFINITION. What the block does by itself when no command waits: one moment of the fabric, decay, a brown-out save that may
commit, work of the hod that may complete, an entry to a power state that may move on, everything that waited and can proceed, and a
setter that comes to the boundary at which its test isolates it (log 35). -/

namespace Sys2Proof.Machine

/-- The KEY lane's keystone beat may complete (R223); so may the command of HOD_QCMD (R211). -/
def hodMoves (s : State) : State :=
  let t := qcmdMaybe s
  if t.hod.lane.isNone || t.hod.gated then t
  else if Config.freeLevel t.free then laneDone false t.usedFree else t.usedFree

/-- An entry in progress may pass its next point (R337). -/
def entryMoves (s : State) : State :=
  let p := s.pwr
  if !p.inflight || p.waking || decide (lastPoint p.target ≤ p.reached.toNat) || (p.reached == 0 && !stopsReady s) then s
  else if Config.freeLevel s.free then passPoint s.usedFree else s.usedFree

/-- A step with no command waiting. -/
def idle (s : State) : State := isolateDue (serveAll (entryMoves (hodMoves (saveMoves (decay (fabricTick s))))))

end Sys2Proof.Machine
end

