-- ==== Sys2Proof/Certificates/Slice0/Obligations.lean ====
section
/-! DEFINITION. The statements for the provers: what the rules of the spec say of the commands, of the state they leave and of
the state right after reset. Log numbers name entries of the assumption log. -/

namespace Sys2Proof.Claims
open Sys2Proof Sys2Proof.Machine

/-! ### Words that the statements share -/

/-- Setter i issues the instruction at its PC now, and nothing is taken before it: it is started, waits for nothing, its
domain is on and running (R37, R333, R334, R363), no held cause is to be taken (R64), no breakpoint stands at the PC (R67), the word
fetched has no ECC error (R66), and RUN is 1. -/
structure Ready (s : State) (i : SetterId) : Prop where
  issues : (s.st i).issues = true
  run : (s.st i).run = true
  held : (s.st i).tm = true ∨ (s.st i).nextHeld = none
  brk : (s.st i).atBreak = false
  fetch : kvGet (s.st i).progErr (s.st i).pc.toNat = none

/-- The state in which setter i, otherwise `x`, has completed an instruction of this cost; a load or MUL into `load`, or a MAC, is
remembered for the next instruction (R78). Everything else stands. -/
def ran (s : State) (i : SetterId) (x : Setter) (cost : Nat) (load : Option Reg) (mac : Bool) : State :=
  s.putS i { x with scan := x.scan + cost, ilReg := load, ilMac := mac, skipBk := false, again := false, lutStall := none }

/-- One interlock cycle when a register just loaded or multiplied is read (R78). -/
def waits (x : Setter) (reads : List Reg) : Nat :=
  match x.ilReg with
  | some r => if r ∈ reads then 1 else 0
  | none => 0

/-- The setter after an instruction that writes gd and the flags: the PC at the next instruction, modulo 16,384. -/
def wrote (x : Setter) (d : Reg) (v : Word) (f : Flags) : Setter :=
  { x with g := x.g.set d.val v d.isLt, flags := f, pc := x.pc + 1 }

/-- Z and N from a result (R80). -/
def zn (f : Flags) (r : Word) : Flags := { f with z := decide (r.toNat = 0), n := decide (2 ^ 31 ≤ r.toNat) }

/-- A signed value outside the 32-bit range. -/
def outside (v : Int) : Bool := decide (v < -(2 ^ 31)) || decide (2 ^ 31 ≤ v)

/-- Result and flags of an addition of a, b and c (R80, R85). -/
def sum (f : Flags) (a b : Word) (c : Nat) : Word × Flags :=
  let r := BitVec.ofNat 32 (a.toNat + b.toNat + c)
  (r, { zn f r with c := decide (2 ^ 32 ≤ a.toNat + b.toNat + c), v := outside (a.toInt + b.toInt + c) })

/-- Result and flags of a subtraction of b and c from a (R80, R85). -/
def diff (f : Flags) (a b : Word) (c : Nat) : Word × Flags :=
  let r := BitVec.ofInt 32 ((a.toNat : Int) - b.toNat - c)
  (r, { zn f r with c := decide (a.toNat < b.toNat + c), v := outside (a.toInt - b.toInt - c) })

/-- A compare: −1, 0 or 1, with the flags of a subtraction (R87). -/
def three (f : Flags) (a b : Word) (lt : Bool) : Word × Flags :=
  (if lt then BitVec.ofInt 32 (-1) else if a = b then 0 else 1, (diff f a b 0).2)

/-- The sixteen branch conditions by their code (R81). -/
def conditions (f : Flags) : List Bool := [
  true, f.z, !f.z, f.n != f.v, f.n == f.v, f.z || (f.n != f.v), !f.z && (f.n == f.v), f.c, !f.c, f.c || f.z, !f.c && !f.z,
  f.n, f.v, f.b, !f.b, f.q]

/-- Opcode 0x01, the sums, differences and compares (R85, R87). -/
def sumRows : List ((SetterId → Regs → Instr) × (Flags → Word → Word → Word × Flags)) := [
  (.add, fun f a b => sum f a b 0),
  (.addc, fun f a b => sum f a b f.c.toNat),
  (.sub, fun f a b => diff f a b 0),
  (.subb, fun f a b => diff f a b f.c.toNat),
  (.cmp, fun f a b => three f a b (decide (a.toInt < b.toInt))),
  (.cmpu, fun f a b => three f a b (decide (a.toNat < b.toNat)))]

/-- A result that sets Z and N. -/
def plain (op : Word → Word → Word) (f : Flags) (a b : Word) : Word × Flags := (op a b, zn f (op a b))

/-- A shift or rotate by n: an amount of 0 leaves C, else C takes the last bit shifted or rotated out (R86). -/
def moved (f : Flags) (r : Word) (n : Nat) (out : Bool) : Word × Flags :=
  (r, if n = 0 then zn f r else { zn f r with c := out })

/-- Shift left (R86). -/
def shl (f : Flags) (a : Word) (n : Nat) : Word × Flags := moved f (BitVec.ofNat 32 (a.toNat * 2 ^ n)) n (a.getLsbD (32 - n))
/-- Shift right, zeros in (R86). -/
def shr (f : Flags) (a : Word) (n : Nat) : Word × Flags := moved f (BitVec.ofNat 32 (a.toNat / 2 ^ n)) n (a.getLsbD (n - 1))
/-- Shift right, the sign in (R86). -/
def sar (f : Flags) (a : Word) (n : Nat) : Word × Flags := moved f (BitVec.ofInt 32 (a.toInt / 2 ^ n)) n (a.getLsbD (n - 1))
/-- Rotate left (R86). -/
def rol (f : Flags) (a : Word) (n : Nat) : Word × Flags :=
  let r := BitVec.ofNat 32 (a.toNat * 2 ^ n + a.toNat / 2 ^ (32 - n))
  moved f r n (r.getLsbD 0)

/-- Opcode 0x01, logic, shifts and the smaller and larger of two (R85, R86). -/
def logicRows : List ((SetterId → Regs → Instr) × (Flags → Word → Word → Word × Flags)) := [
  (.and, plain (fun a b => a &&& b)), (.or, plain (fun a b => a ||| b)), (.xor, plain (fun a b => a ^^^ b)),
  (.andn, plain (fun a b => a &&& ~~~b)),
  (.shl, fun f a b => shl f a (b.toNat % 32)), (.shr, fun f a b => shr f a (b.toNat % 32)),
  (.sar, fun f a b => sar f a (b.toNat % 32)), (.rol, fun f a b => rol f a (b.toNat % 32)),
  (.min, plain (fun a b => BitVec.ofInt 32 (min a.toInt b.toInt))), (.max, plain (fun a b => BitVec.ofInt 32 (max a.toInt b.toInt))),
  (.minu, plain (fun a b => BitVec.ofNat 32 (min a.toNat b.toNat))), (.maxu, plain (fun a b => BitVec.ofNat 32 (max a.toNat b.toNat)))]

/-- How many leading bits of a word are 0, looking at the n bits from bit n − 1 down. -/
def leadingZeros (a : Word) : Nat → Nat
  | 0 => 0
  | n + 1 => if a.getLsbD n then 0 else 1 + leadingZeros a n

/-- How many of the bits below n are 1. -/
def ones (a : Word) : Nat → Nat
  | 0 => 0
  | n + 1 => ones a n + (if a.getLsbD n then 1 else 0)

/-- Result and flags of a quotient or remainder (R85, R88). -/
def quot (f : Flags) (r : Word) (v : Bool) : Word × Flags := (r, { zn f r with v := v })

/-- The one overflow of a signed division: 0x8000_0000 by −1 (R88). -/
def overDiv (a b : Word) : Bool := decide (a.toInt = -(2 ^ 31)) && decide (b.toInt = -1)

/-- Opcode 0x01, the divisions (R85, R88). -/
def divRows : List ((SetterId → Regs → Instr) × (Flags → Word → Word → Word × Flags)) := [
  (.divu, fun f a b => if b.toNat = 0 then quot f (BitVec.ofInt 32 (-1)) true else quot f (BitVec.ofNat 32 (a.toNat / b.toNat)) false),
  (.divs, fun f a b => if b.toNat = 0 then quot f (BitVec.ofInt 32 (-1)) true
    else if overDiv a b then quot f a true else quot f (BitVec.ofInt 32 (a.toInt.tdiv b.toInt)) false),
  (.remu, fun f a b => if b.toNat = 0 then quot f a true else quot f (BitVec.ofNat 32 (a.toNat % b.toNat)) false),
  (.rems, fun f a b => if b.toNat = 0 then quot f a true
    else if overDiv a b then quot f 0 true else quot f (BitVec.ofInt 32 (a.toInt.tmod b.toInt)) false)]

/-! ### Immediates, the multiplier, local memory -/

/-- The operand of ADDI for the modes that have one (R89). -/
def addOperand (imm : BitVec 16) : List (BitVec 2 × Word) := [
  (0, BitVec.ofInt 32 imm.toInt), (1, BitVec.ofNat 32 imm.toNat), (2, BitVec.ofNat 32 (imm.toNat * 65536))]

/-- The operand of ANDI, ORI and XORI by mode (R89). -/
def logicOperand (imm : BitVec 16) : List (BitVec 2 × Word) := [
  (0, BitVec.ofNat 32 imm.toNat), (1, BitVec.ofNat 32 (0xFFFF0000 + imm.toNat)), (2, BitVec.ofNat 32 (imm.toNat * 65536)),
  (3, BitVec.ofNat 32 (imm.toNat * 65536 + 0xFFFF))]

/-- The immediate forms: the instruction, the operand that its mode gives, and result and flags from ga and that operand
(R89, R90). -/
def immRows (d a : Reg) (imm : BitVec 16) : List ((SetterId → Instr) × Word × (Flags → Word → Word → Word × Flags)) :=
  (addOperand imm).map (fun e => (fun i => .addi i d a e.1 imm, e.2, fun f a b => sum f a b 0)) ++
  (logicOperand imm).map (fun e => (fun i => .andi i d a e.1 imm, e.2, plain (fun a b => a &&& b))) ++
  (logicOperand imm).map (fun e => (fun i => .ori i d a e.1 imm, e.2, plain (fun a b => a ||| b))) ++
  (logicOperand imm).map (fun e => (fun i => .xori i d a e.1 imm, e.2, plain (fun a b => a ^^^ b))) ++
  [(fun i => .cmpi i d a 0 imm, BitVec.ofInt 32 imm.toInt, fun f a b => three f a b (decide (a.toInt < b.toInt))),
   (fun i => .cmpi i d a 1 imm, BitVec.ofNat 32 imm.toNat, fun f a b => three f a b (decide (a.toNat < b.toNat)))]

/-- The shifts by an immediate amount (R90). -/
def shiftRows : List ((SetterId → Reg → Reg → BitVec 16 → Instr) × (Flags → Word → Nat → Word × Flags)) := [
  (.shli, shl), (.shri, shr), (.sari, sar), (.roli, rol)]

/-- The products (R91). -/
def mulRows : List ((SetterId → Regs → BitVec 9 → Instr) × (Word → Word → Word)) := [
  (.mul, fun a b => BitVec.ofNat 32 (a.toNat * b.toNat)),
  (.mulh, fun a b => BitVec.ofInt 32 (a.toInt * b.toInt / 2 ^ 32)),
  (.mulhu, fun a b => BitVec.ofNat 32 (a.toNat * b.toNat / 2 ^ 32))]

/-- A sum outside the signed 64-bit range. -/
def outside64 (v : Int) : Bool := decide (v < -(2 ^ 63)) || decide (2 ^ 63 ≤ v)

/-- The multiply-accumulates: what ACC takes from the exact sum (R91). -/
def macRows : List ((SetterId → Regs → BitVec 9 → Instr) × (Int → BitVec 64)) := [
  (.mac, BitVec.ofInt 64),
  (.macs, fun v => if v < -(2 ^ 63) then BitVec.ofInt 64 (-(2 ^ 63)) else if 2 ^ 63 ≤ v then BitVec.ofInt 64 (2 ^ 63 - 1)
    else BitVec.ofInt 64 v)]

/-- The value that ACCRD narrows: ACC, with half of the last place to be shifted out added when it rounds, shifted right
arithmetically (R92). -/
def accValue (acc : BitVec 64) (sh : Nat) (rnd : Bool) : Int :=
  (acc.toInt + (if rnd = true ∧ 0 < sh then 2 ^ (sh - 1) else 0)) / 2 ^ sh

/-- What ACCRD writes to gd (R92). -/
def accWord (v : Int) (sat : Bool) : Word :=
  if sat = true ∧ 2 ^ 31 ≤ v then 0x7FFFFFFF#32 else if sat = true ∧ v < -(2 ^ 31) then 0x80000000#32 else BitVec.ofInt 32 v

/-- The n bytes at address a of a setter's data memory as a little-endian number (R5, R93). -/
def dataAt (x : Setter) (a n : Nat) : Nat := ((List.range n).map (fun k => (memByte x.data (a + k)).toNat * 256 ^ k)).sum

/-- Local loads: the bytes loaded and how they widen (R93). -/
def loadRows : List ((SetterId → Reg → Reg → BitVec 14 → Instr) × Nat × (Nat → Word)) := [
  (.ld, 4, BitVec.ofNat 32),
  (.ldh, 2, fun v => BitVec.ofInt 32 (if 2 ^ 15 ≤ v then (v : Int) - 2 ^ 16 else v)), (.ldhu, 2, BitVec.ofNat 32),
  (.ldb, 1, fun v => BitVec.ofInt 32 (if 2 ^ 7 ≤ v then (v : Int) - 2 ^ 8 else v)), (.ldbu, 1, BitVec.ofNat 32)]

/-- Local stores and their widths (R93). -/
def storeRows : List ((SetterId → Reg → Reg → BitVec 14 → Instr) × Nat) := [(.st, 4), (.sth, 2), (.stb, 1)]

/-- The address of a local access: ga plus the signed byte offset, modulo 2^32 (R93). -/
def localAddr (x : Setter) (a : Reg) (off : BitVec 14) : Nat := (BitVec.ofInt 32 ((x.g.get a).toInt + off.toInt)).toNat

/-- A local access that meets no cause of R94: inside the data memory, aligned, no ECC mark on its word. -/
def Plain (x : Setter) (ea n : Nat) : Prop := ea < 0x8000 ∧ ea % n = 0 ∧ kvGet x.dataErr (ea / 4) = none

/-! ### Bit logic and timers -/

/-- The bit instructions that combine B with bit n of ga (R95). -/
def bitRows : List ((SetterId → Regs → BitVec 9 → Instr) × (Bool → Bool → Bool)) := [
  (.bld, fun _ v => v), (.bldn, fun _ v => !v), (.band, fun b v => b && v), (.bandn, fun b v => b && !v),
  (.bor, fun b v => b || v), (.born, fun b v => b || !v), (.bxor, fun b v => b != v)]

/-- The bit instructions that rewrite bit n of gd from B and its value (R95). -/
def bitOutRows : List ((SetterId → Regs → BitVec 9 → Instr) × (Bool → Bool → Bool)) := [
  (.bout, fun b _ => b), (.bset, fun b v => if b then true else v), (.brst, fun b v => if b then false else v)]

/-- The word v with bit n put to b. -/
def withBit (v : Word) (n : Nat) (b : Bool) : Word := if b then v ||| BitVec.ofNat 32 (2 ^ n) else v &&& ~~~(BitVec.ofNat 32 (2 ^ n))

/-- The setter with B put to b and the PC moved on. -/
def bFlag (x : Setter) (b : Bool) : Setter := { x with flags := { x.flags with b := b }, pc := x.pc + 1 }

/-- A timer that TMRC or a change of MODE or BASE clears (R97, R98). -/
def cleared (t : Timer) : Timer := { t with count := 0, done := false, running := false, inp := false }

/-- The mode table of R98 for an enable input v, with its rules for a preset of 0. -/
def presented (t : Timer) (v : Bool) : Timer :=
  let u : Timer :=
    if t.mode = 0 then
      if v = false then { t with count := 0, done := false, running := false }
      else if t.running ∨ t.done then t
      else if t.preset = 0 then { t with count := 0, done := true } else { t with count := 0, running := true }
    else if t.mode = 1 then
      if v then { t with done := true, count := 0, running := false }
      else if t.done = false ∨ t.running then t
      else if t.preset = 0 then { t with count := 0, done := false } else { t with count := 0, running := true }
    else if t.mode = 2 then
      if v = true ∧ t.inp = false ∧ t.running = false then
        if t.preset = 0 then { t with count := 0, done := false } else { t with done := true, count := 0, running := true }
      else t
    else { t with running := v }
  { u with inp := v }

/-- The timer that TMRS leaves (R97, R98): cleared first where MODE or BASE changes. -/
def timerSet (t : Timer) (preset : Word) (mode : BitVec 2) (base trap b : Bool) : Timer :=
  let u := if t.mode = mode ∧ t.base = base then t else cleared t
  presented { u with mode := mode, base := base, trap := trap, preset := preset } b

/-- The timer after one period of its base (R98): a timer that does not run stays. -/
def timerTicked (t : Timer) : Timer :=
  if t.running = false then t
  else if t.mode = 3 then { t with count := t.count + 1, done := decide (t.done = true ∨ t.count + 1 = t.preset) }
  else if t.preset.toNat ≤ (t.count + 1).toNat then { t with count := t.count + 1, done := decide (t.mode = 0), running := false }
  else { t with count := t.count + 1 }

/-- The setter with timer t put to u: a rise of DONE with TRAP = 1 holds the timer's trap (R99). -/
def withTimer (x : Setter) (t : TimerId) (before u : Timer) : Setter :=
  { x with timers := x.timers.set t.val u t.isLt,
           heldTm := if before.done = false ∧ u.done = true ∧ u.trap = true then x.heldTm ||| BitVec.ofNat 8 (2 ^ t.val) else x.heldTm }

/-! ### Flow, taps, live cells, events -/

/-- A PC displaced by a signed number of instructions, modulo 16,384 (R36, R100). -/
def displaced (pc : BitVec 14) (d : Int) : BitVec 14 := BitVec.ofInt 14 (pc.toNat + d)

/-- Event source k of setter i (R25). -/
def setterSource (i : SetterId) (k : Nat) : Nat := 256 + 8 * i.val + k

/-- The setter waits at no FENCE. -/
def NoFence (x : Setter) : Prop := ∀ w, x.wait ≠ .fence w

/-- The bay of setter i's wing that a tap's table word names (R274). -/
def wingBay (i : SetterId) (v : Word) : BayId := Fin.ofNat 64 (16 * (i.val / 4) + (field v 29 26).toNat)

/-- Bay b with the mask of a course's live cell written with fresh parity: the XOR of the 16 mask bits in bit 16 (R110, R141). -/
def withMask (b : Bay) (course : Nat) (m : BitVec 16) : Prop :=
  field (maskOf b course) 15 0 = m ∧ maskBad (maskOf b course) = false ∧ b.lrep.contains course = false

/-! ### Frames, ticks, traps -/

/-- A count that saturates at 16 bits. -/
def sat16 (n : Nat) : BitVec 16 := BitVec.ofNat 16 (min n 65535)

/-- The state after the commit edge of setter i's FRAME, its scan length taken, with the cycles that it stalled for (R44, R45, R107,
R162). -/
def committed (s : State) (i : SetterId) (stalled : Nat) : State :=
  commit i (s.putS i ((s.st i).endScan ((s.st i).scan + stalled))).usedFree

/-- The setter after a tick that its waiting FRAME takes: previous snapshot, snapshot, FCNT, the next instruction (R45). -/
def ticked (x : Setter) (next : BitVec 14) (sample : BitVec 256) : Setter :=
  { x with prev := x.snap, snap := sample, ilat := sample, fcnt := x.fcnt + 1, pc := next, wait := .none, armed := true, due := 0,
           late := false, scan := 0 }

/-- The setter with an overrun counted (R56, R58): OVERRUNS, OVR, MISSED, the held trap where OVRTRAP is 1. -/
def overrun (x : Setter) (missed : Nat) : Setter :=
  { x with overruns := sat16 (x.overruns.toNat + 1), ovr := true, heldOvr := x.heldOvr || x.ovrtrap,
           missed := sat16 (x.missed.toNat + missed) }

/-- The interlock memory after FRAME and WEV. -/
def unlocked (y : Setter) : Setter :=
  { y with ilReg := none, ilMac := false, skipBk := false, again := false, lutStall := none }

/-- A setter that waits at a FRAME for the tick of source `src`, its domain on and running, with no write of its frame source waiting. -/
structure AtFrame (x : Setter) (src : Nat) (next : BitVec 14) : Prop where
  wait : x.wait = .frame next
  fen : x.fen = true
  source : (field x.fsrc 1 0).toNat = src
  run : x.run = true
  domain : x.gated = false ∧ x.dozed = false ∧ x.isol = false
  writes : x.fsrcW = none ∧ x.fperiodW = none ∧ x.ftbW = none

/-- Setter i has taken a trap: cause, PC and flags saved, TM set, the PC at the vector, source 1 raised (R64). -/
def trapped (s : State) (i : SetterId) (vec sub : Nat) (addr : Word) : State :=
  let x := s.st i
  let f := x.flags
  raise (setterSource i 1) (s.putS i
    { x with epc := x.pc, causeVec := BitVec.ofNat 4 vec, causeSub := BitVec.ofNat 8 sub, eaddr := addr, tm := true,
             eflags := BitVec.ofNat 6 (f.q.toNat * 32 + f.b.toNat * 16 + f.v.toNat * 8 + f.c.toNat * 4 + f.n.toNat * 2 + f.z.toNat),
             pc := BitVec.ofNat 14 vec, scan := x.scan + 3, ilReg := none, ilMac := false, again := false, lutStall := none })

/-- The double trap (R65): both sources raised, RUN cleared, STOPPED and DBLTRAP set. -/
def doubleTrapped (s : State) (i : SetterId) : State :=
  raise (setterSource i 5) (raise (setterSource i 1) (s.putS i
    { s.st i with run := false, stopped := true, dbltrap := true, halted := false, skipBk := false, again := false }))

/-- Setter i as a synchronous cause finds it: checked against the breakpoints, its interlock cycles counted (R67, R78). -/
def issued (s : State) (i : SetterId) (wait : Nat) : State :=
  s.putS i { s.st i with skipBk := false, scan := (s.st i).scan + wait }

/-- Instructions with a synchronous cause of R63 that their words or operands alone decide: vector, subcode and EADDR. -/
def causeRows (x : Setter) (i : SetterId) (d a : Reg) (off : BitVec 14) (imm : BitVec 16) : List (Instr × Prop × Nat × Nat × Word) :=
  let ea := BitVec.ofNat 32 (localAddr x a off)
  [(.nop i (some .reservedOpcode), True, 1, 0, 0), (.nop i (some .reservedFunction), True, 1, 1, 0),
   (.nop i (some .operandRule), True, 1, 5, 0),
   (.addi i d a 3 imm, True, 1, 1, 0), (.cmpi i d a 2 imm, True, 1, 1, 0), (.cmpi i d a 3 imm, True, 1, 1, 0),
   (.lui i d 0 1 imm, True, 1, 1, 0), (.lui i d a 0 imm, a ≠ 0, 1, 5, 0), (.shli i d a imm, 32 ≤ imm.toNat, 1, 5, 0),
   (.clz i ⟨d, a, 1⟩, True, 1, 5, 0), (.mac i ⟨d, a, 0⟩ 0, d ≠ 0, 1, 5, 0), (.bnot i ⟨0, 0, 0⟩ 1, True, 1, 5, 0),
   (.bpush i ⟨0, 0, 0⟩ 0, 16 ≤ x.bdepth.toNat, 1, 2, 0), (.bpop i ⟨0, 0, 0⟩ 0, x.bdepth.toNat = 0, 1, 3, 0),
   (.ld i d a off, 0x8000 ≤ ea.toNat, 2, 0, ea), (.stb i d a off, 0x8000 ≤ ea.toNat, 2, 0, ea),
   (.ld i d a off, ea.toNat < 0x8000 ∧ ea.toNat % 4 ≠ 0, 3, 0, ea), (.sth i d a off, ea.toNat < 0x8000 ∧ ea.toNat % 2 ≠ 0, 3, 0, ea),
   (.ld i d a off, ea.toNat < 0x8000 ∧ ea.toNat % 4 = 0 ∧ kvGet x.dataErr (ea.toNat / 4) = some .double, 4, 1, ea),
   (.stb i d a off, ea.toNat < 0x8000 ∧ kvGet x.dataErr (ea.toNat / 4) = some .double, 4, 1, ea),
   (.jmp i ⟨0, a, 0⟩, 16384 ≤ (x.g.get a).toNat, 2, 3, x.g.get a),
   (.sld i d a off, 0x800000 ≤ ea.toNat, 3, 1, ea), (.sst i d a off, ea.toNat < 0x800000 ∧ ea.toNat % 4 ≠ 0, 3, 2, ea)]

/-! ### The central store, queues and control registers as a setter's instructions meet them -/

/-- An aligned access of master m to n bytes at ea that nothing keeps from the store: inside it, its regions permit it, the store is on
and part of the device, and no entry stops it, no FENCE, no other master's lock on its beat, no ECC error in a half it touches (R115, R184, R186, R192, R199,
R204). -/
structure StoreOpen (s : State) (m ea n : Nat) (rd wr : Bool) : Prop where
  inside : ea + n ≤ 0x800000
  aligned : ea % n = 0
  region : regionOk s m ea n rd wr = true
  on : s.store.retn = false ∧ s.store.waking = false ∧ s.store.isol = false
  fence : fenced s m = false
  lock : ∀ l ∈ s.arb.locks, l.2 / 16 = ea / 16 → l.1 = m
  awake : asleep .store s = false
  ecc : ∀ h ∈ halvesOf ea n, kvGet s.store.err h = none ∧ halfBad s h = false

/-- The little-endian word that the store holds at an address. -/
def storeWord (s : State) (a : Nat) : Word :=
  BitVec.ofNat 32 ((storeByteAt s a).toNat + 256 * (storeByteAt s (a + 1)).toNat + 65536 * (storeByteAt s (a + 2)).toNat
    + 16777216 * (storeByteAt s (a + 3)).toNat)

/-- Master m's access has waited w store cycles and had its data cycle: the counter of waits and WAITMAX go on by w; where the counter
meets the limit, STARVE is reported, once; then the wait ends, and m is the one that the store served last (R196, R200). -/
def served (s : State) (m w : Nat) : State :=
  let c := min 65535 (((nth s.arb.waitc m).getD 0).toNat + w)
  let t : State := { s with arb := { s.arb with
    waitc := nthUpd s.arb.waitc m (fun _ => BitVec.ofNat 16 c)
    waitmax := nthUpd s.arb.waitmax m (fun x => BitVec.ofNat 16 (max x.toNat c)) } }
  let u := if max 64 (field ((nth s.arb.mctl m).getD 0) 15 0).toNat ≤ c ∧ s.arb.starved.getLsbD m = false then
      raise (448 + m) { t with arb := { t.arb with
        starved := setBit t.arb.starved m true, mcause := nthUpd t.arb.mcause m (· ||| 2) } }
    else t
  { u with free := u.free + 1, arb := { u.arb with
    waitc := nthUpd u.arb.waitc m (fun _ => 0), starved := setBit u.arb.starved m false, lastGr := some m } }

/-- The same after a write of master m to a beat, the store being `st`: its own lock on the beat is released (R198). -/
def written (s : State) (m ea w : Nat) (st : Store) : State :=
  let u := served s m w
  { u with store := st, arb := { u.arb with locks := u.arb.locks.filter (fun l => !(l.1 == m && l.2 / 16 == ea / 16)) } }

/-- Setter cycles of a store instruction whose store wait is w: 6 + ceil((w + 1) × 2.5 / 3.333) (R114). -/
def storeCycles (w : Nat) : Nat := 6 + (3 * (w + 1) + 3) / 4

/-- The store after n bytes at ea took the bytes of a number, least significant first: every other byte of the store reads as before. -/
def Stored (s : State) (st : Store) (ea n v : Nat) : Prop :=
  st = { s.store with mem := st.mem, err := st.err, wb := st.wb } ∧
  ∀ a, storeByteAt { s with store := st } a = if ea ≤ a ∧ a < ea + n then BitVec.ofNat 8 (v / 256 ^ (a - ea)) else storeByteAt s a

/-- The address of a store access: ga plus the signed byte offset, modulo 2^32 (R114). -/
def storeAddr (x : Setter) (a : Reg) (off : BitVec 14) : Nat := (BitVec.ofInt 32 ((x.g.get a).toInt + off.toInt)).toNat

/-- The hod's domain is on and no entry stops it; at port p no operation is outstanding, and no command of HOD_QCMD (R211, R214, R339). -/
structure PortFree (s : State) (p : Nat) : Prop where
  on : s.hod.gated = false ∧ asleep .hod s = false
  port : portBusy p s = false
  command : s.hod.qbusy = none

/-- A queue that answers master m: the hod on, the queue enabled and not faulted, its descriptor without an ECC mark, not KEY or the
lane free with nothing before it (R119, R223, R229). -/
structure QueueOpen (s : State) (q : QueueId) : Prop where
  on : s.hod.gated = false ∧ asleep .hod s = false
  enabled : (descOf s q).en = true
  sound : faulted s q = false
  mark : kvGet s.hod.derr q.toNat = none
  lane : (descOf s q).key = false ∨ (s.hod.lane = none ∧ s.hod.keyWait = [])

/-- A queue operand that names a queue of this device (R118). -/
def localQueue (q : QueueId) : Word := BitVec.ofNat 32 q.toNat

/-- A queue operand that names a queue of the device with this chain address, as a keystone cell or not (R118). -/
def remoteQueue (dev : BitVec 12) (q : QueueId) (kc : Bool) : Word :=
  BitVec.ofNat 32 (2 ^ 31 + kc.toNat * 2 ^ 30 + dev.toNat * 2 ^ 16 + q.toNat)

/-- Setter i, otherwise `x`, after an instruction whose cost is not one number (log 9). -/
def ranFree (s : State) (i : SetterId) (x : Setter) (c : Nat) : State := (ran s i x c none false).usedFree

/-- An access of master m to an offset of a register block that nothing keeps from the block (R10, R20 to R22): the device started
and not in DORMANT, its regions permit the address, the block's domain is on, and for a hod register nothing is outstanding at the hod's
bus port (R214). -/
structure RegOpen (s : State) (m : Nat) (b : Block) (off : Nat) (wr : Bool) : Prop where
  stage : s.pwr.stage = .run ∨ s.pwr.stage = .core
  awake : s.pwr.state ≠ 3
  region : regionOk s m (blockAddr b off) 4 (!wr) wr = true
  domain : ∀ d, blockDomain b = some d → asleep d s = false
  port : b = .hod → portBusy 16 s = false

/-! ### SYS -/

/-- The setter after SYS: the return code in g0, a result in g1, the next instruction next; no other register and no flag (R124). -/
def answered (x : Setter) (code : Nat) (res : Option Nat) : Setter :=
  let g := x.g.set 0 (BitVec.ofNat 32 code)
  { x with g := (match res with
      | some v => g.set 1 (BitVec.ofNat 32 v)
      | none => g), pc := x.pc + 1 }

/-- The services of R126: the instruction, its number, its permission bit of the setter table. -/
def sysRows : List ((SetterId → Regs → Instr) × Nat × Nat) := [
  (.sleep, 0x010, 0), (.sysResume, 0x011, 1), (.sysTest, 0x020, 2), (.sysTestAbort, 0x021, 3), (.sysSwap, 0x030, 4), (.bondSwap, 0x040, 5)]

/-- SYS names no register in its word. -/
def noRegs : Regs := ⟨0, 0, 0⟩

/-- The argument registers, read when SYS issues (R78, R124). -/
def args : List Reg := [1, 2, 3, 4]

/-- What a refusal leaves before the setter goes on: source 4 of the setter raised, and with SYSTRAP a held vector 7 (R124). -/
def refusal (s : State) (i : SetterId) (n code : Nat) : State :=
  let x := s.st i
  raise (256 + 8 * i.val + 4) (s.putS i (if x.systrap then { x with heldSys := some (BitVec.ofNat 8 code, BitVec.ofNat 10 n) } else x))

/-- A setter's SYS ended with this code and result, in 11 to 13 setter cycles, `t` being what the service left. -/
def SysEnds (s t : State) (i : SetterId) (out : Host.Outcome State Fault Refusal) (code : Nat) (res : Option Nat) : Prop :=
  ∃ c, 11 ≤ c ∧ c ≤ 13 ∧ out = .next (ranFree t i (answered (t.st i) code res) (c + waits (s.st i) args))

/-- The state with the selection as it stands taken (R332). -/
def selected (s : State) : State := { s with pwr := { s.pwr with takenB := s.pwr.selbay, takenS := s.pwr.selset } }

/-- A state change may begin: checks 2 to 4 of R336, for a state that needs what it needs. -/
structure MayChange (s : State) (state : Nat) : Prop where
  value : state = 1 ∨ state = 2 ∨ state = 3
  still : s.pwr.stage = .run ∧ s.pwr.state = 0 ∧ s.pwr.inflight = false
  wake : state ≠ 1 → s.pwr.wakeen ≠ 0
  named : state ≠ 3 → s.pwr.selbay ≠ 0 ∨ s.pwr.selset ≠ 0
  quiet : entryBusy (selected s) state = false

/-- The power controller with an entry to a state in flight. -/
def entering (p : Pwr) (state : Nat) (caller : Option SetterId) : Pwr :=
  { p with inflight := true, target := BitVec.ofNat 2 state, reached := 0, waking := false, caller := caller
           takenB := p.selbay, takenS := p.selset }

/-- The setter that waits in its SLEEP: issued, with the interlock's cycles (R78, R127). -/
def asleepIn (x : Setter) : Setter :=
  { x with wait := .sleep, scan := x.scan + waits x args, ilReg := none, ilMac := false, skipBk := false, again := false,
           lutStall := none }

/-- A block is idle for a test: not barred, not in use unless FORCE is set, no slice running (R129, R364, R365). -/
structure MayTest (s : State) (b : TestBlock) (w : Word) (force : Bool) : Prop where
  word : testWordOk b w = true
  free : testBarred b s = false ∧ (force = true ∨ testInUse b s = false)
  idle : s.bst.slice = none

/-- A slice of record number NEXT started on a block; the block has left the rest of the device (R361 to R365). -/
def TestStarted (s t : State) (code : Nat) (b : TestBlock) (w : Word) : Prop :=
  t.bst.slice = some ⟨BitVec.ofNat 7 code, field w 7 0, field w 15 8, field w 23 16, s.bst.next, none⟩ ∧
  t.bst.next = s.bst.next + 1 ∧ t.bst.budget = s.bst.budget ∧
  (∀ k, b = .bay k → (t.bay k).isol = true) ∧ (∀ k, b = .setter k → (t.st k).isol = true ∧ (t.st k).stopped = true) ∧
  (b = .store → t.store.isol = true) ∧ (b = .chain → t.irs.bypopen = false) ∧
  t.store.mem = s.store.mem ∧ t.hod = s.hod ∧ t.pwr = s.pwr ∧ t.img = s.img ∧ t.clk = s.clk ∧ t.pln = s.pln

/-- A slice ended without a verdict: INCOMPLETE, with the way it ended; 617 raised; no slice running (R366, R367). -/
def TestCut (s t : State) (v : Slice) (fin : BitVec 2) : Prop :=
  t.bst.slice = none ∧ t.bst.next = s.bst.next ∧ pendBit t 617 = true ∧
  ∃ r, nth t.bst.res (v.recNo.toNat % 16) = some r ∧ r.outcome = 3 ∧ r.fin = fin ∧ r.failat = 0xFF ∧ r.cover = 0

/-- A swap of R290 is accepted: the slot usable, the masks not both 0, no named bay under test, none running. -/
structure MaySwap (s : State) (slot : Nat) (bays : BitVec 64) (setters : BitVec 16) : Prop where
  slot : slot < 3 ∧ swapSlotOk s.img slot = true
  some : bays ≠ 0 ∨ setters ≠ 0
  quiet : ∀ b : BayId, bays.getLsbD b.val = true → (s.bay b).isol = false
  loaded : s.img.hold = false
  idle : s.img.swap = none

/-- The swap began: every named bay that is not gated is held, a gated one has its new slot at once; the rest waits for the transfer
and each setter's FRAME (R128, R290, R291). -/
def SwapBegun (s t : State) (slot : Nat) (bays : BitVec 64) (setters : BitVec 16) (reload : Bool) : Prop :=
  (∃ w, t.img.swap = some w ∧ w.slot = BitVec.ofNat 2 slot ∧ w.bays = bays ∧ w.setters = setters ∧ w.left = setters ∧
    w.reload = reload ∧ w.moved = false ∧ w.oldSlot = s.img.bayslot) ∧
  t.img.swSlot = BitVec.ofNat 2 slot ∧
  (∀ b : BayId, bays.getLsbD b.val = true → (s.bay b).gated = false → (t.bay b).held = true ∧ t.img.bayslot.get b = s.img.bayslot.get b) ∧
  (∀ b : BayId, bays.getLsbD b.val = true → (s.bay b).gated = true → t.img.bayslot.get b = BitVec.ofNat 2 slot) ∧
  (∀ b : BayId, bays.getLsbD b.val = false → t.bay b = s.bay b ∧ t.img.bayslot.get b = s.img.bayslot.get b) ∧
  t.store = s.store ∧ t.hod = s.hod ∧ t.pwr = s.pwr ∧ t.clk = s.clk ∧ t.pln = s.pln ∧ t.irs = s.irs

/-- A bond table that answers to a request now. -/
def armedBond (b : Bond) (last : Nat) : Bond × Bool := Bond.validated { b with phase := .validating } last

/-! ### Bus accesses of masters -/

/-- The state after an access of master m that ended OK, with the bytes it read. -/
def answeredOk (m : Nat) (data : List Byte) (s : State) : State := { s with resp := nthUpd s.resp m (fun _ => ⟨.ok, data⟩) }

/-- The state after a write of master m that ended OK, at a moment that its command does not give (log 6). -/
def wroteOk (m : Master) (s : State) : State := answeredOk m.val [] { s with free := s.free + 2 }

/-- The same where the write's effect comes after the moment's free values were taken. -/
def wroteThen (m : Master) (f : State → State) (s : State) : State := answeredOk m.val [] (f { s with free := s.free + 2 })

/-- The state after an access that ended otherwise. -/
def ended (m : Nat) (code : RespCode) (s : State) : State := { s with resp := nthUpd s.resp m (fun _ => ⟨code, []⟩) }

/-- A setter's register block answers a master (R20 to R22, R363). -/
structure SetOpen (s : State) (m : Master) (i : SetterId) (off : Nat) (wr : Bool) : Prop where
  reg : RegOpen s m.val (.set i) off wr
  isol : (s.st i).isol = false

/-- The setter after SRST (R37, R39). -/
def srstDone (x : Setter) : Setter :=
  { x with pc := 0, g := Vector.replicate 16 0, acc := 0, flags := ⟨false, false, false, false, false, false⟩, bdepth := 0, bstk := 0,
           tag := 0, timers := Vector.replicate 8 ⟨0, 0, 0, false, false, false, false, false⟩, fcnt := 0, overruns := 0, missed := 0,
           evl := 0, staging := [], tm := false, epc := 0, eflags := 0, causeSub := 0, causeVec := 0, eaddr := 0, dbltrap := false,
           heldOvr := false, heldTm := 0, heldSys := none, armed := false, due := 0, late := false, scan := 0, wait := .none,
           ilReg := none, ilMac := false, skipBk := false, again := false, lutStall := none }

/-- A start takes the initial snapshot where none has been taken (R38). -/
def withSnap (x : Setter) (v : BitVec 256) : Setter :=
  { x with needSnap := false, snap := if x.needSnap then v else x.snap, prev := if x.needSnap then v else x.prev,
           ilat := if x.needSnap then v else x.ilat }

/-- State registers of R68 at their offsets, and what a write of `v` leaves in the stopped setter. -/
def stateRows (x : Setter) (v : Word) (r : Reg) (t : TimerId) : List (Nat × Setter) := [
  (0x08, { x with pc := field v 13 0 }),
  (0x0C, { x with flags := ⟨v.getLsbD 0, v.getLsbD 1, v.getLsbD 2, v.getLsbD 3, v.getLsbD 4, v.getLsbD 5⟩ }),
  (0x4C, { x with tag := field v 7 0 }),
  (0x58, { x with acc := BitVec.ofNat 64 (x.acc.toNat / 2 ^ 32 * 2 ^ 32 + v.toNat) }),
  (0x5C, { x with acc := BitVec.ofNat 64 (x.acc.toNat % 2 ^ 32 + v.toNat * 2 ^ 32) }),
  (0x100 + 4 * r.val, { x with g := x.g.set r.val v r.isLt }),
  (0x204 + 16 * t.val, { x with timers := x.timers.set t.val { x.timers.get t with preset := v } t.isLt }),
  (0x208 + 16 * t.val, x)]

/-- The three frame-source registers: offset, mask of the fields, the values that R59 refuses. -/
def frameLegal (x : Setter) (r : FrameReg) (v : Word) : Prop :=
  match r with
  | .fsrc => ((field v 1 0).toNat = 0 ∨ (field v 1 0).toNat = 3 → (field x.fperiod 15 0).toNat ≠ 0) ∧
      ((field v 1 0).toNat = 3 → (field x.ftb 15 0).toNat ≠ 0 ∧ (field x.ftb 31 16).toNat < (field x.ftb 15 0).toNat)
  | .fperiod => (field v 15 0).toNat ≠ 0
  | .ftb => (field v 15 0).toNat ≠ 0 ∧ (field v 31 16).toNat < (field v 15 0).toNat

/-- The setter with a frame-source register written: at once while FEN is 0, else waiting for the next tick (R59). -/
def frameWritten (x : Setter) (r : FrameReg) (v : Word) : Setter :=
  match r, x.fen with
  | .fsrc, false => { x with fsrc := v &&& 0x7F#32, fsrcW := none }
  | .fsrc, true => { x with fsrcW := some (v &&& 0x7F#32) }
  | .fperiod, false => { x with fperiod := v &&& 0xFFFF#32, fperiodW := none }
  | .fperiod, true => { x with fperiodW := some (v &&& 0xFFFF#32) }
  | .ftb, false => { x with ftb := v, ftbW := none }
  | .ftb, true => { x with ftbW := some v }

/-- Where a frame-source register lies. -/
def frameAtOff (r : FrameReg) : Nat :=
  match r with
  | .fsrc => 0x10
  | .fperiod => 0x14
  | .ftb => 0x18

/-- A pulse on event line `line` has landed at a setter x: its latch is set; a WEV whose mask then finds latches ends with them, cleared; a
FRAME that waits for a tick of that line takes it, and before the FRAME the tick is due, counted, or discarded (R52, R59, R60, R112). -/
def Pulsed (x y : Setter) (line : Nat) : Prop :=
  let l := x.evl ||| BitVec.ofNat 32 (2 ^ line)
  let hears := x.fen = true ∧ (field x.fsrc 1 0).toNat = 2 ∧ (field x.fsrc 6 2).toNat = line
  (¬hears →
    (x.wait = .none → y = { x with evl := l }) ∧
    ∀ d mask timeout, x.wait = .wev d mask timeout →
      (l &&& mask = 0 → y = { x with evl := l }) ∧
      (l &&& mask ≠ 0 → ∃ c, 2 ≤ c ∧ (timeout ≠ 0xFFFFFFFF#32 → c ≤ 300 * timeout.toNat + 2) ∧
        y = { wrote x d (l &&& mask) (zn x.flags (l &&& mask)) with evl := l &&& ~~~mask, wait := .none, scan := x.scan + c })) ∧
  (hears → x.fsrcW = none → x.fperiodW = none → x.ftbW = none →
    (∀ next, AtFrame x 2 next → ∃ v : BitVec 256, (∀ k, k < 256 → (∀ e ∈ x.tapIn, e.1 ≠ k) → v.getLsbD k = false) ∧
      y = { ticked x next v with evl := l, tblost := false }) ∧
    (x.wait = .none →
      (x.armed = false → y = { x with evl := l, tblost := false }) ∧
      (x.armed = true → x.stopped = false → x.dozed = false → y = { x with evl := l, due := x.due + 1, late := false, tblost := false }) ∧
      (x.armed = true → (x.stopped = true ∨ x.dozed = true) →
        y = { x with evl := l, missed := sat16 (x.missed.toNat + 1), late := true, tblost := false })))

/-- Every setter is between instructions, and no event-line tick can fall at this line (R52, R60). -/
def NoListener (s : State) (line : Nat) : Prop :=
  ∀ i, (s.st i).wait = .none ∧ ¬((s.st i).fen = true ∧ (field (s.st i).fsrc 1 0).toNat = 2 ∧ (field (s.st i).fsrc 6 2).toNat = line)

/-- The event controller with one pending bit set. -/
def Pending (s t : State) (n : Nat) : Prop :=
  pendBit t n = true ∧ (∀ k, k < 640 → k ≠ n → pendBit t k = pendBit s k) ∧ t.evt.route = s.evt.route ∧ t.evt.note = s.evt.note

/-! ### Bays, pins, clocks -/

/-- The 17 bits of a stored live mask hold an odd number of ones: its parity does not match (R141, R143). -/
def oddMask (m : BitVec 17) : Prop := ((List.range 17).countP (fun i => m.getLsbD i)) % 2 = 1

/-- Column and row of a bay in the 8 × 8 grid of the device (R139). -/
def gridOf (b : BayId) : Nat × Nat := (b.val / 16 % 2 * 4 + b.val % 4, b.val / 32 * 4 + b.val % 16 / 4)

/-- Bay d is the neighbour of b in a direction; rows rise downwards (R139). -/
def Adjacent (b : BayId) (dir : Dir) (d : BayId) : Prop :=
  match dir with
  | .left => (gridOf b).1 = (gridOf d).1 + 1 ∧ (gridOf b).2 = (gridOf d).2
  | .right => (gridOf b).1 + 1 = (gridOf d).1 ∧ (gridOf b).2 = (gridOf d).2
  | .up => (gridOf b).2 = (gridOf d).2 + 1 ∧ (gridOf b).1 = (gridOf d).1
  | .down => (gridOf b).2 + 1 = (gridOf d).2 ∧ (gridOf b).1 = (gridOf d).1

/-- The bay's logic runs: not held, not isolated, powered. -/
def Running (b : Bay) : Prop := b.held = false ∧ b.isol = false ∧ b.gated = false

/-- The bay with one joint changed. -/
def withJoint (b : Bay) (dir : Dir) (j : Fin 8) (f : Joint → Joint) : Bay :=
  { b with joints := nthUpd b.joints (jointNo dir j) f }

/-- The joint of a bay. -/
def jointOf (b : Bay) (dir : Dir) (j : Fin 8) : Joint := (nth b.joints (jointNo dir j)).getD ⟨false, none, 0, false, false⟩

/-- Wing clock line k of a wing runs (R150). -/
def LineRuns (s : State) (w k : Nat) : Prop := ∃ p, nth s.clk.pll (2 * w + k / 4) = some p ∧ p.outs.getLsbD (k % 4) = true

/-- A regional clock with a write taken: a new line starts a switch (R151). -/
def clockTaken (c : RClk) (v : Word) : RClk :=
  { c with en := v.getLsbD 31, div := field v 7 4, sel := field v 2 0, busy := decide (field v 2 0 ≠ c.sel) }

/-- The bay with regional clock n put to c. -/
def withClock (b : Bay) (n : Fin 4) (c : RClk) : Bay := { b with rclk := b.rclk.set n.val c n.isLt }

/-- A source of a regional reset no longer asserts (R152). -/
def Cleared (s : State) (b : BayId) (n : Fin 4) (src : ResetSource) : Prop :=
  match src with
  | .loadHold => s.img.hold = false
  | .software => (s.bay b).rstSw.getLsbD n.val = false
  | .userNet => True
  | .reinit => Running (s.bay b)

/-- The bit of a source. -/
def sourceBit (src : ResetSource) : Nat :=
  match src with
  | .loadHold => 1
  | .software => 2
  | .userNet => 4
  | .reinit => 8

/-- Regional clock n of a bay ticks (R142, R151). -/
def Clocked (s : State) (b : BayId) (n : Fin 4) : Prop :=
  let c := (s.bay b).rclk.get n
  c.en = true ∧ c.busy = false ∧ (s.bay b).dozed = false ∧ (s.bay b).gated = false ∧ LineRuns s (b.val / 16) c.sel.toNat

/-- A setting of a wing PLL that R168 admits, the reference frequency in kHz. -/
def Admitted (khz : Option Nat) (ctrl odiv : Word) : Prop :=
  ∃ f, (if ctrl.getLsbD 29 then khz else some 50000) = some f ∧
    let r := (field ctrl 19 16).toNat + 1
    let n := (field ctrl 8 0).toNat
    5000 * r ≤ f ∧ f ≤ 50000 * r ∧ 800000 * r ≤ f * n ∧ f * n ≤ 1600000 * r ∧
    ∀ o, o < 4 → odiv.getLsbD (8 * o + 7) = true → f * n ≤ 400000 * r * (odiv.toNat / 2 ^ (8 * o) % 128 + 1)

/-- The state with wing PLL p put to x. -/
def withPll (s : State) (p : PllId) (x : Pll) : State := { s with clk := { s.clk with pll := s.clk.pll.set p.val x p.isLt } }

/-- A PLL whose unlock is declared: under ULPOL = 1 its running outputs are to stop (R172, R174). -/
def unlockedPll (x : Pll) : Pll :=
  { x with lock := false, unlocked := true, ulcnt := sat16 (x.ulcnt.toNat + 1), good := 0
           stopW := if x.ulpol then x.outs else x.stopW }

/-- The state with the output divider of every regional clock on line k of a wing put to phase 0, and nothing else of the bays changed
(R171). -/
def Rephased (s t : State) (wing k : Nat) : Prop :=
  ∀ b : BayId, t.bay b = { s.bay b with rclk := (t.bay b).rclk } ∧ ∀ n : Fin 4,
    let c := (s.bay b).rclk.get n
    (t.bay b).rclk.get n = if b.val / 16 = wing ∧ c.sel.toNat = k then { c with cnt := 0 } else c

/-- LASTDIFF of a window: the difference from 1,024, clamped to 8 bits (R172). -/
def windowDiff (fb : Nat) : BitVec 8 := BitVec.ofInt 8 (max (-128) (min ((fb : Int) - 1024) 127))

/-- A window's difference is at most n either way. -/
def Near (fb n : Nat) : Prop := 1024 ≤ fb + n ∧ fb ≤ 1024 + n

/-- The fields of PLL_CTRLp that hold a value; ULPOL of an even PLL reads 0 (R169). -/
def ctrlBits (p : PllId) (v : Word) : Word := v &&& (if p.val % 2 = 0 then 0xA00F01FF#32 else 0xE00F01FF#32)

/-- The fields of PLL_CTRLp that may not change while EN is 1 (R176). -/
def fixedBits (v : Word) : Word := v &&& 0x200F01FF#32

/-- An even PLL's registers are locked after the global release (R8, R169). -/
def PllOpen (s : State) (p : PllId) : Prop := p.val % 2 = 1 ∨ s.img.locked = false

/-- The flip-flop of a cell after a moment: the first row of R133 that applies. -/
def cellAfter (s : State) (b : BayId) (f : Nat) : Bool :=
  let g := Config.cellCfg (latches s b.val) f
  let net := netNow s b.val
  let edge := edgeNow s b (g.clk % 4)
  let sr := muxVal net g.sr != g.srInv
  if g.rsten = true ∧ (s.bay b).tree.getLsbD (g.clk % 4) = true then g.init
  else if sr = true ∧ g.srAsync = true then g.srVal
  else if edge = true ∧ sr = true then g.srVal
  else if edge = true ∧ (g.ceTied = true ∨ muxVal net g.ce = true) then
    match g.d with
    | .lut => net (.lut f)
    | .sum => net (.sum f)
    | .dx => muxVal net g.dx
  else ffQ s b.val f

/-- The state where the keepers hold w. -/
def keeping (s : State) (w : BitVec 132) : State := { s with free := s.free + 1, io := { s.io with keeper := w } }

/-- Keepers hold what stands on their balls: a driven level; one whose ball nothing drives keeps its own (R157, R388). -/
def KeepersTake (s : State) (w : BitVec 132) : Prop :=
  ∀ p, p < 132 →
    (∀ v, pinDrive s p = .level v → w.getLsbD p = v) ∧
    (∀ v, pinDrive s p = .keeper v → Config.boardDrives s.free p = false → w.getLsbD p = s.io.keeper.getLsbD p)

/-- A MAC block after a moment: cleared by its reset tree, standing without an edge, else ACC and OVF of the exact result (R148, R149). -/
def AccAfter (s : State) (b : BayId) (k : Fin 4) (m n : MacBlock) : Prop :=
  let g := Config.macCfg (latches s b.val) k.val
  let net := netNow s b.val
  let rst := (s.bay b).tree.getLsbD (g.clk % 4)
  let a := BitVec.ofNat 18 (muxBits net g.a)
  let c := BitVec.ofNat 18 (muxBits net g.b)
  let p := macProduct g.sa g.sb (if g.areg then m.areg else a) (if g.breg then m.breg else c)
  let w := if g.preg then m.preg else p
  let v : Int := if g.sa || g.sb then w.toInt else w.toNat
  let casc : BitVec 48 := match k with
    | 0 => 0
    | 1 => ((s.bay b).mac.get 0).acc
    | 2 => ((s.bay b).mac.get 1).acc
    | 3 => ((s.bay b).mac.get 2).acc
  let results : List Int := [v, m.acc.toInt + v, m.acc.toInt - v, (BitVec.ofNat 48 (muxBits net g.c)).toInt + v, casc.toInt + v]
  (rst = true → n = ⟨0, 0, 0, 0, false⟩) ∧
  (rst = false → edgeNow s b g.clk = false → n = m) ∧
  (rst = false → edgeNow s b g.clk = true → n.areg = a ∧ n.breg = c ∧ n.preg = p ∧
    match results[(BitVec.ofNat 3 (muxBits net g.op)).toNat]? with
    | some r => n.acc = BitVec.ofInt 48 r ∧ n.ovf = (decide (r < -(2 ^ 47)) || decide (2 ^ 47 ≤ r))
    | none => n.acc = m.acc ∧ n.ovf = false)

/-! ### The store and its arbiter -/

/-- The forms of a store request that R114 and R182 allow. -/
def LegalForm (m : Master) (q : StoreReq) : Prop :=
  let a := q.addr.toNat
  (q.beats = 1 → (if m.val < 16 then q.bytes = 4 ∨ q.bytes = 16 else q.bytes ∈ [1, 2, 4, 8, 16]) ∧ a % q.bytes = 0 ∧
    a + q.bytes ≤ 0x800000 ∧ ¬(q.lock = true ∧ q.key = true)) ∧
  (q.beats ≠ 1 → 16 ≤ m.val ∧ 2 ≤ q.beats ∧ q.beats ≤ 8 ∧ a % 16 = 0 ∧ a % 4096 + 16 * q.beats ≤ 4096 ∧ a + 16 * q.beats ≤ 0x800000 ∧
    q.lock = false ∧ q.key = false)

/-- How many bytes it covers. -/
def span (q : StoreReq) : Nat := if q.beats = 1 then q.bytes else 16 * q.beats

/-- Master m holds an enabled line of a setting of the four keystone lines. -/
def OnLine (v : Vector Word 4) (m : Nat) : Prop := ∃ k : Fin 4, (v.get k).getLsbD 31 = true ∧ (field (v.get k) 4 0).toNat = m

/-- Master m may raise a keystone request: it holds a line, be it one whose assignment takes effect at a decision to come (R194). -/
def MayKey (s : State) (m : Nat) : Prop := OnLine s.arb.keyEff m ∨ OnLine s.arb.keyMid m ∨ OnLine s.arb.key m

/-- The request as it stands raised: a burst moves whole beats. -/
def raised (q : StoreReq) (key : Bool) : StoreReq := { q with bytes := if q.beats = 1 then q.bytes else 16, key := key }

/-- The request vector's entry of a master. -/
def entry (v : Vector (Option StoreReq) 32) (m : Nat) : Option StoreReq := (nth v m).getD none

/-- A vector of 32 with one master's entry put. -/
def put32 {α : Type} (v : Vector α 32) (m : Nat) (a : α) : Vector α 32 := nthUpd v m (fun _ => a)

/-- The store serves: not retained, waking or isolated, the device not in DORMANT (R204). -/
def Serving (s : State) : Prop :=
  s.store.retn = false ∧ s.store.waking = false ∧ s.store.isol = false ∧ s.pwr.state ≠ 3

/-- A cut-off of master m (R195, R198): its request gone, its locks released, the cause, the address and CUTCNT recorded, an error
response after the data of the beats that moved, source 448 + m. -/
def CutOff (s t : State) (m : Nat) (key : Bool) (bit : BitVec 6) (addr : Nat) (fence : Bool) : Prop :=
  nth (if key then t.arb.kreq else t.arb.ord) m = some none ∧ (∀ l ∈ t.arb.locks, l.1 ≠ m) ∧ (∀ l ∈ s.arb.locks, l.1 ≠ m → l ∈ t.arb.locks) ∧
  (∃ c d, nth s.arb.mcause m = some c ∧ nth t.arb.mcause m = some d ∧ d = c ||| bit) ∧ nth t.arb.maddr m = some (BitVec.ofNat 32 addr) ∧
  (∃ c, nth s.arb.cutcnt m = some c ∧ nth t.arb.cutcnt m = some (BitVec.ofNat 8 (min (c.toNat + 1) 255))) ∧
  (∃ r, nth s.resp m = some r ∧ nth t.resp m = some ⟨.cutOff, r.data⟩) ∧ pendBit t (448 + m) = true ∧ fenced t m = (fenced s m || fence) ∧ t.store = s.store ∧ t.hod = s.hod

/-- Setter i takes the cut-off's trap, with the address of its sequence; a double trap where it serves one (R63, R65, R117). -/
def CutTrap (s t : State) (i : SetterId) (addr : Nat) : Prop :=
  let x := s.st i
  let y := t.st i
  (x.tm = false → y.tm = true ∧ y.causeVec = 8 ∧ y.causeSub = 0 ∧ y.eaddr = BitVec.ofNat 32 addr ∧ y.epc = x.pc ∧ y.pc = 8 ∧ y.g = x.g) ∧
  (x.tm = true → y.dbltrap = true ∧ y.run = false ∧ y.stopped = true ∧ y.pc = x.pc)

/-- Master m may raise a request: none is raised or waits at the closed joint, and it holds no lock (R185, R198, R204). -/
structure Silent (s : State) (m : Nat) : Prop where
  ord : entry s.arb.ord m = none
  key : entry s.arb.kreq m = none
  joint : ∀ e ∈ s.arb.joint, e.1 ≠ m
  lock : ∀ l ∈ s.arb.locks, l.1 ≠ m

/-- FENCEEN of a master (R198). -/
def fenceEn (s : State) (m : Nat) : Bool := ((nth s.arb.mctl m).getD 0).getLsbD 30

/-- The request that the granted master's beat belongs to. -/
def granted (s : State) (g : Grant) : Option StoreReq := (nth (if g.key then s.arb.kreq else s.arb.ord) g.master).getD none

/-- What is left of it after one beat. -/
def remainder (q : StoreReq) : Option StoreReq :=
  if q.beats ≤ 1 then none else some { q with addr := q.addr + 16, beats := q.beats - 1, data := q.data.drop 16 }

/-- After a beat: the request shortened or gone, the piece's cycles counted down, the master's wait ended, more data answered, OK with
the last beat (R184, R193, R200). -/
def Beat (s t : State) (g : Grant) (q : StoreReq) (d : List Byte) : Prop :=
  granted t { g with left := 0 } = remainder q ∧
  t.arb.grant = (if g.left ≤ 1 ∨ remainder q = none then none else some { g with left := g.left - 1 }) ∧
  nth t.arb.waitc g.master = some 0 ∧ t.arb.starved.getLsbD g.master = false ∧
  (∃ r, nth s.resp g.master = some r ∧
    nth t.resp g.master = some ⟨if remainder q = none then .ok else .none, r.data ++ d⟩) ∧
  t = { s with store := t.store, arb := t.arb, resp := t.resp, pln := t.pln } ∧ t.arb.mctl = s.arb.mctl ∧ t.arb.bond = s.arb.bond ∧
  t.arb.rbase = s.arb.rbase ∧ t.arb.rlim = s.arb.rlim ∧ t.arb.ptr = s.arb.ptr

/-- No half that n bytes at a touch has an ECC error. -/
def Clean (s : State) (a n : Nat) : Prop := ∀ h ∈ halvesOf a n, kvGet s.store.err h = none ∧ halfBad s h = false

/-- The slot whose decision is due, and its entry in the active bond table (R190, R192). -/
def nextSlot (s : State) : Nat := (s.arb.ptr.toNat + 1) % 64

/-- A FREE or KEY entry. -/
def OpenEntry (e : BitVec 8) : Prop := (field e 7 6).toNat < 2

/-- Line k of the keystone lines in effect names master m, whose sampled keystone request takes part (R192, R194). -/
def KeyWaits (s : State) (k m : Nat) : Prop :=
  ∃ w, nth s.arb.keyEff k = some w ∧ w.getLsbD 31 = true ∧ (field w 4 0).toNat = m ∧ (keySampled s m).isSome = true

/-- Line k is the first at or after keyptr whose master waits. -/
def FirstLine (s : State) (k m : Nat) : Prop :=
  k < 4 ∧ KeyWaits s k m ∧ ∀ j n, j < 4 → (j + 4 - s.arb.keyptr.toNat) % 4 < (k + 4 - s.arb.keyptr.toNat) % 4 → ¬KeyWaits s j n

/-- Master w wins the background decision: no rank above it, and in its rank the first at or after the rank's pointer (R192). -/
def Background (s : State) (w : Nat) : Prop :=
  let p := ((nth s.arb.rr (rankOf s w)).getD 0).toNat
  w < 30 ∧ (ordSampled s w).isSome = true ∧
  ∀ m, m < 30 → (ordSampled s m).isSome = true → rankOf s m < rankOf s w ∨
    (rankOf s m = rankOf s w ∧ (w + 32 - p) % 32 ≤ (m + 32 - p) % 32)

/-- The end of a store cycle: the pointer moves on, requests are sampled, lines, ranks and regions move one decision on, and nothing that the
decision does not concern changes (R189 to R191, R194, R197). -/
def CycleEnds (s t : State) : Prop :=
  t = { s with arb := t.arb } ∧ t.arb.ptr = s.arb.ptr + 1 ∧ t.arb.sampO = s.arb.ord ∧ t.arb.sampK = s.arb.kreq ∧ t.arb.ord = s.arb.ord ∧
  t.arb.kreq = s.arb.kreq ∧ t.arb.keyEff = s.arb.keyMid ∧ t.arb.keyMid = s.arb.key ∧ t.arb.rankEff = s.arb.rankMid ∧
  (∀ m : Fin 32, t.arb.rankMid.get m = field (s.arb.mctl.get m) 18 16) ∧ t.arb.regEff = s.arb.regMid ∧
  (∀ m : Fin 32, t.arb.regMid.get m = (s.arb.rbase.get m, s.arb.rlim.get m)) ∧ t.arb.goneO = 0 ∧ t.arb.goneK = 0 ∧ t.arb.key = s.arb.key ∧ t.arb.mctl = s.arb.mctl ∧
  t.arb.bond = s.arb.bond ∧ t.arb.locks = s.arb.locks ∧ t.arb.rbase = s.arb.rbase ∧ t.arb.rlim = s.arb.rlim ∧
  ∀ m : Fin 32, t.arb.waitc.get m =
    if (s.arb.ord.get m).isSome || (s.arb.kreq.get m).isSome then sat16 ((s.arb.waitc.get m).toNat + 1) else s.arb.waitc.get m

/-- Entry n of a bond table copy. -/
def entryAt (v : Vector (BitVec 8) 64) (n : Nat) : BitVec 8 := (nth v n).getD 0

/-- G of a copy: the largest cyclic gap from one FREE or KEY entry to the next (R201). -/
def LargestGap (v : Vector (BitVec 8) 64) (g : Nat) : Prop :=
  (∀ i, i < 64 → OpenEntry (entryAt v i) → ∃ k, 1 ≤ k ∧ k ≤ g ∧ OpenEntry (entryAt v ((i + k) % 64))) ∧
  ∃ i, i < 64 ∧ OpenEntry (entryAt v i) ∧ ∀ k, 1 ≤ k → k < g → ¬OpenEntry (entryAt v ((i + k) % 64))

/-- No entry has the reserved KIND, and every owned one names an owner that exists (R201, R202). -/
def Owners (v : Vector (BitVec 8) 64) (last : Nat) : Prop :=
  ∀ n, n < 64 → (field (entryAt v n) 7 6).toNat ≠ 3 ∧ ((field (entryAt v n) 7 6).toNat = 2 → (field (entryAt v n) 4 0).toNat ≤ last)

/-! ### The hod -/

/-- A queue window answers master m (R20 to R22, R215): a bus master from 16 on, its regions permit the window's address, the device
started and not in DORMANT, nothing outstanding at the bus port. -/
structure WindowOpen (s : State) (m : Master) (q : QueueId) (off len : Nat) (wr : Bool) : Prop where
  master : 16 ≤ m.val
  stage : s.pwr.stage = .run ∨ s.pwr.stage = .core
  awake : s.pwr.state ≠ 3
  free : PortFree s 16
  region : regionOk s m.val (0x10000000 + 8 * q.toNat + off) len (!wr) wr = true

/-- An element's word and tag bits (VB, BRK, EOB) appended to queue q: TAIL and SEQ moved on, the 8 bytes in the combining buffer,
every other queue as before (R208 to R210, R220). -/
def Appended (s t : State) (q : QueueId) (v : Word) (vb : Nat) (brk eob : Bool) : Prop :=
  let e := descOf s q
  descOf t q = e.pushed ∧ (∀ k, k ≠ q → descOf t k = descOf s k) ∧
  combGet t (e.elem e.tail) = some (leBytes 4 v.toNat ++
    [BitVec.ofNat 8 (128 + vb * 32 + brk.toNat * 16 + eob.toNat * 8 + e.seq % 8), 0, 0, 0]) ∧ t.store = s.store ∧ t.bays = s.bays ∧ t.arb = s.arb

/-- An ordinary queue takes an element of master m: enabled, not PACK class, not KEY, m's regions cover its ring, room in ring and
buffer (R119, R208, R220). -/
structure HasRoom (s : State) (m : Nat) (q : QueueId) : Prop where
  isOpen : QueueOpen s q
  plain : (descOf s q).pack = false ∧ (descOf s q).key = false
  region : regionOk s m (descOf s q).base (descOf s q).ring false true = true
  ring : (descOf s q).count ≠ (descOf s q).cap
  buffer : combRoom s ((descOf s q).elem (descOf s q).tail / 16 * 16) = true

/-- Packer p takes what is presented to it: an enabled PACK queue names it, the hod's domain is on, it waits for no room; a fabric byte
port's bay runs, and nothing stands in its buffer (R216, R219). -/
structure PackTakes (s : State) (p : PackerId) (q : QueueId) : Prop where
  named : packQueue s p.val = some q
  on : s.hod.gated = false
  held : (packOf s p.val).wait = none
  port : p.val < 16 → portLive s p.val = true ∧ (packOf s p.val).fifo = []

/-- An enabled queue of packer p with room for one more word (R216, R217, R228). -/
structure PackRoom (s : State) (p : PackerId) (q : QueueId) : Prop where
  takes : PackTakes s p q
  sound : kvGet s.hod.derr q.toNat = none ∧ faulted s q = false ∧ (descOf s q).key = false
  region : regionOk s (packMaster p.val) (descOf s q).base (descOf s q).ring false true = true
  ring : (descOf s q).count ≠ (descOf s q).cap
  buffer : combRoom s ((descOf s q).elem (descOf s q).tail / 16 * 16) = true

/-- A packer after its word was taken: nothing held, no break mark owed. -/
def packEmpty (k : Packer) : Packer := { k with part := [], owed := false, wait := none }

/-- R212, code 2: the ring's size, its base, where it ends, and the stall of a PACK queue. -/
def RingLegal (d : Desc) : Prop :=
  d.size ≤ 10 ∧ d.base % d.ring = 0 ∧ d.base + d.ring ≤ 0x800000 ∧ (d.pack = true → d.stall < 14)

/-- R212, code 8: the watermarks, each where its event is enabled, and the group. -/
def MarksLegal (d : Desc) : Prop :=
  let hw := (field d.w2 29 16).toNat
  let lw := (field d.w2 13 0).toNat
  (d.w3.getLsbD 25 = true → 0 < hw ∧ hw ≤ d.cap) ∧ (d.w3.getLsbD 24 = true → lw < d.cap) ∧ (field d.w3 31 26).toNat < 48

/-- R212, code 6: no other enabled PACK queue is bound to this producer. -/
def ProducerFree (s : State) (q : QueueId) (d : Desc) : Prop :=
  d.pack = true → ∀ e ∈ s.hod.desc, e.1 ≠ q.toNat → e.2.en = true → e.2.pack = true → e.2.producer ≠ d.producer

/-- A descriptor that ENABLE accepts (R212). -/
def DescLegal (s : State) (q : QueueId) (d : Desc) : Prop :=
  RingLegal d ∧ ¬(d.key = true ∧ d.pack = true) ∧ (d.key = true → keyCount s < 256) ∧ MarksLegal d ∧
  regionOk s 18 d.base d.ring true true = true ∧ ProducerFree s q d

/-- The first check of R212 that a descriptor fails has this code. -/
def FirstFails (s : State) (q : QueueId) (d : Desc) (code : Nat) : Prop :=
  let both := d.key = true ∧ d.pack = true
  let room := d.key = true → keyCount s < 256
  let inside := regionOk s 18 d.base d.ring true true = true
  (code = 2 ∧ ¬RingLegal d) ∨ (code = 7 ∧ RingLegal d ∧ both) ∨ (code = 4 ∧ RingLegal d ∧ ¬both ∧ ¬room) ∨
  (code = 8 ∧ RingLegal d ∧ ¬both ∧ room ∧ ¬MarksLegal d) ∨ (code = 5 ∧ RingLegal d ∧ ¬both ∧ room ∧ MarksLegal d ∧ ¬inside) ∨
  (code = 6 ∧ RingLegal d ∧ ¬both ∧ room ∧ MarksLegal d ∧ inside ∧ ¬ProducerFree s q d)

/-- HOD_QCMD by master m may act on the selected queue: no command is under way (R211). -/
structure QcmdOpen (s : State) (m : Master) : Prop where
  reg : RegOpen s m.val .hod 0x24 true
  queue : 64 ≤ s.hod.qsel.toNat ∨ m.val = 16
  mark : kvGet s.hod.derr s.hod.qsel.toNat = none
  idle : s.hod.qbusy = none

/-- HOD_QCMD ended with a result: the selected queue's descriptor, everything else of the hod but its fault mark and the bank's count
as before. -/
def QcmdEnds (s : State) (m : Master) (out : Host.Outcome State Fault Refusal) (result : Nat) (d : Desc) : Prop :=
  ∃ h, out = .next (wroteOk m { s with hod := h }) ∧
    h = { s.hod with desc := h.desc, fault := h.fault, bankNow := h.bankNow, result := BitVec.ofNat 4 result } ∧
    (∀ k : Nat, (kvGet h.desc k).getD ⟨0, 0, 0, 0⟩ = if k = s.hod.qsel.toNat then d else (kvGet s.hod.desc k).getD ⟨0, 0, 0, 0⟩) ∧
    ∀ k, k ≠ s.hod.qsel.toNat → (k ∈ h.fault ↔ k ∈ s.hod.fault)

/-- A low crossing of descriptor d's watermark group is recorded (R226). -/
def Lowered (t : State) (d : Desc) : Prop :=
  let g := (field d.w3 31 26).toNat
  pendBit t (384 + g) = true ∧ ∃ w, nth t.hod.wm g = some w ∧ w.lo = true ∧ 0 < w.count.toNat

/-- The staged words as WRITE stores them: EN, HEAD, TAIL and SEQ 0 (R211). -/
def staged (s : State) : Desc := ⟨s.hod.stg.get 0 &&& 0x7FFFFFFF#32, 0, s.hod.stg.get 2, s.hod.stg.get 3 &&& 0xFFFFFFF8#32⟩

/-! ### The chain -/

/-- The device is on the ring and no re-training is in progress (R247, R252). -/
def OnRing (s : State) : Prop := s.irs.bypopen = true ∧ s.irs.retrain = false

/-- The cell's CRC is right (R236). -/
def Good (c : Cell) : Prop := c.crc = cellCrc c

/-- The cell's CRC is neither right nor the complement that a stomp leaves (R244). -/
def Broken (c : Cell) : Prop := c.crc ≠ cellCrc c ∧ c.crc ≠ ~~~(cellCrc c)

/-- This device's address on the ring: the head's is 0 (R248). -/
def ownAddr (r : Irs) : BitVec 12 := if r.head then 0 else r.addr

/-- The device has this address (R248). -/
def Addressed (s : State) (a : BitVec 12) : Prop := (s.irs.addrv = true ∨ s.irs.head = true) ∧ ownAddr s.irs = a

/-- Types with their classes (R237). -/
def legalTypes : List (Nat × Nat) :=
  [(1, 0), (1, 2), (2, 2), (3, 2), (4, 3), (5, 1), (6, 2), (7, 2), (8, 2), (9, 2), (10, 3), (11, 2)]

/-- A cell of a type arrives for this device with a good CRC (R237, R239). -/
structure Arrives (s : State) (c : Cell) (n : Nat) : Prop where
  ring : OnRing s
  kind : c.type.toNat = n
  legal : (n, c.cls.toNat) ∈ legalTypes
  mine : Addressed s c.dest
  fresh : ¬(s.irs.head = true ∧ c.hop = true)
  crc : Good c

/-- The state with the chain interface changed; a good cell ends a run of bad ones (R234). -/
def withIrs (s : State) (f : Irs → Irs) : State := { s with irs := f { s.irs with badRun := 0 } }

/-- Payload bytes i to i + n − 1 as a little-endian number (R238). -/
def pay (c : Cell) (i n : Nat) : Nat := leNat ((c.payload.drop i).take n)

/-- The QFAIL that answers a cell (R227, R238). -/
def qfailFor (s : State) (c : Cell) (reason : Nat) : Cell :=
  mkCell s 2 2 c.src (c.payload.take 2 ++ [BitVec.ofNat 8 reason, c.type.setWidth 8] ++ (c.payload.drop 4).take 4)

/-- A transit cell of another device, of a type that only its destination reads, on a ring whose head is another device. -/
structure Transit (s : State) (c : Cell) : Prop where
  ring : OnRing s
  kind : (c.type.toNat, c.cls.toNat) ∈ legalTypes ∧ ¬(5 ≤ c.type.toNat ∧ c.type.toNat ≤ 8)
  other : s.irs.head = false ∧ (s.irs.addrv = true → c.dest ≠ s.irs.addr ∧ c.src ≠ s.irs.addr)

/-- A 16-bit count saturating, one more. -/
def more (c : BitVec 16) : BitVec 16 := sat16 (c.toNat + 1)

/-- No own keystone cell may leave now (R243, R248). -/
def noOwnKey (r : Irs) : Prop := r.ken = false ∨ r.kenref = true ∨ r.keyHold = true ∨ r.ownKey = []

/-- The slot is an OWNER's with a cell to insert (R240, R241, R245). -/
def ownerTurn (r : Irs) (e : BitVec 8) : Prop :=
  (field e 7 6).toNat = 2 ∧ (∃ k : Fin 4, e.toNat % 4 = k.val ∧ r.own.get k ≠ []) ∧ r.paused = false ∧ r.tranBuf.length < 8 ∧ r.ins5 = 0

/-- No own cell goes before a non-keystone transit cell in this slot (R240). -/
def Yields (r : Irs) (e : BitVec 8) : Prop := noOwnKey r ∧ r.ownTime = [] ∧ r.ownHead = [] ∧ ¬ownerTurn r e

/-- The rank of a class in IRS_CRANK (R245). -/
def rankIn (r : Irs) (k : Fin 4) : Nat := r.crank.toNat / 2 ^ (4 * k.val) % 8

/-- Class k wins a FREE or KEY slot: of the classes with a cell it has the highest rank, and inside the rank it is the first in round-robin
order (R245). -/
def Wins (r : Irs) (k : Fin 4) : Prop :=
  let p := (r.crr.get ⟨rankIn r k, Nat.mod_lt _ (by decide)⟩).toNat
  ∀ j : Fin 4, r.own.get j ≠ [] → rankIn r j < rankIn r k ∨ (rankIn r j = rankIn r k ∧ (k.val + 4 - p) % 4 ≤ (j.val + 4 - p) % 4)

/-- A TIME cell as it leaves the head: stamped with the head's time, its CRC right (R254). -/
def stamped (c : Cell) (now : BitVec 64) : Cell :=
  let d := { c with payload := leBytes 8 now.toNat ++ c.payload.drop 8 }
  { d with crc := cellCrc d }

/-- The effective KEY_INTERVAL (R243): the larger of KI and L + 51.2 µs rounded up to a µs. -/
def effective (ki : BitVec 10) (lap : Word) : BitVec 10 := BitVec.ofNat 10 (min (max ki.toNat ((lap.toNat + 51200 + 999) / 1000)) 1023)

/-- A cell of the types that every device reads, on a device that is not the head. -/
structure Passes (s : State) (c : Cell) (n cls : Nat) : Prop where
  ring : OnRing s
  other : s.irs.head = false
  kind : c.type.toNat = n ∧ c.cls.toNat = cls
  crc : Good c

/-- The ring's service after RESUME: N, S and L stored, KEY_INTERVAL's floor, insertion goes on (R243, R248). -/
def Resumed (t : State) (n : BitVec 12) (k : BitVec 7) (lap : Word) (ki : BitVec 10) : Prop :=
  t.irs.ringN = n ∧ t.irs.ringS = k ∧ t.irs.lap = lap ∧ t.irs.keyEff = effective ki lap ∧ t.irs.resumed = true ∧ t.irs.paused = false ∧
  t.irs.hbusy = false ∧ pendBit t 485 = true

/-! ### The host port and the image slots -/

/-- The host port answers frames (R259, R380): in RUN, DOZE or NAP, READY, its balls powered. -/
structure HostUp (s : State) : Prop where
  ready : s.hst.ready = true
  balls : vio4 s = true
  state : s.pwr.state ≠ 3
  stage : s.pwr.stage = .run

/-- The code-6 status byte that a lost GET owes the next status phase (R263). -/
def owed6 (s : State) : List Byte := if s.hst.owe6 then [0x86] else []

/-- The port drives a status byte with RDY = 1 and no error, then these bytes (R260, R261). -/
def hostOk (s : State) (data : List Byte) : State :=
  { s with hst := { s.hst with owe6 := false, answer := owed6 s ++ 0x80 :: data } }

/-- The port drives a status byte with RDY and ERR and a code, then 0xFF; the code is kept (R261). -/
def hostErr (s : State) (code : BitVec 4) : State :=
  { s with hst := { s.hst with owe6 := false, answer := owed6 s ++ [0xC0 + code.setWidth 8, 0xFF], errcode := code } }

/-- A frame is ignored and counted (R260). -/
def hostIgnored (s : State) : State :=
  { s with hst := { s.hst with badcmd := BitVec.ofNat 8 (min (s.hst.badcmd.toNat + 1) 255), answer := [] } }

/-- An 8-bit count saturating, one more. -/
def more8 (c : Byte) : Byte := BitVec.ofNat 8 (min (c.toNat + 1) 255)

/-- Slot n of the image slots. -/
def imgSlot (s : State) (n : Nat) : Slot := (nth s.img.slots n).getD Slot.empty

/-- Every slot but n stands. -/
def OtherSlots (s t : State) (n : Nat) : Prop := ∀ k, k ≠ n → nth t.img.slots k = nth s.img.slots k

/-- A stream on an image slot ends with a RESULT and the slot in a state, its source raised; no other slot changes (R276). -/
def SlotEnds (s t : State) (n result : Nat) (state : BitVec 2) (source : Nat) : Prop :=
  t.img.stream = none ∧ t.img.wrResult = BitVec.ofNat 4 result ∧ (imgSlot t n).state = state ∧
  (imgSlot t n).payload = (imgSlot s n).payload ∧ (imgSlot t n).manifest = (imgSlot s n).manifest ∧ OtherSlots s t n ∧
  pendBit t source = true ∧ t.store = s.store ∧ t.bays = s.bays ∧ t.clk = s.clk ∧ t.io = s.io

/-- The chain's stream of IMG cells: offset, flags and count, bytes (R238). -/
def imgCount (c : Cell) : Nat := (c.payload.getD 3 0).toNat / 8

/-- A queue operation that removes or reads nothing: a PUT. -/
def isPut (op : HodOp) : Bool :=
  match op with
  | .put .. => true
  | _ => false

/-! ### Loads, swaps and repointers -/

/-- Every setter and bay at its reset value, everything held: the device while an image loads (R158, R283). -/
structure Held (t : State) : Prop where
  hold : t.img.hold = true
  rstout : t.rstout = true
  setters : ∀ i, t.setters.get i = Setter.reset
  bays : ∀ b, t.bays.get b = Bay.reset

/-- An attempt on a slot has failed with a cause; these candidates are left (R286 to R288). -/
structure Failed (s t : State) (slot : BitVec 2) (cause bay frame : Nat) (rest : List (BitVec 2)) : Prop where
  load : t.img.load = none
  cands : t.img.cands = rest
  cause : t.img.failSlot = slot ∧ t.img.failCause = BitVec.ofNat 4 cause ∧ t.img.failBay = BitVec.ofNat 6 bay ∧
    t.img.failFrame = BitVec.ofNat 10 frame ∧ t.img.failed = s.img.failed + 1
  held : t.img.hold = true ∧ t.rstout = true
  last : rest = [] → t.img.noimage = true ∧ t.faultn = true
  slots : t.img.slots = s.img.slots

/-- The candidates of a boot from one slot: it, then slot 0 (R280). -/
def after0 (k : BitVec 2) : List (BitVec 2) := if k = 0 then [0] else [k, 0]

/-- An attempt on this slot may begin: the device started, every block held, no attempt in progress, the slot's turn, no copy awaited. -/
structure TurnOf (s : State) (slot : BitVec 2) (rest : List (BitVec 2)) : Prop where
  stage : s.pwr.stage = .run
  state : s.pwr.state ≠ 3
  hold : s.img.hold = true
  none : s.img.load = none
  turn : s.img.cands = slot :: rest
  copy : ∀ x, s.img.stream = some x → x.boot = false

/-- What the attempt begins with: the device at reset, TRIAL cleared and the change logged where the attempt is the trial's (R280, R283,
R326). -/
def begun (s : State) (slot : BitVec 2) : State :=
  let u := loadReset s
  let v (trial : BitVec 2) : State := { u with img := { u.img with load := some slot, trial := trial } }
  if field u.img.mode 1 0 = 0 ∧ u.img.trial ≠ 0 ∧ u.img.trial = slot then logRec 0x0014 0 noSource (bootWord (v 0).img) 0 (v 0)
  else v u.img.trial

/-- A manifest's header and its state, as the first four causes of R286 ask for them: header and FLAGS, TARGET, key and version. -/
def headerChecks (i : Img) (x : Slot) : List (Nat × Prop) :=
  let m := x.manifest
  let k := memNat m 0x14 4
  [(3, x.state = 2),
   (1, x.manErr = false ∧ memNat m 0 4 = 0x4D49575A ∧ memNat m 4 4 = 1 ∧ memNat m 12 4 < 16),
   (2, memNat m 8 4 / 16 = 0x5A57091),
   (4, k < 4 ∧ i.prog.getLsbD k = true ∧ i.rev.getLsbD k = false ∧ i.minsvn.toNat ≤ memNat m 16 4)]

/-- The first header check that fails has this cause (R282 step 1, R286). -/
def HeaderFails (i : Img) (x : Slot) (cause : Nat) : Prop :=
  ∃ (k : Nat) (e : Nat × Prop), (headerChecks i x)[k]? = some e ∧ e.1 = cause ∧ ¬e.2 ∧ ∀ (j : Nat) (d : Nat × Prop), j < k → (headerChecks i x)[j]? = some d → d.2

/-- Where the record of frame f of bay b begins in a payload (R269). -/
def recordOf (x : Slot) (b f : Nat) : Nat := memNat x.manifest 0x98 4 + 132 * (960 * b + f)

/-- Frame f of bay b fails for cause 7, its CRC-16, which a decayed record fails too; or, that being right, for cause 6, its check bits
or its routing (R137, R271, R286). -/
def FrameBad (x : Slot) (cause b f : Nat) : Prop :=
  let a := recordOf x b f
  let crc := (kvGet x.planeErr (b * 960 + f)).isSome = true ∨
    crc16 (memRead x.payload a 130) ≠ BitVec.ofNat 16 (memNat x.payload (a + 130) 2)
  b < 64 ∧ f < 960 ∧ ((cause = 7 ∧ crc) ∨ (cause = 6 ∧ ¬crc ∧ (memNat x.payload (a + 128) 2 ≠ (Config.frameCheck (memRead x.payload a 128)).toNat ∨
    Config.frameRoutingOk f (memRead x.payload a 128) = false)))

/-- When that cause stands, in ns from the attempt's start: at the frame's read, or at the re-read 40 ns later (R282, R286). -/
def frameMoment (cause f : Nat) : Nat := 10000 + 40 * (f + if cause = 7 then 2 else 1)

/-- When word w of the setter areas is read, in ns from the attempt's start (R282, R286). -/
def areaMoment (w : Nat) : Nat := 10000 + 100000 * (w % 24576) / 24576

/-- The first frame failure: earliest, then the lower frame, then the lower bay. Which of two that fall at one moment is first is the model's
choice (log 33). -/
def FirstBad (x : Slot) (cause b f : Nat) : Prop :=
  FrameBad x cause b f ∧ ∀ c' b' f', FrameBad x c' b' f' → frameMoment cause f < frameMoment c' f' ∨
    (frameMoment cause f = frameMoment c' f' ∧ (f < f' ∨ (f = f' ∧ b ≤ b')))

/-- Frames and setter areas are in their memories (R141, R269, R272, R282 steps 4 and 5): the device as the tables left it, live masks
with their parity, block memories, programs and data as the planes give them; every PLL 0 is enabled, each enabled PLL within its ranges,
and the setters stand. -/
def Loaded (x : Slot) (u t : State) : Prop :=
  t = { u with bays := t.bays, setters := t.setters } ∧
  (∀ b : BayId, t.bay b = { u.bay b with bram := (t.bay b).bram, lmask := (t.bay b).lmask } ∧
    (∀ c, c < 256 → field (maskOf (t.bay b) c) 15 0 = BitVec.ofNat 16 (memNat x.payload (recordOf x b.val (956 + c / 64) + 2 * (c % 64)) 2) ∧
      ¬oddMask (maskOf (t.bay b) c)) ∧
    (kvWf isZeroByte x.payload = true → ∀ k, k < 324 * 1024 → (kvGet (t.bay b).bram k).getD false =
      (memByte x.payload (recordOf x b.val (632 + k / 1024) + k % 1024 / 8)).getLsbD (k % 8))) ∧
  (∀ i : SetterId,
    t.st i = { u.st i with prog := (t.st i).prog, data := (t.st i).data, dbgwr := decide (memNat x.manifest 12 4 / 8 % 2 = 1) } ∧
    (t.st i).run = false ∧ (t.st i).stopped = true ∧
    (kvWf isZeroByte x.payload = true →
      (∀ a, a < 16384 → (kvGet (t.st i).prog a).getD 0 = BitVec.ofNat 32 (memNat x.payload (memNat x.manifest 0x88 4 + 65536 * i.val + 4 * a) 4)) ∧
      ∀ a, a < 32768 → memByte (t.st i).data a = memByte x.payload (memNat x.manifest 0x90 4 + 32768 * i.val + a))) ∧
  (∀ p : PllId, (p.val % 2 = 0 → (t.clk.pll.get p).ctrl.getLsbD 31 = true) ∧
    ((t.clk.pll.get p).ctrl.getLsbD 31 = true → Admitted t.clk.khz (t.clk.pll.get p).ctrl (t.clk.pll.get p).odiv))

/-- The repointers run: after a global release, in RUN, DOZE or NAP (R299). -/
def Runs (s : State) : Prop := s.img.hold = false ∧ s.pwr.stage = .run ∧ s.pwr.state ≠ 3

/-- The position of the next visit: bay within the wing, frame (R295). -/
def following (x : Rpt) : BitVec 4 × BitVec 10 :=
  if x.first then (0, 0) else if x.frame.toNat < 959 then (x.bay, x.frame + 1) else (x.bay + 1, 0)

/-- The repointer after the visit to that position; the one to the last frame of bay 15 completes a pass. -/
def moved1 (x : Rpt) : Rpt :=
  let n := following x
  { x with first := false, skip := false, bay := n.1, frame := n.2, pass := if n.1 = 15 ∧ n.2 = 959 then x.pass + 1 else x.pass }

/-- The repointer there, with what it found there last (R296). -/
def found (x : Rpt) (kind : BitVec 2) (b f : Nat) : Rpt :=
  { moved1 x with lastKind := kind, lastBay := BitVec.ofNat 6 b, lastFrame := BitVec.ofNat 10 f }

/-- The three copies of a repointer's control agree. -/
def Agree (x : Rpt) (c : Word) : Prop := x.copy = Vector.replicate 3 c

/-- The state with repointer w changed. -/
def withRpt (s : State) (w : Wing) (x : Rpt) : State := { s with rpt := s.rpt.set w.val x w.isLt }

/-! ### The plinth -/

/-- The plinth takes this command from this channel now and its group is enabled there; `t` is the state with the block taken
(R306, R308, R309). -/
structure Asked (s t : State) (ch : Channel) (cmd : Nat) (group : Option Nat) (tag : Byte) (l : List Word) : Prop where
  taken : takeCmd ch (cmdHeader cmd tag l) l s = .yes t
  full : t.pln.romonly = false
  group : ∀ g, group = some g → (ch = .queue → t.pln.cmdenQ.getLsbD g = true) ∧ (ch = .i2c → t.pln.cmdenI.getLsbD g = true)

/-- A command ends with a status and results for its channel, `u` being what it left (R307, R313). -/
def Ends (out : Host.Outcome State Fault Refusal) (u : State) (ch : Channel) (cmd : Nat) (tag : Byte) (l : List Word) (status : Nat)
    (res : List Word) : Prop := out = .next (respondTo ch (cmdHeader cmd tag l) status res u)

/-- Commands with their codes and groups (R309, R313), and whether a number of arguments is right. -/
def Command (e : (Channel → Byte → List Word → Instr) × Nat × Option Nat × (Nat → Bool)) : Prop :=
  e ∈ ([
  (.info, 0x01, none, (· == 0)), (.reload, 0x02, some 0, (· == 1)), (.setboot, 0x03, some 0, (· == 3)),
  (.plinthSwap, 0x04, some 0, (· == 4)), (.plinthTest, 0x05, some 0, (· == 3)), (.swbegin, 0x10, some 1, (· == 1)),
  (.swdata, 0x11, some 1, (fun n => decide (1 ≤ n ∧ n ≤ 64))), (.swchunk, 0x12, some 1, (· == 2)), (.swabort, 0x13, some 1, (· == 0)), (.swstat, 0x14, none, (· == 0)),
  (.firmswitch, 0x15, some 1, (· == 1)), (.keyprog, 0x20, some 2, (· == 25)), (.minsvn, 0x21, some 2, (· == 1)),
  (.calset, 0x30, some 3, (· == 2)), (.calclear, 0x31, some 3, (· == 1)), (.calget, 0x32, none, (· == 1)),
  (.logread, 0x40, none, (· == 2)), (.logack, 0x41, some 4, (· == 1)), (.logstream, 0x42, some 4, (· == 1)),
  (.sensstream, 0x43, some 4, (· == 1)), (.fltclr, 0x50, some 5, (· == 2)), (.rptset, 0x51, some 5, (· == 3)),
  (.rpthb, 0x52, some 5, (· == 1))] : List ((Channel → Byte → List Word → Instr) × Nat × Option Nat × (Nat → Bool)))

/-- The stream in progress came from the plinth on this channel, is not complete and is taken in. -/
structure OwnStream (s : State) (ch : Channel) (x : Stream) : Prop where
  some : s.img.stream = some x
  own : x.src = .plinth ∧ x.ch = ch
  going : x.verify = false ∧ x.ignore = false ∧ x.boot = false

/-- The bytes reached the engine, all of them of the manifest: the stream has them after those it had, and nothing else changes. -/
def TookBytes (t u : State) (x : Stream) (l : List Byte) : Prop :=
  u = { t with img := u.img } ∧ u.img.slots = t.img.slots ∧ ∃ y, u.img.stream = some y ∧ y.got = x.got + l.length ∧
    ∀ k, k < l.length → memByte y.buf (x.got + k) = l.getD k 0

/-- The plinth's firmware runs and takes commands (R302, R304). -/
structure Serves (s : State) : Prop where
  ready : s.pln.ready = true ∧ s.pln.romonly = false ∧ s.pln.going = false
  state : s.pwr.state ≠ 3
  balls : (s.io.bank.get 4).band.isSome = true

/-- The state with the plinth changed. -/
def withPln (s : State) (p : Pln) : State := { s with pln := p }

/-- A calibration item is one that CALSET may change, to a value in its user range (R322). -/
def InUser (k : Nat) (v : Word) : Prop := k ≤ 51 ∧ ¬(29 ≤ k ∧ k < 45) ∧ v.toInt.natAbs ≤ calUser k

/-! ### The plinth's channels and services -/

/-- A malformed header: NARG above 64, or bits [7:0] not 0 (R306). -/
def BadHeader (h : Word) : Prop := 64 < (field h 15 8).toNat ∨ field h 7 0 ≠ 0

/-- The word that begins a transfer: its first four bytes, least significant first. -/
def first4 (l : List Byte) : Word := BitVec.ofNat 32 (leNat (l.take 4))

/-- A header's TAG and CMD with no results and a status. -/
def bare (h : Word) (status : Nat) : Word := (h &&& 0xFFFF0000#32) ||| BitVec.ofNat 32 status

/-- The channel's turn passes after a queue command (R308). -/
def turned (s : State) (ch : Channel) : State := withPln s { s.pln with turn := ch }

/-- The ROM's check of firmware copy c passes: its header, and the CRC-32 over its manifest and payload; a copy as shipped passes (R302). -/
def Passes302 (p : Pln) (c : Bool) : Prop :=
  ∃ f, nth p.fw c.toNat = some f ∧ (f.shipped = true ∨ (magicOk f.man 3 = true ∧
    f.crc = some (crc32 (memRead f.man 0 17920 ++ memRead f.pay 0 (mPaylen f.man)))))

/-- The firmware copy that the ROM starts: the selected one where it passes the check, else the other one where that does (R302). -/
def Starts (p : Pln) (c : Bool) : Prop := (c = p.fwSel ∧ Passes302 p c) ∨ (c ≠ p.fwSel ∧ ¬Passes302 p p.fwSel ∧ Passes302 p c)

/-- Neither copy passes. -/
def NoCopy (p : Pln) : Prop := ¬Passes302 p false ∧ ¬Passes302 p true

/-- The firmware of copy c runs: READY, queues 0 to 3 enabled, FAULT_N released unless no image runs (R206, R302). -/
def Booted (s t : State) (c : Bool) : Prop :=
  t.pln.ready = true ∧ t.pln.copy = c ∧ t.pln.romonly = false ∧ t.pln.going = false ∧ t.faultn = s.img.noimage ∧
  (∀ q, q < 4 → (descOf t (BitVec.ofNat 16 q)).en = true) ∧ (c ≠ s.pln.fwSel → t.pln.firmbad = true) ∧ t.img = s.img ∧ t.bays = s.bays ∧
  t.store = s.store ∧ t.pln.hbOwed = [] ∧ (∀ g, calPage s.pln = some g → t.pln.calU = g.val ∧ (s.pln.hbOwed = [] → t.setters = s.setters)) ∧
  (calPage s.pln = none → t.pln.calU = Vector.replicate 52 0)

/-- The value of a cycle for a temperature or rail: code times gain over 4,096 plus offset (R319). -/
def reading (p : Pln) (gain off : Nat) (code : BitVec 12) : Int := code.toNat * calE p gain / 4096 + calE p off

/-- Registers of R320 as a write leaves them: what it puts, and which thresholds it rearms. -/
def thresholdPut (p : Pln) (v : Word) (r : ThresholdReg) : Pln × Word :=
  match r with
  | .sensctl => ({ p with thyst := field v 15 8, rhyst := field v 7 0 }, 0)
  | .sensen => ({ p with sensen := v }, v &&& ~~~p.sensen)
  | .tthr t => ({ p with tthr := p.tthr.set t.val v t.isLt }, BitVec.ofNat 32 (3 * 4 ^ t.val))
  | .rthr r => ({ p with rthr := p.rthr.set r.val v r.isLt }, BitVec.ofNat 32 (3 * 4 ^ (5 + r.val)))
  | .wcur w => ({ p with cthr := p.cthr.set w.val (field v 31 16) w.isLt }, BitVec.ofNat 32 (2 ^ (28 + w.val)))

/-- Where it lies in the PLN block. -/
def thresholdAt (r : ThresholdReg) : Nat :=
  match r with
  | .sensctl => 0x10
  | .sensen => 0x14
  | .tthr t => 0x120 + 4 * t.val
  | .rthr r => 0x240 + 4 * r.val
  | .wcur w => 0x300 + 4 * w.val

/-- Stored times of a unit, newest first. -/
def timesOf (p : Pln) (c u : Nat) : List Nat := (kvGet p.fltTime (c * 128 + u)).getD []

/-- A unit has its lasting mark. -/
def marked (p : Pln) (c u : Nat) : Bool := ((nth p.fltLast c).getD 0).getLsbD u

/-- A sensor cycle judges the threshold of PLN_SENSEN bit k, source 512 + k: armed and enabled it is raised where the value is past it,
and it rearms only where the value is back by the hysteresis (R320). -/
def Judged (s t : State) (k : Nat) (past back : Prop) : Prop :=
  (s.pln.armed.getLsbD k = true → s.pln.sensen.getLsbD k = true → past → pendBit t (512 + k) = true ∧ t.pln.armed.getLsbD k = false) ∧
  (s.pln.armed.getLsbD k = true → (s.pln.sensen.getLsbD k = false ∨ ¬past) → t.pln.armed.getLsbD k = true) ∧
  (s.pln.armed.getLsbD k = false → (t.pln.armed.getLsbD k = true ↔ back))

/-- How many of n faults at a time and of the stored ones lie in the window (R327). -/
def inWindow (p : Pln) (c u n time : Nat) : Nat :=
  ((List.replicate n time ++ timesOf p c u).take 16 |>.filter (fun x => decide (time - x < 100 * (((nth p.fltW c).getD 0 : BitVec 20)).toNat))).length

/-! ### Power states and supplies -/

/-- The device stands in RUN, no entry or wake in progress. -/
def InRun (s : State) : Prop := s.pwr.stage = .run ∧ s.pwr.state = 0 ∧ s.pwr.inflight = false

/-- The state with the power controller changed. -/
def withPwr (s : State) (p : Pwr) : State := { s with pwr := p }

/-- Why a request for a state is refused, in the order of R336. -/
def Refuses (s : State) (state code : Nat) : Prop :=
  (code = 3 ∧ (s.pwr.inflight = true ∨ s.pwr.state ≠ 0)) ∨
  (code = 2 ∧ s.pwr.inflight = false ∧ s.pwr.state = 0 ∧
    ((state ≠ 1 ∧ s.pwr.wakeen = 0) ∨ (state ≠ 3 ∧ s.pwr.selbay = 0 ∧ s.pwr.selset = 0))) ∨
  (code = 4 ∧ s.pwr.inflight = false ∧ s.pwr.state = 0 ∧ (state = 1 ∨ s.pwr.wakeen ≠ 0) ∧
    (state = 3 ∨ s.pwr.selbay ≠ 0 ∨ s.pwr.selset ≠ 0) ∧ entryBusy (selected s) state = true)

/-- The power controller at the end of an entry (R337). -/
def arrived (p : Pwr) (state : BitVec 2) : Pwr := { p with state := state, inflight := false, target := 0, reached := 0 }

/-- The entry in progress may complete, and no setter waits for it. -/
structure Entering (s : State) (target : BitVec 2) : Prop where
  inflight : s.pwr.inflight = true ∧ s.pwr.waking = false
  stage : s.pwr.stage = .run
  target : s.pwr.target = target
  caller : s.pwr.caller = none
  reached : s.pwr.reached = 0

/-- A setter is in the middle of an instruction that a stop does not cut: an access that waits, a queue operation at the lane, a FENCE
(R333, R337). -/
def Busy (x : Setter) : Prop :=
  (∃ d c, x.wait = .access d c) ∨ (∃ d, x.wait = .lane d) ∨ ∃ n, x.wait = .fence n

/-- No access waits for a domain: of a bus master, the host, the plinth, a byte port or a setter. -/
def Quiet (s : State) : Prop :=
  s.stalled = [] ∧ s.hod.cells = [] ∧ s.tap.selW = [] ∧ s.hst.frames = [] ∧ s.pln.posts = [] ∧ s.pln.chunk = none ∧ (∀ p, p < 16 → (packOf s p).fifo = []) ∧
  ∀ i d ins, (s.st i).wait ≠ .access d ins

/-- Every domain is on, the device in RUN, 555 raised (R341). -/
structure AllOn (t : State) : Prop where
  state : t.pwr.state = 0 ∧ t.pwr.inflight = false ∧ t.pwr.waking = false
  bays : ∀ b, (t.bay b).gated = false
  setters : ∀ i, (t.st i).gated = false
  store : t.store.retn = false ∧ t.store.waking = false
  hod : t.hod.gated = false
  event : pendBit t 555 = true

/-- What a setter's record gives back (R344): its registers, accumulator and PC. -/
def Back (s t : State) : Prop :=
  ∀ i r, (s.st i).gated = true → s.pwr.recs.get i = some r → (t.st i).g = r.g ∧ (t.st i).acc = r.acc ∧ (t.st i).pc = r.pc

/-- The device after a reset of everything but AO's kept items (R345, R350): the stage it stands at, what non-volatile storage and the
store hold, and every block at reset. -/
structure AllReset (s t : State) (g : Stage) : Prop where
  stage : t.pwr.stage = g ∧ t.pwr.state = 0 ∧ t.pwr.inflight = false
  setters : ∀ i, t.st i = Setter.reset
  bays : ∀ b, t.bay b = Bay.reset
  blocks : t.arb = Arb.reset ∧ t.hod = Hod.reset ∧ t.irs = Irs.reset ∧ t.bst = Bst.reset ∧ t.evt = State.reset.evt ∧ t.rpt = State.reset.rpt
  kept : t.img.slots = s.img.slots ∧ t.img.prog = s.img.prog ∧ t.img.rev = s.img.rev ∧ t.img.minsvn = s.img.minsvn ∧
    t.img.primary = s.img.primary ∧ t.img.trial = s.img.trial ∧ t.pln.fwState = s.pln.fwState ∧ t.pln.calPg = s.pln.calPg ∧
    t.pln.calU = ((calPage s.pln).map (·.val)).getD (Vector.replicate 52 0)
  hold : t.img.hold = true ∧ t.rstout = true ∧ t.faultn = true

/-- The save under way has ended: pins of row 5, every domain off, FAULT_N and RSTOUT_N low; the device still holds (R163, R352, R355). -/
def SaveOver (s t : State) (saving : Option SavePage) : Prop :=
  t = { s with faultn := true, rstout := true, free := t.free,
               pwr := { s.pwr with saving := saving, on := false },
               clk := { s.clk with devOn := false, slock := false, hlock := false, sgood := 0, hgood := 0 },
               io := { s.io with trip := false, pinConf := 0, keeper := t.io.keeper } }

/-- The bytes that ranges with their contents leave of bytes `f` (R354). -/
def overlay (l : List (Nat × List Byte)) (f : Nat → Byte) (a : Nat) : Byte :=
  l.foldl (fun v e => if e.1 ≤ a ∧ a < e.1 + e.2.length then e.2.getD (a - e.1) 0 else v) (f a)

/-! ### Self-test and the test access port -/

/-- A slice ended with a verdict: its record, 617, 618 on FAIL, no slice running (R361, R366 to R368). -/
def TestEnded (s t : State) (v : Slice) (outcome : BitVec 2) (failAt : Byte) : Prop :=
  t.bst.slice = none ∧ t.bst.next = s.bst.next ∧ pendBit t 617 = true ∧ (outcome = 2 → pendBit t 618 = true) ∧
  ∃ r, nth t.bst.res (v.recNo.toNat % 16) = some r ∧ r.outcome = outcome ∧ r.fin = 0 ∧ r.failat = failAt ∧
    (v.block = 0x61 → r.duration = BitVec.ofNat 16 (((sliceWork s .adc v).1 + (sliceWork s .adc v).2 - 1) / (sliceWork s .adc v).2))

/-- What the block of a slice holds when it rejoins the device (R361 to R363). A march that came to its end left zeros. -/
def Rejoined (s t : State) (v : Slice) (b : TestBlock) (done : Bool) : Prop :=
  (∀ k, b = .bay k → (t.bay k).isol = false ∧ (t.bay k).ffs = [] ∧ ∀ j, j ≠ k → t.bay j = s.bay j) ∧
  (∀ i, b = .setter i → (t.st i).isol = false ∧ (t.st i).run = false ∧ (t.st i).stopped = true ∧ (t.st i).g = Vector.replicate 16 0 ∧
    (t.st i).prog = (s.st i).prog ∧ (t.st i).data = (s.st i).data) ∧
  (b = .store → t.store.isol = false ∧ (done = true → ∀ a, 65536 * v.start.toNat ≤ a → a < 65536 * (v.start.toNat + v.count.toNat) →
      storeByteAt t a = 0) ∧
    ∀ a, (a < 65536 * v.start.toNat ∨ 65536 * (v.start.toNat + v.count.toNat) ≤ a) → storeByteAt t a = storeByteAt s a) ∧
  (b ≠ .store → t.store = s.store)

/-- The test access port works: the AO domain on, its balls powered (R370, R380). -/
def TapUp (s : State) : Prop := vio4 s = true ∧ s.pwr.stage ≠ .off

/-- Private instructions act: the plinth READY, its domain on (R374). -/
def PrivateUp (s : State) : Prop := TapUp s ∧ s.pln.ready = true ∧ s.pwr.on = true

/-- The port after a scan, the keepers holding k: the instruction selected, what Capture-IR showed (01, READY, NOIMAGE), and what its
register captured (R370, R371). -/
def scanned (k : BitVec 132) (s : State) (ir : Byte) (cap : BitVec 512) : State :=
  { keeping s k with tap := { s.tap with ir := ir, dr := cap, irOut := BitVec.ofNat 8 (1 + 4 * s.pln.ready.toNat + 8 * s.img.noimage.toNat) } }

/-- The same with the boundary register captured and its update stage loaded (R371). -/
def scannedPins (k : BitVec 132) (s : State) (ir : Byte) (upd cap : BitVec 441) : State :=
  let t := scanned k s ir (cap.setWidth 512)
  { t with tap := { t.tap with upd := upd, cap := cap } }

/-- A cell of a ball observes it: the level that the device drives, or else what is seen there. -/
def Observes (cap seen : BitVec 441) (c : Nat) (d : PinDrive) : Prop :=
  (∀ v, d = .level v → cap.getLsbD c = v) ∧ ((∀ v, d ≠ .level v) → cap.getLsbD c = seen.getLsbD c)

/-- What the boundary register captures while an instruction is selected: input cells observe their balls, the rest is as given (R372). -/
def Captured (s : State) (ir : Byte) (seen cap : BitVec 441) : Prop :=
  let u := { s with tap := { s.tap with ir := ir } }
  (∀ p, p < 132 → Observes cap seen (3 * p) (pinDrive u p)) ∧
  (∀ b c, b ∈ sysBalls → b.inCell = some c → Observes cap seen c (sysDrive u b)) ∧
  (∀ p, p < 132 → cap.getLsbD (3 * p + 1) = seen.getLsbD (3 * p + 1) ∧ cap.getLsbD (3 * p + 2) = seen.getLsbD (3 * p + 2)) ∧
  ∀ c, 396 ≤ c → c < 441 → (∀ b ∈ sysBalls, b.inCell ≠ some c) → cap.getLsbD c = seen.getLsbD c

/-- The slice's setter has come to its instruction boundary, or the block is none (R363). -/
def AtTest (s : State) (b : TestBlock) : Prop := ∀ i, b = .setter i → (s.st i).testW = true → ¬Busy (s.st i)

/-- The stream in progress came through the port, is not complete and is taken in. -/
structure TapStream (s : State) (x : Stream) : Prop where
  some : s.img.stream = some x
  own : x.src = .jtag
  going : x.verify = false ∧ x.ignore = false ∧ x.boot = false

/-! ### The block as a whole -/

/-- What every command keeps: the store's listed bytes stand at strictly rising addresses, and the region registers of masters 30 and 31
read 0 (R187). -/
structure Form (s : State) : Prop where
  store : kvWf keepAll s.store.mem = true
  base : ∀ m : Fin 32, 30 ≤ m.val → s.arb.rbase.get m = Vector.replicate 8 0
  lim : ∀ m : Fin 32, 30 ≤ m.val → s.arb.rlim.get m = Vector.replicate 8 0

/-- A word that spells no instruction: a reserved opcode or function, or a NOP with a field that is not 0 (R76, R82). -/
def Reserved (c : Instr) : Prop := ∃ s bad, c = .nop s (some bad)

/-- Encodings of the spec that its tables print, with the instructions that they stand for (R94, R104). -/
def printed (s : SetterId) (net : Bool) (nets : BitVec 256) : Prop :=
  decodeWord s 0x04C48000 net nets = .add s ⟨3, 1, 2⟩ ∧
  decodeWord s 0x29583FF8 net nets = .ld s 5 6 0x3FF8 ∧
  decodeWord s 0x60BFFFFD net nets = .br s 2 0x3FFFFD ∧
  decodeWord s 0x44400001 net nets = .tin s ⟨1, 0, 0⟩ 1 ∧
  decodeWord s 0x46000402 net nets = .tout s ⟨8, 0, 0⟩ 2 ∧
  decodeWord s 0x44000E25 net nets = .tedge s ⟨0, 0, 0⟩ 0x225

end Sys2Proof.Claims

open Sys2Proof Sys2Proof.Machine Sys2Proof.Claims

/-- ADD, ADDC, SUB, SUBB, CMP and CMPU: gd, the four flags, the PC and the cost; nothing else changes. After a compare, the conditions
1 to 10 of R81 read as their names say. -/
def Obligations.SumsAndCompares : Prop :=
  (∀ e ∈ sumRows, ∀ (s : State) (i : SetterId) (r : Regs), Ready s i →
    let x := s.st i
    let y := e.2 x.flags (x.g.get r.a) (x.g.get r.b)
    exec (e.1 i r) s = .next (ran s i (wrote x r.d y.1 y.2) (1 + waits x [r.a, r.b]) none false)) ∧
  ∀ (f : Flags) (a b : Word) (lt : Bool), ((conditions (three f a b lt).2).drop 1).take 10 =
    [decide (a = b), decide (a ≠ b), decide (a.toInt < b.toInt), decide (b.toInt ≤ a.toInt), decide (a.toInt ≤ b.toInt),
     decide (b.toInt < a.toInt), decide (a.toNat < b.toNat), decide (b.toNat ≤ a.toNat), decide (a.toNat ≤ b.toNat),
     decide (b.toNat < a.toNat)]

/-- Logic, shifts, MIN, MAX, MINU and MAXU, and CLZ and POPC: gd, the flags each sets, the PC and the cost; nothing else changes. -/
def Obligations.LogicShiftsCounts : Prop :=
  (∀ e ∈ logicRows, ∀ (s : State) (i : SetterId) (r : Regs), Ready s i →
    let x := s.st i
    let y := e.2 x.flags (x.g.get r.a) (x.g.get r.b)
    exec (e.1 i r) s = .next (ran s i (wrote x r.d y.1 y.2) (1 + waits x [r.a, r.b]) none false)) ∧
  (∀ (s : State) (i : SetterId) (d a : Reg), Ready s i →
    let x := s.st i
    let c := BitVec.ofNat 32 (leadingZeros (x.g.get a) 32)
    let p := BitVec.ofNat 32 (ones (x.g.get a) 32)
    exec (.clz i ⟨d, a, 0⟩) s = .next (ran s i (wrote x d c (zn x.flags c)) (1 + waits x [a]) none false) ∧
    exec (.popc i ⟨d, a, 0⟩) s = .next (ran s i (wrote x d p (zn x.flags p)) (1 + waits x [a]) none false))

/-- DIVU, DIVS, REMU and REMS: quotient or remainder, Z, N and V, also for a divisor of 0 and for the one overflow; 34 setter cycles.
-/
def Obligations.Divisions : Prop :=
  ∀ e ∈ divRows, ∀ (s : State) (i : SetterId) (r : Regs), Ready s i →
    let x := s.st i
    let y := e.2 x.flags (x.g.get r.a) (x.g.get r.b)
    exec (e.1 i r) s = .next (ran s i (wrote x r.d y.1 y.2) (34 + waits x [r.a, r.b]) none false)
/-- ADDI, ANDI, ORI, XORI and CMPI in every mode that is not reserved, the four shifts by an immediate, and LUI. -/
def Obligations.Immediates : Prop :=
  ∀ (s : State) (i : SetterId) (d a : Reg) (imm : BitVec 16), Ready s i →
    let x := s.st i
    (∀ e ∈ immRows d a imm,
      let y := e.2.2 x.flags (x.g.get a) e.2.1
      exec (e.1 i) s = .next (ran s i (wrote x d y.1 y.2) (1 + waits x [a]) none false)) ∧
    (∀ e ∈ shiftRows, ∀ n : Fin 32,
      let y := e.2 x.flags (x.g.get a) n.val
      exec (e.1 i d a (BitVec.ofNat 16 n.val)) s = .next (ran s i (wrote x d y.1 y.2) (1 + waits x [a]) none false)) ∧
    exec (.lui i d 0 0 imm) s = .next (ran s i (wrote x d (BitVec.ofNat 32 (imm.toNat * 65536)) x.flags) 1 none false)

/-- MUL, MULH, MULHU, MAC, MACS, ACCRD, ACCLD and ACCCLR: gd, ACC and the flags, with the interlocks that follow. -/
def Obligations.Multiplier : Prop :=
  ∀ (s : State) (i : SetterId) (r : Regs), Ready s i →
    let x := s.st i
    let va := x.g.get r.a
    let vb := x.g.get r.b
    (∀ e ∈ mulRows, exec (e.1 i r 0) s = .next (ran s i (wrote x r.d (e.2 va vb) x.flags) (1 + waits x [r.a, r.b]) (some r.d) false)) ∧
    (∀ e ∈ macRows,
      let v := x.acc.toInt + va.toInt * vb.toInt
      exec (e.1 i ⟨0, r.a, r.b⟩ 0) s = .next (ran s i
        { x with acc := e.2 v, flags := { x.flags with v := outside64 v }, pc := x.pc + 1 } (1 + waits x [r.a, r.b]) none true)) ∧
    (∀ (sh : Fin 64) (rnd sat : Bool),
      let v := accValue x.acc sh.val rnd
      let hi := BitVec.ofNat 9 (sat.toNat * 128 + rnd.toNat * 64 + sh.val)
      exec (.accrd i ⟨r.d, 0, 0⟩ hi) s = .next (ran s i
        (wrote x r.d (accWord v sat) { zn x.flags (accWord v sat) with v := outside v }) (1 + x.ilMac.toNat) none false)) ∧
    exec (.accld i ⟨0, r.a, r.b⟩ 0) s = .next (ran s i
      { x with acc := BitVec.ofNat 64 (vb.toNat * 2 ^ 32 + va.toNat), pc := x.pc + 1 } (1 + waits x [r.a, r.b]) none false) ∧
    exec (.accclr i ⟨0, 0, 0⟩ 0) s = .next (ran s i { x with acc := 0, pc := x.pc + 1 } 1 none false)

/-- LD, LDH, LDHU, LDB and LDBU: gd takes the bytes at ga plus the offset, widened; no flag and no byte of any memory changes. -/
def Obligations.LocalLoads : Prop :=
  ∀ e ∈ loadRows, ∀ (s : State) (i : SetterId) (d a : Reg) (off : BitVec 14), Ready s i →
    let x := s.st i
    let ea := localAddr x a off
    Plain x ea e.2.1 →
    exec (e.1 i d a off) s = .next (ran s i (wrote x d (e.2.2 (dataAt x ea e.2.1)) x.flags) (1 + waits x [a]) (some d) false)

/-- ST, STH and STB: the low bytes of gd, least significant first, at ga plus the offset; every other byte of the data memory reads as
before, and nothing else changes but the PC and the scan length. -/
def Obligations.LocalStores : Prop :=
  ∀ e ∈ storeRows, ∀ (s : State) (i : SetterId) (d a : Reg) (off : BitVec 14), Ready s i →
    let x := s.st i
    let ea := localAddr x a off
    Plain x ea e.2 →
    ∃ m : Mem,
      exec (e.1 i d a off) s = .next (ran s i { x with data := m, pc := x.pc + 1 } (1 + waits x [a, d]) none false) ∧
      ∀ n : Nat, memByte m n = if ea ≤ n ∧ n < ea + e.2 then BitVec.ofNat 8 ((x.g.get d).toNat / 256 ^ (n - ea)) else memByte x.data n

/-- The fourteen bit instructions: B, the bit stack and the one bit of gd; BPUSH below depth 16 and BPOP above depth 0. -/
def Obligations.BitLogic : Prop :=
  ∀ (s : State) (i : SetterId) (d a : Reg) (n : Fin 32), Ready s i →
    let x := s.st i
    let lo := BitVec.ofNat 9 n.val
    let b := x.flags.b
    (∀ e ∈ bitRows, exec (e.1 i ⟨0, a, 0⟩ lo) s =
      .next (ran s i (bFlag x (e.2 b ((x.g.get a).getLsbD n.val))) (1 + waits x [a]) none false)) ∧
    (∀ e ∈ bitOutRows, exec (e.1 i ⟨d, 0, 0⟩ lo) s =
      .next (ran s i (wrote x d (withBit (x.g.get d) n.val (e.2 b ((x.g.get d).getLsbD n.val))) x.flags) (1 + waits x [d]) none false)) ∧
    (∀ fall : Bool,
      let m := (x.g.get d).getLsbD n.val
      let edge := if fall then m && !b else b && !m
      exec (.bedge i ⟨d, 0, 0⟩ (BitVec.ofNat 9 (fall.toNat * 32 + n.val))) s =
        .next (ran s i (wrote x d (withBit (x.g.get d) n.val b) { x.flags with b := edge }) (1 + waits x [d]) none false)) ∧
    exec (.bnot i ⟨0, 0, 0⟩ 0) s = .next (ran s i (bFlag x (!b)) 1 none false) ∧
    (x.bdepth.toNat < 16 → exec (.bpush i ⟨0, 0, 0⟩ 0) s = .next (ran s i
      { x with bstk := if b then x.bstk ||| BitVec.ofNat 16 (2 ^ x.bdepth.toNat) else x.bstk &&& ~~~(BitVec.ofNat 16 (2 ^ x.bdepth.toNat)),
               bdepth := x.bdepth + 1, pc := x.pc + 1 } 1 none false)) ∧
    (0 < x.bdepth.toNat → ∀ k : Fin 3,
      let v := x.bstk.getLsbD (x.bdepth.toNat - 1)
      let c := if k = 0 then v else if k = 1 then b && v else b || v
      exec (.bpop i ⟨0, 0, 0⟩ (BitVec.ofNat 9 k.val)) s = .next (ran s i
        { bFlag x c with bstk := x.bstk &&& ~~~(BitVec.ofNat 16 (2 ^ (x.bdepth.toNat - 1))), bdepth := x.bdepth - 1 } 1 none false))

/-- TMRS, TMRQ, TMRC and TMRRD, and one period of a timer's base: the mode table, the held timer trap, and nothing else. -/
def Obligations.Timers : Prop :=
  ∀ (s : State) (i : SetterId) (t : TimerId),
    let x := s.st i
    let u := x.timers.get t
    (Ready s i → ∀ (d a : Reg) (mode : BitVec 2) (base trap : Bool),
      let sel := BitVec.ofNat 12 (16 * t.val)
      let n := timerSet u (x.g.get a) mode base trap x.flags.b
      let kept := if u.mode = mode ∧ u.base = base then u else cleared u
      exec (.tmrs i ⟨0, a, 0⟩ (BitVec.ofNat 12 (16 * t.val + 8 * trap.toNat + 4 * base.toNat + mode.toNat))) s =
        .next (ran s i { withTimer x t kept n with pc := x.pc + 1 } (1 + waits x [a]) none false) ∧
      exec (.tmrq i ⟨0, 0, 0⟩ sel) s = .next (ran s i (bFlag x u.done) 1 none false) ∧
      exec (.tmrc i ⟨0, 0, 0⟩ sel) s =
        .next (ran s i { x with timers := x.timers.set t.val (cleared u) t.isLt, pc := x.pc + 1 } 1 none false) ∧
      exec (.tmrrd i ⟨d, 0, 0⟩ sel) s = .next (ran s i (wrote x d u.count x.flags) 1 none false)) ∧
    ((x.stopped && x.dbgfrz) = false → x.gated = false → x.isol = false →
      exec (.setterTimerTick i t) s = .next (s.putS i (withTimer x t u (timerTicked u))))

/-- NOP, BR, BRL, JMP, LOOP, HALT and FENCE: the next PC, g15 of a BRL that is taken, the costs; HALT stops the setter with HALTED set
and raises its source 5; a FENCE with a LUTW or TOUTD on its way issues and waits. -/
def Obligations.Flow : Prop :=
  ∀ (s : State) (i : SetterId), Ready s i →
    let x := s.st i
    exec (.nop i none) s = .next (ran s i { x with pc := x.pc + 1 } 1 none false) ∧
    (∀ (c : Fin 16) (off : BitVec 22) (taken : Bool), (conditions x.flags)[c.val]? = some taken →
      exec (.br i (BitVec.ofNat 4 c.val) off) s = .next (ran s i
        { x with pc := if taken then displaced x.pc off.toInt else x.pc + 1 } (if taken then 2 else 1) none false) ∧
      exec (.brl i (BitVec.ofNat 4 c.val) off) s = .next (ran s i
        (if taken then { x with pc := displaced x.pc off.toInt, g := x.g.set 15 (BitVec.ofNat 32 ((x.pc.toNat + 1) % 16384)) }
         else { x with pc := x.pc + 1 }) (if taken then 2 else 1) none false)) ∧
    (∀ a : Reg, (x.g.get a).toNat < 16384 →
      exec (.jmp i ⟨0, a, 0⟩) s = .next (ran s i { x with pc := BitVec.ofNat 14 (x.g.get a).toNat } (2 + waits x [a]) none false)) ∧
    (∀ (d : Reg) (off : BitVec 16),
      let v := BitVec.ofInt 32 ((x.g.get d).toNat - 1)
      exec (.loop i d 0 0 off) s = .next (ran s i
        { x with g := x.g.set d.val v d.isLt, pc := if v.toNat = 0 then x.pc + 1 else displaced x.pc off.toInt }
        (1 + waits x [d]) none false)) ∧
    (x.lutw = [] → x.toutd = [] →
      exec (.fence i ⟨0, 0, 0⟩ 0) s = .next (ran s i { x with pc := x.pc + 1 } 1 none false)) ∧
    (x.lutw ≠ [] ∨ x.toutd ≠ [] → ∃ w,
      exec (.fence i ⟨0, 0, 0⟩ 0) s = .next (ran s i { x with wait := .fence w } 0 none false)) ∧
    exec (.halt i ⟨0, 0, 0⟩ 0) s = .next (raise (setterSource i 5) (s.putS i
      { x with pc := x.pc + 1, scan := x.scan + 1, ilReg := none, ilMac := false, skipBk := false, again := false, lutStall := none,
               run := false, stopped := true, halted := true }))

/-- TIN, TOUT, TBIT, TEDGE, TIND and TOUTD, and the landing of TOUTD, which ends a FENCE that waited for it: the snapshot, the output
buffer, B; TIND and TOUTD cost 4 to 6 setter cycles. A mapped tap's bay is one that runs; an unmapped tap reads 0. The cost of TIND
and TOUTD inside its range is free (log 9), and that an unmapped tap's group bits and a bay's running decide a direct sample is the
model's reading (log 25). -/
def Obligations.Taps : Prop :=
  ∀ (s : State) (i : SetterId),
    let x := s.st i
    (Ready s i → ∀ (d : Reg) (k : Fin 8) (n : Fin 256) (net : Bool),
      let tap := BitVec.ofNat 10 n.val
      exec (.tin i ⟨d, 0, 0⟩ (BitVec.ofNat 10 k.val)) s =
        .next (ran s i (wrote x d (x.snap.extractLsb' (32 * k.val) 32) x.flags) 1 none false) ∧
      (∃ o : BitVec 256,
        exec (.tout i ⟨d, 0, 0⟩ (BitVec.ofNat 10 k.val)) s = .next (ran s i { x with obuf := o, pc := x.pc + 1 } (1 + waits x [d]) none false) ∧
        ∀ m < 256, o.getLsbD m = if m / 32 = k.val then (x.g.get d).getLsbD (m % 32) else x.obuf.getLsbD m) ∧
      exec (.tbit i ⟨0, 0, 0⟩ tap) s = .next (ran s i (bFlag x (x.snap.getLsbD n.val)) 1 none false) ∧
      exec (.tedge i ⟨0, 0, 0⟩ tap) s =
        .next (ran s i (bFlag x (x.snap.getLsbD n.val && !x.prev.getLsbD n.val)) 1 none false) ∧
      exec (.tedge i ⟨0, 0, 0⟩ (BitVec.ofNat 10 (512 + n.val))) s =
        .next (ran s i (bFlag x (!x.snap.getLsbD n.val && x.prev.getLsbD n.val)) 1 none false) ∧
      (∀ w : Option Word, kvGet x.tapIn n.val = w →
        (∀ v, w = some v → (field v 31 30).toNat ≠ 0 ∧ (s.bay (wingBay i v)).runs = true ∧ asleep (.bay (wingBay i v)) s = false) →
        ∃ c, 4 ≤ c ∧ c ≤ 6 ∧
          exec (.tind i ⟨0, 0, 0⟩ tap net) s = .next (ran s i (bFlag x (w.isSome && net)) c none false).usedFree) ∧
      (∀ w : Option Word, kvGet x.tapOut n.val = w →
        (∀ v, w = some v → asleep (.bay (wingBay i v)) s = false) →
        ∃ c, 4 ≤ c ∧ c ≤ 6 ∧
          exec (.toutd i ⟨0, 0, 0⟩ tap) s = .next (ran s i
            { x with pc := x.pc + 1, obuf := setBit x.obuf n.val x.flags.b, toutd := x.toutd ++ [(n.val, x.flags.b)] } c none false).usedFree)) ∧
    (∀ (n : Nat) (v : Bool) (rest : List (Nat × Bool)), x.toutd = (n, v) :: rest →
      let y := { x with olat := setBit x.olat n v, toutd := rest }
      ∃ k, KeepersTake s k ∧
      (NoFence x → exec (.toutdLanding i) s = .next ((keeping s k).putS i y)) ∧
      (∀ w, x.wait = .fence w → x.run = true →
        ((rest ≠ [] ∨ x.lutw ≠ []) → exec (.toutdLanding i) s = .next ((keeping s k).putS i y)) ∧
        (rest = [] → x.lutw = [] → ∃ c, 1 ≤ c ∧ (w ≠ 0 → c ≤ w) ∧
          exec (.toutdLanding i) s = .next (ran (keeping s k) i { y with pc := x.pc + 1, wait := .none } c none false).usedFree)))

/-- LUTW and LUTWS of a live cell that the setter owns, and the landing of LUTW: the mask takes effect with fresh parity in a bay that
runs and whose regional clock 0 runs, and waits while that clock does not; a write to a bay that does not run is discarded. -/
def Obligations.LiveCells : Prop :=
  ∀ (s : State) (i : SetterId),
    let x := s.st i
    (Ready s i → ∀ (a b : Reg) (bay : BayId) (course : Fin 256),
      let cell := bay.val * 4096 + course.val * 16 + 15
      let m := field (x.g.get b) 15 0
      x.g.get a = BitVec.ofNat 32 (bay.val * 65536 + course.val * 16 + 15) →
      bay.val / 16 = i.val / 4 → ownerOf (s.bay bay) course.val = i.val % 4 → asleep (.bay bay) s = false →
      exec (.lutw i ⟨0, a, b⟩ 0) s = .next (ran s i { x with pc := x.pc + 1, lutw := x.lutw ++ [(cell, m)] } (2 + waits x [a, b]) none false) ∧
      ((∀ e ∈ x.staging, e.1 ≠ cell) → x.staging.length < 32 →
        exec (.lutws i ⟨0, a, b⟩ 0) s =
          .next (ran s i { x with pc := x.pc + 1, staging := x.staging ++ [(cell, m)] } (2 + waits x [a, b]) none false)) ∧
      (∀ p q old, x.staging = p ++ (cell, old) :: q → x.staging.length ≤ 32 → (∀ e ∈ p ++ q, e.1 ≠ cell) →
        exec (.lutws i ⟨0, a, b⟩ 0) s =
          .next (ran s i { x with pc := x.pc + 1, staging := p ++ (cell, m) :: q } (2 + waits x [a, b]) none false))) ∧
    (∀ (bay : BayId) (course : Fin 256) (m : BitVec 16) (rest : List (Nat × BitVec 16)),
      let y := s.bay bay
      let c0 := y.rclk.get 0
      x.lutw = (bay.val * 4096 + course.val * 16 + 15, m) :: rest → NoFence x →
      (y.runs = true → c0.en = true → c0.busy = false → y.dozed = false → lineRuns s (bay.val / 16) c0.sel.toNat = true →
        ∃ k, KeepersTake s k ∧
        ∃ z, exec (.lutwLanding i) s = .next (((keeping s k).putS i { x with lutw := rest }).modBay bay (fun _ => z)) ∧
          withMask z course.val m ∧ (∀ c, c ≠ course.val → maskOf z c = maskOf y c) ∧
          z = { y with lmask := z.lmask, lrep := z.lrep }) ∧
      (y.runs = true → (c0.en = false ∨ c0.busy = true ∨ y.dozed = true ∨ lineRuns s (bay.val / 16) c0.sel.toNat = false) →
        exec (.lutwLanding i) s = .next s) ∧
      (y.runs = false → ∃ k, KeepersTake s k ∧
        exec (.lutwLanding i) s = .next ((keeping s k).putS i { x with lutw := rest })))

/-- WEV, its timeout, SEV and EVQ. A WEV that finds a latch of its mask, and one with a timeout of 0, ends at once; any other waits. A
waiting WEV times out with gd = 0 and stops there where RUN is 0; without a timeout it goes on. The interlock of R78 joins the cost of
a WEV that waits. -/
def Obligations.EventInstructions : Prop :=
  ∀ (s : State) (i : SetterId) (d a b : Reg),
    let x := s.st i
    (Ready s i →
      let mask := x.g.get a
      let found := x.evl &&& mask
      let taken := { wrote x d found (zn x.flags found) with evl := x.evl &&& ~~~found }
      (found ≠ 0 ∨ x.g.get b = 0 → exec (.wev i ⟨d, a, b⟩ 0) s = .next (ran s i taken (2 + waits x [a, b]) none false)) ∧
      (found = 0 → x.g.get b ≠ 0 →
        exec (.wev i ⟨d, a, b⟩ 0) s = .next (ran s i { x with wait := .wev d mask (x.g.get b) } (waits x [a, b]) none false)) ∧
      exec (.evq i ⟨d, a, 0⟩ 0) s = .next (ran s i taken (1 + waits x [a]) none false) ∧
      ∀ u : Bool,
        let t := raise (setterSource i (6 + u.toNat)) (s.putS i { x with pc := x.pc + 1 })
        exec (.sev i ⟨0, 0, 0⟩ (BitVec.ofNat 12 u.toNat)) s = .next (ran t i (t.st i) 1 none false)) ∧
    (∀ mask timeout : Word, x.wait = .wev d mask timeout →
      let y := { wrote x d 0 (zn x.flags 0) with wait := .none, scan := x.scan + (300 * timeout.toNat + 2) }
      (timeout = 0xFFFFFFFF#32 → exec (.wevTimeout i) s = .next s) ∧
      (timeout ≠ 0xFFFFFFFF#32 → x.run = true → exec (.wevTimeout i) s = .next (s.putS i y)) ∧
      (timeout ≠ 0xFFFFFFFF#32 → x.run = false →
        exec (.wevTimeout i) s = .next (raise (setterSource i 5) (s.putS i { y with stopped := true })))) ∧
    ((∀ d mask timeout, x.wait ≠ .wev d mask timeout) → exec (.wevTimeout i) s = .next s)

/-- FRAME: the outputs and staged masks commit, then the setter waits for its tick; a tick that is due is an overrun, counted and then
waited out or taken at once by OVRPOL; a swapped program starts at vector 0. A FRAME behind a LUTW stalls and has not issued, and its
cycles join the scan inside FENCE's bound. FCNT reads the count. -/
def Obligations.FrameCommits : Prop :=
  ∀ (s : State) (i : SetterId) (nets : BitVec 256), Ready s i →
    let x := s.st i
    let late := x.armed = true ∧ (0 < x.due ∨ x.late = true)
    (x.lutw ≠ [] → ∃ w,
      exec (.frame i ⟨0, 0, 0⟩ nets) s = .next (s.putS i { x with lutStall := some w }) ∧ ∀ v, x.lutStall = some v → w = v) ∧
    (x.lutw = [] → ∃ w, (x.lutStall = none → w = 0) ∧ (∀ n, x.lutStall = some n → n ≠ 0 → w ≤ n) ∧
      let c := committed s i w
      (takesSwap i s = false →
        ((c.st i).olat = x.obuf ∧ (c.st i).staging = [] ∧ (c.st i).scanLast.toNat = min (x.scan + w) (2 ^ 24 - 1) ∧
          (c.st i).scanMax.toNat = max x.scanMax.toNat (min (x.scan + w) (2 ^ 24 - 1)) ∧ (c.st i).pc = x.pc ∧ (c.st i).g = x.g ∧
          (∀ j, j ≠ i → c.st j = s.st j) ∧ c.bays = (applyStaged x.staging s).bays ∧ c.store = s.store) ∧
        (¬ late → exec (.frame i ⟨0, 0, 0⟩ nets) s =
          .next (c.modS i (fun y => unlocked { y with wait := .frame (x.pc + 1), due := 0, late := false }))) ∧
        (late → x.ovrpol = false → exec (.frame i ⟨0, 0, 0⟩ nets) s =
          .next ((raise (setterSource i 0)
            (c.modS i (fun y => { overrun y x.due with wait := .frame (x.pc + 1), due := 0, late := false }))).modS i unlocked)) ∧
        (late → x.ovrpol = true → exec (.frame i ⟨0, 0, 0⟩ nets) s =
          .next ((raise (setterSource i 0) (c.modS i (fun y =>
            ticked (overrun y (if x.late then x.due else x.due - 1)) (x.pc + 1) (sampleTaps i nets s)))).modS i unlocked))) ∧
      (∀ p d dbg v, x.shadow = some (p, d, dbg) → s.img.swap = some v → v.moved = true → v.rel = true → v.left.getLsbD i.val = true →
        ¬ late → ∃ t, exec (.frame i ⟨0, 0, 0⟩ nets) s = .next t ∧
          (t.st i).wait = .frame 0 ∧ (t.st i).prog = p ∧ (t.st i).data = d.getD x.data ∧ (t.st i).swapped = true ∧ (t.st i).tm = false ∧
          (t.st i).shadow = none ∧ t.img.swap.map (fun v => v.left.getLsbD i.val) = some false)) ∧
    (∀ d : Reg, exec (.fcnt i ⟨d, 0, 0⟩) s = .next (ran s i (wrote x d x.fcnt x.flags) 1 none false))

/-- The three timed tick sources: a setter that waits at FRAME for this source takes the tick; one that has not reached its FRAME has
it due; the setters that the tick does not concern stand. -/
def Obligations.FrameTicks : Prop :=
  (∀ (s : State) (i : SetterId) (nets : BitVec 256) (next : BitVec 14),
    let x := s.st i
    AtFrame x 0 next → (field x.fperiod 15 0).toNat ≠ 0 → x.stopped = false →
    exec (.frameTimerTick i nets) s = .next (s.putS i { ticked x next (sampleTaps i nets s) with tblost := false })) ∧
  (∀ (s : State) (i : SetterId) (nets : BitVec 256),
    let x := s.st i
    x.wait = .none → x.fen = true → (field x.fsrc 1 0).toNat = 0 → (field x.fperiod 15 0).toNat ≠ 0 → x.stopped = false →
    x.gated = false → x.isol = false → x.dozed = false → x.fsrcW = none → x.fperiodW = none → x.ftbW = none → x.armed = true →
    exec (.frameTimerTick i nets) s = .next (s.putS i { x with due := x.due + 1, late := false, tblost := false })) ∧
  (∀ (s : State) (w : Wing) (nets : List (BitVec 256)), (s.glb.wtick.get w).getLsbD 31 = true →
    (field (s.glb.wtick.get w) 15 0).toNat ≠ 0 → (∀ j, (s.st j).run = true) →
    ∃ t, exec (.wingTick w nets) s = .next t ∧
      (∀ (j : Fin 4) (next : BitVec 14), AtFrame (s.st (wingSetter w j)) 1 next →
        t.st (wingSetter w j) =
          { ticked (s.st (wingSetter w j)) next (sampleTaps (wingSetter w j) (nets.getD j.val 0) s) with tblost := false }) ∧
      (∀ i : SetterId, i.val / 4 ≠ w.val ∨ (s.st i).fen = false ∨ (field (s.st i).fsrc 1 0).toNat ≠ 1 → t.st i = s.st i) ∧
      t.bays = s.bays ∧ t.store = s.store ∧ t.evt = s.evt) ∧
  (∀ (s : State) (time : Nat) (nets : List (BitVec 256)), s.irs.tbvalid = true → (∀ j, (s.st j).run = true) →
    ∃ t, exec (.timeBaseTick time nets) s = .next t ∧
      (∀ (i : SetterId) (next : BitVec 14),
        let x := s.st i
        let p := (field x.ftb 15 0).toNat
        AtFrame x 3 next → x.tblost = false → 0 < p → time % p = (field x.ftb 31 16).toNat % p →
        t.st i = ticked x next (sampleTaps i (nets.getD i.val 0) s)) ∧
      (∀ i : SetterId, (s.st i).fen = false ∨ (field (s.st i).fsrc 1 0).toNat ≠ 3 → t.st i = s.st i) ∧
      t.bays = s.bays ∧ t.store = s.store ∧ t.evt = s.evt)

/-- Synchronous causes, one of each vector and subcode: the trap of R64, and a double trap where a trap is being served. A held cause
is taken at an instruction boundary, SYS refusal before overrun before the lowest timer; the return from a trap through SET_TRET
restores the flags and clears TM (R63 to R66). -/
def Obligations.TrapCauses : Prop :=
  (∀ (s : State) (i : SetterId), Ready s i → ∀ (d a : Reg) (off : BitVec 14) (imm : BitVec 16),
    ∀ e ∈ causeRows (s.st i) i d a off imm, e.2.1 →
      ∃ w, ((s.st i).ilReg = none → w = 0) ∧ w ≤ 1 ∧
        ((s.st i).tm = false → exec e.1 s = .next (trapped (issued s i w) i e.2.2.1 e.2.2.2.1 e.2.2.2.2)) ∧
        ((s.st i).tm = true → exec e.1 s = .next (doubleTrapped (issued s i w) i))) ∧
  (∀ (s : State) (i : SetterId),
    let x := s.st i
    (x.issues = true → x.again = false → x.tm = false →
      (∀ code svc, x.heldSys = some (code, svc) →
        exec (.heldTrapEntry i) s = .next (trapped (s.putS i { x with heldSys := none }) i 7 code.toNat (svc.setWidth 32))) ∧
      (x.heldSys = none → x.heldOvr = true →
        exec (.heldTrapEntry i) s = .next (trapped (s.putS i { x with heldOvr := false }) i 5 0 0)) ∧
      (x.heldSys = none → x.heldOvr = false → ∀ t : Fin 8, x.heldTm.getLsbD t.val = true → (∀ u < t.val, x.heldTm.getLsbD u = false) →
        exec (.heldTrapEntry i) s = .next (trapped (s.putS i { x with heldTm := setBit x.heldTm t.val false }) i 6 t.val 0)) ∧
      (x.heldSys = none → x.heldOvr = false → x.heldTm = 0 → exec (.heldTrapEntry i) s = .next s)) ∧
    (∀ v : Word, (s.pwr.stage = .run ∨ s.pwr.stage = .core) → s.pwr.state ≠ 3 → asleep (.setter i) s = false → x.isol = false →
      regionOk s i.val (0x20200044 + 0x10000 * i.val) 4 false true = true →
      ∃ t, exec (.trapReturn i v) s = .next t ∧
        t.st i = { x with pc := field v 13 0, flags := flagsOf x.eflags, tm := false } ∧
        (∀ j, j ≠ i → t.st j = s.st j) ∧ t.bays = s.bays ∧ t.store = s.store ∧ t.evt = s.evt))

/-- SLD, SST, SLDQ, SSTQ and SSWAP: the registers take the store's bytes, the store takes the registers' bytes, every other byte of
the store reads as before; the cost of R114 for a wait of w store cycles, which the master's wait counter takes too (R200). How long
the wait is is free (log 9), and so is a byte that nothing has written (log 8). -/
def Obligations.StoreInstructions : Prop :=
  ∀ (s : State) (i : SetterId) (d a : Reg) (off : BitVec 14), Ready s i →
    let x := s.st i
    let ea := storeAddr x a off
    (StoreOpen s i.val ea 4 true false →
      ∃ w, 1 ≤ w ∧ let u := served s i.val w
        exec (.sld i d a off) s = .next (ran u i (wrote (u.st i) d (storeWord s ea) x.flags) (storeCycles w + waits x [a]) none false)) ∧
    (StoreOpen s i.val ea 4 false true →
      ∃ t w, 1 ≤ w ∧ exec (.sst i d a off) s = .next t ∧ Stored s t.store ea 4 (x.g.get d).toNat ∧
        let u := written s i.val ea w t.store
        t = ran u i { u.st i with pc := x.pc + 1 } (storeCycles w + waits x [a, d]) none false) ∧
    (d.val % 4 = 0 → StoreOpen s i.val ea 16 true false →
      ∃ t w, 1 ≤ w ∧ exec (.sldq i d a off) s = .next t ∧
        (∀ r : Reg, (t.st i).g.get r =
          if d.val ≤ r.val ∧ r.val < d.val + 4 then storeWord s (ea + 4 * (r.val - d.val)) else x.g.get r) ∧
        let u := served s i.val w
        t = ran u i { u.st i with g := (t.st i).g, pc := x.pc + 1 } (storeCycles w + waits x [a]) none false) ∧
    (d.val % 4 = 0 → StoreOpen s i.val ea 16 false true →
      ∃ t w, 1 ≤ w ∧ exec (.sstq i d a off) s = .next t ∧
        Stored s t.store ea 16 ((x.g.get d).toNat + 2 ^ 32 * (x.g.get (d + 1)).toNat + 2 ^ 64 * (x.g.get (d + 2)).toNat
          + 2 ^ 96 * (x.g.get (d + 3)).toNat) ∧
        let u := written s i.val ea w t.store
        t = ran u i { u.st i with pc := x.pc + 1 } (storeCycles w + waits x [a, d, d + 1, d + 2, d + 3]) none false) ∧
    (StoreOpen s i.val ea 4 true true →
      ∃ t r w, 1 ≤ r ∧ 1 ≤ w ∧ exec (.sswap i d a off) s = .next t ∧ Stored s t.store ea 4 (x.g.get d).toNat ∧
        let u := written (served s i.val r) i.val ea w t.store
        t = ran u i (wrote (u.st i) d (storeWord s ea) x.flags) (storeCycles (r + w) + waits x [a, d]) none false)

/-- PUT, GET, PEEK and QST of a setter on a queue of the device, in the order of R119: disabled, full, accepted; empty, an element;
the status word; a PUT to a PACK queue traps. C, TAG and Q answer; the flags not named stand. An operation on a KEY queue that leaves
a payload access to do makes the setter wait for the lane. A remote PUT hands its cell to the chain interface, or is refused (R120).
The hod's wait is free (log 9). -/
def Obligations.QueueInstructions : Prop :=
  (∀ (s : State) (i : SetterId) (d a : Reg) (q : QueueId) (eob : Bool), Ready s i → (s.st i).g.get a = localQueue q → PortFree s i.val →
    let x := s.st i
    let e := descOf s q
    let lo := BitVec.ofNat 12 (eob.toNat * 2048)
    (QueueOpen s q → e.pack = false → e.key = false → regionOk s i.val e.base e.ring false true = true → e.count ≠ e.cap →
      combRoom s (e.elem e.tail / 16 * 16) = true →
      ∃ t, exec (.put i ⟨d, a, 0⟩ lo) s = .next t ∧ (t.st i).pc = x.pc + 1 ∧ (t.st i).g = x.g ∧
        (t.st i).flags = { x.flags with c := false } ∧ descOf t q = e.pushed ∧
        combGet t (e.elem e.tail) = some (elemBytes (x.g.get d) (tagByte 0 false eob e.seq)) ∧ t.store = s.store ∧ t.bays = s.bays) ∧
    (QueueOpen s q → e.pack = false → regionOk s i.val e.base e.ring false true = true → e.count = e.cap →
      ∃ t, exec (.put i ⟨d, a, 0⟩ lo) s = .next t ∧ (t.st i).pc = x.pc + 1 ∧ (t.st i).g = x.g ∧
        (t.st i).flags = { x.flags with c := true } ∧ descOf t q = e ∧ pendBit t 441 = true ∧ t.store = s.store) ∧
    (e.en = false → e.key = false → kvGet s.hod.derr q.toNat = none →
      (∃ t, exec (.put i ⟨d, a, 0⟩ lo) s = .next t ∧ (t.st i).pc = x.pc + 1 ∧ (t.st i).g = x.g ∧
        (t.st i).flags = { x.flags with c := true } ∧ descOf t q = e ∧ pendBit t 442 = true ∧ t.store = s.store) ∧
      (∃ t, exec (.get i ⟨d, a, 0⟩ 0) s = .next t ∧ (t.st i).pc = x.pc + 1 ∧ (t.st i).g = x.g.set d.val 0 d.isLt ∧
        (t.st i).tag = 0 ∧ (t.st i).flags = { x.flags with q := false } ∧ descOf t q = e ∧ pendBit t 442 = true)) ∧
    (QueueOpen s q → regionOk s i.val e.base e.ring true false = true → e.count = 0 →
      ∃ c, 8 ≤ c ∧ exec (.get i ⟨d, a, 0⟩ 0) s = .next (ranFree (countBank q s) i
          { wrote x d 0 { x.flags with q := false } with tag := 0 } c) ∧
        exec (.peek i ⟨d, a, 0⟩ 0) s = .next (ranFree (countBank q s) i
          { wrote x d 0 { x.flags with q := false } with tag := 0 } c)) ∧
    (QueueOpen s q → e.key = true → e.count ≠ 0 → regionOk s i.val e.base e.ring true false = true →
      ∃ t, exec (.get i ⟨d, a, 0⟩ 0) s = .next t ∧ (t.st i).wait = .lane d ∧ (t.st i).pc = x.pc ∧ descOf t q = e.popped ∧
        t.hod.lane.map Prod.snd = some (.read (e.elem e.head))) ∧
    (QueueOpen s q → e.key = true → e.pack = false → e.count ≠ e.cap → regionOk s i.val e.base e.ring false true = true →
      ∃ t, exec (.put i ⟨d, a, 0⟩ lo) s = .next t ∧ (t.st i).wait = .lane d ∧ (t.st i).pc = x.pc ∧ descOf t q = e ∧
        t.hod.lane.map Prod.snd = some (.write (e.elem e.tail) (elemBytes (x.g.get d) (tagByte 0 false eob e.seq)) e.tail)) ∧
    (QueueOpen s q → e.key = false → regionOk s i.val e.base e.ring true false = true → e.count ≠ 0 → ∀ l, combGet s (e.elem e.head) = some l →
      let v := BitVec.ofNat 32 (leNat (l.take 4))
      let tag := l.getD 4 0
      (∃ t, exec (.get i ⟨d, a, 0⟩ 0) s = .next t ∧ (t.st i).pc = x.pc + 1 ∧ (t.st i).g = x.g.set d.val v d.isLt ∧
        (t.st i).tag = tag ∧ (t.st i).flags = { x.flags with q := tag.getLsbD 7 } ∧ descOf t q = e.popped ∧ t.store = s.store) ∧
      (∃ c, 8 ≤ c ∧ exec (.peek i ⟨d, a, 0⟩ 0) s = .next (ranFree (countBank q s) i
        { wrote x d v { x.flags with q := tag.getLsbD 7 } with tag := tag } c))) ∧
    (kvGet s.hod.derr q.toNat = none → (e.key = false ∨ (s.hod.lane = none ∧ s.hod.keyWait = [])) →
      let w := statusWord s q
      ∃ c, 8 ≤ c ∧ exec (.qst i ⟨d, a, 0⟩ 0) s = .next (ranFree (countBank q s) i
        (wrote x d w { x.flags with z := decide ((field w 16 0).toNat = 0), n := w.getLsbD 31 }) c)) ∧
    (QueueOpen s q → e.pack = true → e.key = false →
      ∃ t, exec (.put i ⟨d, a, 0⟩ lo) s = .next t ∧ descOf t q = e ∧ t.store = s.store ∧ (t.st i).g = x.g ∧ (t.st i).flags = x.flags ∧
        (x.tm = false → (t.st i).tm = true ∧ (t.st i).causeVec = 3 ∧ (t.st i).causeSub = 2 ∧ (t.st i).epc = x.pc ∧ (t.st i).pc = 3 ∧
          (t.st i).eaddr = BitVec.ofNat 32 (0x10000000 + 8 * q.toNat)) ∧
        (x.tm = true → (t.st i).dbltrap = true ∧ (t.st i).run = false ∧ (t.st i).stopped = true ∧ (t.st i).pc = x.pc))) ∧
  ∀ (s : State) (i : SetterId) (d a : Reg) (q : QueueId) (dev : BitVec 12) (kc eob : Bool), Ready s i →
    (s.st i).g.get a = remoteQueue dev q kc → asleep .hod s = false →
    let x := s.st i
    let c : Cell := mkCell s 1 (if kc then 0 else 2) dev (leBytes 2 q.toNat ++ [BitVec.ofNat 8 eob.toNat, 0] ++ leBytes 4 (x.g.get d).toNat)
    let put : Instr := .put i ⟨d, a, 0⟩ (BitVec.ofNat 12 (eob.toNat * 2048))
    let refused := ∃ t, exec put s = .next t ∧ (t.st i).pc = x.pc + 1 ∧ (t.st i).g = x.g ∧ (t.st i).flags = { x.flags with c := true } ∧
      pendBit t 441 = true ∧ t.irs.own.get 0 = s.irs.own.get 0 ∧ t.irs.ownKey = s.irs.ownKey ∧ t.store = s.store ∧ t.hod = s.hod
    (kc = false →
      ((s.irs.own.get 0).length ≤ Config.txRoom 0 → ∃ n r, 8 ≤ n ∧
        exec put s = .next (ranFree { s with irs := { s.irs with own := s.irs.own.set 0 (s.irs.own.get 0 ++ [c]), sent := r } } i
          { x with pc := x.pc + 1, flags := { x.flags with c := false } } n)) ∧
      (Config.txRoom 0 < (s.irs.own.get 0).length → refused)) ∧
    (kc = true →
      ((s.irs.ken = false ∨ s.irs.kenref = true) → ∃ n, 8 ≤ n ∧
        exec put s = .next (ranFree s i { x with pc := x.pc + 1, flags := { x.flags with c := true } } n)) ∧
      (s.irs.ken = true → s.irs.kenref = false → s.irs.ownKey.length ≤ Config.txRoom 4 →
        (s.irs.keyHold = false → s.irs.ownKey = [] → ∃ n r, 8 ≤ n ∧
          exec put s = .next (ranFree { s with irs := { s.irs with ownKey := [c], sent := r } } i
            { x with pc := x.pc + 1, flags := { x.flags with c := false } } n)) ∧
        ((s.irs.keyHold = true ∨ s.irs.ownKey ≠ []) → ∃ t, exec put s = .next t ∧ (t.st i).pc = x.pc + 1 ∧ (t.st i).g = x.g ∧
          (t.st i).flags = { x.flags with c := false } ∧ pendBit t 488 = true ∧ t.irs.ownKey = s.irs.ownKey ++ [c])) ∧
      (s.irs.ken = true → s.irs.kenref = false → Config.txRoom 4 < s.irs.ownKey.length → refused))

/-- CSRR and CSRW: gd takes the register's value, the register takes gb by its own rules; 11 to 13 setter cycles. The cost inside 11
to 13 setter cycles is free (log 9). -/
def Obligations.ControlRegisters : Prop :=
  ∀ (s : State) (i : SetterId) (d a b : Reg) (blk : Block) (off : Nat), Ready s i →
    let x := s.st i
    (x.g.get a).toNat = blockAddr blk off → placeOf (blockAddr blk off) = .reg blk off → off % 4 = 0 →
    (RegOpen s i.val blk off false → ∀ w t, blockRead blk off none s = some (w, t) → (t.st i).run = true →
      ∃ c, 11 ≤ c ∧ c ≤ 13 ∧ exec (.csrr i ⟨d, a, 0⟩ 0) s = .next (ranFree t i (wrote (t.st i) d w (t.st i).flags) (c + waits x [a]))) ∧
    (RegOpen s i.val blk off true → ∀ t, blockWrite i.val blk off (x.g.get b) (freeEnv s) (s.putS i { x with pc := x.pc + 1 }) = some t →
      (t.st i).run = true →
      ∃ c, 11 ≤ c ∧ c ≤ 13 ∧ exec (.csrw i ⟨0, a, b⟩ 0) s = .next { ran t i (t.st i) (c + waits x [a, b]) none false with free := t.free + 3 })

/-- SLEEP, RESUME, TEST, TESTABORT, SWAP and BONDSWAP that are accepted: what each begins, and OK in g0 (SLEEP answers when its entry
ends: until then the setter waits). A SYS that is refused, with BADSVC or NOTPERM: source 4 of the setter is raised, SYSTRAP holds a
vector 7, g0 takes the code, and nothing else (R124 to R130). The cost inside its range is free (log 9), and the order of a swap's
checks is the model's reading (log 16). -/
def Obligations.SysServices : Prop :=
  (∀ (s : State) (i : SetterId), Ready s i →
    let x := s.st i
    let a (r : Reg) : Nat := (x.g.get r).toNat
    (x.perm.getLsbD 0 = true → MayChange s (a 1) → s.pwr.wakesrc &&& s.pwr.wakeen = 0 →
      exec (.sleep i noRegs) s = .next { s.putS i (asleepIn x) with pwr := entering s.pwr (a 1) (some i) }) ∧
    (x.perm.getLsbD 1 = true → s.pwr.inflight = false → s.pwr.state = 0 → SysEnds s s i (exec (.sysResume i noRegs) s) 0 none) ∧
    (x.perm.getLsbD 1 = true → s.pwr.inflight = false → s.pwr.state = 1 → s.pwr.caller = none →
      ∃ t, SysEnds s t i (exec (.sysResume i noRegs) s) 0 none ∧ t.pwr = { s.pwr with state := 0 } ∧ pendBit t 555 = true ∧
        (∀ k, (t.st k).dozed = false) ∧ (∀ b, t.bay b = { s.bay b with dozed := false }) ∧ t.store = s.store) ∧
    (∀ b, x.perm.getLsbD 2 = true → testBlock (a 1) = some b → b ≠ .setter i → (x.g.get 3).toNat < 2 →
      MayTest s b (x.g.get 2) ((x.g.get 3).getLsbD 0) →
      ∃ t, SysEnds s t i (exec (.sysTest i noRegs) s) 0 (some s.bst.next.toNat) ∧ TestStarted s t (a 1) b (x.g.get 2)) ∧
    (∀ b, x.perm.getLsbD 3 = true → testBlock (a 1) = some b → b ≠ .setter i →
      (s.bst.slice = none → SysEnds s s i (exec (.sysTestAbort i noRegs) s) 0 none) ∧
      ∀ v, s.bst.slice = some v → v.block.toNat = a 1 →
        ∃ t, SysEnds s t i (exec (.sysTestAbort i noRegs) s) 0 none ∧ TestCut s t v 2) ∧
    (x.perm.getLsbD 4 = true → (x.g.get 4).toNat < 2 ^ 17 → MaySwap s (a 1) (x.g.get 3 ++ x.g.get 2) (field (x.g.get 4) 15 0) →
      ∃ t, SysEnds s t i (exec (.sysSwap i noRegs) s) 0 none ∧
        SwapBegun s t (a 1) (x.g.get 3 ++ x.g.get 2) (field (x.g.get 4) 15 0) ((x.g.get 4).getLsbD 16)) ∧
    (x.perm.getLsbD 5 = true → a 1 = 0 → s.arb.bond.phase = .idle →
      SysEnds s { s with arb := { s.arb with bond := { s.arb.bond with phase := .validating } } } i (exec (.bondSwap i noRegs) s) 0 none) ∧
    (x.perm.getLsbD 5 = true → a 1 = 1 → s.irs.bond.phase = .idle →
      SysEnds s (raiseIf (armedBond s.irs.bond 3).2 621 { s with irs := { s.irs with bond := (armedBond s.irs.bond 3).1 } }) i
        (exec (.bondSwap i noRegs) s) 0 none)) ∧
  (∀ (s : State) (i : SetterId), Ready s i →
    (∀ n : BitVec 10, (∀ e ∈ sysRows, n.toNat ≠ e.2.1) →
      SysEnds s (refusal s i n.toNat 1) i (exec (.sysUndefinedService i noRegs n) s) 1 none) ∧
    (∀ e ∈ sysRows, (s.st i).perm.getLsbD e.2.2 = false → SysEnds s (refusal s i e.2.1 7) i (exec (e.1 i noRegs) s) 7 none))

/-- A register access of a bus master: DORMANT, a missing region, a misaligned address, an address outside every block, a domain that
is off or being stopped, or a hod register behind an operation of the bus port; else the register's own answer (R10, R20 to R22, R214,
R339, R343). The order of the checks is the model's reading (log 24), and an access that waits stands in a list of the model's own
(log 21). -/
def Obligations.BusChecks : Prop :=
  ∀ (s : State) (m : Master) (a v : Word) (rec : Option Word),
    let u : State := { s with free := s.free + 2 }
    let on := s.pwr.stage = .run ∨ s.pwr.stage = .core
    let place := placeOf a.toNat
    let answers := on ∧ (s.pwr.state = 3 → aoPlace place = true)
    (¬answers → exec (.registerWrite m a v) s = .next (ended m.val .busError u) ∧
      exec (.rcFieldRead m a rec) s = .next (ended m.val .busError s)) ∧
    (answers → place = .store → a.toNat % 4 ≠ 0 → exec (.registerWrite m a v) s = .next (ended m.val .busError u)) ∧
    (answers → place ≠ .store →
      (regionOk s m.val a.toNat 4 false true = false →
        exec (.registerWrite m a v) s = .next (ended m.val .region (raise (448 + m.val) { u with arb := { u.arb with
          mcause := nthUpd s.arb.mcause m.val (· ||| 1), maddr := nthUpd s.arb.maddr m.val (fun _ => a) } }))) ∧
      (regionOk s m.val a.toNat 4 false true = true → (a.toNat % 4 ≠ 0 ∨ place = .nowhere) →
        exec (.registerWrite m a v) s = .next (ended m.val .busError u)) ∧
      (regionOk s m.val a.toNat 4 true false = true → (a.toNat % 4 ≠ 0 ∨ place = .nowhere) →
        exec (.rcFieldRead m a rec) s = .next (ended m.val .busError s))) ∧
    (∀ b off, answers → place = .reg b off → a.toNat % 4 = 0 →
      (regionOk s m.val a.toNat 4 false true = true → ∀ d, blockDomain b = some d →
        (asleep d s = true ∨ (d = .hod ∧ portBusy 16 s = true)) → (d ∈ s.pwr.begun ∨ Machine.off d s = false) →
        exec (.registerWrite m a v) s = .next (ended m.val .waits { u with stalled := s.stalled ++ [⟨m.val, d, a.toNat, true, v, none⟩] })) ∧
      (RegOpen s m.val b off true → a.toNat = blockAddr b off → ∀ t, blockWrite m.val b off v (freeEnv s) u = some t →
        exec (.registerWrite m a v) s = .next (answeredOk m.val [] t)) ∧
      (RegOpen s m.val b off false → a.toNat = blockAddr b off → ∀ w t, blockRead b off rec s = some (w, t) →
        exec (.rcFieldRead m a rec) s = .next (answeredOk m.val (leBytes 4 w.toNat) t))) ∧
    (∀ i : SetterId, a.toNat = 0x20200020 + 0x10000 * i.val → SetOpen s m i 0x20 false →
      let x := s.st i
      let r := rec.getD 0
      exec (.rcFieldRead m a rec) s = .next (answeredOk m.val
        (leBytes 4 (x.missed.toNat * 65536 + x.overruns.toNat)) (s.putS i { x with missed := field r 31 16, overruns := field r 15 0 })))

/-- Start, stop and step of a setter by SET_CTRL, a step that a held cause comes before, and SRST (R38, R39, R64, R67). TBLOST follows
the source in effect (R54). TBLOST after the write is left open, because the moment of the write is free (log 6), and SRST's untouched
status bits are the model's reading (log 25). -/
def Obligations.SetterControl : Prop :=
  ∀ (s : State) (m : Master) (i : SetterId) (nets : BitVec 256), SetOpen s m i 0 true →
    let x := s.st i
    let v := sampleTaps i nets s
    (x.stopped = true → ∃ tb, exec (.setterRun m i nets) s = .next (answeredOk m.val [] (s.putS i
      { withSnap x v with run := true, stopped := false, halted := false, skipBk := true, tblost := tb }))) ∧
    (x.stopped = false → ∃ tb, exec (.setterRun m i nets) s = .next (answeredOk m.val [] (s.putS i { x with run := true, tblost := tb }))) ∧
    (x.stopped = false → x.wait = .none → x.again = false → m.val ≠ i.val → ∃ tb, exec (.setterStop m i) s = .next (answeredOk m.val [] (raise (256 + 8 * i.val + 5)
      (s.putS i { x with run := false, stopped := true, tblost := tb })))) ∧
    ((x.stopped = true ∨ x.wait ≠ .none ∨ x.again = true ∨ m.val = i.val) →
      ∃ tb, exec (.setterStop m i) s = .next (answeredOk m.val [] (s.putS i { x with run := false, tblost := tb }))) ∧
    (x.run = true → x.stopped = false → ∃ tb, exec (.setterSrst m i nets) s = .next (answeredOk m.val [] (s.putS i
      { srstDone x with snap := v, prev := v, ilat := v, needSnap := false, halted := false, skipBk := true, tblost := tb }))) ∧
    (x.run = false → x.stopped = true → ∃ tb, exec (.setterSrst m i nets) s = .next (answeredOk m.val [] (s.putS i
      { srstDone x with tblost := tb }))) ∧
    (x.stopped = true → x.run = false → x.wait = .none → x.gated = false → x.dozed = false → x.testW = false → (x.tm = true ∨ x.nextHeld = none) →
      ∃ tb, let u := answeredOk m.val [] (s.putS i { withSnap x v with run := false, stopped := false, skipBk := true, tblost := tb });
        ∃ t, exec (decodeWord i ((kvGet x.prog x.pc.toNat).getD 0) (Config.freeLevel s.free) (Config.freeNets s.free))
            { u with free := s.free + 1 } = .next t ∧
          exec (.setterStep m i nets) s = .next t) ∧
    (x.stopped = true → x.run = false → x.wait = .none → x.gated = false → x.dozed = false → x.testW = false → x.tm = false → ∀ c, x.nextHeld = some c →
      ∃ tb, let y : Setter := { withSnap c.2.2.2 v with run := false, stopped := false, skipBk := true, tblost := tb }
        let u := takeHeld i (c.1, c.2.1, c.2.2.1, y)
          (answeredOk m.val [] s);
        ∃ t, exec (decodeWord i ((kvGet x.prog c.1).getD 0) (Config.freeLevel u.free) (Config.freeNets u.free))
            { u with free := u.free + 1 } = .next t ∧
          exec (.setterStep m i nets) s = .next t) ∧
    (x.stopped = true → x.run = false → x.wait = .none → x.gated = false → x.dozed = false → x.testW = false → (x.tm = true ∨ x.nextHeld = none) →
      kvGet x.prog x.pc.toNat = none → kvGet x.progErr x.pc.toNat = none →
      ∃ t, exec (.setterStep m i nets) s = .next t ∧ (t.st i).pc = x.pc + 1 ∧ (t.st i).stopped = true ∧ (t.st i).run = false ∧
        (t.st i).g = x.g ∧ (t.st i).flags = x.flags ∧ (t.st i).halted = x.halted ∧ pendBit t (256 + 8 * i.val + 5) = true ∧ t.store = s.store)

/-- Debug accesses to a setter: its state registers only while it is stopped, the frame source by its own rule, program memory through
SET_PMDATA, the timers (R59, R68, R69, R98). The moment of a write whose row does not give it is free (log 6). -/
def Obligations.SetterDebug : Prop :=
  ∀ (s : State) (m : Master) (i : SetterId) (v : Word) (r : Reg) (t : TimerId),
    let x := s.st i
    let a := x.pmaddr.toNat
    (∀ e ∈ stateRows x v r t, SetOpen s m i e.1 true →
      (x.stopped = true → exec (.setterStateWrite m i (BitVec.ofNat 16 e.1) v) s = .next (wroteOk m (s.putS i e.2))) ∧
      (x.stopped = false → exec (.setterStateWrite m i (BitVec.ofNat 16 e.1) v) s = .next (ended m.val .busError { s with free := s.free + 2 }))) ∧
    (∀ f, SetOpen s m i (frameAtOff f) true →
      (frameLegal x f v → ∃ tb, exec (.frameSourceWrite m i f v) s = .next (wroteOk m (s.putS i { frameWritten x f v with tblost := tb }))) ∧
      (¬frameLegal x f v → ∃ tb, exec (.frameSourceWrite m i f v) s = .next (wroteOk m (s.putS i { x with cfgerr := true, tblost := tb })))) ∧
    (SetOpen s m i 0x6C true → x.stopped = true → x.dbgwr = true →
      ∃ p, kvGet p a = (if v = 0 then none else some v) ∧ (∀ k, k ≠ a → kvGet p k = kvGet x.prog k) ∧
        exec (.pmDebugWrite m i v) s = .next (wroteOk m (s.putS i
          { x with prog := p, progErr := kvDel a x.progErr, pmaddr := x.pmaddr + 1 }))) ∧
    (SetOpen s m i 0x6C true → (x.stopped = false ∨ x.dbgwr = false) →
      exec (.pmDebugWrite m i v) s = .next (ended m.val .busError { s with free := s.free + 2 })) ∧
    (SetOpen s m i 0x6C false →
      (kvGet x.progErr a = none → exec (.pmDebugRead m i) s = .next (answeredOk m.val (leBytes 4 ((kvGet x.prog a).getD 0).toNat)
        (s.putS i { x with pmaddr := x.pmaddr + 1 }))) ∧
      (kvGet x.progErr a = some .single → exec (.pmDebugRead m i) s = .next (answeredOk m.val (leBytes 4 ((kvGet x.prog a).getD 0).toNat)
        (raise (256 + 8 * i.val + 3) (s.putS i { x with pmaddr := x.pmaddr + 1, progErr := kvDel a x.progErr })))) ∧
      (kvGet x.progErr a = some .double → exec (.pmDebugRead m i) s = .next (ended m.val .busError s))) ∧
    (SetOpen s m i (0x200 + 16 * t.val) true → x.stopped = true →
      let u := x.timers.get t
      let w : Timer := { u with mode := field v 1 0, base := v.getLsbD 4, trap := v.getLsbD 8 }
      let y := if w.mode = u.mode ∧ w.base = u.base then w else cleared w
      exec (.timerDebugWrite m i t v) s = .next (wroteOk m (s.putS i { x with timers := x.timers.set t.val y t.isLt })))

/-- A raise of a source: reserved or of a bay that does not run, one that wakes the device, pending or not, in DORMANT or not,
delivered to setters, plinth, host and chain as its route says, to a setter that waits at WEV or for an event-line frame tick too; and
writes of the event controller's registers (R25 to R31, R52, R59, R60, R112, R292, R335). -/
def Obligations.EventRaises : Prop :=
  (∀ (s : State) (n : Source),
    let r := routeOf s n.val
    let line := (field r 20 16).toNat
    (raises n.val s = false → exec (.eventRaise n) s = .next s) ∧
    ((494 ≤ n.val ∧ n.val ≤ 511) ∨ (556 ≤ n.val ∧ n.val ≤ 575) ∨ (595 ≤ n.val ∧ n.val ≤ 607) ∨ 625 ≤ n.val → raises n.val s = false) ∧
    (∀ b : BayId, n.val = 4 * b.val + 2 ∨ n.val = 4 * b.val + 3 → (s.bay b).runs = false → raises n.val s = false) ∧
    (raises n.val s = true → wakeSource s n.val = true → ∃ t, exec (.eventRaise n) s = .next t ∧ pendBit t n.val = true ∧
      t.pwr.wakesrc.getLsbD 18 = true) ∧
    (raises n.val s = true → wakeSource s n.val = false →
    (pendBit s n.val = true → exec (.eventRaise n) s = .next s) ∧
    (pendBit s n.val = false → s.pwr.state = 3 →
      ∃ t, exec (.eventRaise n) s = .next t ∧ Pending s t n.val ∧ t = { s with evt := t.evt }) ∧
    (pendBit s n.val = false → s.pwr.state ≠ 3 → NoListener s line →
      (r.getLsbD 23 = true → (s.irs.own.get 2).length ≤ Config.txRoom 2) →
      ∃ t, exec (.eventRaise n) s = .next t ∧ Pending s t n.val ∧
        t = { s with evt := t.evt, setters := t.setters, irs := { s.irs with own := t.irs.own, sent := t.irs.sent } } ∧
        (∀ i, t.st i = if r.getLsbD i.val && !(s.st i).gated && !(s.st i).isol
          then { s.st i with evl := (s.st i).evl ||| BitVec.ofNat 32 (2 ^ line) } else s.st i) ∧
        (∀ k : Fin 4, t.irs.own.get k = s.irs.own.get k ++ (if r.getLsbD 23 = true ∧ k = 2 then
          [mkCell s 3 2 (field (noteOf s n.val) 27 16)
            (leBytes 2 (field (noteOf s n.val) 15 0).toNat ++ [0, 0] ++ leBytes 4 (n.val + s.irs.self.toNat * 1024))] else [])) ∧
        (r.getLsbD 21 = true → plinthIrq t = true) ∧ (r.getLsbD 22 = true → hirqLow t = true)) ∧
    (pendBit s n.val = false → s.pwr.state ≠ 3 → (∀ j, (s.st j).run = true) →
      (r.getLsbD 23 = true → (s.irs.own.get 2).length ≤ Config.txRoom 2) →
      ∃ t, exec (.eventRaise n) s = .next t ∧
        ∀ i : SetterId, r.getLsbD i.val = true → (s.st i).gated = false → (s.st i).isol = false → Pulsed (s.st i) (t.st i) line) ∧
    (pendBit s n.val = false → s.pwr.state ≠ 3 → ∃ t, exec (.eventRaise n) s = .next t ∧ pendBit t n.val = true ∧
      t = { s with evt := t.evt, setters := t.setters, irs := { s.irs with own := t.irs.own, sent := t.irs.sent }, free := t.free } ∧
      t.evt.route = s.evt.route ∧ t.evt.note = s.evt.note))) ∧
  (∀ (s : State) (m : Master) (v : Word),
    (RegOpen s m.val .evt 0x10 true → (field v 9 0).toNat < 640 → wakeSource s (field v 9 0).toNat = false →
      exec (.softwareRaise m v) s = .next (wroteThen m (raise (field v 9 0).toNat) s)) ∧
    (RegOpen s m.val .evt 0x10 true → 640 ≤ (field v 9 0).toNat → exec (.softwareRaise m v) s = .next (wroteOk m s)) ∧
    (∀ k : Fin 20, RegOpen s m.val .evt (0x100 + 4 * k.val) true →
      let p := s.evt.pend.set k.val (s.evt.pend.get k &&& ~~~v) k.isLt
      exec (.pendingClear m k v 0) s = .next (answeredOk m.val [] { s with evt := { s.evt with pend := p } }) ∧
      ∀ j : Fin 32, reservedSource (32 * k.val + j.val) = false → wakeSource s (32 * k.val + j.val) = false →
        exec (.pendingClear m k v (BitVec.ofNat 32 (2 ^ j.val))) s =
          .next (answeredOk m.val [] (raise (32 * k.val + j.val) { s with evt := { s.evt with pend := p } }))) ∧
    (∀ n : Source,
      (RegOpen s m.val .evt (0x1000 + 4 * n.val) true →
        ∃ t, exec (.routeWrite m false n v) s = .next t ∧ routeOf t n.val = v &&& 0x00FFFFFF#32 ∧
          (∀ k, k ≠ n.val → routeOf t k = routeOf s k) ∧ t = wroteOk m { s with evt := { s.evt with route := t.evt.route } }) ∧
      (RegOpen s m.val .evt (0x2000 + 4 * n.val) true →
        ∃ t, exec (.routeWrite m true n v) s = .next t ∧ noteOf t n.val = v &&& 0x0FFFFFFF#32 ∧
          (∀ k, k ≠ n.val → noteOf t k = noteOf s k) ∧ t = wroteOk m { s with evt := { s.evt with note := t.evt.note } })))

/-- The live-mask checker of a bay, and a word's way over a bay joint, taken, landed and acknowledged only on edges that fall (R139,
R140, R143). Which regional clock a joint runs on is in the configuration latches, whose places the spec does not give (log 12). -/
def Obligations.BayTraffic : Prop :=
  ∀ (s : State) (b : BayId) (dir : Dir) (j : Fin 8) (v : Word),
    let x := s.bay b
    let c := x.chk.toNat
    let m := (kvGet x.lmask c).getD 0
    let y := { x with chk := x.chk + 1 }
    let q := jointOf x dir j
    (s.img.hold = false → ¬(Running x ∧ oddMask m ∧ c ∉ x.lrep) → exec (.liveMaskCheck b) s = .next (s.modBay b (fun _ => y))) ∧
    (s.img.hold = false → Running x → oddMask m → c ∉ x.lrep →
      exec (.liveMaskCheck b) s = .next (reportFault 5 b.val 1 (raise (256 + 8 * (b.val / 16 * 4 + ownerOf x c) + 2) (s.modBay b (fun _ =>
        { y with lperr := true, lpCell := if x.lperr then x.lpCell else BitVec.ofNat 12 (c * 16 + 15),
                 lpCount := BitVec.ofNat 8 (min (x.lpCount.toNat + 1) 255), lrep := x.lrep ++ [c] }))))) ∧
    (¬Running x ∨ s.img.hold = true → sendEdge s b (jointNo dir j) = false) ∧
    (sendEdge s b (jointNo dir j) = false → exec (.bayJointSend b dir j v) s = .next s) ∧
    (∀ d, Adjacent b dir d → sendEdge s b (jointNo dir j) = true →
      exec (.bayJointSend b dir j v) s = .next (if q.busy then s else s.modBay b (fun _ =>
        withJoint x dir j (fun q => { q with busy := true, flight := some v })))) ∧
    ((∀ d, ¬Adjacent b dir d) → exec (.bayJointSend b dir j v) s = .next s) ∧
    (∀ d, Adjacent b dir d → q.flight = some v →
      (Running (s.bay d) → landEdge s d.val (jointNo dir j) = false → exec (.bayJointArrival b dir j) s = .next s) ∧
      (Running (s.bay d) → landEdge s d.val (jointNo dir j) = true → exec (.bayJointArrival b dir j) s = .next (s.modBay b (fun _ =>
        withJoint x dir j (fun q => { q with flight := none, out := v, arrived := true, ack := true })))) ∧
      (¬Running (s.bay d) → exec (.bayJointArrival b dir j) s = .next (s.modBay b (fun _ =>
        withJoint x dir j (fun q => { q with flight := none, ack := true }))))) ∧
    (let runs := clkRuns s b (Config.jointClk (latches s b.val) (jointNo dir j));
      (q.ack = true → runs = true → exec (.bayJointAck b dir j) s = .next (s.modBay b (fun _ =>
        withJoint x dir j (fun q => { q with busy := false, ack := false })))) ∧
      (runs = false → exec (.bayJointAck b dir j) s = .next s))

/-- Regional clocks, regional resets, plumb probes, the wing ticks' grid, and a moment of the fabric: flip-flops and MAC blocks (R51,
R133, R138, R148 to R154, R164). Which edges fall at a moment is free (log 35). Which cells and MAC blocks a reset tree reaches is in
the configuration latches as they stand, whose places the spec does not give (log 12). -/
def Obligations.BayControls : Prop :=
  ∀ (s : State) (m : Master) (b : BayId) (n : Fin 4) (v : Word),
    let x := s.bay b
    let c := x.rclk.get n
    (RegOpen s m.val (.bay b) (0x10 + 4 * n.val) true →
      exec (.regionalClockWrite m b n v) s = .next (wroteOk m (s.modBay b (fun _ =>
        withClock x n (if c.busy then { c with heldW := some v } else clockTaken c v))))) ∧
    (c.busy = true → LineRuns s (b.val / 16) c.sel.toNat →
      ∃ k, k.toNat ≤ c.div.toNat ∧
        exec (.regionalClockSwitchDone b n) s = .next ({ s with free := s.free + 1 }.modBay b (fun _ => withClock x n (match c.heldW with
          | some w => clockTaken { c with heldW := none, cnt := k } w
          | none => { c with busy := false, cnt := k })))) ∧
    (∀ src, ∃ y, exec (.regionalResetAssert b n src) s = .next (s.modBay b (fun _ => y)) ∧
      y = { x with rstSw := y.rstSw, rstSrc := y.rstSrc, tree := y.tree, ffs := y.ffs, mac := y.mac } ∧
      y.tree = x.tree ||| BitVec.ofNat 4 (2 ^ n.val) ∧ y.rstSrc.get n = x.rstSrc.get n ||| BitVec.ofNat 4 (sourceBit src) ∧
      (∀ k, k ≠ n → y.rstSrc.get k = x.rstSrc.get k) ∧
      y.rstSw = (if src = .software then x.rstSw ||| BitVec.ofNat 4 (2 ^ n.val) else x.rstSw) ∧
      (∀ f, f < 4096 →
        let g := Config.cellCfg (latches s b.val) f
        (f ∈ y.ffs ↔ if g.rsten = true ∧ g.clk % 4 = n.val then g.init ≠ (Config.cellCfg (planeLatches s b.val) f).init else f ∈ x.ffs)) ∧
      (∀ k : Fin 4, y.mac.get k = if (Config.macCfg (latches s b.val) k.val).clk % 4 = n.val then MacBlock.reset else x.mac.get k)) ∧
    (∀ src, Cleared s b n src →
      let w := x.rstSrc.get n &&& ~~~(BitVec.ofNat 4 (sourceBit src))
      let y := { x with rstSrc := x.rstSrc.set n.val w n.isLt }
      (w = 0 → Clocked s b n →
        exec (.regionalResetRelease b n src) s = .next (s.modBay b (fun _ => { y with tree := x.tree &&& ~~~(BitVec.ofNat 4 (2 ^ n.val)) }))) ∧
      (¬(w = 0 ∧ Clocked s b n) → exec (.regionalResetRelease b n src) s = .next (s.modBay b (fun _ => y)))) ∧
    (∀ k : Fin 8, RegOpen s m.val (.bay b) (0x40 + 4 * k.val) true →
      exec (.probeSelect m b k v) s = .next (wroteOk m (s.modBay b (fun _ => { x with probe := x.probe.set k.val (v &&& 0x80001FFF#32) k.isLt })))) ∧
    (∀ (w : Wing) (k : Fin 16), RegOpen s m.val .glb (0x200 + 0x40 * w.val + 4 * k.val) true →
      exec (.wingProbeSelect m w k v) s = .next (wroteOk m { s with glb := { s.glb with
        wprobe := s.glb.wprobe.set w.val ((s.glb.wprobe.get w).set k.val (v &&& 0x8000007F#32) k.isLt) w.isLt } })) ∧
    (∀ w : Wing, RegOpen s m.val .glb (0x100 + 4 * w.val) true →
      let g := (v &&& 0x80000000#32) ||| (if (field v 15 0).toNat = 0 then s.glb.wtick.get w &&& 0xFFFF#32 else v &&& 0xFFFF#32)
      exec (.wingTickWrite m w v) s = .next (wroteOk m { s with glb := { s.glb with wtick := s.glb.wtick.set w.val g w.isLt } })) ∧
    ((s.img.hold = true ∨ s.pwr.stage ≠ .run) → fabricTick s = s) ∧
    (s.img.hold = false → s.pwr.stage = .run →
      let y := (fabricTick s).bay b
      (x.runs = false → y = { x with joints := y.joints, rclk := y.rclk }) ∧
      (x.runs = true → clkRuns s b n = true →
        let k := if lineEdge s (b.val / 16) c.sel.toNat = false then c.cnt else if c.cnt = 0 then c.div else c.cnt - 1
        y.rclk.get n = { c with cnt := k }) ∧
      (∀ (d : BayId) (k : Fin 4), d.val / 16 = b.val / 16 → clkRuns s b n = true → clkRuns s d k = true →
        ((s.bay d).rclk.get k).sel = c.sel → ((s.bay d).rclk.get k).cnt = c.cnt → edgeNow s d k.val = edgeNow s b n.val) ∧
      (edgeNow s b n.val = true → clkRuns s b n = true ∧ lineEdge s (b.val / 16) c.sel.toNat = true ∧ c.cnt = 0) ∧
      (x.runs = true →
        (∀ f, f < 4096 → (f ∈ y.ffs ↔ cellAfter s b f ≠ (Config.cellCfg (planeLatches s b.val) f).init)) ∧
        ∀ k : Fin 4, AccAfter s b k (x.mac.get k) (y.mac.get k)))

/-- Pins: options, bit slip, HALT_N, supplies, which row of R163 decides a pin, what the row drives, and the level that the pin then
reads (R157 to R163, R280, R331, R372, R380, R384, R388). When pins return after a release is the model's reading (log 23). -/
def Obligations.Pins : Prop :=
  (∀ (s : State) (m : Master) (k : Bank) (i : PinId) (v : Word),
    let bk := s.io.bank.get k
    let put (u : State) (y : IoBank) : State := { u with io := { u.io with bank := u.io.bank.set k.val y k.isLt } }
    let gone := put s { bk with band := none }
    let moment := { s with free := s.free + 2 }
    let mask : Word := if s.img.locked then 0x00023E00#32 else 0xFFFFFE00#32
    let ser := (field (pinCfg s (22 * k.val + i.val)) 21 20).toNat
    (RegOpen s m.val (.iob k) (0x100 + 4 * i.val) true →
      ∃ w, KeepersTake moment w ∧ exec (.pinOptionWrite m k i v) s = .next (answeredOk m.val [] (put (keeping moment w)
        { bk with pin := bk.pin.set i.val ((bk.pin.get i &&& ~~~mask) ||| (v &&& mask)) i.isLt }))) ∧
    (ser ≠ 0 → exec (.bitslip k i) s = .next (put s
        { bk with slip := bk.slip.set i.val (BitVec.ofNat 3 (((bk.slip.get i).toNat + 1) % 2 ^ ser)) i.isLt })) ∧
    (ser = 0 → exec (.bitslip k i) s = .next s) ∧
    (s.io.halt = false → (s.io.bank.get 4).band ≠ none → s.bst.slice = none →
      ∃ w, KeepersTake s w ∧ exec .haltAssert s =
        .next (raise 623 { keeping s w with io := { s.io with keeper := w, halt := true, haltW := BitVec.allOnes 132 } })) ∧
    ((s.io.bank.get 4).band = none → exec .haltAssert s = .next s) ∧
    (s.io.halt = true → exec .haltRelease s = .next (raise 624 { s with io := { s.io with halt := false } })) ∧
    (∃ w h, exec .haltPinReturn s = .next { s with io := { s.io with haltW := w, holdW := h } } ∧
      (s.io.halt = true → w = s.io.haltW) ∧
      ∀ p, p < 132 → (s.io.halt = false → w.getLsbD p = (s.io.haltW.getLsbD p && ownedByRunning s p)) ∧
        h.getLsbD p = (s.io.holdW.getLsbD p && ownedByRunning s p)) ∧
    (((k ≠ 4 ∧ (s.io.bank.get 4).band ≠ none) ∨ s.io.halt = false) →
      ∃ w, KeepersTake gone w ∧ exec (.vioLoss k) s = .next (keeping gone w)) ∧
    (s.io.halt = true → k = 4 → ∃ w, KeepersTake gone w ∧ exec (.vioLoss k) s =
      .next (raise 624 { keeping gone w with io := { gone.io with keeper := w, halt := false } })) ∧
    (∀ band, exec (.vioReturn k band) s = .next (put s { bk with band := some band }))) ∧
  (∀ (s : State) (p : Nat) (bk : IoBank), p < 132 → nth s.io.bank (p / 22) = some bk →
    let port := s.tap.ir = 0 ∨ s.tap.ir = 3 ∨ s.tap.ir = 4
    let stop := s.io.halt = true ∨ s.io.haltW.getLsbD (pinEntry s p) = true
    let low := ∃ v, bk.band = some v ∧ v.toNat < bk.vio.toNat ∧ bk.inEffect = true
    let on := bk.band ≠ none ∧ ¬low ∧ s.pwr.stage ≠ .off ∧ s.pwr.stage ≠ .ao
    let conf := pinCfg s p
    let drain := conf.getLsbD 19 = true ∧ conf.getLsbD 23 = false
    let idles : PinDrive := if conf.getLsbD 23 then .off else match (field conf 13 12).toNat with
      | 1 => .weak true
      | 2 => .weak false
      | 3 => .keeper (s.io.keeper.getLsbD p)
      | _ => .off
    let free := on ∧ pinLive s p = true ∧ s.io.trip = false ∧ ¬stop ∧ ¬port
    let fabric := free ∧ padTest s p = false
    (¬on → pinRow s p = 1 ∧ pinDrive s p = .off ∧ pinLevel s p = false) ∧
    (on → pinLive s p = true → s.io.trip = true → pinRow s p = 2 ∧ pinDrive s p = safeDrive s p) ∧
    (on → pinLive s p = true → s.io.trip = false → stop → pinRow s p = 3 ∧ pinDrive s p = safeDrive s p) ∧
    (on → (pinLive s p = false ∨ (s.io.trip = false ∧ ¬stop)) → port → pinRow s p = 4 ∧
      pinDrive s p = if s.tap.ir ≠ 4 ∧ s.tap.upd.getLsbD (3 * pinEntry s p + 2) = true then
        .level (s.tap.upd.getLsbD (3 * pinEntry s p + 1) != decide (pinEntry s p ≠ p)) else .off) ∧
    (on → pinLive s p = false → ¬port → pinRow s p = 5 ∧ pinDrive s p = .weak (decide (p < 88) && s.img.mode.getLsbD 2)) ∧
    (free → padTest s p = true → pinRow s p = 8) ∧
    (fabric → pinHold s p = true → pinRow s p = 6 ∧ (conf.getLsbD 29 = true → pinDrive s p = safeDrive s p) ∧
      (conf.getLsbD 29 = false → pinDrive s p = if s.io.keptOn.getLsbD p then .level (s.io.keptLvl.getLsbD p) else idles)) ∧
    (fabric → pinHold s p = false → pinRow s p = 7 ∧
      (fabricOn s p = false → pinDrive s p = idles) ∧
      (fabricOn s p = true → drain → fabricLevel s p = true → pinDrive s p = idles) ∧
      (fabricOn s p = true → (¬drain ∨ fabricLevel s p = false) →
        pinDrive s p = .level (fabricLevel s p != decide (pinEntry s p ≠ p)))) ∧
    (safeDrive s p = match (field conf 31 30).toNat with
      | 0 => .level (decide (pinEntry s p ≠ p))
      | 1 => if conf.getLsbD 19 && !conf.getLsbD 23 then idles else .level (decide (pinEntry s p = p))
      | _ => idles) ∧
    (on →
      (∀ v, pinDrive s p = .level v → pinLevel s p = v) ∧
      (Config.boardDrives s.free p = false →
        (∀ v, pinDrive s p = .weak v → pinLevel s p = v) ∧ ∀ v, pinDrive s p = .keeper v → pinLevel s p = v) ∧
      (Config.boardDrives s.free p = true → (∀ v, pinDrive s p ≠ .level v) → pinLevel s p = Config.boardLevel s.free p)))

/-- The REFCLK monitor and lock detection; an unlock declared at the end of a window is handled under the ULPOL that stood before it
(R167, R172 to R176, R178). -/
def Obligations.ClockMonitors : Prop :=
  ∀ (s : State) (edges fb : Nat) (p : PllId),
    let c := s.clk
    let x := c.pll.get p
    let after (z : Pll) : Pll := { z with diff := windowDiff fb, ulpol := x.ctrl.getLsbD 30 }
    let y := after x
    (c.refctl.getLsbD 0 = true → s.pwr.stage ≠ .saved →
      (c.refok = true → 8 ≤ edges → exec (.refclkWindow edges) s = .next s) ∧
      (c.refok = true → edges < 8 → ∃ t, exec (.refclkWindow edges) s = .next t ∧ t.clk.refok = false ∧ t.clk.reflost = true ∧
        pendBit t 592 = true ∧ t.store = s.store ∧ t.bays = s.bays ∧
        ∀ k : PllId, let z := c.pll.get k
          if z.ctrl.getLsbD 29 && z.lock then t.clk.pll.get k = unlockedPll z ∧ pendBit t (576 + k.val) = true else t.clk.pll.get k = z) ∧
      (c.refok = false → exec (.refclkWindow edges) s = .next { s with clk :=
        if edges < 9 then { c with goodWin := 0 }
        else if c.goodWin < 3 then { c with goodWin := c.goodWin + 1 }
        else { c with refok := true, goodWin := 0, pll := c.pll.map (fun z => if z.ctrl.getLsbD 29 then { z with good := 0 } else z) } })) ∧
    (s.pwr.stage ≠ .saved → ∀ e : BitVec 16, exec (.refclkMeasWindow e) s = .next { s with clk :=
      { c with refmeas := if c.refctl.getLsbD 0 then e else 0 } }) ∧
    (x.ctrl.getLsbD 31 = true → (x.ctrl.getLsbD 29 = false ∨ c.refok = true) → c.devOn = true →
      let q : Fin 10 := ⟨p.val, by omega⟩
      (x.lock = true → Near fb 3 → exec (.lockWindow q fb) s = .next (withPll s p y)) ∧
      (x.lock = true → ¬Near fb 3 → ∃ t, exec (.lockWindow q fb) s = .next t ∧ t.clk = (withPll s p (after (unlockedPll x))).clk ∧
        pendBit t (576 + p.val) = true ∧ t.store = s.store ∧ t.bays = s.bays ∧ t.io = s.io) ∧
      (x.lock = false → ¬Near fb 1 → exec (.lockWindow q fb) s = .next (withPll s p { y with good := 0 })) ∧
      (x.lock = false → Near fb 1 → x.good < 3 → exec (.lockWindow q fb) s = .next (withPll s p { y with good := x.good + 1 })) ∧
      (x.lock = false → Near fb 1 → 3 ≤ x.good → ∃ t, exec (.lockWindow q fb) s = .next t ∧
        t.clk = (withPll s p { y with lock := true, good := 0 }).clk ∧ pendBit t (584 + p.val) = true ∧ t.store = s.store ∧
        t.bays = s.bays ∧ t.io = s.io)) ∧
    (c.devOn = true → c.slock = true → ¬Near fb 3 → exec (.lockWindow 8 fb) s = .next (reportFault 3 8 1 (raise 593 { s with clk :=
      { c with slock := false, sgood := 0, sulcnt := BitVec.ofNat 8 (min (c.sulcnt.toNat + 1) 255) } }))) ∧
    (c.devOn = true → c.hlock = false → Near fb 1 → 3 ≤ c.hgood →
      exec (.lockWindow 9 fb) s = .next { s with clk := { c with hlock := true, hgood := 0 } })

/-- Writes of a wing PLL's registers, and its outputs' starts and stops: a stop that a fall of EN or OEN, or an unlock under ULPOL =
1, asked for comes about whatever is written meanwhile, and the output starts only after it (R168 to R171, R174, R176). -/
def Obligations.WingPlls : Prop :=
  ∀ (s : State) (m : Master) (p : PllId) (v : Word) (o : Fin 4), PllOpen s p →
    let x := s.clk.pll.get p
    let w := ctrlBits p v
    let on := x.ctrl.getLsbD 31
    let d := if p.val % 2 = 0 then v ||| 0x80#32 else v
    (RegOpen s m.val .clk (0x100 + 16 * p.val) true →
      let legal := p.val % 2 = 0 ∨ (on = true → fixedBits w = fixedBits x.ctrl) ∧ (w.getLsbD 31 = true → Admitted s.clk.khz w x.odiv)
      (¬legal → exec (.pllCtrlWrite m p v) s = .next (wroteOk m (withPll s p { x with cfgerr := true }))) ∧
      (legal → ∃ y, exec (.pllCtrlWrite m p v) s = .next (wroteOk m (withPll s p y)) ∧ y.ctrl = w ∧
        y = { x with ctrl := w, ulpol := y.ulpol, lock := y.lock, good := y.good, stopW := y.stopW } ∧
        y.stopW = (if on = true ∧ w.getLsbD 31 = false then x.outs else x.stopW) ∧
        (w.getLsbD 31 = false → y.lock = false) ∧ (w.getLsbD 31 = true → y.lock = x.lock) ∧
        (on = true → y.ulpol = x.ulpol) ∧ (on = false → y.ulpol = w.getLsbD 30) ∧ ((on = true ∧ w.getLsbD 31 = true → y.good = x.good) ∧ (on = false → y.good = 0)))) ∧
    (RegOpen s m.val .clk (0x104 + 16 * p.val) true →
      ((p.val % 2 = 0 ∨ (on = true → Admitted s.clk.khz x.ctrl d)) → ∃ q, exec (.pllOdivWrite m p v) s = .next (wroteOk m (withPll s p { x with odiv := d, stopW := q })) ∧
        ∀ k : Fin 4, q.getLsbD k.val = (x.stopW.getLsbD k.val ||
          (x.outs.getLsbD k.val && x.odiv.getLsbD (8 * k.val + 7) && !d.getLsbD (8 * k.val + 7)))) ∧
      (p.val % 2 = 1 → on = true → ¬Admitted s.clk.khz x.ctrl d → exec (.pllOdivWrite m p v) s = .next (wroteOk m (withPll s p { x with cfgerr := true })))) ∧
    (on = true → x.lock = true → x.odiv.getLsbD (8 * o.val + 7) = true → s.clk.devOn = true → x.stopW.getLsbD o.val = false →
      x.outs.getLsbD o.val = false →
      ∃ t, exec (.pllOutputStart p o) s = .next t ∧ Rephased s t (p.val / 2) (p.val % 2 * 4 + o.val) ∧
        t = { withPll s p { x with outs := x.outs ||| BitVec.ofNat 4 (2 ^ o.val) } with bays := t.bays }) ∧
    ((x.lock = false ∨ x.stopW.getLsbD o.val = true) → exec (.pllOutputStart p o) s = .next s) ∧
    (x.stopW.getLsbD o.val = true →
      exec (.pllOutputStop p o) s = .next (withPll s p { x with
        outs := x.outs &&& ~~~(BitVec.ofNat 4 (2 ^ o.val)), stopW := x.stopW &&& ~~~(BitVec.ofNat 4 (2 ^ o.val)) })) ∧
    (x.stopW.getLsbD o.val = false → exec (.pllOutputStop p o) s = .next s)

/-- A request lands: raised, or refused for a FENCE, its form, its regions or in DORMANT, or waiting at the joints of a store under
test; the holder of a lock raises no other. A raised request that its fabric or host port drops, and the three limits of a master: a
lock, a held piece, a wait; a setter that is cut off takes its trap, and its own beats are never held (R117, R182, R185, R188, R198 to
R200, R204). FENCE before the form and the regions is the model's choice (log 33), and so is the address of a held burst (log 33). -/
def Obligations.StoreRequests : Prop :=
  (∀ (s : State) (m : Master) (q : StoreReq), Silent s m.val →
    let a := q.addr.toNat
    let ok := regionOk s m.val a (span q) (!q.write || q.lock) (q.write || q.lock)
    let idle (c : RespCode) (u : State) : State := { u with resp := nthUpd s.resp m.val (fun _ => ⟨c, []⟩) }
    let there := s.pwr.state ≠ 3 ∧ (s.store.isol = false ∨ m.val = 29)
    (s.pwr.state = 3 → exec (.storeRequestLand m q) s = .next (idle .busError s)) ∧
    (s.pwr.state ≠ 3 → s.store.isol = true → m.val ≠ 29 → exec (.storeRequestLand m q) s =
      .next (idle .waits { s with arb := { s.arb with joint := s.arb.joint ++ [(m.val, q)] } })) ∧
    (there → fenced s m.val = true → exec (.storeRequestLand m q) s =
      .next (idle .busError { s with arb := { s.arb with mcause := nthUpd s.arb.mcause m.val (· ||| 32) } })) ∧
    (there → fenced s m.val = false →
      (¬LegalForm m q → exec (.storeRequestLand m q) s = .next (idle .busError s)) ∧
      (LegalForm m q → ok = false → exec (.storeRequestLand m q) s = .next (ended m.val .region (raise (448 + m.val)
        { s with arb := { s.arb with mcause := nthUpd s.arb.mcause m.val (· ||| 1), maddr := nthUpd s.arb.maddr m.val (fun _ => q.addr) } }))) ∧
      (LegalForm m q → ok = true → s.store.retn = false → s.store.waking = false →
        (q.key = true → MayKey s m.val → exec (.storeRequestLand m q) s =
          .next (idle .none { s with arb := { s.arb with kreq := put32 s.arb.kreq m.val (some (raised q true)) } })) ∧
        (¬(q.key = true ∧ MayKey s m.val) → exec (.storeRequestLand m q) s =
          .next (idle .none { s with arb := { s.arb with ord := put32 s.arb.ord m.val (some (raised q false)) } }))))) ∧
  (∀ (s : State) (m : Master),
    (∀ q l, l ∈ s.arb.locks → l.1 = m.val → (q.write = false ∨ ∀ k ∈ s.arb.locks, k.1 = m.val → k.2 / 16 ≠ q.addr.toNat / 16) →
      exec (.storeRequestLand m q) s = .next s) ∧
    (∀ q, (m.val = 17 ∨ (21 ≤ m.val ∧ m.val ≤ 28)) → nth s.arb.ord m.val = some (some q) → (∀ g, s.arb.grant = some g → g.master ≠ m.val) →
      ∃ o k, exec (.requestDrop m) s = .next { s with arb := { s.arb with
        joint := s.arb.joint.filter (fun e => e.1 != m.val), ord := put32 s.arb.ord m.val none, kreq := put32 s.arb.kreq m.val none,
        waitc := put32 s.arb.waitc m.val 0, starved := setBit s.arb.starved m.val false, goneO := o, goneK := k } } ∧
        ∀ j, j < 32 → (o.getLsbD j = (s.arb.goneO.getLsbD j || (decide (j = m.val) && (entry s.arb.sampO j).isSome))) ∧
          k.getLsbD j = (s.arb.goneK.getLsbD j || (decide (j = m.val) && (entry s.arb.sampK j).isSome))) ∧
    (∀ b p r, s.arb.locks = p ++ (m.val, b) :: r → (∀ l ∈ p, l.1 ≠ m.val) →
      ∃ t, exec (.lockCutoff m) s = .next t ∧ CutOff s t m.val false 8 b (fenceEn s m.val) ∧
        ∀ i : SetterId, i.val = m.val → (s.st i).issues = true → CutTrap s t i b) ∧
    (∀ g q, 16 ≤ m.val → s.arb.grant = some g → g.master = m.val → granted s g = some q →
      ∃ t, exec (.holdCutoff m) s = .next t ∧ CutOff s t m.val g.key 4 q.addr.toNat (fenceEn s m.val) ∧ t.arb.grant = none) ∧
    (m.val < 16 → exec (.holdCutoff m) s = .next s) ∧
    (∀ c w, Serving s → nth s.arb.waitc m.val = some c → nth s.arb.mctl m.val = some w → max 64 (field w 15 0).toNat ≤ c.toNat →
      (s.arb.starved.getLsbD m.val = false → exec (.starvationLimit m) s = .next (raise (448 + m.val) { s with arb := { s.arb with
        starved := setBit s.arb.starved m.val true, mcause := nthUpd s.arb.mcause m.val (· ||| 2) } })) ∧
      (s.arb.starved.getLsbD m.val = true → exec (.starvationLimit m) s = .next s)))

/-- Who has the next data cycle: a keystone request in a FREE or KEY slot, the slot's owner, the background winner, a piece in
progress, or nobody; what was dropped since it was sampled wins an empty one (R190 to R196). A keystone request whose master has no
line any more goes on as an ordinary one, and an armed bond-table swap switches at the wrap (R194, R202). That a lone parked master is
granted at once is the model's reading (log 30). -/
def Obligations.ArbiterDecisions : Prop :=
  ∀ (s : State), Serving s →
    let e := entryAt s.arb.bond.act (nextSlot s)
    let own := (field e 4 0).toNat
    let silent := ∀ k m, k < 4 → ¬KeyWaits s k m
    let void (m : Nat) : Bool := s.arb.goneO.getLsbD m
    let wraps := s.arb.bond.phase = .armed ∧ s.arb.ptr.toNat = 63
    let lined := ∀ m, m < 30 → (entry s.arb.sampK m ≠ none → OnLine s.arb.keyEff m) ∧ ∀ q, entry s.arb.kreq m = some q → q.key = true
    (¬wraps → lined → ∃ t, exec .arbiterDecision s = .next t ∧ CycleEnds s t ∧
      (∀ k m, FirstLine s k m → OpenEntry e →
        t.arb.grant = some ⟨m, true, 1, s.arb.goneK.getLsbD m⟩ ∧ t.arb.keyptr = BitVec.ofNat 2 (k + 1) ∧ t.arb.rr = s.arb.rr) ∧
      (∀ g, silent → s.arb.grant = some g → t.arb.grant = some g ∧ t.arb.rr = s.arb.rr ∧ t.arb.keyptr = s.arb.keyptr) ∧
      (∀ q, silent → s.arb.grant = none → (field e 7 6).toNat = 2 → ordSampled s own = some q →
        t.arb.grant = some ⟨own, false, pieceLen s own (nextSlot s) (min q.beats 8), void own⟩ ∧ t.arb.rr = s.arb.rr) ∧
      (∀ w q, silent → s.arb.grant = none → ((field e 7 6).toNat ≠ 2 ∨ ordSampled s own = none) → Background s w → ordSampled s w = some q →
        t.arb.grant = some ⟨w, false, pieceLen s w (nextSlot s) (min q.beats 8), void w⟩ ∧
        t.arb.rr = nthUpd s.arb.rr (rankOf s w) (fun _ => BitVec.ofNat 5 (w + 1))) ∧
      (silent → s.arb.grant = none → (∀ m, ordSampled s m = none) → s.arb.park = none → t.arb.grant = none ∧ t.arb.park = s.arb.lastGr)) ∧
    (∀ m q, m < 30 → entry s.arb.sampK m ≠ none → ¬OnLine s.arb.keyEff m → entry s.arb.kreq m = some q →
      entry s.arb.ord m = none → entry s.arb.sampO m = none →
      ∃ t, exec .arbiterDecision s = .next t ∧ entry t.arb.ord m = some { q with key := false } ∧ entry t.arb.kreq m = none) ∧
    (wraps → ∃ t, exec .arbiterDecision s = .next t ∧ pendBit t 620 = true ∧ t.arb.bond = { s.arb.bond with
      act := s.arb.bond.next, next := s.arb.bond.act, ag := s.arb.bond.newG, code := 1, phase := .idle })

/-- The data phase of a granted beat: a read, a locked read, a write, an uncorrectable half read or written in part; the correction of
a single-bit error, which the plinth hears of, and its write-back; a granted cycle whose request has gone stays empty (R183, R184,
R190, R198). A byte that nothing has written is free (log 8). -/
def Obligations.StoreBeats : Prop :=
  (∀ (s : State) (g : Grant) (q : StoreReq), Serving s → s.arb.grant = some g → g.void = false → g.master < 30 → granted s g = some q →
    let a := q.addr.toNat
    let n := q.bytes
    let failed (t : State) : Prop := granted t { g with left := 0 } = none ∧
      t.arb.grant = (if g.left ≤ 1 then none else some ⟨g.master, g.key, 1, true⟩) ∧
      ∃ r, nth s.resp g.master = some r ∧ nth t.resp g.master = some ⟨.ecc, r.data⟩
    (∀ l ∈ s.arb.locks, l.2 / 16 = a / 16 → l.1 = g.master) →
    (q.write = false → Clean s a n →
      ∃ t, exec .storeDataBeat s = .next t ∧ Beat s t g q ((List.range n).map (fun k => storeByteAt s (a + k))) ∧ t.store = s.store ∧
        t.pln = s.pln ∧ t.arb.locks = s.arb.locks ++ (if q.lock then [(g.master, a)] else [])) ∧
    (q.write = true → Clean s a n → n ≤ q.data.length →
      ∃ t, exec .storeDataBeat s = .next t ∧ Beat s t g q [] ∧
        t.arb.locks = s.arb.locks.filter (fun l => !(l.1 == g.master && l.2 / 16 == a / 16)) ∧ t.pln = s.pln ∧
        t.store = { s.store with mem := t.store.mem, err := t.store.err, wb := t.store.wb } ∧
        ∀ b, storeByteAt t b = if a ≤ b ∧ b < a + n then q.data.getD (b - a) 0 else storeByteAt s b) ∧
    (∀ h, q.write = false → (halvesOf a n).find? (halfBad s) = some h →
      ∃ t, exec .storeDataBeat s = .next t ∧ failed t ∧ t.store = { s.store with ue := true, eccaddr := BitVec.ofNat 32 (8 * h) }) ∧
    (q.write = true → n ≤ q.data.length → (∃ h ∈ halvesOf a n, coversHalf a n h = false ∧ halfBad s h = true) →
      ∃ t, exec .storeDataBeat s = .next t ∧ failed t ∧ t.store = s.store ∧
        t.arb.locks = s.arb.locks.filter (fun l => !(l.1 == g.master && l.2 / 16 == a / 16))) ∧
    (∀ h, q.write = false → halvesOf a n = [h] → kvGet s.store.err h = some .single → halfBad s h = false → s.store.wb = none →
      ∃ t, exec .storeDataBeat s = .next t ∧ Beat s t g q ((List.range n).map (fun k => storeByteAt s (a + k))) ∧
        t.pln = { s.pln with reports := s.pln.reports ++ [(1, 8 * h / 65536 % 128, 1)] } ∧
        t.store = { s.store with corr := sat16 (s.store.corr.toNat + 1), ce := true, wb := some h })) ∧
  (∀ (s : State) (g : Grant), Serving s → s.arb.grant = some g → (g.void = true ∨ granted s g = none) →
    exec .storeDataBeat s = .next { s with arb := { s.arb with grant := none },
                                           store := { s.store with empty := sat16 (s.store.empty.toNat + 1) } }) ∧
  (∀ (s : State), Serving s →
    (∀ h, s.store.wb = some h → exec .eccWriteback { s with arb := { s.arb with grant := none } } =
      .next { s with arb := { s.arb with grant := none }, store := { s.store with wb := none, err := kvDel h s.store.err } }))

/-- Regions, keystone lines, master controls and the store bond table (R187, R189, R194, R197, R201, R202). The moment of a write is
free (log 6). -/
def Obligations.ArbiterRegisters : Prop :=
  ∀ (s : State) (m : Master) (t : Fin 32) (r : Fin 8) (k : Fin 4) (v : Word),
    let a := s.arb
    let arb (b : Arb) : State := { s with arb := b }
    let w := v &&& 0x8000001F#32
    let taken := w.getLsbD 31 = true ∧ ∃ j, j ≠ k ∧ (a.key.get j).getLsbD 31 = true ∧ field (a.key.get j) 4 0 = field w 4 0
    let b := a.bond
    let none3 : Prop := ∀ n, n < 64 → (field (entryAt b.next n) 7 6).toNat ≠ 3
    (RegOpen s m.val .str (0x800 + 0x40 * t.val + 8 * r.val) true → t.val < 30 → (a.rlock = false ∨ m.val = 16) →
      exec (.regionWrite m t r false v) s = .next (wroteOk m (arb { a with
        rbase := a.rbase.set t.val ((a.rbase.get t).set r.val (v &&& 0xFFFFF007#32) r.isLt) t.isLt }))) ∧
    (RegOpen s m.val .str (0x804 + 0x40 * t.val + 8 * r.val) true → t.val < 30 → (a.rlock = false ∨ m.val = 16) →
      exec (.regionWrite m t r true v) s = .next (wroteOk m (arb { a with
        rlim := a.rlim.set t.val ((a.rlim.get t).set r.val (v &&& 0xFFFFF000#32) r.isLt) t.isLt }))) ∧
    (RegOpen s m.val .str (0x800 + 0x40 * t.val + 8 * r.val) true → a.rlock = true → m.val ≠ 16 →
      exec (.regionWrite m t r false v) s = .next (ended m.val .busError { s with free := s.free + 2 })) ∧
    (RegOpen s m.val .str (0x10 + 4 * k.val) true →
      (w.toNat % 32 < 30 → ¬taken →
        exec (.keystoneLineWrite m k v) s = .next (wroteOk m (arb { a with key := a.key.set k.val w k.isLt }))) ∧
      ((30 ≤ w.toNat % 32 ∨ taken) → exec (.keystoneLineWrite m k v) s = .next (wroteOk m (arb { a with cfgerr := true })))) ∧
    (RegOpen s m.val .str (0x100 + 4 * t.val) true →
      exec (.masterCtrlWrite m t v) s = .next (wroteOk m (arb { a with mctl := a.mctl.set t.val (v &&& 0xC007FFFF#32) t.isLt }))) ∧
    (RegOpen s m.val .str 0x20 true → exec (.bondSwapRequest m) s = .next (wroteOk m
      (if b.phase = .idle then arb { a with bond := { b with phase := .validating } } else s))) ∧
    (∀ g, b.phase = .validating → Owners b.next 29 → LargestGap b.next g → g ≤ 16 →
      exec .bondValidationDone s = .next (arb { a with bond := { b with phase := .armed, newG := BitVec.ofNat 7 g } })) ∧
    (b.phase = .validating → ¬(Owners b.next 29 ∧ ∃ g, LargestGap b.next g ∧ g ≤ 16) →
      ∃ c n g, exec .bondValidationDone s = .next (raise 619 (arb { a with bond := { b with
          phase := .idle, code := BitVec.ofNat 3 c, slot := BitVec.ofNat 6 n, gap := BitVec.ofNat 8 g } })) ∧
        (¬none3 → c = 3 ∧ n < 64 ∧ (field (entryAt b.next n) 7 6).toNat = 3) ∧
        (none3 → ¬Owners b.next 29 → c = 2 ∧ n < 64 ∧ 29 < (field (entryAt b.next n) 4 0).toNat) ∧
        (Owners b.next 29 → c = 4 ∧ (LargestGap b.next g ∨ g = 64))) ∧
    ((b.phase ≠ .armed ∨ a.ptr.toNat ≠ 63) → exec .bondTableSwitch s = .next s) ∧
    (b.phase = .armed → a.ptr.toNat = 63 → Serving s → exec .bondTableSwitch s = .next (raise 620 (arb { a with bond := { b with
      act := b.next, next := b.act, ag := b.newG, code := 1, phase := .idle } })))

/-- Queue windows: GET, QST, PUT and PUT with EOB of a bus master (R118, R119, R215). -/
def Obligations.QueueWindows : Prop :=
  ∀ (s : State) (m : Master) (q : QueueId) (v : Word), QueueOpen s q →
    let e := descOf s q
    let read := WindowOpen s m q 0 8 false ∧ regionOk s m.val e.base e.ring true false = true
    (WindowOpen s m q 4 4 false → e.key = false → exec (.windowQst m q) s = .next (answeredOk m.val (leBytes 4 (statusWord s q).toNat) (countBank q s))) ∧
    (read → e.key = false → e.count = 0 → exec (.windowGet m q) s = .next (answeredOk m.val (List.replicate 8 0) (countBank q s))) ∧
    (∀ l, read → e.key = false → e.count ≠ 0 → combGet s (e.elem e.head) = some l →
      ∃ t, exec (.windowGet m q) s = .next t ∧ descOf t q = e.popped ∧ (∀ k, k ≠ q → descOf t k = descOf s k) ∧
        nth t.resp m.val = some ⟨.ok, leBytes 4 (BitVec.ofNat 32 (leNat (l.take 4))).toNat ++ [l.getD 4 0, 0, 0, 0]⟩ ∧ t.store = s.store) ∧
    (WindowOpen s m q 0 4 true → HasRoom s m.val q →
      ∃ t, exec (.windowPut m q v) s = .next t ∧ Appended s t q v 0 false false ∧ nth t.resp m.val = some ⟨.ok, []⟩) ∧
    (WindowOpen s m q 4 4 true → HasRoom s m.val q →
      ∃ t, exec (.windowPutEob m q v) s = .next t ∧ Appended s t q v 0 false true ∧ nth t.resp m.val = some ⟨.ok, []⟩) ∧
    (WindowOpen s m q 0 4 true → e.pack = false → e.key = false → regionOk s m.val e.base e.ring false true = true → e.count = e.cap →
      exec (.windowPut m q v) s = .next (ended m.val .refused (countBank q (raise 441 s))))

/-- The hod's own steps: an ordinary operation at a port, a KEY operation's descriptor step and its payload; a port with an operation
outstanding starts none (R211, R214, R221 to R224, R229). A setter's failed KEY PUT takes its trap. Which master a port answers is the
model's reading (log 14). -/
def Obligations.HodSteps : Prop :=
  (∀ (s : State) (port : HodPort) (op : HodOp), s.hod.gated = false → portBusy port.val s = true → (port.val ≠ 16 ∨ s.hod.qbusy = none) →
    exec (.hodDescriptorStep port op) s = .next s ∧ exec (.keyLaneStep port op) s = .next s) ∧
  (∀ (s : State) (port : HodPort) (q : QueueId) (v : Word) (eob : Bool), QueueOpen s q → PortFree s port.val →
    let e := descOf s q
    let m := portMaster port
    let put : HodOp := .put q v eob
    let a := e.elem e.tail
    let bytes := elemBytes v (tagByte 0 false eob e.seq)
    let l : LaneOp × LanePay := (⟨port, put, .bus m⟩, .write a bytes e.tail)
    let u : State := { s with hod := { s.hod with lane := some l } }
    (port.val ≠ 18 → HasRoom s m q →
      ∃ t, exec (.hodDescriptorStep port put) s = .next t ∧ Appended s t q v 0 false eob ∧ nth t.resp m = some ⟨.ok, []⟩) ∧
    (e.key = false → port.val ≤ 16 → exec (.hodDescriptorStep port (.qst q)) s =
      .next (answeredOk m (leBytes 4 (statusWord s q).toNat) (countBank q s))) ∧
    (e.key = true → port.val ≤ 16 → exec (.keyLaneStep port (.qst q)) s =
      .next (answeredOk m (leBytes 4 (statusWord s q).toNat) (countBank q s))) ∧
    (e.key = true → e.pack = false → e.count ≠ e.cap → regionOk s m e.base e.ring false true = true →
      StoreOpen s 18 a 8 false true →
      exec (.keyLaneStep port put) s = .next (countBank q u) ∧
      (∃ t, exec (.keyPayloadDone false) u = .next t ∧ t.hod.lane = none ∧
        descOf t q = e.pushed ∧ Stored s t.store a 8 (v.toNat + 2 ^ 32 * (128 + eob.toNat * 8 + e.seq % 8)) ∧ nth t.resp m = some ⟨.ok, []⟩) ∧
      (∃ t, exec (.keyPayloadDone true) u = .next t ∧ t.hod.lane = none ∧
        descOf t q = e ∧ faulted t q = true ∧ t.hod.cberr = true ∧ t.hod.cbq = q ∧ pendBit t 443 = true ∧ t.store = s.store ∧
        nth t.resp m = some ⟨.busError, []⟩ ∧
        ∀ i : SetterId, i.val = m → (s.st i).gated = false → (s.st i).tm = false →
          (t.st i).tm = true ∧ (t.st i).causeVec = 3 ∧ (t.st i).causeSub = 2 ∧ (t.st i).eaddr = queueAddr q)))

/-- HOD_QCMD: WRITE, ENABLE, DISABLE, FLUSH and READ of the selected queue, the refusals of an enabled or a reserved one, the code of
a refused ENABLE by the first condition of R212 that fails, and codes that name no command; the low crossing of a WRITE or FLUSH that
empties a queue (R211, R212, R226). That the command ends within its row is the model's reading (log 30), and so is that a WRITE's
crossing is judged by the marks that stood before it (log 33). -/
def Obligations.QueueCommands : Prop :=
  ∀ (s : State) (m : Master), 
    let q := s.hod.qsel
    let d := descOf s q
    let live := d.en = true ∧ faulted s q = false
    (QcmdOpen s m →
      (¬live → (d.w3.getLsbD 24 = false ∨ d.count = 0) → QcmdEnds s m (exec (.qcmdWrite m) s) 0 (staged s)) ∧
      (¬live → d.w3.getLsbD 24 = true → (field d.w2 13 0).toNat < d.count → (field d.w3 31 26).toNat < 48 →
        (∃ t, exec (.qcmdWrite m) s = .next t ∧ Lowered t d ∧ descOf t q = staged s) ∧
        ∃ t, exec (.qcmdFlush m) s = .next t ∧ Lowered t d ∧ (descOf t q).count = 0) ∧ (live → QcmdEnds s m (exec (.qcmdWrite m) s) 1 d) ∧
      (live → QcmdEnds s m (exec (.qcmdEnable m) s) 1 d) ∧
      (d.en = false → faulted s q = false → DescLegal s q d →
        QcmdEnds s m (exec (.qcmdEnable m) s) 0 { d with w0 := d.w0 ||| 0x80000000#32 }) ∧
      (∀ c : Nat, c ∈ [2, 7, 4, 8, 5, 6] → d.en = false → faulted s q = false → FirstFails s q d c →
        QcmdEnds s m (exec (.qcmdEnable m) s) c d) ∧
      (faulted s q = true → QcmdEnds s m (exec (.qcmdEnable m) s) 9 d) ∧
      QcmdEnds s m (exec (.qcmdDisable m) s) 0 { d with w0 := d.w0 &&& 0x7FFFFFFF#32 } ∧
      (live → QcmdEnds s m (exec (.qcmdFlush m) s) 1 d) ∧
      (¬live → (d.w3.getLsbD 24 = false ∨ d.count = 0) → ∃ e, QcmdEnds s m (exec (.qcmdFlush m) s) 0 e ∧ e.head = d.tail ∧ e.tail = d.tail ∧
        e.w0 = d.w0 ∧ e.w2 = d.w2 ∧ e.w3 = d.w3)) ∧
    (RegOpen s m.val .hod 0x24 true → kvGet s.hod.derr q.toNat = none → s.hod.qbusy = none →
      exec (.qcmdRead m) s = .next (wroteOk m (countBank q { s with hod := { s.hod with result := 0, stg := #v[d.w0, d.w1, d.w2, d.w3] } })) ∧
      (q.toNat < 64 → m.val ≠ 16 → exec (.qcmdWrite m) s = .next (wroteOk m (countBank q { s with hod := { s.hod with result := 3 } }))) ∧
      ∀ c : BitVec 4, (c.toNat = 0 ∨ 5 < c.toNat) →
        exec (.qcmdUndefined m c) s = .next (wroteOk m { s with hod := { s.hod with result := 15 } }))

/-- A packer: bytes gather, the fourth or END closes the word, a stall closes it with BRK; a full queue makes a fabric packer wait,
whose port then buffers four bytes and lets READY fall, and another packer drop, which SEQ shows (R210, R216 to R219, R228). -/
def Obligations.Packers : Prop :=
  ∀ (s : State) (p : PackerId) (q : QueueId) (v : Byte) (last : Bool),
    let k := packOf s p.val
    let e := descOf s q
    let packed (l : List Byte) : Word := BitVec.ofNat 32 (leNat l)
    let put (k : Packer) : State := { s with hod := { s.hod with pack := s.hod.pack.set p.val k p.isLt } }
    (PackTakes s p q → k.part.length < 3 → exec (.packerByte p v false) s = .next (put { k with part := k.part ++ [v] })) ∧
    (PackTakes s p q → k.part = [] → exec (.packerEndAlone p) s = .next s) ∧
    (PackRoom s p q → k.part.length < 4 →
      (k.part.length = 3 → ∃ t, exec (.packerByte p v false) s = .next t ∧ Appended s t q (packed (k.part ++ [v])) 0 k.owed false ∧
        packOf t p.val = packEmpty k) ∧
      (∃ t, exec (.packerByte p v true) s = .next t ∧ Appended s t q (packed (k.part ++ [v])) ((k.part.length + 1) % 4) k.owed true ∧
        packOf t p.val = packEmpty k) ∧
      (k.part ≠ [] → ∃ t, exec (.packerEndAlone p) s = .next t ∧ Appended s t q (packed k.part) k.part.length k.owed true ∧
        packOf t p.val = packEmpty k) ∧
      (k.part ≠ [] → e.stall ≠ 0 → ∃ t, exec (.packerStallExpiry p) s = .next t ∧
        Appended s t q (packed k.part) k.part.length true false ∧ packOf t p.val = packEmpty k ∧ pendBit t 439 = true)) ∧
    (∀ w tag, k.wait = some (w, tag) → PackRoom (put { k with wait := none }) p q → k.part = [] → k.owed = false → k.fifo = [] →
      ∃ t, exec (.packerRoomResume p) s = .next t ∧
        Appended s t q w (field tag 6 5).toNat (tag.getLsbD 4) (tag.getLsbD 3) ∧ packOf t p.val = packEmpty k) ∧
    (∀ w, p.val < 16 → k.wait = some w → portLive s p.val = true → packQueue s p.val = some q → asleep .hod s = false →
      (k.fifo.length < 4 → exec (.packerByte p v last) s = .next (put { k with fifo := k.fifo ++ [(some v, last)] })) ∧
      (k.fifo.length = 4 → portReady s p.val = false ∧ exec (.packerByte p v last) s = .next s)) ∧
    (PackTakes s p q → k.part.length = 3 → kvGet s.hod.derr q.toNat = none →
      faulted s q = false → regionOk s (packMaster p.val) e.base e.ring false true = true → e.count = e.cap →
      ∃ t, exec (.packerByte p v false) s = .next t ∧ (∀ j, j ≠ q → descOf t j = descOf s j) ∧
        (p.val < 16 → descOf t q = e ∧ packOf t p.val =
          { packEmpty k with wait := some (packed (k.part ++ [v]), BitVec.ofNat 8 (k.owed.toNat * 16)) }) ∧
        (16 ≤ p.val → (descOf t q).seq = (e.seq + 1) % 8 ∧ (descOf t q).tail = e.tail ∧
          packOf t p.val = { k with part := [], owed := true, wait := none, drop := sat16 (k.drop.toNat + 1) } ∧ pendBit t 441 = true))

/-- The combining buffer's flushes and the bank counts (R220, R225, R229). -/
def Obligations.BufferAndBanks : Prop :=
  ∀ (s : State),
    (∀ e : CombEntry, s.hod.flush = [] → s.hod.comb.find? (fun c => c.addr == e.addr) = some e →
      ∃ b, exec (.combineIdleFlush e.addr) s = .next { s with hod := { s.hod with flush := b, comb := s.hod.comb.filter (fun c => !b.contains c) } } ∧
        e ∈ b ∧ b.length ≤ 8 ∧ ∀ c ∈ b, c ∈ s.hod.comb ∧ c.q = e.q) ∧
    (∀ e a d, s.hod.flush = [e] → s.hod.comb = [] → e.write = some (a, d) → StoreOpen s 18 a d.length false true →
      a % 16 + d.length ≤ 16 →
      (∃ t, exec (.combineFlushDone none) s = .next t ∧ t.hod = { s.hod with flush := [] } ∧
        ∀ b, storeByteAt t b = if a ≤ b ∧ b < a + d.length then d.getD (b - a) 0 else storeByteAt s b) ∧
      (∃ t, exec (.combineFlushDone (some 0)) s = .next t ∧ t.hod.flush = [] ∧ faulted t e.q = true ∧ t.hod.cberr = true ∧ t.hod.cbq = e.q ∧
        pendBit t 443 = true ∧ t.store = s.store)) ∧
    (s.hod.skewwin ≠ 0 →
      let c := s.hod.bankNow
      let total := c.get 0 + c.get 1 + c.get 2 + c.get 3
      ∃ t, exec .skewWindowEnd s = .next t ∧
        t.hod = { s.hod with bankNow := Vector.replicate 4 0, bankCnt := c.map (BitVec.ofNat 32) } ∧ t.store = s.store ∧ t.bays = s.bays ∧
        ∀ b : Fin 4, 64 ≤ total → 7 * total < 10 * c.get b → pendBit t (432 + b.val) = true) ∧
    (s.hod.skewwin = 0 → exec .skewWindowEnd s = .next s)

/-- The output: a transit cell arrives, is forwarded, buffered, aborted, stomped; the device's own cells leave in the order keystone,
TIME, the head's, and then by slot, class and rank; cells of no type and undelivered cells are removed (R236, R237, R239 to R245). How
far local time runs and how long a TIME cell waits are free (log 6). -/
def Obligations.ChainOutput : Prop :=
  ∀ (s : State) (c d : Cell) (rest : List Cell),
    let r := s.irs
    let e := r.bond.act.get ⟨r.ptr.toNat, r.ptr.isLt⟩
    let next (f : Irs → Irs) : State := { s with irs := f { r with ptr := r.ptr + 1 } }
    (Transit s c → Good c →
      (r.out = none → r.keyBuf = [] → (c.cls = 0 ∧ noOwnKey r ∨ r.tranBuf = [] ∧ Yields r e) →
        exec (.cellForward c) s = .next (withIrs s (fun r => { r with out := some (c, .transit false) }))) ∧
      (c.cls ≠ 0 → (r.out ≠ none ∨ r.keyBuf ≠ [] ∨ r.tranBuf ≠ [] ∨ ¬Yields r e) →
        (r.tranBuf.length < 96 → ∃ n m, exec (.cellForward c) s = .next (withIrs s (fun r =>
            { r with tranBuf := r.tranBuf ++ [c], thrcnt := n, maxfill := m })) ∧ m.toNat = max r.maxfill.toNat (r.tranBuf.length + 1) ∧
          n = (if r.tranBuf.length = 7 then more r.thrcnt else r.thrcnt)) ∧
        (96 ≤ r.tranBuf.length → exec (.cellForward c) s = .next (withIrs s (fun r =>
          { r with ovf := BitVec.ofNat 8 (min (r.ovf.toNat + 1) 255) })))) ∧
      (∀ seen : Bool, c.cls = 0 → r.keyBuf = [] → noOwnKey r → r.out = some (d, .transit seen) → d.cls ≠ 0 →
        (d.type ≠ 5 → r.tranBuf.length < 96 → ∃ n m, exec (.cellForward c) s = .next (withIrs s (fun r =>
          { r with out := some (c, .transit false), tranBuf := { d with abt := true } :: r.tranBuf, abTran := more r.abTran, thrcnt := n,
                   maxfill := m, ins5 := r.ins5 + seen.toNat }))) ∧
        (d.type = 5 → exec (.cellForward c) s = .next (withIrs s (fun r =>
          { r with out := some (c, .transit false), abTran := more r.abTran })))) ∧
      (c.cls = 0 → ((∃ k src, r.out = some (k, src) ∧ k.cls = 0) ∨ ¬noOwnKey r) → r.keyBuf.length < 64 →
        exec (.cellForward c) s = .next (withIrs s (fun r => { r with keyBuf := r.keyBuf ++ [c] })))) ∧
    (Transit s c → Broken c → r.badRun = 0 → r.out = none → r.keyBuf = [] → r.tranBuf = [] → Yields r e →
      ∃ t, exec (.cellForward c) s = .next t ∧ t.irs.out = some ({ c with crc := ~~~(cellCrc c) }, .transit false) ∧
        t.irs.crcIn = more r.crcIn ∧ t.irs.linkErr = more r.linkErr ∧ t.irs.badRun = 1 ∧ pendBit t 480 = true ∧
        t.pln.reports = s.pln.reports ++ [(2, 0, 1)] ∧ t.hod = s.hod ∧ t.store = s.store) ∧
    (OnRing s → r.chen = true → r.ptr ≠ 63 →
      (r.ken = true → r.kenref = false → r.keyHold = false → r.ownKey = c :: rest → r.out = none →
        exec .cellInsert s = .next (next (fun r => { r with out := some (c, .ownKey), ownKey := rest, keyHold := true }))) ∧
      (noOwnKey r → r.keyBuf = c :: rest → r.out = none →
        exec .cellInsert s = .next (next (fun r => { r with out := some (c, .transit false), keyBuf := rest }))) ∧
      (∀ k : Fin 4, noOwnKey r → r.keyBuf = [] → r.ownTime = [] → r.ownHead = [] → r.tranBuf.length < 8 → r.ins5 = 0 → r.paused = false →
        (field e 7 6).toNat = 2 → e.toNat % 4 = k.val → r.own.get k = c :: rest → c.abt = false →
        exec .cellInsert s = .next (next (fun r =>
          { r with out := some (c, .own k), own := r.own.set k.val rest k.isLt, ins5 := r.tranBuf.length }))) ∧
      (noOwnKey r → r.keyBuf = [] → r.ownTime = c :: rest →
        ∃ now n, exec .cellInsert s = .next { next (fun r => { r with
          time := now, ownTime := rest, out := some (stamped c now, .ownTime) }) with free := n }) ∧
      (noOwnKey r → r.keyBuf = [] → r.ownTime = [] → r.ownHead = c :: rest →
        (c.abt = false → exec .cellInsert s = .next (next (fun r => { r with ownHead := rest, out := some (c, .ownHead) }))) ∧
        (c.abt = true → ∃ t, exec .cellInsert s = .next t ∧ t.irs.ownHead = rest ∧ t.irs.out = some (c, .ownHead) ∧ pendBit t 489 = true ∧
          t.irs.abOwn = more r.abOwn)) ∧
      (∀ k : Fin 4, Yields r e → r.keyBuf = [] → r.tranBuf = [] → r.paused = false → (field e 7 6).toNat < 2 → Wins r k →
        r.own.get k = c :: rest →
        (c.abt = false → exec .cellInsert s = .next (next (fun r => { r with
          out := some (c, .own k), own := r.own.set k.val rest k.isLt
          crr := nthUpd r.crr (rankIn r k) (fun _ => BitVec.ofNat 2 (k.val + 1)) }))) ∧
        (c.abt = true → ∃ t, exec .cellInsert s = .next t ∧ t.irs.own.get k = rest ∧ t.irs.out = some (c, .own k) ∧ pendBit t 489 = true ∧
          t.irs.abOwn = more r.abOwn)) ∧
      (Yields r e → r.keyBuf = [] → r.tranBuf = [] → ((∀ k, r.own.get k = []) ∨ 2 ≤ (field e 7 6).toNat ∨ r.paused = true) →
        exec .cellInsert s = .next (next (fun r => { r with out := none }))) ∧
      (Yields r e → r.keyBuf = [] → r.tranBuf = c :: rest → c.type ≠ 5 →
        exec .cellInsert s = .next { next (fun r =>
          { r with out := some (c, .transit (r.ins5 != 0)), tranBuf := rest, ins5 := r.ins5 - 1 }) with free := s.free + 1 })) ∧
    (r.chen = true → r.bypopen = false → r.ptr = 63 → r.bond.phase = .armed →
      exec .cellInsert s = .next (raise 622 { s with irs := { r with ptr := 0, bond := { r.bond with
        act := r.bond.next, next := r.bond.act, ag := r.bond.newG, code := 1, phase := .idle } } })) ∧
    (exec .keyIntervalExpiry s = .next { s with irs := { r with keyHold := false } }) ∧
    (OnRing s → (c.type.toNat, c.cls.toNat) ∉ legalTypes → (Addressed s c.dest ∨ r.head = true) → Good c →
      let t := withIrs s (fun r => { r with drBad := more r.drBad })
      exec (.badCell c) s = .next t ∧ exec (.cellForward c) s = .next t) ∧
    (OnRing s → r.head = true → c.hop = true → Good c →
      ((c.type = 1 ∧ (c.cls = 0 ∨ c.cls = 2)) ∨ (c.type = 3 ∧ c.cls = 2) →
        exec (.undeliveredCell c) s = .next (withIrs s (fun r => { r with own := r.own.set 2 (r.own.get 2 ++ [qfailFor s c 5]) }))) ∧
      (c.type = 4 ∧ c.cls = 3 → exec (.undeliveredCell c) s = .next (withIrs s id)))

/-- Cells for this device: QPUT, QFAIL, NOTE and STREAM (R29, R227, R228, R256). What HOD_RMTFAIL.DEV holds is the model's reading
(log 30). -/
def Obligations.ChainDelivery : Prop :=
  ∀ (s : State) (c : Cell),
    let q : QueueId := BitVec.ofNat 16 (pay c 0 2)
    let v : Word := BitVec.ofNat 32 (pay c 4 4)
    let eob := (c.payload.getD 2 0).getLsbD 0
    let k := (c.payload.getD 0 0).toNat % 16
    let n := (c.payload.getD 1 0).toNat
    let e := descOf s q
    let a := e.elem e.tail
    let u : State := countBank q { withIrs s id with hod := { s.hod with
      lane := some (⟨17, .put q v eob, .cell c⟩, .write a (elemBytes v (tagByte 0 false eob e.seq)) e.tail) } }
    (Arrives s c 1 → portBusy 17 s = false → HasRoom s 19 q → ∃ t, exec (.qputCell c) s = .next t ∧ Appended s t q v 0 false eob ∧ t.irs.drBad = s.irs.drBad) ∧
    (Arrives s c 1 → portBusy 17 s = false → QueueOpen s q → e.pack = false → e.key = true →
      regionOk s 19 e.base e.ring false true = true → e.count ≠ e.cap → routeOf s 443 = 0 →
      exec (.qputCell c) s = .next u ∧
      ∃ t, exec (.keyPayloadDone true) u = .next t ∧ t.hod.lane = none ∧ descOf t q = e ∧ faulted t q = true ∧
        t.irs.own.get 2 = s.irs.own.get 2 ++ [qfailFor s c 6]) ∧
    (Arrives s c 1 → portBusy 17 s = false → QueueOpen s q → e.pack = false → e.key = false →
      regionOk s 19 e.base e.ring false true = true → e.count = e.cap → routeOf s 441 = 0 →
      ∃ t, exec (.qputCell c) s = .next t ∧ descOf t q = e ∧ pendBit t 441 = true ∧
        t.irs.own.get 2 = s.irs.own.get 2 ++ [qfailFor s c 2] ∧ t.store = s.store) ∧
    (Arrives s c 2 → ∃ dev, (c.payload.getD 2 0 ≠ 5 → dev = c.src) ∧
      exec (.qfailCell c) s = .next (raise 440 { withIrs s id with free := s.free + 1, hod := { s.hod with
        rfReason := (c.payload.getD 2 0).setWidth 4, rfDev := dev, rfQ := q } })) ∧
    (Arrives s c 3 → portBusy 17 s = false → HasRoom s 19 q → ∃ t, exec (.noteCell c) s = .next t ∧ Appended s t q v 0 false false ∧ pendBit t 492 = true) ∧
    (∀ w, Arrives s c 4 → s.hod.gated = false → asleep .hod s = false → nth s.irs.rx k = some w → n ≤ 30 →
      (packOf s (16 + k)).wait = none →
      ((w.getLsbD 31 = false ∨ (w.getLsbD 30 = false ∧ field w 11 0 ≠ c.src)) →
        exec (.streamCell c) s = .next (withIrs s (fun r => { r with drStream := more r.drStream }))) ∧
      (w.getLsbD 31 = true → (w.getLsbD 30 = true ∨ field w 11 0 = c.src) → (packQueue s (16 + k)).isSome = true →
        (packOf s (16 + k)).part.length + n < 4 → (c.payload.getD 0 0).getLsbD 7 = false → n + 2 ≤ c.payload.length →
        ∃ t, exec (.streamCell c) s = .next t ∧ t = { s with irs := { s.irs with badRun := 0 }, hod := { s.hod with pack := t.hod.pack } } ∧
          packOf t (16 + k) = { packOf s (16 + k) with part := (packOf s (16 + k)).part ++ (c.payload.drop 2).take n, fifo := [] } ∧
          ∀ p, p ≠ 16 + k → packOf t p = packOf s p))

/-- The cells that every device reads, and the time base: TIME, ENUM, JOIN, RING (R54, R239, R248, R251, R254, R255). How far local
time runs between the cells is free (log 6). -/
def Obligations.ChainRing : Prop :=
  ∀ (s : State) (c : Cell) (flight bypassed : BitVec 8) (lap : Word),
    let r := s.irs
    let next := pay c 0 2 % 8192
    (Passes s c 5 1 → ∃ t, exec (.timeCell c) s = .next t ∧ t.irs.time = BitVec.ofNat 64 (pay c 0 8 + r.hop.toNat + pay c 12 4) ∧
      t.irs.tmSeq = BitVec.ofNat 16 (pay c 8 2) ∧ t.irs.tmPer = BitVec.ofNat 16 (pay c 10 2) ∧
      (r.chen = true → r.resumed = true → t.irs.tbvalid = true) ∧ (r.resumed = false → t.irs.tbvalid = r.tbvalid) ∧
      t.store = s.store ∧ t.hod = s.hod) ∧
    (Passes s c 6 2 → pay c 0 2 < 4096 → (c.payload.getD 2 0).getLsbD 0 = false → bypassed.toNat ≤ 4 →
      r.out = none → r.keyBuf = [] → r.tranBuf = [] → r.ownKey = [] → Yields r (r.bond.act.get ⟨r.ptr.toNat, r.ptr.isLt⟩) →
      ∃ t o, exec (.enumCell c flight bypassed) s = .next t ∧ t.irs.addrv = true ∧ t.irs.addr = BitVec.ofNat 12 next ∧
        t.irs.hop = BitVec.ofNat 32 (pay c 4 4) ∧ t.irs.bpout = bypassed ∧ pendBit t 486 = true ∧
        t.irs.kenref = (r.ken && decide (64 ≤ (c.payload.getD 3 0).toNat)) ∧
        t.irs.out = some (o, .transit false) ∧ Good o ∧ pay o 0 2 = next + 1 ∧ o.payload.getD 2 0 = c.payload.getD 2 0 ∧
        o.payload.getD 3 0 = c.payload.getD 3 0 + (if r.ken = true ∧ (c.payload.getD 3 0).toNat < 64 then 1 else 0) ∧
        pay o 4 4 = (pay c 4 4 + 80 + 2 * bypassed.toNat) % 2 ^ 32 ∧ o.payload.getD 8 0 = flight ∧ o.payload.getD 9 0 = bypassed) ∧
    (OnRing s → r.head = true → c.type = 6 → c.cls = 2 → Good c →
      ∃ t, exec (.enumReturn c lap) s = .next t ∧
        Resumed t (BitVec.ofNat 12 (next - 1)) ((c.payload.getD 3 0).setWidth 7) lap r.ki ∧
        (t.irs.closerr = true ↔ pay c 4 4 + 16 < lap.toNat ∨ lap.toNat + 16 < pay c 4 4 ∨
          48 + 8 * (c.payload.getD 9 0).toNat < (c.payload.getD 8 0).toNat ∨ r.farOut = true) ∧
        ∃ o ∈ t.irs.ownHead, o.type = 8 ∧ o.payload.getD 0 0 = 2) ∧
    (c.type = 7 → c.cls = 2 → Good c → r.waitjoin = true →
      exec (.joinCell c) s = .next (raise 487 { s with irs := { r with bypopen := true, waitjoin := false } })) ∧
    (Passes s c 8 2 → c.payload.getD 0 0 = 1 → ∃ t, exec (.ringPause c) s = .next t ∧ t.irs.paused = true ∧ pendBit t 484 = true ∧
      t.irs.ringN = r.ringN ∧ t.irs.addr = r.addr ∧ t.store = s.store) ∧
    (Passes s c 8 2 → c.payload.getD 0 0 = 2 → ∃ t, exec (.ringResume c) s = .next t ∧
      Resumed t (BitVec.ofNat 12 (pay c 4 2)) ((c.payload.getD 6 0).setWidth 7) (BitVec.ofNat 32 (pay c 8 4)) r.ki ∧
      t.irs.addr = r.addr ∧ t.store = s.store) ∧
    (r.head = false → r.tbvalid = true → ∃ t, exec .timeBaseTimeout s = .next t ∧ t.irs.tbvalid = false ∧ pendBit t 490 = true ∧
      (∀ i, (field (s.st i).fsrc 1 0).toNat = 3 → (t.st i).tblost = true) ∧ t.store = s.store) ∧
    (∀ now, r.head = true → OnRing s → r.tbper ≠ 0 → r.tbvalid = true → r.out = none → r.keyBuf = [] → noOwnKey r →
      ∃ t o, exec (.timeCellDue now) s = .next t ∧ t = { s with irs := t.irs } ∧ t.irs = { r with
          time := now, tmSeq := r.tmSeq + 1, out := some (o, .ownTime) } ∧ o.type = 5 ∧ o.cls = 1 ∧ o.dest = 0 ∧ Good o ∧
        pay o 0 8 = now.toNat ∧ pay o 8 2 = (r.tmSeq + 1).toNat ∧ pay o 10 2 = r.tbper.toNat)

/-- The links of the chain: CRC errors reported and counted, a link lost, TRAIN, re-alignment, the end of listening, the return of
clean IDLE (R234, R244, R247, R248, R252). That stomped cells do not count toward a lost link is the model's reading (log 30). -/
def Obligations.ChainLinks : Prop :=
  ∀ (s : State) (c : Cell),
    let r := s.irs
    (Arrives s c 9 → c.payload.getD 0 0 = 1 → exec (.linkCellCrc c) s = .next (reportFault 2 1 (pay c 2 2) (raise 481
      (withIrs s (fun r => { r with crcOut := sat16 (r.crcOut.toNat + pay c 2 2) }))))) ∧
    (Arrives s c 9 → c.payload.getD 0 0 = 2 → exec (.linkCellRetrained c) s = .next (raise 483 (withIrs s id))) ∧
    (r.bypopen = true → r.retrained = false → r.linkErr ≠ 0 → (r.own.get 2).length ≤ Config.txRoom 2 →
      let o := mkCell s 9 2 (if r.head then r.ringN else r.addr - 1) ([1, 0] ++ leBytes 2 r.linkErr.toNat)
      exec .linkCellSend s = .next { s with irs := { r with linkErr := 0, own := r.own.set 2 (r.own.get 2 ++ [o]) } }) ∧
    (r.bypopen = true → r.inlock = true → ∃ t, exec .linkLost s = .next t ∧ t.irs.inlock = false ∧ t.irs.retrain = true ∧
      pendBit t 482 = true ∧ (r.retrain = false → t.irs.out = none ∧ t.irs.tranBuf = [] ∧ t.irs.keyBuf = [] ∧ t.irs.tbvalid = false ∧
        t.irs.paused = true ∧ t.irs.ownKey = r.ownKey)) ∧
    (r.bypopen = true → r.sawTrain = false → r.retrain = false → ∃ t, exec .trainReceived s = .next t ∧ t.irs.sawTrain = true ∧
      t.irs.retrain = true ∧ t.irs.paused = true ∧ t.irs.tranBuf = [] ∧ t.irs.tbvalid = false ∧ pendBit t 484 = true ∧ t.store = s.store) ∧
    (r.bypopen = true → r.retrain = true → r.inlock = true → exec .linkRealigned s =
      .next (if r.head then s else { s with irs := { r with retrain := false, sawTrain := false } })) ∧
    (r.bypopen = true → r.retrain = true → r.inlock = false → ∃ t, exec .linkRealigned s = .next t ∧ t = { s with irs := t.irs } ∧
      t.irs.inlock = true ∧ t.irs.retrain = r.head ∧
      ((∃ o, t.irs.own.get 2 = r.own.get 2 ++ [o] ∧ o.type = 9 ∧ o.payload.getD 0 0 = 2) ∨ t.irs.retrained = true)) ∧
    (r.chen = true → s.pwr.on = true → s.pwr.stage = .run → r.bypopen = false → r.waitjoin = false → s.bst.slice = none →
      exec (.chainListenEnd true) s = .next { s with irs := { r with waitjoin := true, inlock := true } } ∧
      exec (.chainListenEnd false) s = .next { s with irs := { r with bypopen := true } }) ∧
    (r.head = true → r.bypopen = true → r.retrain = true → r.hbusy = false → r.autoenum = false →
      (r.inlock = true → exec .cleanIdleReturned s = .next { s with irs := { r with retrain := false, sawTrain := false } }) ∧
      (r.inlock = false → ∃ t, exec .cleanIdleReturned s = .next t ∧ t = { s with irs := t.irs } ∧ t.irs.inlock = true ∧
        t.irs.retrain = false ∧
        ((∃ o, t.irs.own.get 2 = r.own.get 2 ++ [o] ∧ o.type = 9 ∧ o.payload.getD 0 0 = 2) ∨ t.irs.retrained = true))) ∧
    (r.head = true → r.bypopen = true → r.retrain = true → r.autoenum = true → ∃ t, exec .cleanIdleReturned s = .next t ∧ t.irs.hbusy = true ∧
      t.irs.retrain = false ∧ ∃ o ∈ t.irs.ownHead, o.type = 6 ∧ pay o 0 2 = 1 ∧ o.payload.getD 2 0 = 1)

/-- The head's commands, the chain bond table, and transmit streams (R245, R248, R251, R257). The size of a transmit buffer and the
head's own ENUM figures are free (logs 13 and 6). -/
def Obligations.ChainHead : Prop :=
  ∀ (s : State) (m : Master) (j : Fin 16),
    let r := s.irs
    let x := r.tx.get j
    let q : QueueId := field x.q 15 0
    (RegOpen s m.val .irs 0x50 true → r.head = true → r.hbusy = false →
      (∃ t, exec (.headEnum m) s = .next t ∧ t.irs.hbusy = true ∧ t.irs.resumed = false ∧
        ∃ o ∈ t.irs.ownHead, o.type = 6 ∧ o.cls = 2 ∧ Good o ∧ pay o 0 2 = 1 ∧ o.payload.getD 2 0 = 0 ∧ o.payload.getD 3 0 = BitVec.ofNat 8 r.ken.toNat) ∧
      (∃ t, exec (.headEnumKeep m) s = .next t ∧ t.irs.hbusy = true ∧ t.irs.resumed = false ∧
        ∃ o ∈ t.irs.ownHead, o.type = 6 ∧ o.cls = 2 ∧ Good o ∧ pay o 0 2 = 1 ∧ o.payload.getD 2 0 = 1) ∧
      (∃ t p o, exec (.headJoin m) s = .next t ∧ t.irs.hbusy = true ∧ t.irs.paused = true ∧ pendBit t 484 = true ∧
        t.irs.ownHead = r.ownHead ++ [p, o] ∧ p.type = 8 ∧ p.payload.getD 0 0 = 1 ∧ o.type = 7)) ∧
    (RegOpen s m.val .irs 0x50 true → (r.head = false ∨ r.hbusy = true) → exec (.headEnum m) s = .next (wroteOk m s)) ∧
    (RegOpen s m.val .irs 0x40 true → r.bond.phase = .idle →
      exec (.chainBondSwap m) s = .next (wroteThen m (fun u => raiseIf (armedBond r.bond 3).2 621
        { u with irs := { u.irs with bond := (armedBond r.bond 3).1 } }) s)) ∧
    (∀ l, x.ctl.getLsbD 31 = true → x.stop = false → x.last = false → r.own.get 3 = [] → QueueOpen s q → (descOf s q).key = false →
      regionOk s 19 (descOf s q).base (descOf s q).ring true false = true → (descOf s q).count ≠ 0 →
      combGet s ((descOf s q).elem (descOf s q).head) = some l → l.length = 8 → (l.getD 4 0).getLsbD 3 = false →
      let n := (l.getD 4 0).toNat / 32 % 4
      x.got.length + (if n = 0 then 4 else n) < 30 →
      ∃ t, exec (.txStreamDrain j) s = .next t ∧ descOf t q = (descOf s q).popped ∧
        t.irs.tx.get j = { x with got := x.got ++ l.take (if n = 0 then 4 else n) } ∧ t.irs.own.get 3 = [] ∧ t.store = s.store) ∧
    (x.ctl.getLsbD 31 = true → (x.stop = true ∨ (x.last = false ∧ x.got.length < 30 ∧ (descOf s q).count ≠ 0)) →
      exec (.txStreamIdleFlush j) s = .next s) ∧
    (x.ctl.getLsbD 31 = true → x.got ≠ [] → x.got.length < 30 → x.stop = false → (x.last = true ∨ (descOf s q).count = 0) →
      (r.own.get 3).length ≤ Config.txRoom 3 →
      let o := mkCell s 4 3 (field x.ctl 11 0)
        ([BitVec.ofNat 8 (128 * x.last.toNat + (field x.ctl 19 16).toNat), BitVec.ofNat 8 x.got.length] ++ x.got)
      exec (.txStreamIdleFlush j) s = .next { s with irs := { r with
        own := r.own.set 3 (r.own.get 3 ++ [o]), tx := r.tx.set j.val { x with got := [], last := false } j.isLt } }) ∧
    (x.ctl.getLsbD 31 = true → x.stop = false → x.last = true → x.got ≠ [] → x.got.length < 30 → Config.txRoom 3 < (r.own.get 3).length →
      exec (.txStreamDrain j) s = .next s)

/-- The host port: READY, reads and writes of the store, status, echo, frames with a wrong address, ignored frames, frames cut short
(R259 to R263). Which piece of a failed frame gives HST_ERRADDR is the model's reading (log 24). -/
def Obligations.HostFrames : Prop :=
  ∀ (s : State) (w : BitVec 2) (a v : Word) (data : List Byte), HostUp s →
    (exec .hostPortReady { s with hst := { s.hst with ready := false } } = .next s) ∧
    (w ≠ 3 → s.hst.frames = [] → StoreOpen s 17 a.toNat 4 true false →
      ∃ n, 1 ≤ n ∧
        exec (.hostRead w a 0) s = .next (hostOk (served s 17 n) ((List.range 4).map (fun k => storeByteAt s (a.toNat + k))))) ∧
    (w ≠ 3 → s.hst.frames = [] → StoreOpen s 17 a.toNat 4 false true →
      ∃ t n, 1 ≤ n ∧ exec (.hostWrite w a 0 [v]) s = .next t ∧ Stored s t.store a.toNat 4 v.toNat ∧
        t = hostOk (written { s with free := s.free + 2 } 17 a.toNat n t.store) []) ∧
    (w ≠ 3 → ∀ n : Byte, (a.toNat % 4 ≠ 0 ∨ (0x800000 ≤ a.toNat ∧ a.toNat < 0x10000000)) →
      exec (.hostRead w a n) s = .next (hostErr s 3) ∧
      ∀ l : List Word, l.length = n.toNat + 1 → exec (.hostWrite w a n l) s = .next (hostErr s 3)) ∧
    (w ≠ 3 → s.hst.frames = [] → a.toNat % 4 = 0 → a.toNat < 0x800000 → regionOk s 17 a.toNat 4 true false = false →
      fenced s 17 = false → routeOf s 465 = 0 →
      ∃ t, exec (.hostRead w a 0) s = .next t ∧ t.hst = { s.hst with owe6 := false, answer := owed6 s ++ [0xC2, 0xFF], errcode := 2, erraddr := a } ∧
        pendBit t 465 = true ∧ nth t.arb.maddr 17 = some a ∧ t.store = s.store) ∧
    (w ≠ 3 → exec (.hostStatus w) s = .next (hostOk s
      [s.hst.lostget, s.hst.aborts, s.hst.badcmd, 0x80])) ∧
    (w ≠ 3 → exec (.hostEcho w data) s = .next (hostOk s data)) ∧
    (exec (.hostRead 3 a 0) s = .next (hostIgnored s) ∧ exec (.hostWrite 3 a 0 [v]) s = .next (hostIgnored s) ∧
      exec (.hostStatus 3) s = .next (hostIgnored s) ∧ exec (.hostEcho 3 data) s = .next (hostIgnored s)) ∧
    (∀ cmd : Byte, (cmd.toNat / 64 = 3 ∨ cmd.toNat % 64 = 0 ∨ 4 < cmd.toNat % 64) →
      exec (.hostBadCommand cmd) s = .next (hostIgnored s)) ∧
    (∀ f, s.hst.frames = [f] → f.lost = false →
      let u (l : List HostFrame) : Hst := { s.hst with aborts := more8 s.hst.aborts, answer := [], frames := l }
      exec (.hostFrameAbort .writeStatus) s = .next { s with hst := u [{ f with lost := true }] } ∧
      (s.hod.lane = none → ∃ t, exec (.hostFrameAbort .readWaiting) s = .next t ∧ t.hst = u [] ∧ t.store = s.store ∧
        ((s.arb.ord.get 17).any (·.write) = false → (s.arb.kreq.get 17).any (·.write) = false →
          t.arb.ord.get 17 = none ∧ t.arb.kreq.get 17 = none) ∧
        ((s.arb.ord.get 17).any (·.write) = true → t.arb = s.arb) ∧
        t.hod = { s.hod with keyWait := s.hod.keyWait.filter (fun l => l.who != .bus 17 || isPut l.op) } ∧
        t.stalled = s.stalled.filter (fun e => e.master != 17 || !e.op.any (fun o => !isPut o))) ∧
      (∀ q l, s.hod.lane = some (⟨16, .get q, .bus 17⟩, l) → ∃ t, exec (.hostFrameAbort .readWaiting) s = .next t ∧
        t.hst = { u [] with lostget := more8 s.hst.lostget, owe6 := true })) ∧
    (exec (.hostFrameAbort .beforeAccess) s = .next { s with hst := { s.hst with aborts := more8 s.hst.aborts, answer := [] } } ∧
      exec (.hostFrameAbort .readDone) s = .next { s with hst := { s.hst with aborts := more8 s.hst.aborts, answer := [] } } ∧
      exec (.hostFrameAbort .getDone) s = .next { s with hst :=
        { s.hst with aborts := more8 s.hst.aborts, answer := [], lostget := more8 s.hst.lostget, owe6 := true } })

/-- Writing an image slot: the stream's bytes, a source whose port does not work or may not open one, a stream that stalls, the
verification with its RESULT, and the chain's cells (R275 to R278, R281, R375, R380). The signature and digest functions are
uninterpreted (log 12). -/
def Obligations.SlotStreams : Prop :=
  ∀ (s : State) (src : StreamSource) (n : BitVec 2) (data : List Byte),
    (s.img.stream = none → s.pwr.stage = .run → s.pwr.state ≠ 3 → n ≠ 3 → (src = .cfg → field s.img.mode 1 0 = 1) →
      (src = .cfg ∨ src = .jtag → vio4 s = true) → (src = .jtag → s.bst.imgen = true ∧ s.pln.ready = true) → data.length < 17920 →
      ∃ t x, exec (.slotWriteStream src n data) s = .next t ∧ t = { s with img := t.img } ∧ t.img.stream = some x ∧ x.src = src ∧
        x.target = n.toNat ∧ x.got = data.length ∧ (∀ k, k < data.length → memByte x.buf k = data.getD k 0) ∧
        t.img.wrBytes = data.length ∧ t.img.wrSlot = n ∧ t.img.slots = s.img.slots) ∧
    (∀ x, s.img.stream = some x → (x.src ≠ src ∨ x.target ≠ n.toNat ∨ (vio4 s = false ∧ (src = .cfg ∨ src = .jtag))) →
      exec (.slotWriteStream src n data) s = .next s) ∧
    (s.img.stream = none → src = .jtag → vio4 s = true → n ≠ 3 → s.pwr.stage = .run → s.pwr.state ≠ 3 →
      (s.bst.imgen = false ∨ s.pln.ready = false) →
      exec (.slotWriteStream src n data) s = .next { s with tap := { s.tap with refused := true } }) ∧
    (∀ x, s.img.stream = some x → x.target < 3 → x.begun = true → x.verify = false → x.ignore = false → x.boot = false →
      s.pln.owed = none → ∃ t, exec .slotWriteStall s = .next t ∧ SlotEnds s t x.target 7 3 611) ∧
    (∀ x, s.img.stream = some x → x.target < 3 → x.begun = true → x.verify = true → x.boot = false → s.pln.owed = none →
      ∃ t, exec .slotWriteVerifyDone s = .next t ∧
        (digestsOk x.buf (imgSlot s x.target).payload = false → SlotEnds s t x.target 5 3 611) ∧
        (digestsOk x.buf (imgSlot s x.target).payload = true → signaturesOk s.img x.buf = false → SlotEnds s t x.target 4 3 611) ∧
        (digestsOk x.buf (imgSlot s x.target).payload = true → signaturesOk s.img x.buf = true → SlotEnds s t x.target 1 2 610)) ∧
    (∀ x b, s.img.stream = some x → x.src = src → x.target = n.toNat → n ≠ 3 → (src = .cfg ∨ src = .jtag → vio4 s = true) → x.begun = true → x.verify = false → x.ignore = false →
      x.boot = false → s.pln.owed = none → 17920 ≤ x.got → x.got < 17920 + mPaylen x.buf → (n.toNat, x.got - 17920) ∈ s.img.defects →
      ∃ t, exec (.slotWriteStream src n [b]) s = .next t ∧ t.img.stream = none ∧ t.img.wrResult = 8 ∧ (imgSlot t n.toNat).state = 3 ∧
        OtherSlots s t n.toNat ∧ pendBit t 611 = true) ∧
    (∀ c, Arrives s c 10 → imgCount c ∈ List.range' 1 28 → (c.payload.getD 3 0).getLsbD 0 = false →
      (s.img.stream = none → pay c 0 3 = 0 →
        ∃ t x, exec (.imgCell c) s = .next t ∧ t = { withIrs s id with img := t.img } ∧ t.img.stream = some x ∧ x.src = .chain ∧
          x.target = s.img.extslot.toNat ∧ x.got = min (imgCount c) (c.payload.length - 4) ∧
          ∀ k, k < imgCount c → 4 + k < c.payload.length → memByte x.buf k = c.payload.getD (4 + k) 0) ∧
      (∀ x, s.img.stream = some x → (x.src ≠ .chain ∨ x.got ≠ pay c 0 3) → exec (.imgCell c) s = .next (withIrs s id)))

/-- Booting and loading: the boot's start; an attempt, with the cause of failure that the manifest, the tables or the planes give, or
with what a loaded slot leaves; a PLL that does not lock; a STRICT digest; the global release; the background digest (R158, R177, R280
to R288). Digest, check bits and routing checks are uninterpreted (log 12), what a load ends besides is the model's reading (log 20),
and so is the order of two failures at one moment (log 33). -/
def Obligations.Loads : Prop :=
  ∀ (s : State) (straps : BitVec 3) (cause : StartCause) (slot : BitVec 2) (rest : List (BitVec 2)) (p : PllId) (nets : List (BitVec 256)),
    let mode := if vio4 s then straps else 0
    let x := imgSlot s slot.toNat
    let strict := decide (memNat x.manifest 12 4 / 2 % 2 = 1)
    (s.pwr.stage = .core →
      ∃ t, exec (.bootStart straps cause) s = .next t ∧ Held t ∧ t.pwr.stage = .run ∧ t.pwr.on = true ∧ t.img.mode = mode ∧ t.faultn = true ∧
        t.img.load = none ∧ t.img.failed = 0 ∧ t.pln.bootcnt = s.pln.bootcnt + 1 ∧ t.pln.i2caddr.toNat = 0x58 + mode.toNat ∧
        t.img.slots = s.img.slots ∧
        (mode.toNat % 4 = 0 → t.img.cands = after0 (if s.img.trial ≠ 0 then s.img.trial else s.img.primary)) ∧
        (mode.toNat % 4 = 1 ∨ mode.toNat % 4 = 2 → t.img.cands = after0 s.img.extslot ∧
          ∃ x, t.img.stream = some x ∧ x.boot = true ∧ x.target = s.img.extslot.toNat ∧ x.got = 0 ∧
            x.src = if mode.toNat % 4 = 1 then .cfg else .chain) ∧
        (mode.toNat % 4 = 3 → t.img.cands = [])) ∧
    (TurnOf s slot rest → ∃ t, exec (.loadAttempt slot) s = .next t ∧
      (∀ c, c ∈ [3, 1, 2, 4] → HeaderFails s.img x c → Failed s t slot c 0 0 rest) ∧
      ((∀ e ∈ headerChecks s.img x, e.2) → match applyTables x (begun s slot) with
        | none => Failed s t slot 5 0 0 rest
        | some u =>
          (∀ c b f, FirstBad x c b f → (∀ n, x.areaErr = some n → frameMoment c f ≤ areaMoment n) → Failed s t slot c b f rest) ∧
          (∀ n, x.areaErr = some n → (∀ c b f, FrameBad x c b f → areaMoment n < frameMoment c f) → Failed s t slot 13 0 0 rest) ∧
          (x.areaErr = none → (∀ c b f, ¬FrameBad x c b f) → Loaded x u t ∧ t.img.load = some slot ∧ t.img.cands = slot :: rest)) ∧
      ((∀ e ∈ headerChecks s.img x, e.2) → 7 < memNat x.payload (memNat x.manifest 0x80 4) 2 → Failed s t slot 5 0 0 rest) ∧
      (field s.img.mode 1 0 = 0 → s.img.trial = slot → x.state ≠ 2 → t.img.trial = 0)) ∧
    (s.img.load = some slot → s.img.cands = slot :: rest → (s.clk.pll.get p).en = true → (s.clk.pll.get p).lock = false →
      ∃ t, exec (.loadLockTimeout p) s = .next t ∧ Failed s t slot 8 0 0 rest) ∧
    (s.img.load = some slot → s.img.cands = slot :: rest → pllsReady s.clk = true → s.pln.ready = true → strict = true → digestOk x = false →
      ∃ t, exec (.globalRelease nets) s = .next t ∧ Failed s t slot 9 0 0 rest) ∧
    (s.img.load = some slot → (pllsReady s.clk = false ∨ (s.pln.ready = false ∧ s.pln.romonly = false)) →
      exec (.globalRelease nets) s = .next s) ∧
    (s.img.load = some slot → pllsReady s.clk = true → s.pln.ready = true → (strict = true → digestOk x = true) →
      ∃ t, exec (.globalRelease nets) s = .next t ∧ t.img.load = none ∧ t.img.cands = [] ∧ t.img.hold = false ∧ t.img.locked = true ∧ t.img.noimage = false ∧
        t.img.bootslot = slot ∧ t.img.digest = (if strict then 1 else 0) ∧ t.img.strict = strict ∧ t.img.fallback = decide (0 < s.img.failed) ∧
        (∀ b, t.img.bayslot.get b = slot) ∧ (∀ i, t.img.setslot.get i = slot) ∧ t.rstout = false ∧ t.faultn = false ∧
        (0 < s.img.failed → pendBit t 609 = true) ∧ (s.pwr.bor = true → pendBit t 554 = true) ∧
        (∀ i, (s.st i).enabled = true → (t.st i).run = true ∧ (t.st i).stopped = false) ∧
        (∀ b n, ((t.bay b).rstSrc.get n).getLsbD 0 = false ∧ ((t.bay b).rclk.get n).busy = false) ∧
        (∀ k, (s.io.bank.get k).conf = true →
          t.io.bank.get k = (if (s.io.bank.get k).band = some (s.io.bank.get k).vio then { s.io.bank.get k with inEffect := true }
            else { s.io.bank.get k with vioerr := true })) ∧
        t.store = s.store ∧ t.clk = s.clk) ∧
    (s.img.hold = false → s.img.digest = 0 → s.img.strict = false → s.pwr.state ≠ 3 → s.pwr.stage = .run → s.img.bootslot.toNat < 3 →
      s.img.mismatch = false →
      ∃ t, exec .backgroundDigestDone s = .next t ∧
        (digestOk (imgSlot s s.img.bootslot.toNat) = true → t = { s with img := { s.img with digest := 1 } }) ∧
        (digestOk (imgSlot s s.img.bootslot.toNat) = false → t.img.digest = 2 ∧ (imgSlot t s.img.bootslot.toNat).state = 3 ∧
          OtherSlots s t s.img.bootslot.toNat ∧ pendBit t 608 = true ∧ pendBit t 611 = true ∧ t.img.hold = false ∧ t.bays = s.bays)) ∧
    (s.img.hold = false → s.img.digest = 0 → s.img.strict = false → s.pwr.state ≠ 3 → s.pwr.stage = .run →
      s.img.bootslot = 1 ∨ s.img.bootslot = 2 → s.img.mismatch = true → digestOk (imgSlot s s.img.bootslot.toNat) = false →
      ∃ t, exec .backgroundDigestDone s = .next t ∧ Held t ∧ t.img.cands = [0] ∧ t.img.load = none ∧ t.img.failSlot = s.img.bootslot ∧
        t.img.failCause = 12 ∧ (imgSlot t s.img.bootslot.toNat).state = 3 ∧ pendBit t 608 = true ∧ pendBit t 611 = true)

/-- The end of a swap, and the repointers: a visit that finds nothing, an upset row, a plane record that cannot be read; a heartbeat
restart; RPT_CTRLw (R128, R138, R291, R293 to R298). -/
def Obligations.SwapsAndRepointers : Prop :=
  ∀ (s : State) (x : Swap) (w : Wing) (m : Master) (v c : Word),
    let y := s.rpt.get w
    let b := 16 * w.val + (following y).1.toNat
    let f := (following y).2.toNat
    let k := ((nth s.img.bayslot b).getD 0).toNat
    (s.img.swap = some x → x.rel = false →
      let l := (List.finRange 64).filter (fun b => x.bays.getLsbD b.val && (s.bay b).held)
      ∃ t y, exec .swapRelease s = .next t ∧ t.img.swap = some y ∧ y.rel = true ∧ t.store = s.store ∧ t.hod = s.hod ∧
        (badFrame (imgSlot s x.slot.toNat) (l.map (·.val)) = none → y = { x with rel := true } ∧
          (∀ b, b ∈ l → t.img.bayslot.get b = x.slot ∧ (t.bay b).held = false ∧ (t.bay b).ffs = []) ∧
          (∀ b, b ∉ l → t.img.bayslot.get b = s.img.bayslot.get b ∧ t.bay b = s.bay b)) ∧
        (∀ e, badFrame (imgSlot s x.slot.toNat) (l.map (·.val)) = some e →
          (y.result = 2 ∨ y.result = 3) ∧ y.bay = BitVec.ofNat 6 e.2.1 ∧ y.left = 0 ∧
          ∀ b, x.bays.getLsbD b.val = true → t.img.bayslot.get b = x.oldSlot.get b)) ∧
    (s.img.swap = some x → x.moved = false → x.left ≠ 0 →
      ∃ t, exec .swapSetterTransferDone s = .next t ∧ t = { s with setters := t.setters, img := { s.img with swap := some { x with moved := true } } } ∧
        (∀ i, x.left.getLsbD i.val = true → ∃ z, (t.st i).shadow = some z ∧ t.st i = { s.st i with shadow := some z }) ∧
        (∀ i, x.left.getLsbD i.val = false → t.st i = s.st i)) ∧
    (s.img.swap = some x → x.rel = true → x.left = 0 →
      ∃ t, exec .swapEnd s = .next t ∧ t.img = { s.img with swap := none, swResult := x.result, swBay := x.bay } ∧ pendBit t 612 = true ∧
        t.bays = s.bays ∧ t.store = s.store ∧ t.hod = s.hod) ∧
    (Runs s → Agree y c → c.getLsbD 31 = true → (∀ q : BayId, q.val = b → (s.bay q).runs = true) →
      (kvGet (imgSlot s k).planeErr (b * 960 + f) = none →
        (631 < f ∨ (∀ q : BayId, q.val = b → kvGet (s.bay q).upset f = none) →
          exec (.repointerVisit w) s = .next (withRpt s w (moved1 y))) ∧
        (f ≤ 631 → ∀ q : BayId, q.val = b → ∀ e, kvGet (s.bay q).upset f = some e →
          let z : Rpt := { found y (if e = .single then 1 else 2) b f with
            corr := if e = .double then y.corr else more y.corr, reload := if e = .single then y.reload else more y.reload }
          let u : Bay := { s.bay q with upset := kvDel f (s.bay q).upset }
          exec (.repointerVisit w) s = .next (reportFault 0 b 1 (raise (4 * b) { withRpt s w z with bays := s.bays.set q.val u q.isLt })))) ∧
      (k < 3 → kvGet (imgSlot s k).planeErr (b * 960 + f) = some .double →
        ∃ t, exec (.repointerVisit w) s = .next t ∧ t.rpt = (withRpt s w { found y 3 b f with planeErr := true }).rpt ∧
          (imgSlot t k).state = 3 ∧ OtherSlots s t k ∧ pendBit t 611 = true ∧ pendBit t (4 * b + 1) = true ∧ t.bays = s.bays)) ∧
    (Runs s → y.shad.getLsbD 31 = true →
      ∃ t, exec (.repointerHeartbeatRestart w) s = .next t ∧
        t.rpt = (withRpt s w { y with copy := Vector.replicate 3 y.shad, restarts := more8 y.restarts }).rpt ∧
        (s.pln.ready = false → t.pln.hbOwed = s.pln.hbOwed ++ [w.val]) ∧
        pendBit t (613 + w.val) = true ∧ t.img = s.img ∧ t.bays = s.bays ∧ t.store = s.store) ∧
    (RegOpen s m.val .rpt (0x100 + 0x20 * w.val) true →
      (m.val = 16 → Agree y c →
        let n := (v &&& 0x80000000#32) ||| (if v.toNat % 256 = 0 then c &&& 0xFF#32 else v &&& 0xFF#32)
        exec (.rptCtrlWrite m w v) s = .next (wroteOk m (withRpt s w { y with copy := Vector.replicate 3 n, shad := n }))) ∧
      (m.val ≠ 16 → exec (.rptCtrlWrite m w v) s = .next (ended m.val .busError { s with free := s.free + 2 })))

/-- The plinth's commands that are accepted, on either channel: what each does and answers (R298, R303, R313 to R318, R321, R322,
R324, R328); a command whose group is disabled is answered NOTPERM, one with a wrong number of arguments BADARG (R309, R313). Answers
that no rule states are the model's readings (log 18), and uptime is free (log 9). -/
def Obligations.PlinthCommands : Prop :=
  ∀ (s t : State) (ch : Channel) (tag : Byte),
    (∀ e, Command e → ∀ l g, takeCmd ch (cmdHeader e.2.1 tag l) l s = .yes t → t.pln.romonly = false → e.2.2.1 = some g →
      (match ch with
        | .queue => t.pln.cmdenQ.getLsbD g
        | .i2c => t.pln.cmdenI.getLsbD g) = false → Ends (exec (e.1 ch tag l) s) t ch e.2.1 tag l 7 []) ∧
    (∀ e, Command e → ∀ l, Asked s t ch e.2.1 e.2.2.1 tag l → e.2.2.2 l.length = false → Ends (exec (e.1 ch tag l) s) t ch e.2.1 tag l 2 []) ∧
    (Asked s t ch 0x01 none tag [] → ∃ up, Ends (exec (.info ch tag []) s) { t with free := t.free + 1 } ch 0x01 tag [] 0
      [(nth t.pln.fwVer t.pln.copy.toNat).getD 0, BitVec.ofNat 32 (2 * t.pln.firmbad.toNat + t.pln.copy.toNat),
       t.pln.bootcnt.setWidth 32, up]) ∧
    (Asked s t ch 0x02 (some 0) tag [0x5A57] → ∃ u, exec (.reload ch tag [0x5A57]) s = .next u ∧ Held u ∧
      (t.img.mode.toNat % 4 = 0 → u.img.cands = after0 (if t.img.trial ≠ 0 then t.img.trial else t.img.primary)) ∧
      (ch = .i2c → u.pln.icmd = none ∧ u.pln.iresp = none)) ∧
    (∀ p k e : Word, Asked s t ch 0x03 (some 0) tag [p, k, e] → p.toNat < 3 → k.toNat < 3 → e.toNat ∈ [1, 2] →
      (imgSlot t p.toNat).state = 2 → (k = 0 ∨ (imgSlot t k.toNat).state = 2) →
      ∃ u, Ends (exec (.setboot ch tag [p, k, e]) s) u ch 0x03 tag [p, k, e] 0 [BitVec.ofNat 32 (16 * e.toNat + 4 * k.toNat + p.toNat)] ∧
        u.img = { t.img with primary := p.setWidth 2, trial := k.setWidth 2, extslot := e.setWidth 2 } ∧ u.store = t.store ∧ u.bays = t.bays) ∧
    (∀ n lo hi w : Word, Asked s t ch 0x04 (some 0) tag [n, lo, hi, w] → w.toNat < 2 ^ 17 → MaySwap t n.toNat (hi ++ lo) (field w 15 0) →
      ∃ u, Ends (exec (.plinthSwap ch tag [n, lo, hi, w]) s) u ch 0x04 tag [n, lo, hi, w] 0 [] ∧
        SwapBegun t u n.toNat (hi ++ lo) (field w 15 0) (w.getLsbD 16)) ∧
    (∀ (c w f : Word) b, Asked s t ch 0x05 (some 0) tag [c, w, f] → f.toNat < 2 → testBlock c.toNat = some b → MayTest t b w (f.getLsbD 0) →
      ∃ u, Ends (exec (.plinthTest ch tag [c, w, f]) s) u ch 0x05 tag [c, w, f] 0 [t.bst.next.setWidth 32] ∧ TestStarted t u c.toNat b w) ∧
    (∀ n : Word, Asked s t ch 0x10 (some 1) tag [n] → n.toNat ∈ [0, 1, 2, 4, 5] → t.img.stream = none →
      ∃ u x, Ends (exec (.swbegin ch tag [n]) s) u ch 0x10 tag [n] 0 [] ∧ u = { t with img := u.img } ∧ u.img.slots = t.img.slots ∧
        u.img.stream = some x ∧ x.src = .plinth ∧ x.ch = ch ∧ x.target = n.toNat ∧ x.got = 0 ∧ x.begun = false) ∧
    (∀ l x, Asked s t ch 0x11 (some 1) tag l → 1 ≤ l.length → l.length ≤ 64 → OwnStream t ch x → x.got + 4 * l.length < 17920 →
      ∃ u, Ends (exec (.swdata ch tag l) s) u ch 0x11 tag l 0 [] ∧ TookBytes t u x (l.flatMap (fun w => leBytes 4 w.toNat))) ∧
    (∀ (a n : Word) x, Asked s t ch 0x12 (some 1) tag [a, n] → a.toNat % 4 = 0 → n.toNat % 4 = 0 → 4 ≤ n.toNat → n.toNat ≤ 1048576 →
      OwnStream t ch x → x.got + n.toNat < 17920 → t.pwr.stage = .run → t.pwr.state ≠ 3 →
      (∀ k, k < n.toNat / 4 → StoreOpen t 16 (a.toNat + 4 * k) 4 true false) →
      ∃ u v, Ends (exec (.swchunk ch tag [a, n]) s) u ch 0x12 tag [a, n] 0 [] ∧ v.store = t.store ∧ v.img = t.img ∧ v.bays = t.bays ∧
        v.io = t.io ∧ v.pln = t.pln ∧ v.pwr.state = t.pwr.state ∧
        TookBytes v u x ((List.range n.toNat).map (fun k => storeByteAt t (a.toNat + k)))) ∧
    (∀ x, Asked s t ch 0x13 (some 1) tag [] → OwnStream t ch x → x.begun = true → x.target < 3 → t.pln.owed = none →
      ∃ u, Ends (exec (.swabort ch tag []) s) u ch 0x13 tag [] 0 [] ∧ SlotEnds t u x.target 7 3 611) ∧
    (Asked s t ch 0x14 none tag [] → Ends (exec (.swstat ch tag []) s) t ch 0x14 tag [] 0 [wrStat t.img]) ∧
    (∀ n : Word, Asked s t ch 0x15 (some 1) tag [n] → n.toNat < 2 → ∃ u, exec (.firmswitch ch tag [n]) s = .next u ∧ u = { t with pln := u.pln } ∧
      u.pln.owed = some (ch, cmdHeader 0x15 tag [n]) ∧ u.pln.going = true ∧ u.pln.ready = false ∧ u.pln.fwSel = (n == 1)) ∧
    (∀ (k : Word) l, Asked s t ch 0x20 (some 2) tag (k :: l) → l.length = 24 → t.img.prog = 0 → k.toNat < 4 →
      let rsa := (l.take 12).flatMap (fun w => leBytes 4 w.toNat)
      let slh := (l.drop 12).flatMap (fun w => leBytes 4 w.toNat)
      let i := t.img
      let j := { i with prog := setBit i.prog k.toNat true, keyRsa := nthUpd i.keyRsa k.toNat (fun _ => rsa),
                        keySlh := nthUpd i.keySlh k.toNat (fun _ => slh) }
      ∃ u, Ends (exec (.keyprog ch tag (k :: l)) s) u ch 0x20 tag (k :: l) 0 [] ∧ u.img = j ∧ u.store = t.store) ∧
    (∀ v : Word, Asked s t ch 0x21 (some 2) tag [v] → t.img.minsvn.toNat < v.toNat → v.toNat ≤ 65535 →
      ((imgSlot t 0).state = 2 → v.toNat ≤ mSvn (imgSlot t 0).manifest) →
      ∃ u, Ends (exec (.minsvn ch tag [v]) s) u ch 0x21 tag [v] 0 [] ∧ u.img = { t.img with minsvn := v.setWidth 16 } ∧ u.store = t.store) ∧
    (∀ k v : Word, Asked s t ch 0x30 (some 3) tag [k, v] → InUser k.toNat v →
      ∃ u, Ends (exec (.calset ch tag [k, v]) s) u ch 0x30 tag [k, v] 0 (calWords u.pln k.toNat) ∧
        u.pln.calU = nthUpd t.pln.calU k.toNat (fun _ => v.setWidth 16) ∧
        (∃ c, calPage u.pln = some c ∧ c.val = u.pln.calU) ∧ u.img = t.img ∧ u.store = t.store) ∧
    (Asked s t ch 0x31 (some 3) tag [0x5A57] → ∃ u, Ends (exec (.calclear ch tag [0x5A57]) s) u ch 0x31 tag [0x5A57] 0 [] ∧
      (∀ k, u.pln.calU.get k = 0) ∧ u.img = t.img ∧ u.store = t.store) ∧
    (∀ k : Word, Asked s t ch 0x32 none tag [k] → k.toNat ≤ 51 → Ends (exec (.calget ch tag [k]) s) t ch 0x32 tag [k] 0 (calWords t.pln k.toNat)) ∧
    (∀ (q n : Word) pre r post, Asked s t ch 0x40 none tag [q, n] → 1 ≤ n.toNat → n.toNat ≤ 8 → t.pln.ring.reverse ++ t.pln.ram = pre ++ r :: post →
      r.seq = q → (∀ x ∈ pre, x.seq ≠ q) →
      Ends (exec (.logread ch tag [q, n]) s) t ch 0x40 tag [q, n] 0 (((r :: post).take n.toNat).flatMap recWords)) ∧
    (∀ q : Word, Asked s t ch 0x41 (some 4) tag [q] → newer t.pln q = false →
      ∃ u, Ends (exec (.logack ch tag [q]) s) u ch 0x41 tag [q] 0 [BitVec.ofNat 32 (min (t.pln.seq - u.pln.acked).toNat 8192)] ∧
        u = withPln t { t.pln with acked := u.pln.acked, rais550 := false } ∧
        u.pln.acked = if (q - t.pln.acked).toNat < 2 ^ 31 then q else t.pln.acked) ∧
    (∀ n : Word, Asked s t ch 0x42 (some 4) tag [n] → n.toNat < 2 →
      let p := { t.pln with logOn := n == 1, logNext := if n == 1 && !t.pln.logOn then t.pln.seq + 1 else t.pln.logNext }
      Ends (exec (.logstream ch tag [n]) s) (withPln t p) ch 0x42 tag [n] 0 []) ∧
    (∀ n : Word, Asked s t ch 0x43 (some 4) tag [n] → n.toNat ≤ 1000 →
      Ends (exec (.sensstream ch tag [n]) s) (withPln t { t.pln with period := n.setWidth 16, senCnt := 0 }) ch 0x43 tag [n] 0 []) ∧
    (∀ c n : Word, Asked s t ch 0x50 (some 5) tag [c, n] → c.toNat ≤ 5 → (n = 0xFFFFFFFF ∨ n.toNat < fltUnits c.toNat) →
      ∃ u, Ends (exec (.fltclr ch tag [c, n]) s) u ch 0x50 tag [c, n] 0 [] ∧
        u = withPln t { t.pln with fltLast := u.pln.fltLast, fltTime := u.pln.fltTime } ∧
        (∀ k, k < fltUnits c.toNat → (n = 0xFFFFFFFF ∨ n.toNat = k) →
          ((nth u.pln.fltLast c.toNat).getD 0).getLsbD k = false ∧ kvGet u.pln.fltTime (c.toNat * 128 + k) = none) ∧
        (∀ d k, k < 128 → (d ≠ c.toNat ∨ (n ≠ 0xFFFFFFFF ∧ n.toNat ≠ k)) →
          ((nth u.pln.fltLast d).getD 0).getLsbD k = ((nth t.pln.fltLast d).getD 0).getLsbD k ∧
          kvGet u.pln.fltTime (d * 128 + k) = kvGet t.pln.fltTime (d * 128 + k))) ∧
    (∀ (w : Wing) (en rate : Word), let l : List Word := [BitVec.ofNat 32 w.val, en, rate]
      Asked s t ch 0x51 (some 5) tag l → en.toNat < 2 → 1 ≤ rate.toNat → rate.toNat ≤ 255 →
      let v := BitVec.ofNat 32 (2 ^ 31 * en.toNat + rate.toNat)
      Ends (exec (.rptset ch tag l) s) (withRpt t w { t.rpt.get w with copy := Vector.replicate 3 v, shad := v }) ch 0x51 tag l 0 []) ∧
    (∀ n : Word, Asked s t ch 0x52 (some 5) tag [n] → 1 ≤ n.toNat → n.toNat ≤ 1000 →
      Ends (exec (.rpthb ch tag [n]) s) { t with rptHb := n.setWidth 10 } ch 0x52 tag [n] 0 [])

/-- The channels: a transfer on I²C, the response as it reads, the command taken, the response given, an undefined command, a block
that is not completed, a response that waited (R302, R306 to R308, R312, R313). What a FORMAT answer keeps of a short write is the
model's choice (log 18). -/
def Obligations.PlinthChannels : Prop :=
  ∀ (s t : State) (data : List Byte) (n : Nat) (h : Word) (l : List Word),
    (Serves s → data ≠ [] →
      (s.pln.icmd ≠ none → exec (.i2cWrite data) s = .next (withPln s { s.pln with nacks := more8 s.pln.nacks })) ∧
      (s.pln.icmd = none → ¬BadHeader (first4 data) → data.length = 4 * (1 + (field (first4 data) 15 8).toNat) →
        exec (.i2cWrite data) s = .next (withPln s { s.pln with icmd := some (wordsOf data), iresp := none })) ∧
      (s.pln.icmd = none → (BadHeader (first4 data) ∨ data.length ≠ 4 * (1 + (field (first4 data) 15 8).toNat)) →
        exec (.i2cWrite data) s = .next (withPln s { s.pln with iresp := some [bare (first4 data) 9] }))) ∧
    (Serves s →
      (∀ b, s.pln.icmd = none → (∀ k, s.pln.owed ≠ some (.i2c, k)) → s.pln.iresp = some b → exec (.i2cRead n) s =
        .next (withPln s { s.pln with iout := (b.flatMap (fun x : Word => leBytes 4 x.toNat) ++ List.replicate n 0xFF).take n })) ∧
      (s.pln.icmd = some (h :: l) → exec (.i2cRead n) s =
        .next (withPln s { s.pln with iout := (leBytes 4 (bare h 0xFE).toNat ++ List.replicate n 0xFF).take n }))) ∧
    (Serves s → s.pln.owed = none → s.pln.icmd = some (h :: l) → s.pln.turn = .i2c → (∀ e ∈ s.pln.posts, e.1 ≠ 1) →
      takeCmd .i2c h l s = .yes (turned s .queue)) ∧
    (∀ ch e, e ∈ s.pln.posts → e.1 = 1 → e.2 ≠ [] → mayTake ch s = false) ∧
    (Serves s → s.pln.owed = none → s.pln.qresp = none → s.pln.posts = [] → asleep .hod s = false → asleep .store s = false →
      s.pln.icmd = none → nextBlock s = (.whole (h :: l), t) →
      takeCmd .queue h l s = .yes (turned t .i2c)) ∧
    (∀ status res, respondTo .i2c h status res s =
      withPln s { s.pln with iresp := some (((h &&& 0xFFFF0000#32) ||| BitVec.ofNat 32 (256 * res.length ||| status % 256)) :: res), icmd := none }) ∧
    (Serves s → s.pln.owed = none → s.pln.icmd = some (h :: l) → s.pln.turn = .i2c → (∀ e ∈ s.pln.posts, e.1 ≠ 1) →
      cmdDefined (field h 31 24).toNat = false →
      exec (.plinthBadCommand .i2c h) s = .next (withPln s { s.pln with turn := .queue, icmd := none, iresp := some [bare h 1] })) ∧
    (∀ e, mayTake .queue s = true → asleep .hod s = false → asleep .store s = false → s.pln.qdrop = false → (nextBlock s).1 = .none → getWord s = (some (h, e), t) → (getWord t).1 = none →
      exec .commandBlockTimeout s = .next (turned (respondTo .queue h 9 [] t) .i2c)) ∧
    (s.pln.qresp = some l → s.pln.posts = [] →
      (∀ w, l = [w] → asleep .hod s = false → HasRoom s 16 1 → (descOf s 1).count < (descOf s 1).cap → ∃ t, exec .responsePost s = .next t ∧ Appended s t 1 w 0 false true ∧
        t.pln.qresp = none ∧ t.pln.posts = [] ∧ pendBit t 551 = true) ∧
      ((descOf s 1).cap < (descOf s 1).count + l.length → exec .responsePost s = .next s)) ∧
    (∀ e, Serves s → s.pln.qdrop = true → s.pln.owed = some e → asleep .hod s = false → asleep .store s = false → getWord s = (some (h, true), t) →
      exec .commandBlockTimeout s = .next (withPln t { t.pln with qdrop := false }))

/-- The plinth on its own: its start and restart, a sensor cycle, temperatures, rails and currents that cross a threshold or come back
over its hysteresis, log records, fault windows (R302 to R304, R319, R320, R323, R324, R327 to R329). TIME of a record and a reading
outside its field are free (logs 10 and 17). -/
def Obligations.PlinthServices : Prop :=
  ∀ (s : State) (v : SensorInput) (m : Master) (reg : ThresholdReg) (w : Word) (c : Fin 6) (u n time : Nat),
    let p := s.pln
    let times := (List.replicate n time ++ timesOf p c.val u).take 16
    (s.pwr.stage = .run → s.pwr.state ≠ 3 → p.ready = false → p.romonly = false → p.going = false →
      (∀ k, Starts p k → ∃ t, exec .plinthBoot s = .next t ∧ Booted s t k) ∧
      (NoCopy p → exec .plinthBoot s = .next { s with pln := { p with firmbad := true, romonly := true }, faultn := true })) ∧
    (p.going = false → exec .plinthRestart s = .next s) ∧
    (s.pwr.stage = .run → s.pwr.state ≠ 3 → p.going = true →
      (p.owed = none → ∀ k, Starts p k → ∃ t, exec .plinthRestart s = .next t ∧ Booted s t k) ∧
      ∀ ch h, p.owed = some (ch, h) → (field h 31 24).toNat = 0x15 →
        (Starts p p.fwSel → ∃ t, exec .plinthRestart s = .next (respondTo ch h 0 [] t) ∧ t.pln.owed = none ∧ t.pln.ready = true) ∧
        (Starts p (!p.fwSel) → ∃ t, exec .plinthRestart s = .next (respondTo ch h 11 [1] t) ∧ t.pln.owed = none ∧ t.pln.ready = true ∧
          t.pln.firmbad = true)) ∧
    (s.pwr.stage = .run → s.pwr.state ≠ 3 →
      ∃ t, exec (.sensorCycle v) s = .next t ∧ (p.period = 0 → t.store.mem = s.store.mem) ∧ t.img = s.img ∧
        (∀ k : Fin 4, t.pln.cur.get k = v.cur.getD k.val 0) ∧
        (∀ k : Fin 5, ∀ r, r = reading p (5 + k.val) k.val (v.temps.getD k.val 0) →
          -32768 ≤ r → r ≤ 32767 → t.pln.temp.get k = BitVec.ofInt 16 r ∧
            (t.pln.tmax.get k).toInt = max (p.tmax.get k).toInt r) ∧
        (∀ k : Fin 9, ∀ r, r = reading p (19 + k.val) (10 + k.val) (v.rails.getD k.val 0) →
          0 ≤ r → r ≤ 65535 → t.pln.rail.get k = BitVec.ofInt 16 r ∧ ((t.pln.rmin.get k).toNat : Int) = min ((p.rmin.get k).toNat : Int) r) ∧
        (p.ready = true →
          (∀ k : Fin 5, let x := (t.pln.temp.get k).toInt
            let high := (field (p.tthr.get k) 31 16).toInt
            let low := (field (p.tthr.get k) 15 0).toInt
            Judged s t (2 * k.val) (high < x) (x ≤ high - p.thyst.toNat) ∧ Judged s t (2 * k.val + 1) (x < low) (low + p.thyst.toNat ≤ x)) ∧
          (∀ k : Fin 9, let x := (t.pln.rail.get k).toNat
            let high := (field (p.rthr.get k) 31 16).toNat
            let low := (field (p.rthr.get k) 15 0).toNat
            Judged s t (10 + 2 * k.val) (x < low) (low + p.rhyst.toNat ≤ x) ∧ Judged s t (11 + 2 * k.val) (high < x) (x + p.rhyst.toNat ≤ high)) ∧
          ∀ k : Fin 4, let x := (v.cur.getD k.val 0).toNat
            Judged s t (28 + k.val) ((p.cthr.get k).toNat < x) (16 * x ≤ 15 * (p.cthr.get k).toNat))) ∧
    (RegOpen s m.val .pln (thresholdAt reg) true →
      let q := { (thresholdPut p w reg).1 with armed := p.armed ||| (thresholdPut p w reg).2 }
      exec (.thresholdWrite m reg w) s = .next (wroteOk m (withPln s q))) ∧
    ((s.pwr.stage ≠ .run ∨ s.pwr.state = 3) → exec .logRecordWrite s = .next s) ∧
    (∀ r rest, s.pwr.stage = .run → s.pwr.state ≠ 3 → p.ram = r :: rest → p.ring.length < 8192 →
      exec .logRecordWrite s = .next (withPln s { p with ram := rest, ring := r :: p.ring })) ∧
    (∀ o r init rest, s.pwr.stage = .run → s.pwr.state ≠ 3 → p.ram = r :: rest → p.ring = init ++ [o] → p.ring.length = 8192 →
      let lost := if (p.seq - o.seq).toNat < (p.seq - p.acked).toNat then more p.lost else p.lost
      exec .logRecordWrite s = .next (withPln s { p with ram := rest, ring := r :: init, lost := lost })) ∧
    (∀ r t, p.logOn = true → p.ready = true → p.ring.reverse.find? (fun x => decide ((x.seq - p.logNext).toNat < 2 ^ 31)) = some r →
      postBlock 2 (recWords r) s = some t → exec .logStreamPost s = .next (withPln t { t.pln with logNext := r.seq + 1 })) ∧
    ((c.val, u, n) ∉ p.reports → exec (.faultReport c u n time) s = .next s) ∧
    (∀ pre rest, p.reports = pre ++ (c.val, u, n) :: rest → (c.val, u, n) ∉ pre → s.pwr.stage = .run → s.pwr.state ≠ 3 →
      u < fltUnits c.val → 1 ≤ n →
      ∃ t, exec (.faultReport c u n time) s = .next t ∧ t.pln.reports = pre ++ rest ∧ timesOf t.pln c.val u = times ∧
        nth t.pln.fltCnt c.val = some (BitVec.ofNat 32 (min ((p.fltCnt.get c).toNat + n) (2 ^ 32 - 1))) ∧
        (marked t.pln c.val u = (marked p c.val u || decide ((p.fltT.get c).toNat ≤ inWindow p c.val u n time))) ∧
        (marked p c.val u = false → (p.fltT.get c).toNat ≤ inWindow p c.val u n time → pendBit t (544 + c.val) = true ∧
          (c.val = 0 ∨ c.val = 5 → pendBit t (4 * u + 1) = true)) ∧
        (∀ d k, (d ≠ c.val ∨ k ≠ u) → k < 128 → marked t.pln d k = marked p d k) ∧ t.store = s.store ∧ t.img = s.img) ∧
    (RegOpen s m.val .pln (0x800 + 4 * c.val) true →
      let k := (field w 28 24).toNat
      let q := { p with fltT := p.fltT.set c.val (if 1 ≤ k ∧ k ≤ 16 then field w 28 24 else p.fltT.get c) c.isLt,
                        fltW := p.fltW.set c.val (if field w 19 0 = 0 then p.fltW.get c else field w 19 0) c.isLt }
      exec (.faultWindowWrite m c w) s = .next (wroteOk m (withPln s q)))

/-- Requests and entries: PWR_REQ with each refusal, RESUME, the end of an entry to DOZE, NAP and DORMANT (R333 to R337). What counts
as a selection, and what keeps NAP from its entry, are the model's readings (log 27). -/
def Obligations.PowerEntries : Prop :=
  ∀ (s : State) (m : Master) (v : Word),
    let st := v.toNat % 4
    let p := s.pwr
    (RegOpen s m.val .pwr 0x04 true → v.getLsbD 31 = false →
      (MayChange s st → p.wakesrc &&& p.wakeen = 0 →
        exec (.powerRequest m v) s = .next (wroteOk m (withPwr s { entering p st none with result := 0 }))) ∧
      (∀ code, st ≠ 0 → p.stage = .run → Refuses s st code →
        exec (.powerRequest m v) s = .next (wroteOk m (withPwr s { p with result := BitVec.ofNat 4 code }))) ∧
      (st = 0 → exec (.powerRequest m v) s = .next (wroteOk m s))) ∧
    (RegOpen s m.val .pwr 0x04 true → v.getLsbD 31 = true → st ≠ 0 →
      exec (.powerRequest m v) s = .next (wroteOk m (withPwr s { p with result := 2 }))) ∧
    (RegOpen s m.val .pwr 0x04 true →
      (p.inflight = false → p.state = 0 → exec (.powerResumeRequest m) s = .next (wroteOk m (withPwr s { p with result := 0 }))) ∧
      (p.inflight = true ∨ p.state = 2 → exec (.powerResumeRequest m) s = .next (wroteOk m (withPwr s { p with result := 3 }))) ∧
      (p.inflight = false → p.state = 1 → p.caller = none →
        ∃ t, exec (.powerResumeRequest m) s = .next t ∧ t.pwr = { p with state := 0, result := 0 } ∧ pendBit t 555 = true ∧
          (∀ i, (t.st i).dozed = false) ∧ (∀ b, t.bay b = { s.bay b with dozed := false }) ∧ t.store = s.store)) ∧
    (∀ (i : SetterId) (g : BitVec 2), Entering s g → g ≠ 0 → (g = 3 ∨ p.takenS.getLsbD i.val = true) → Busy (s.st i) →
      exec .powerEntryComplete s = .next s) ∧
    (Entering s 1 → p.wakesrc &&& p.wakeen = 0 → (∀ i : SetterId, p.takenS.getLsbD i.val = true → ¬Busy (s.st i)) →
      ∃ t, exec .powerEntryComplete s = .next t ∧ t.pwr = arrived p 1 ∧ pendBit t 552 = true ∧ t.store = s.store ∧ t.hod = s.hod ∧
        (∀ b : BayId, t.bay b = { s.bay b with dozed := (s.bay b).dozed || p.takenB.getLsbD b.val }) ∧
        (∀ i : SetterId, (t.st i).dozed = ((s.st i).dozed || p.takenS.getLsbD i.val))) ∧
    (Entering s 2 → Quiet s → off .store s = false → (∀ i : SetterId, p.takenS.getLsbD i.val = true → ¬Busy (s.st i)) →
      ∃ t, exec .powerEntryComplete s = .next t ∧ t.pwr = { arrived p 2 with recs := t.pwr.recs } ∧ pendBit t 552 = true ∧
        t.store.retn = true ∧ t.hod.gated = (s.hod.gated || p.takenS.getLsbD 16) ∧
        (∀ b : BayId, p.takenB.getLsbD b.val = true → (t.bay b).gated = true) ∧
        (∀ b : BayId, p.takenB.getLsbD b.val = false → t.bay b = s.bay b) ∧
        (∀ i : SetterId, p.takenS.getLsbD i.val = true → (t.st i).gated = true ∧ (t.pwr.recs.get i).isSome = true ∧
          ((∀ n, routeOf s n = 0) → s.hod.lane = none → s.hod.keyWait = [] → t.pwr.recs.get i = some (recOf (s.st i)))) ∧
        (∀ i : SetterId, p.takenS.getLsbD i.val = false → (t.st i).gated = (s.st i).gated ∧ t.pwr.recs.get i = p.recs.get i)) ∧
    (Entering s 3 → (∀ i : SetterId, ¬Busy (s.st i)) →
      ∃ t, exec .powerEntryComplete s = .next t ∧ t.pwr.state = 3 ∧ t.pwr.inflight = false ∧ t.pwr.on = false ∧ t.rstout = false ∧ pendBit t 552 = true ∧
        t.store.mem = [] ∧ t.hod.gated = true ∧ t.clk.devOn = false ∧ t.irs.bypopen = false ∧ t.irs.addr = s.irs.addr ∧ t.pln.ready = false ∧
        (s.pln.ram.length < 32 → t.pln.ram = []) ∧ t.img.slots = s.img.slots ∧
        (∀ b, (t.bay b).gated = true) ∧ (∀ i, (t.st i).gated = true ∧ (t.pwr.recs.get i).isSome = true))

/-- Wakes: sources, the timer, their registers, the WAKE cell, accesses to gated domains, the ends of NAP and DORMANT, with no image
too (R22, R238, R288, R340 to R344, R346). Waiting accesses and their order are the model's choice (log 21), the running timer's
reading and a wake's landing point are free (log 6), and corners of a wake are the model's readings (logs 20 and 27). -/
def Obligations.Wakes : Prop :=
  ∀ (s : State) (k : Fin 20) (m : Master) (v : Word) (levels : BitVec 16) (c : Cell) (d : Domain) (nets : List (BitVec 256)) (net : BitVec 256),
    let p := s.pwr
    let bit : BitVec 20 := BitVec.ofNat 20 (2 ^ k.val)
    (InRun s → sourceLive k.val s = true →
      exec (.wakeSourceActive k) s = .next (withPwr s { p with wakesrc := p.wakesrc ||| (bit &&& p.wakeen) })) ∧
    (p.stage = .run → p.state = 1 → p.inflight = false → p.caller = none → sourceLive k.val s = true → p.wakeen.getLsbD k.val = true →
      ∃ t, exec (.wakeSourceActive k) s = .next t ∧ t.pwr = { p with state := 0, wakesrc := p.wakesrc ||| bit } ∧ pendBit t 555 = true ∧
        (∀ i, (t.st i).dozed = false)) ∧
    (p.stage = .run → p.inflight = true → p.waking = false → p.caller = none → p.target = 1 → p.reached = 0 → sourceLive k.val s = true →
      p.wakeen.getLsbD k.val = true →
      ∃ t, exec (.wakeSourceActive k) s = .next t ∧ t.pwr.wakesrc = p.wakesrc ||| bit ∧ t.store = s.store ∧
        ((t.pwr.inflight = false ∧ t.pwr.result = 8 ∧ t.pwr.point.toNat ≤ 1 ∧ pendBit t 553 = true) ∨
         (t.pwr.inflight = true ∧ t.pwr.reached = 1))) ∧
    (InRun s → p.wtArmed = true →
      let q := { p with wtimer := p.wtimer &&& 0x80000000#32, wtArmed := false, wakesrc := p.wakesrc ||| (BitVec.ofNat 20 (2 ^ 17) &&& p.wakeen) }
      exec .wakeTimerExpiry s = .next (withPwr s q)) ∧
    (InRun s → RegOpen s m.val .pwr 0x30 true → (s.io.bank.get 0).band.isSome = true →
      let n := field v 19 0
      let now : BitVec 20 := (field (n &&& ~~~p.wakeen) 15 0 &&& ~~~(levels ^^^ p.wakepol)).setWidth 20
      exec (.wakeEnableWrite m false v levels) s =
        .next (answeredOk m.val [] (withPwr s { p with wakeen := n, wakesrc := (p.wakesrc ||| now) &&& n }))) ∧
    (InRun s → RegOpen s m.val .pwr 0x34 true → (s.io.bank.get 0).band.isSome = true →
      let n := field v 15 0
      let now : BitVec 20 := ((n ^^^ p.wakepol) &&& ~~~(levels ^^^ n)).setWidth 20
      exec (.wakeEnableWrite m true v levels) s =
        .next (answeredOk m.val [] (withPwr s { p with wakepol := n, wakesrc := p.wakesrc ||| (now &&& p.wakeen) }))) ∧
    (RegOpen s m.val .pwr 0x3C true → v.toNat % 2 ^ 31 ≠ 0 →
      exec (.wakeTimerWrite m v) s = .next (wroteOk m (withPwr s { p with wtimer := v, wtArmed := true }))) ∧
    (InRun s → Arrives s c 11 →
      exec (.wakeCell c) s = .next (withPwr (withIrs s id) { p with wakesrc := p.wakesrc ||| (BitVec.ofNat 20 (2 ^ 19) &&& p.wakeen) })) ∧
    (asleep d s = true → off d s = false → p.state ≠ 3 → p.stage = .run →
      exec (.domainWakeAccess m d) s = .next { s with resp := s.resp.set m.val ⟨.waits, []⟩ (by omega) }) ∧
    (off d s = true → p.state ≠ 3 → p.stage = .run → p.begun.contains d = false →
      ∃ t, exec (.domainWakeAccess m d) s = .next t ∧ t.pwr = { p with begun := p.begun ++ [d] } ∧ nth t.resp m.val = some ⟨.waits, []⟩ ∧
        t.bays = s.bays ∧ t.setters = s.setters ∧ (d = .store → t.store = { s.store with retn := false, waking := true }) ∧
        (d ≠ .store → t.store = s.store) ∧ (d = .hod → t.hod = { s.hod with waking := true }) ∧ (d ≠ .hod → t.hod = s.hod)) ∧
    (Quiet s → off d s = true → p.begun.contains d = true → p.state ≠ 3 → p.stage = .run →
      ∃ t, exec (.domainWakeComplete d net) s = .next t ∧ off d t = false ∧ (∀ e, e ≠ d → off e t = off e s) ∧
        (p.state = 2 → p.inflight = false → (∀ e, off e s = true → e = d) → t.pwr.state = 0 ∧ pendBit t 555 = true) ∧
        (∀ e, e ≠ d → off e s = true → t.pwr.state = p.state)) ∧
    (p.state = 2 → p.inflight = false → p.wakesrc ≠ 0 → p.stage = .run → p.begun = [] →
      ∃ t, exec .napWake s = .next t ∧ t.pwr.inflight = true ∧ t.pwr.waking = true ∧ t.pwr.state = 2 ∧ t.store.retn = false ∧
        t.store.waking = (s.store.waking || s.store.retn) ∧ (s.hod.gated = true → t.hod.waking = true) ∧ t.bays = s.bays ∧ t.setters = s.setters) ∧
    (Quiet s → p.state = 2 → p.inflight = true → p.waking = true → p.stage = .run →
      ∃ t, exec (.napWakeRelease nets) s = .next t ∧ AllOn t ∧ t.pwr.begun = [] ∧ t.img = s.img ∧ t.store.mem = s.store.mem ∧
        (p.caller = none → Back s t) ∧ ∀ b, (s.bay b).gated = true → (t.bay b).ffs = []) ∧
    (p.state = 3 → p.inflight = false → p.wakesrc ≠ 0 → p.stage = .run →
      ∃ t, exec .dormantWake s = .next t ∧ t.pwr = { p with inflight := true, waking := true, target := 0, on := true } ∧
        t.clk.devOn = true ∧ t.clk.slock = false ∧ t.clk.hlock = false ∧ t.bays = s.bays ∧ t.store = s.store) ∧
    (p.state = 3 → p.waking = true → p.stage = .run → s.img.hold = false → pllsReady s.clk = true → s.clk.slock = true → s.clk.hlock = true →
      ∃ t, exec (.dormantWakeRelease nets) s = .next t ∧ t.pwr.state = 0 ∧ t.pwr.inflight = false ∧ t.pwr.waking = false ∧ pendBit t 555 = true ∧
        (∀ b, (t.bay b).gated = false) ∧ (∀ i, (t.st i).gated = false) ∧ t.hod.gated = false ∧ t.store.retn = false ∧
        t.img = { s.img with failSlot := 0, failCause := 0, failBay := 0, failFrame := 0, swResult := 0, swBay := 0, swSlot := 0,
                             wrSource := 0, wrSlot := 0, wrResult := 0, wrBytes := 0 } ∧
        t.arb.rbase = s.arb.rbase ∧ t.arb.rlim = s.arb.rlim ∧ t.irs.addr = s.irs.addr ∧ (p.caller = none → Back s t) ∧
        ∀ k, Starts s.pln k → t.pln.ready = true ∧ t.pln.copy = k) ∧
    (p.state = 3 → p.waking = true → p.stage = .run → s.img.hold = true → s.img.noimage = true → s.clk.slock = true → s.clk.hlock = true →
      ∃ t, exec (.dormantWakeRelease nets) s = .next t ∧ t.pwr.state = 0 ∧ t.pwr.inflight = false ∧ t.pwr.waking = false ∧ pendBit t 555 = true ∧
        t.img.hold = true ∧ t.img.noimage = true ∧ t.rstout = true ∧ t.hod.gated = false ∧ t.store.retn = false ∧
        t.arb.rbase = s.arb.rbase ∧ t.arb.rlim = s.arb.rlim ∧ (p.caller = none → Back s t))

/-- Supplies and resets: power-on, the bucks, VSUP's drop before stage 3, PORST_N, the brown-out with its save and what pins show
after it, the restart, RESTORE and DISCARD (R163, R345, R349 to R355). RESTORE with DISCARD is the model's choice (log 15), and what
survives PORST_N is its reading (log 27). -/
def Obligations.SuppliesAndResets : Prop :=
  ∀ (s : State) (m : Master),
    let p := s.pwr
    (p.stage ≠ .saved → ∃ t, exec .powerOn s = .next t ∧ AllReset s t .ao ∧ t.store.mem = [] ∧ t.tap = Tap.reset ∧ t.pwr.page = p.page ∧
      t.pwr.trips = p.trips ∧ t.img.everRel = false ∧ t.pwr.holdok = false) ∧
    (p.stage = .ao → exec .buckStart s = .next (withPwr s { p with stage := .core })) ∧
    (p.stage = .core → ∃ t, exec .vsupEarlyDrop s = .next t ∧ AllReset s t .ao ∧ t.tap = { s.tap with selW := [] } ∧ t.store.mem = [] ∧
      t.pwr.page = p.page ∧ t.pwr.trips = p.trips) ∧
    (p.stage = .run → ∃ t, exec .porstAssert s = .next t ∧ AllReset s t .core ∧ t.tap = { s.tap with selW := [] } ∧ t.store.mem = s.store.mem ∧
      t.pwr.page = p.page ∧ t.pwr.bor = p.bor ∧ t.pln.ring = s.pln.ring ∧ t.pln.calPg = s.pln.calPg ∧ t.pln.lost = 0) ∧
    (p.stage = .saved → ∃ t, exec .porstAssert s = .next t ∧ AllReset s t .saved ∧ t.pwr.page = p.page ∧
      (t.pwr.saving = p.saving ∨ t.pwr.saving = none)) ∧
    (p.stage = .run → exec .vholdCharged s = .next (withPwr s { p with holdok := true })) ∧
    (p.stage = .run → ∃ t g, exec .brownoutTrip s = .next t ∧ t.pwr.stage = .saved ∧ t.pwr.saving = some g ∧ t.pwr.trips = more p.trips ∧
      t.pwr.inflight = false ∧ t.io.trip = true ∧ t.irs.bypopen = false ∧ t.pln.ready = false ∧ t.hst.ready = false ∧
      t.clk.devOn = s.clk.devOn ∧ t.clk.slock = s.clk.slock ∧ t.clk.hlock = s.clk.hlock ∧ (∀ k, (t.clk.pll.get k).lock = false ∧ (t.clk.pll.get k).outs = 0) ∧
      t.img = { s.img with stream := none } ∧ g.noStore = (p.state == 3) ∧ g.tail = s.pln.ram.take 32 ∧
      (∀ i : SetterId, g.recs.get i = (p.recs.get i).getD (recOf (s.st i))) ∧
      (p.state ≠ 3 → g.store = (s.img.ventries.filter (fun e => e.kind == 3)).map (fun e =>
        (e.addr, (List.range e.len).map (fun k => storeByteAt s (e.addr + k)))))) ∧
    (p.stage = .saved → s.io.trip = true → ∃ t, exec .brownoutSaveAbandon s = .next t ∧ SaveOver s t none) ∧
    (p.stage = .saved → s.io.trip = false → exec .brownoutSaveAbandon s = .next s) ∧
    (p.stage = .saved → ∃ t, exec .powerOn s = .next t ∧ t.store.mem = [] ∧ t.tap = Tap.reset ∧ t.pwr.stage = .saved ∧
      t.pwr.saving = p.saving ∧ t.pwr.page = p.page ∧ t.io.trip = false ∧ (s.io.trip = true → t.faultn = true ∧ t.rstout = true ∧ t.pwr.on = false)) ∧
    (p.stage = .saved → s.io.trip = true → SaveOver s (saveMoves s) p.saving ∨ saveMoves s = { s with free := s.free + 1 }) ∧
    (p.stage = .saved → ∃ t, exec .brownoutRestart s = .next t ∧ AllReset s t .core ∧ t.store.mem = [] ∧
      (∀ g, p.saving = some g → t.pwr.page = some g ∧ t.pwr.bor = true ∧ t.pwr.incomplete = false ∧ t.pwr.nostore = g.noStore) ∧
      (p.saving = none → t.pwr.page = p.page ∧ t.pwr.incomplete = true ∧ t.pwr.bor = p.bor)) ∧
    (RegOpen s m.val .pwr 0x44 true → p.bor = true → p.bobusy = false →
      exec (.brownoutRestoreCmd m) s = .next (wroteOk m (withPwr s { p with bobusy := true })) ∧
      exec (.brownoutDiscard m) s = .next (wroteOk m (withPwr s { p with bor := false }))) ∧
    (∀ g, p.bobusy = true → p.page = some g → ∃ t, exec .brownoutRestoreDone s = .next t ∧
      t = { s with store := { s.store with mem := t.store.mem, err := t.store.err },
                   pwr := { p with bobusy := false, restored := true, bor := false, user := g.user } } ∧
      ∀ a, storeByteAt t a = overlay g.store (storeByteAt s) a)

/-- A slice that ends by its work or its budget, and the test access port: its standard instructions, the image controls, the probe
selection and capture (R361 to R363, R366 to R368, R370 to R377). Durations that no rule states are free (log 9), and corners of the
image control are the model's readings (log 19). -/
def Obligations.TestsAndTap : Prop :=
  ∀ (s : State) (upd seen : BitVec 441) (v : Word) (w : Byte) (lines : BitVec 512),
    (∀ x b, s.bst.slice = some x → testBlock x.block.toNat = some b → AtTest s b → overBudget s b x = false →
      (x.fail = none →
        (∃ t, exec (.testSliceDone none) s = .next t ∧ TestEnded s t x 1 0xFF ∧ Rejoined s t x b true) ∧
        (∀ f, failAtOk b x f.toNat = true → ∃ t, exec (.testSliceDone (some f)) s = .next t ∧ TestEnded s t x 2 f ∧ Rejoined s t x b true)) ∧
      (∀ p, x.fail = some p → ∃ t, exec (.testSliceDone none) s = .next t ∧ TestEnded s t x 2 p ∧ Rejoined s t x b true) ∧
      exec .testBudgetExpiry s = .next s) ∧
    (∀ x b, s.bst.slice = some x → testBlock x.block.toNat = some b → AtTest s b → overBudget s b x = true →
      (∃ t, exec .testBudgetExpiry s = .next t ∧ TestCut s t x 1 ∧ Rejoined s t x b false) ∧ ∀ f, exec (.testSliceDone f) s = .next s) ∧
    (∀ x b, s.bst.slice = some x → testBlock x.block.toNat = some b → ¬AtTest s b →
      exec .testBudgetExpiry s = .next s ∧ ∀ f, exec (.testSliceDone f) s = .next s) ∧
    (∀ b ∈ sysBalls, vio4 s = true → s.pwr.stage ≠ .off → s.io.trip = false → (s.tap.ir = 0 ∨ s.tap.ir = 3 ∨ s.tap.ir = 4) →
      sysDrive s b = if s.tap.ir ≠ 4 ∧ s.tap.upd.getLsbD (b.outCell + 1) = true ∧ (s.tap.upd.getLsbD b.outCell = false ∨ b.openDrain = false) then
        .level (s.tap.upd.getLsbD b.outCell) else .off) ∧
    (∀ b, vio4 s = true → s.pwr.stage ≠ .off → (s.io.trip = true ∨ (s.tap.ir ≠ 0 ∧ s.tap.ir ≠ 3 ∧ s.tap.ir ≠ 4)) →
      (b = .rstout → sysDrive s b = if s.rstout then .level false else .off) ∧ (b = .fault → sysDrive s b = if s.faultn then .level false else .off) ∧
      (s.pwr.state = 3 → (b = .csck → sysDrive s b = .weak false) ∧ (b = .ccs → sysDrive s b = .weak true))) ∧
    ∃ k, KeepersTake s k ∧
    (exec .tapReset s = .next { keeping s k with tap := { s.tap with ir := 2 } }) ∧
    (TapUp s →
      (∃ cap, Captured s 0x00 seen cap ∧ exec (.extest upd seen) s = .next (scannedPins k s 0x00 upd cap)) ∧
      (∃ cap, Captured s 0x01 seen cap ∧ exec (.samplePreload upd seen) s = .next (scannedPins k s 0x01 upd cap)) ∧
      (∃ r : BitVec 4, exec .idcode s = .next (scanned k s 0x02 (BitVec.ofNat 512 (2 ^ 28 * r.toNat + 0x057095AB)))) ∧
      exec .clamp s = .next (scanned k s 0x03 0) ∧ exec .highz s = .next (scanned k s 0x04 0) ∧ exec .bypass s = .next (scanned k s 0xFF 0)) ∧
    (TapUp s → ¬PrivateUp s →
      exec (.zimgctlOpen v) s = .next (scanned k s 0x20 0) ∧ exec .zimgctlAbort s = .next (scanned k s 0x20 0) ∧
      exec (.zimgdata v) s = .next (scanned k s 0x21 0) ∧ exec (.zboot w) s = .next (scanned k s 0x22 0) ∧
      exec (.zprobesel v) s = .next (scanned k s 0x30 0) ∧ exec (.zprobecap lines) s = .next (scanned k s 0x31 0)) ∧
    (PrivateUp s → v.getLsbD 31 = true →
      let u := scanned k s 0x20 ((zimgWord s).setWidth 512)
      (s.bst.imgen = true → s.img.stream = none → v.toNat % 4 ≠ 3 →
        ∃ t x, exec (.zimgctlOpen v) s = .next t ∧ t = { u with img := t.img, tap := { u.tap with refused := false } } ∧
          t.img.slots = s.img.slots ∧ t.img.stream = some x ∧ x.src = .jtag ∧ x.target = v.toNat % 4 ∧ x.got = 0 ∧ x.begun = false) ∧
      (s.bst.imgen = false ∨ s.img.stream ≠ none →
        exec (.zimgctlOpen v) s = .next { u with tap := { u.tap with refused := true } })) ∧
    (PrivateUp s →
      let u := scanned k s 0x20 ((zimgWord s).setWidth 512)
      (∀ x, TapStream s x → x.begun = true → x.target < 3 → s.pln.owed = none →
        ∃ t, exec .zimgctlAbort s = .next t ∧ SlotEnds u t x.target 7 3 611 ∧ t.tap = u.tap) ∧
      ((∀ x, s.img.stream = some x → x.src ≠ .jtag) → exec .zimgctlAbort s = .next u)) ∧
    (PrivateUp s →
      let u := scanned k s 0x21 ((zimgWord s).setWidth 512)
      (∀ x, TapStream s x → x.got + 4 < 17920 → ∃ t, exec (.zimgdata v) s = .next t ∧ TookBytes u t x (leBytes 4 v.toNat)) ∧
      ((∀ x, s.img.stream = some x → x.src ≠ .jtag) → exec (.zimgdata v) s = .next u)) ∧
    (PrivateUp s →
      (s.img.mode.toNat % 4 = 3 → w.getLsbD 7 = true → w.toNat % 4 ≠ 3 → s.img.noimage = false →
        ∃ t, exec (.zboot w) s = .next t ∧ Held t ∧ t.img.cands = after0 (BitVec.ofNat 2 w.toNat) ∧ t.img.load = none ∧ t.tap.ir = 0x22 ∧
          t.img.slots = s.img.slots) ∧
      ((s.img.mode.toNat % 4 ≠ 3 ∨ w.getLsbD 7 = false ∨ s.img.noimage = true) → exec (.zboot w) s = .next (scanned k s 0x22 ((zbootWord s.img).setWidth 512)))) ∧
    (PrivateUp s → s.bst.probeen = true → v.toNat / 2 ^ 12 % 2 ^ 9 = 0 →
      ∀ b : BayId, b.val = v.toNat / 2 ^ 24 % 64 → asleep (.bay b) s = false →
        let n := v.toNat / 2 ^ 21 % 8
        ∃ t x, exec (.zprobesel v) s = .next t ∧ t.tap = { (scanned k s 0x30 (s.tap.probe.setWidth 512)).tap with probe := v } ∧
          t.bay b = { s.bay b with probe := x } ∧ nth x n = some ((v &&& 0x80000FFF#32) ||| (if v.getLsbD 30 then 0x1000#32 else 0)) ∧
          (∀ j, j ≠ n → nth x j = nth (s.bay b).probe j) ∧ (∀ c, c ≠ b → t.bay c = s.bay c) ∧ t.setters = s.setters ∧ t.store = s.store) ∧
    (PrivateUp s → s.bst.probeen = true → v.toNat / 2 ^ 12 % 2 ^ 9 = 0 →
      ∀ b : BayId, b.val = v.toNat / 2 ^ 24 % 64 → asleep (.bay b) s = true →
        ∃ t, exec (.zprobesel v) s = .next t ∧
          t.tap = { (scanned k s 0x30 (s.tap.probe.setWidth 512)).tap with probe := v, selW := s.tap.selW ++ [v] } ∧
          t.bays = s.bays ∧ t.setters = s.setters ∧ t.store = s.store ∧ t.resp = s.resp ∧ t.arb = s.arb) ∧
    (PrivateUp s → ∃ cap, exec (.zprobecap lines) s = .next (scanned k s 0x31 cap) ∧
      ∀ (b : BayId) (n : Fin 8), cap.getLsbD (8 * b.val + n.val) =
        (s.bst.probeen && lines.getLsbD (8 * b.val + n.val) && (s.bay b).runs && ((s.bay b).probe.get n).getLsbD 31))

/-- A step runs the command at the front of the queue on the state with the queue's rest; on an empty queue a moment passes, which
leaves the queue empty (the model's choice, log 35). -/
def Obligations.StepRunsFront : Prop :=
  ∀ (c : Instr) (s : State),
    step { s with pending := c :: s.pending } = exec c s ∧ (s.pending = [] → step s = .next (idle s) ∧ (idle s).pending = [])

/-- A command's effect leaves the queue of waiting commands alone, and every command has one (log 1). -/
def Obligations.CommandsKeepQueue : Prop :=
  ∀ (c : Instr) (s : State), ∃ t, exec c s = .next t ∧ t.pending = s.pending

/-- Every step keeps the form of the state. The list of written bytes is the model's form of the store (log 8), and that the registers
of masters 30 and 31 read 0 and ignore writes is its reading (log 26). -/
def Obligations.StepKeepsForm : Prop := ∀ (s t : State), Form s → step s = .next t → Form t

/-- The state right after reset has that form. The list of written bytes is the model's form of the store (log 8), and that the
registers of masters 30 and 31 read 0 and ignore writes is its reading (log 26). -/
def Obligations.ResetHasForm : Prop := Form State.reset

/-- What reset leaves, as the spec gives it: setters, regional resets, pins, regions, bond tables, chain, repointers, plinth,
self-test and the test access port (R37, R152, R163, R187, R201, R243, R298, R309, R329, R361, R370). -/
def Obligations.ResetState : Prop :=
  let s := State.reset
  (∀ i, (s.st i).pc = 0 ∧ (s.st i).g = Vector.replicate 16 0 ∧ (s.st i).acc = 0 ∧ (s.st i).bdepth = 0 ∧ (s.st i).tag = 0 ∧ (s.st i).fen = false ∧
    (s.st i).run = false ∧ (s.st i).stopped = true ∧ (s.st i).evl = 0 ∧ (s.st i).tm = false) ∧
  (∀ b, (s.bay b).tree = 15 ∧ (s.bay b).rclk = Vector.replicate 4 RClk.reset) ∧
  (∀ k, (s.io.bank.get k).vioerr = false) ∧
  (∀ m : Fin 32, s.arb.rbase.get m = (if m.val = 16 ∨ m.val = 17 then #v[7, 0, 0, 0, 0, 0, 0, 0]
      else if m.val = 18 then #v[0x007FC007, 0, 0, 0, 0, 0, 0, 0] else Vector.replicate 8 0) ∧
    s.arb.rlim.get m = (if m.val = 16 ∨ m.val = 17 then #v[0xFFFFF000, 0, 0, 0, 0, 0, 0, 0]
      else if m.val = 18 then #v[0x007FF000, 0, 0, 0, 0, 0, 0, 0] else Vector.replicate 8 0)) ∧
  (s.arb.bond.act = Vector.replicate 64 0 ∧ s.arb.bond.next = Vector.replicate 64 0 ∧ s.irs.bond.act = Vector.replicate 64 0) ∧
  (s.irs.chen = false ∧ s.irs.bypopen = false ∧ s.irs.ken = false ∧ s.irs.addrv = false) ∧
  (s.rptHb = 100 ∧ ∀ w, vote (s.rpt.get w).copy = 1) ∧
  (s.pln.ready = false ∧ s.pln.romonly = false ∧ s.pln.cmdenQ = 0x3F ∧ s.pln.cmdenI = 0x3F ∧ s.pln.armed = 0xFFFFFFFF ∧ s.pln.sensen = 0) ∧
  (s.bst.budget = 250 ∧ s.bst.slice = none) ∧ s.tap.ir = 2 ∧ s.img.hold = true ∧ s.pwr.state = 0 ∧ s.pending = []

/-- A setter's instruction in program memory: the decoder gives back the instruction that was encoded, and every word that spells an
instruction is that instruction's own word; the words that the spec prints stand for the instructions that it names (R75 to R77, R82,
R85, R89 to R91, R93 to R95, R97, R100 to R104). -/
def Obligations.InstructionWords : Prop :=
  (∀ c e, encodeWord c = some e → decodeWord e.s e.word e.net e.nets = c) ∧
  (∀ s w net nets, ¬Reserved (decodeWord s w net nets) →
    ∃ e, encodeWord (decodeWord s w net nets) = some e ∧ e.s = s ∧ e.word = w) ∧
  ∀ s net nets, printed s net nets
end

