-- ==== Sys2Proof/Laws/State.lean ====
section
/-! SUPPORT. One lemma per field per update of the state, true by rfl, so that no proof unfolds a record update. -/

namespace Sys2Proof.Machine

/-! State.putS -/

@[simp] theorem State.putS_bays (s : State) (i : SetterId) (x : Setter) : (s.putS i x).bays = s.bays := rfl
@[simp] theorem State.putS_io (s : State) (i : SetterId) (x : Setter) : (s.putS i x).io = s.io := rfl
@[simp] theorem State.putS_clk (s : State) (i : SetterId) (x : Setter) : (s.putS i x).clk = s.clk := rfl
@[simp] theorem State.putS_store (s : State) (i : SetterId) (x : Setter) : (s.putS i x).store = s.store := rfl
@[simp] theorem State.putS_arb (s : State) (i : SetterId) (x : Setter) : (s.putS i x).arb = s.arb := rfl
@[simp] theorem State.putS_hod (s : State) (i : SetterId) (x : Setter) : (s.putS i x).hod = s.hod := rfl
@[simp] theorem State.putS_irs (s : State) (i : SetterId) (x : Setter) : (s.putS i x).irs = s.irs := rfl
@[simp] theorem State.putS_hst (s : State) (i : SetterId) (x : Setter) : (s.putS i x).hst = s.hst := rfl
@[simp] theorem State.putS_img (s : State) (i : SetterId) (x : Setter) : (s.putS i x).img = s.img := rfl
@[simp] theorem State.putS_rpt (s : State) (i : SetterId) (x : Setter) : (s.putS i x).rpt = s.rpt := rfl
@[simp] theorem State.putS_rptHb (s : State) (i : SetterId) (x : Setter) : (s.putS i x).rptHb = s.rptHb := rfl
@[simp] theorem State.putS_pln (s : State) (i : SetterId) (x : Setter) : (s.putS i x).pln = s.pln := rfl
@[simp] theorem State.putS_pwr (s : State) (i : SetterId) (x : Setter) : (s.putS i x).pwr = s.pwr := rfl
@[simp] theorem State.putS_bst (s : State) (i : SetterId) (x : Setter) : (s.putS i x).bst = s.bst := rfl
@[simp] theorem State.putS_tap (s : State) (i : SetterId) (x : Setter) : (s.putS i x).tap = s.tap := rfl
@[simp] theorem State.putS_evt (s : State) (i : SetterId) (x : Setter) : (s.putS i x).evt = s.evt := rfl
@[simp] theorem State.putS_glb (s : State) (i : SetterId) (x : Setter) : (s.putS i x).glb = s.glb := rfl
@[simp] theorem State.putS_rstout (s : State) (i : SetterId) (x : Setter) : (s.putS i x).rstout = s.rstout := rfl
@[simp] theorem State.putS_faultn (s : State) (i : SetterId) (x : Setter) : (s.putS i x).faultn = s.faultn := rfl
@[simp] theorem State.putS_resp (s : State) (i : SetterId) (x : Setter) : (s.putS i x).resp = s.resp := rfl
@[simp] theorem State.putS_stalled (s : State) (i : SetterId) (x : Setter) : (s.putS i x).stalled = s.stalled := rfl
@[simp] theorem State.putS_free (s : State) (i : SetterId) (x : Setter) : (s.putS i x).free = s.free := rfl
@[simp] theorem State.putS_pending (s : State) (i : SetterId) (x : Setter) : (s.putS i x).pending = s.pending := rfl

/-! State.modS -/

@[simp] theorem State.modS_bays (s : State) (i : SetterId) (f : Setter → Setter) : (s.modS i f).bays = s.bays := rfl
@[simp] theorem State.modS_io (s : State) (i : SetterId) (f : Setter → Setter) : (s.modS i f).io = s.io := rfl
@[simp] theorem State.modS_clk (s : State) (i : SetterId) (f : Setter → Setter) : (s.modS i f).clk = s.clk := rfl
@[simp] theorem State.modS_store (s : State) (i : SetterId) (f : Setter → Setter) : (s.modS i f).store = s.store := rfl
@[simp] theorem State.modS_arb (s : State) (i : SetterId) (f : Setter → Setter) : (s.modS i f).arb = s.arb := rfl
@[simp] theorem State.modS_hod (s : State) (i : SetterId) (f : Setter → Setter) : (s.modS i f).hod = s.hod := rfl
@[simp] theorem State.modS_irs (s : State) (i : SetterId) (f : Setter → Setter) : (s.modS i f).irs = s.irs := rfl
@[simp] theorem State.modS_hst (s : State) (i : SetterId) (f : Setter → Setter) : (s.modS i f).hst = s.hst := rfl
@[simp] theorem State.modS_img (s : State) (i : SetterId) (f : Setter → Setter) : (s.modS i f).img = s.img := rfl
@[simp] theorem State.modS_rpt (s : State) (i : SetterId) (f : Setter → Setter) : (s.modS i f).rpt = s.rpt := rfl
@[simp] theorem State.modS_rptHb (s : State) (i : SetterId) (f : Setter → Setter) : (s.modS i f).rptHb = s.rptHb := rfl
@[simp] theorem State.modS_pln (s : State) (i : SetterId) (f : Setter → Setter) : (s.modS i f).pln = s.pln := rfl
@[simp] theorem State.modS_pwr (s : State) (i : SetterId) (f : Setter → Setter) : (s.modS i f).pwr = s.pwr := rfl
@[simp] theorem State.modS_bst (s : State) (i : SetterId) (f : Setter → Setter) : (s.modS i f).bst = s.bst := rfl
@[simp] theorem State.modS_tap (s : State) (i : SetterId) (f : Setter → Setter) : (s.modS i f).tap = s.tap := rfl
@[simp] theorem State.modS_evt (s : State) (i : SetterId) (f : Setter → Setter) : (s.modS i f).evt = s.evt := rfl
@[simp] theorem State.modS_glb (s : State) (i : SetterId) (f : Setter → Setter) : (s.modS i f).glb = s.glb := rfl
@[simp] theorem State.modS_rstout (s : State) (i : SetterId) (f : Setter → Setter) : (s.modS i f).rstout = s.rstout := rfl
@[simp] theorem State.modS_faultn (s : State) (i : SetterId) (f : Setter → Setter) : (s.modS i f).faultn = s.faultn := rfl
@[simp] theorem State.modS_resp (s : State) (i : SetterId) (f : Setter → Setter) : (s.modS i f).resp = s.resp := rfl
@[simp] theorem State.modS_stalled (s : State) (i : SetterId) (f : Setter → Setter) : (s.modS i f).stalled = s.stalled := rfl
@[simp] theorem State.modS_free (s : State) (i : SetterId) (f : Setter → Setter) : (s.modS i f).free = s.free := rfl
@[simp] theorem State.modS_pending (s : State) (i : SetterId) (f : Setter → Setter) : (s.modS i f).pending = s.pending := rfl

/-! State.modBay -/

@[simp] theorem State.modBay_setters (s : State) (b : BayId) (f : Bay → Bay) : (s.modBay b f).setters = s.setters := rfl
@[simp] theorem State.modBay_io (s : State) (b : BayId) (f : Bay → Bay) : (s.modBay b f).io = s.io := rfl
@[simp] theorem State.modBay_clk (s : State) (b : BayId) (f : Bay → Bay) : (s.modBay b f).clk = s.clk := rfl
@[simp] theorem State.modBay_store (s : State) (b : BayId) (f : Bay → Bay) : (s.modBay b f).store = s.store := rfl
@[simp] theorem State.modBay_arb (s : State) (b : BayId) (f : Bay → Bay) : (s.modBay b f).arb = s.arb := rfl
@[simp] theorem State.modBay_hod (s : State) (b : BayId) (f : Bay → Bay) : (s.modBay b f).hod = s.hod := rfl
@[simp] theorem State.modBay_irs (s : State) (b : BayId) (f : Bay → Bay) : (s.modBay b f).irs = s.irs := rfl
@[simp] theorem State.modBay_hst (s : State) (b : BayId) (f : Bay → Bay) : (s.modBay b f).hst = s.hst := rfl
@[simp] theorem State.modBay_img (s : State) (b : BayId) (f : Bay → Bay) : (s.modBay b f).img = s.img := rfl
@[simp] theorem State.modBay_rpt (s : State) (b : BayId) (f : Bay → Bay) : (s.modBay b f).rpt = s.rpt := rfl
@[simp] theorem State.modBay_rptHb (s : State) (b : BayId) (f : Bay → Bay) : (s.modBay b f).rptHb = s.rptHb := rfl
@[simp] theorem State.modBay_pln (s : State) (b : BayId) (f : Bay → Bay) : (s.modBay b f).pln = s.pln := rfl
@[simp] theorem State.modBay_pwr (s : State) (b : BayId) (f : Bay → Bay) : (s.modBay b f).pwr = s.pwr := rfl
@[simp] theorem State.modBay_bst (s : State) (b : BayId) (f : Bay → Bay) : (s.modBay b f).bst = s.bst := rfl
@[simp] theorem State.modBay_tap (s : State) (b : BayId) (f : Bay → Bay) : (s.modBay b f).tap = s.tap := rfl
@[simp] theorem State.modBay_evt (s : State) (b : BayId) (f : Bay → Bay) : (s.modBay b f).evt = s.evt := rfl
@[simp] theorem State.modBay_glb (s : State) (b : BayId) (f : Bay → Bay) : (s.modBay b f).glb = s.glb := rfl
@[simp] theorem State.modBay_rstout (s : State) (b : BayId) (f : Bay → Bay) : (s.modBay b f).rstout = s.rstout := rfl
@[simp] theorem State.modBay_faultn (s : State) (b : BayId) (f : Bay → Bay) : (s.modBay b f).faultn = s.faultn := rfl
@[simp] theorem State.modBay_resp (s : State) (b : BayId) (f : Bay → Bay) : (s.modBay b f).resp = s.resp := rfl
@[simp] theorem State.modBay_stalled (s : State) (b : BayId) (f : Bay → Bay) : (s.modBay b f).stalled = s.stalled := rfl
@[simp] theorem State.modBay_free (s : State) (b : BayId) (f : Bay → Bay) : (s.modBay b f).free = s.free := rfl
@[simp] theorem State.modBay_pending (s : State) (b : BayId) (f : Bay → Bay) : (s.modBay b f).pending = s.pending := rfl

/-! State.modBayN -/

@[simp] theorem State.modBayN_setters (s : State) (b : Nat) (f : Bay → Bay) : (s.modBayN b f).setters = s.setters := rfl
@[simp] theorem State.modBayN_io (s : State) (b : Nat) (f : Bay → Bay) : (s.modBayN b f).io = s.io := rfl
@[simp] theorem State.modBayN_clk (s : State) (b : Nat) (f : Bay → Bay) : (s.modBayN b f).clk = s.clk := rfl
@[simp] theorem State.modBayN_store (s : State) (b : Nat) (f : Bay → Bay) : (s.modBayN b f).store = s.store := rfl
@[simp] theorem State.modBayN_arb (s : State) (b : Nat) (f : Bay → Bay) : (s.modBayN b f).arb = s.arb := rfl
@[simp] theorem State.modBayN_hod (s : State) (b : Nat) (f : Bay → Bay) : (s.modBayN b f).hod = s.hod := rfl
@[simp] theorem State.modBayN_irs (s : State) (b : Nat) (f : Bay → Bay) : (s.modBayN b f).irs = s.irs := rfl
@[simp] theorem State.modBayN_hst (s : State) (b : Nat) (f : Bay → Bay) : (s.modBayN b f).hst = s.hst := rfl
@[simp] theorem State.modBayN_img (s : State) (b : Nat) (f : Bay → Bay) : (s.modBayN b f).img = s.img := rfl
@[simp] theorem State.modBayN_rpt (s : State) (b : Nat) (f : Bay → Bay) : (s.modBayN b f).rpt = s.rpt := rfl
@[simp] theorem State.modBayN_rptHb (s : State) (b : Nat) (f : Bay → Bay) : (s.modBayN b f).rptHb = s.rptHb := rfl
@[simp] theorem State.modBayN_pln (s : State) (b : Nat) (f : Bay → Bay) : (s.modBayN b f).pln = s.pln := rfl
@[simp] theorem State.modBayN_pwr (s : State) (b : Nat) (f : Bay → Bay) : (s.modBayN b f).pwr = s.pwr := rfl
@[simp] theorem State.modBayN_bst (s : State) (b : Nat) (f : Bay → Bay) : (s.modBayN b f).bst = s.bst := rfl
@[simp] theorem State.modBayN_tap (s : State) (b : Nat) (f : Bay → Bay) : (s.modBayN b f).tap = s.tap := rfl
@[simp] theorem State.modBayN_evt (s : State) (b : Nat) (f : Bay → Bay) : (s.modBayN b f).evt = s.evt := rfl
@[simp] theorem State.modBayN_glb (s : State) (b : Nat) (f : Bay → Bay) : (s.modBayN b f).glb = s.glb := rfl
@[simp] theorem State.modBayN_rstout (s : State) (b : Nat) (f : Bay → Bay) : (s.modBayN b f).rstout = s.rstout := rfl
@[simp] theorem State.modBayN_faultn (s : State) (b : Nat) (f : Bay → Bay) : (s.modBayN b f).faultn = s.faultn := rfl
@[simp] theorem State.modBayN_resp (s : State) (b : Nat) (f : Bay → Bay) : (s.modBayN b f).resp = s.resp := rfl
@[simp] theorem State.modBayN_stalled (s : State) (b : Nat) (f : Bay → Bay) : (s.modBayN b f).stalled = s.stalled := rfl
@[simp] theorem State.modBayN_free (s : State) (b : Nat) (f : Bay → Bay) : (s.modBayN b f).free = s.free := rfl
@[simp] theorem State.modBayN_pending (s : State) (b : Nat) (f : Bay → Bay) : (s.modBayN b f).pending = s.pending := rfl

/-! State.usedFree -/

@[simp] theorem State.usedFree_setters (s : State) : (s.usedFree).setters = s.setters := rfl
@[simp] theorem State.usedFree_bays (s : State) : (s.usedFree).bays = s.bays := rfl
@[simp] theorem State.usedFree_io (s : State) : (s.usedFree).io = s.io := rfl
@[simp] theorem State.usedFree_clk (s : State) : (s.usedFree).clk = s.clk := rfl
@[simp] theorem State.usedFree_store (s : State) : (s.usedFree).store = s.store := rfl
@[simp] theorem State.usedFree_arb (s : State) : (s.usedFree).arb = s.arb := rfl
@[simp] theorem State.usedFree_hod (s : State) : (s.usedFree).hod = s.hod := rfl
@[simp] theorem State.usedFree_irs (s : State) : (s.usedFree).irs = s.irs := rfl
@[simp] theorem State.usedFree_hst (s : State) : (s.usedFree).hst = s.hst := rfl
@[simp] theorem State.usedFree_img (s : State) : (s.usedFree).img = s.img := rfl
@[simp] theorem State.usedFree_rpt (s : State) : (s.usedFree).rpt = s.rpt := rfl
@[simp] theorem State.usedFree_rptHb (s : State) : (s.usedFree).rptHb = s.rptHb := rfl
@[simp] theorem State.usedFree_pln (s : State) : (s.usedFree).pln = s.pln := rfl
@[simp] theorem State.usedFree_pwr (s : State) : (s.usedFree).pwr = s.pwr := rfl
@[simp] theorem State.usedFree_bst (s : State) : (s.usedFree).bst = s.bst := rfl
@[simp] theorem State.usedFree_tap (s : State) : (s.usedFree).tap = s.tap := rfl
@[simp] theorem State.usedFree_evt (s : State) : (s.usedFree).evt = s.evt := rfl
@[simp] theorem State.usedFree_glb (s : State) : (s.usedFree).glb = s.glb := rfl
@[simp] theorem State.usedFree_rstout (s : State) : (s.usedFree).rstout = s.rstout := rfl
@[simp] theorem State.usedFree_faultn (s : State) : (s.usedFree).faultn = s.faultn := rfl
@[simp] theorem State.usedFree_resp (s : State) : (s.usedFree).resp = s.resp := rfl
@[simp] theorem State.usedFree_stalled (s : State) : (s.usedFree).stalled = s.stalled := rfl
@[simp] theorem State.usedFree_pending (s : State) : (s.usedFree).pending = s.pending := rfl

/-! State.respond -/

@[simp] theorem State.respond_setters (s : State) (m : Nat) (c : RespCode) (d : List Byte) : (s.respond m c d).setters = s.setters := rfl
@[simp] theorem State.respond_bays (s : State) (m : Nat) (c : RespCode) (d : List Byte) : (s.respond m c d).bays = s.bays := rfl
@[simp] theorem State.respond_io (s : State) (m : Nat) (c : RespCode) (d : List Byte) : (s.respond m c d).io = s.io := rfl
@[simp] theorem State.respond_clk (s : State) (m : Nat) (c : RespCode) (d : List Byte) : (s.respond m c d).clk = s.clk := rfl
@[simp] theorem State.respond_store (s : State) (m : Nat) (c : RespCode) (d : List Byte) : (s.respond m c d).store = s.store := rfl
@[simp] theorem State.respond_arb (s : State) (m : Nat) (c : RespCode) (d : List Byte) : (s.respond m c d).arb = s.arb := rfl
@[simp] theorem State.respond_hod (s : State) (m : Nat) (c : RespCode) (d : List Byte) : (s.respond m c d).hod = s.hod := rfl
@[simp] theorem State.respond_irs (s : State) (m : Nat) (c : RespCode) (d : List Byte) : (s.respond m c d).irs = s.irs := rfl
@[simp] theorem State.respond_hst (s : State) (m : Nat) (c : RespCode) (d : List Byte) : (s.respond m c d).hst = s.hst := rfl
@[simp] theorem State.respond_img (s : State) (m : Nat) (c : RespCode) (d : List Byte) : (s.respond m c d).img = s.img := rfl
@[simp] theorem State.respond_rpt (s : State) (m : Nat) (c : RespCode) (d : List Byte) : (s.respond m c d).rpt = s.rpt := rfl
@[simp] theorem State.respond_rptHb (s : State) (m : Nat) (c : RespCode) (d : List Byte) : (s.respond m c d).rptHb = s.rptHb := rfl
@[simp] theorem State.respond_pln (s : State) (m : Nat) (c : RespCode) (d : List Byte) : (s.respond m c d).pln = s.pln := rfl
@[simp] theorem State.respond_pwr (s : State) (m : Nat) (c : RespCode) (d : List Byte) : (s.respond m c d).pwr = s.pwr := rfl
@[simp] theorem State.respond_bst (s : State) (m : Nat) (c : RespCode) (d : List Byte) : (s.respond m c d).bst = s.bst := rfl
@[simp] theorem State.respond_tap (s : State) (m : Nat) (c : RespCode) (d : List Byte) : (s.respond m c d).tap = s.tap := rfl
@[simp] theorem State.respond_evt (s : State) (m : Nat) (c : RespCode) (d : List Byte) : (s.respond m c d).evt = s.evt := rfl
@[simp] theorem State.respond_glb (s : State) (m : Nat) (c : RespCode) (d : List Byte) : (s.respond m c d).glb = s.glb := rfl
@[simp] theorem State.respond_rstout (s : State) (m : Nat) (c : RespCode) (d : List Byte) : (s.respond m c d).rstout = s.rstout := rfl
@[simp] theorem State.respond_faultn (s : State) (m : Nat) (c : RespCode) (d : List Byte) : (s.respond m c d).faultn = s.faultn := rfl
@[simp] theorem State.respond_stalled (s : State) (m : Nat) (c : RespCode) (d : List Byte) : (s.respond m c d).stalled = s.stalled := rfl
@[simp] theorem State.respond_free (s : State) (m : Nat) (c : RespCode) (d : List Byte) : (s.respond m c d).free = s.free := rfl
@[simp] theorem State.respond_pending (s : State) (m : Nat) (c : RespCode) (d : List Byte) : (s.respond m c d).pending = s.pending := rfl

/-! putPend -/

@[simp] theorem putPend_setters (n : Nat) (b : Bool) (s : State) : (putPend n b s).setters = s.setters := rfl
@[simp] theorem putPend_bays (n : Nat) (b : Bool) (s : State) : (putPend n b s).bays = s.bays := rfl
@[simp] theorem putPend_io (n : Nat) (b : Bool) (s : State) : (putPend n b s).io = s.io := rfl
@[simp] theorem putPend_clk (n : Nat) (b : Bool) (s : State) : (putPend n b s).clk = s.clk := rfl
@[simp] theorem putPend_store (n : Nat) (b : Bool) (s : State) : (putPend n b s).store = s.store := rfl
@[simp] theorem putPend_arb (n : Nat) (b : Bool) (s : State) : (putPend n b s).arb = s.arb := rfl
@[simp] theorem putPend_hod (n : Nat) (b : Bool) (s : State) : (putPend n b s).hod = s.hod := rfl
@[simp] theorem putPend_irs (n : Nat) (b : Bool) (s : State) : (putPend n b s).irs = s.irs := rfl
@[simp] theorem putPend_hst (n : Nat) (b : Bool) (s : State) : (putPend n b s).hst = s.hst := rfl
@[simp] theorem putPend_img (n : Nat) (b : Bool) (s : State) : (putPend n b s).img = s.img := rfl
@[simp] theorem putPend_rpt (n : Nat) (b : Bool) (s : State) : (putPend n b s).rpt = s.rpt := rfl
@[simp] theorem putPend_rptHb (n : Nat) (b : Bool) (s : State) : (putPend n b s).rptHb = s.rptHb := rfl
@[simp] theorem putPend_pln (n : Nat) (b : Bool) (s : State) : (putPend n b s).pln = s.pln := rfl
@[simp] theorem putPend_pwr (n : Nat) (b : Bool) (s : State) : (putPend n b s).pwr = s.pwr := rfl
@[simp] theorem putPend_bst (n : Nat) (b : Bool) (s : State) : (putPend n b s).bst = s.bst := rfl
@[simp] theorem putPend_tap (n : Nat) (b : Bool) (s : State) : (putPend n b s).tap = s.tap := rfl
@[simp] theorem putPend_glb (n : Nat) (b : Bool) (s : State) : (putPend n b s).glb = s.glb := rfl
@[simp] theorem putPend_rstout (n : Nat) (b : Bool) (s : State) : (putPend n b s).rstout = s.rstout := rfl
@[simp] theorem putPend_faultn (n : Nat) (b : Bool) (s : State) : (putPend n b s).faultn = s.faultn := rfl
@[simp] theorem putPend_resp (n : Nat) (b : Bool) (s : State) : (putPend n b s).resp = s.resp := rfl
@[simp] theorem putPend_stalled (n : Nat) (b : Bool) (s : State) : (putPend n b s).stalled = s.stalled := rfl
@[simp] theorem putPend_free (n : Nat) (b : Bool) (s : State) : (putPend n b s).free = s.free := rfl
@[simp] theorem putPend_pending (n : Nat) (b : Bool) (s : State) : (putPend n b s).pending = s.pending := rfl

/-! setPend -/

@[simp] theorem setPend_setters (n : Nat) (s : State) : (setPend n s).setters = s.setters := rfl
@[simp] theorem setPend_bays (n : Nat) (s : State) : (setPend n s).bays = s.bays := rfl
@[simp] theorem setPend_io (n : Nat) (s : State) : (setPend n s).io = s.io := rfl
@[simp] theorem setPend_clk (n : Nat) (s : State) : (setPend n s).clk = s.clk := rfl
@[simp] theorem setPend_store (n : Nat) (s : State) : (setPend n s).store = s.store := rfl
@[simp] theorem setPend_arb (n : Nat) (s : State) : (setPend n s).arb = s.arb := rfl
@[simp] theorem setPend_hod (n : Nat) (s : State) : (setPend n s).hod = s.hod := rfl
@[simp] theorem setPend_irs (n : Nat) (s : State) : (setPend n s).irs = s.irs := rfl
@[simp] theorem setPend_hst (n : Nat) (s : State) : (setPend n s).hst = s.hst := rfl
@[simp] theorem setPend_img (n : Nat) (s : State) : (setPend n s).img = s.img := rfl
@[simp] theorem setPend_rpt (n : Nat) (s : State) : (setPend n s).rpt = s.rpt := rfl
@[simp] theorem setPend_rptHb (n : Nat) (s : State) : (setPend n s).rptHb = s.rptHb := rfl
@[simp] theorem setPend_pln (n : Nat) (s : State) : (setPend n s).pln = s.pln := rfl
@[simp] theorem setPend_pwr (n : Nat) (s : State) : (setPend n s).pwr = s.pwr := rfl
@[simp] theorem setPend_bst (n : Nat) (s : State) : (setPend n s).bst = s.bst := rfl
@[simp] theorem setPend_tap (n : Nat) (s : State) : (setPend n s).tap = s.tap := rfl
@[simp] theorem setPend_glb (n : Nat) (s : State) : (setPend n s).glb = s.glb := rfl
@[simp] theorem setPend_rstout (n : Nat) (s : State) : (setPend n s).rstout = s.rstout := rfl
@[simp] theorem setPend_faultn (n : Nat) (s : State) : (setPend n s).faultn = s.faultn := rfl
@[simp] theorem setPend_resp (n : Nat) (s : State) : (setPend n s).resp = s.resp := rfl
@[simp] theorem setPend_stalled (n : Nat) (s : State) : (setPend n s).stalled = s.stalled := rfl
@[simp] theorem setPend_free (n : Nat) (s : State) : (setPend n s).free = s.free := rfl
@[simp] theorem setPend_pending (n : Nat) (s : State) : (setPend n s).pending = s.pending := rfl

/-! modImg -/

@[simp] theorem modImg_setters (f : Img → Img) (s : State) : (modImg f s).setters = s.setters := rfl
@[simp] theorem modImg_bays (f : Img → Img) (s : State) : (modImg f s).bays = s.bays := rfl
@[simp] theorem modImg_io (f : Img → Img) (s : State) : (modImg f s).io = s.io := rfl
@[simp] theorem modImg_clk (f : Img → Img) (s : State) : (modImg f s).clk = s.clk := rfl
@[simp] theorem modImg_store (f : Img → Img) (s : State) : (modImg f s).store = s.store := rfl
@[simp] theorem modImg_arb (f : Img → Img) (s : State) : (modImg f s).arb = s.arb := rfl
@[simp] theorem modImg_hod (f : Img → Img) (s : State) : (modImg f s).hod = s.hod := rfl
@[simp] theorem modImg_irs (f : Img → Img) (s : State) : (modImg f s).irs = s.irs := rfl
@[simp] theorem modImg_hst (f : Img → Img) (s : State) : (modImg f s).hst = s.hst := rfl
@[simp] theorem modImg_rpt (f : Img → Img) (s : State) : (modImg f s).rpt = s.rpt := rfl
@[simp] theorem modImg_rptHb (f : Img → Img) (s : State) : (modImg f s).rptHb = s.rptHb := rfl
@[simp] theorem modImg_pln (f : Img → Img) (s : State) : (modImg f s).pln = s.pln := rfl
@[simp] theorem modImg_pwr (f : Img → Img) (s : State) : (modImg f s).pwr = s.pwr := rfl
@[simp] theorem modImg_bst (f : Img → Img) (s : State) : (modImg f s).bst = s.bst := rfl
@[simp] theorem modImg_tap (f : Img → Img) (s : State) : (modImg f s).tap = s.tap := rfl
@[simp] theorem modImg_evt (f : Img → Img) (s : State) : (modImg f s).evt = s.evt := rfl
@[simp] theorem modImg_glb (f : Img → Img) (s : State) : (modImg f s).glb = s.glb := rfl
@[simp] theorem modImg_rstout (f : Img → Img) (s : State) : (modImg f s).rstout = s.rstout := rfl
@[simp] theorem modImg_faultn (f : Img → Img) (s : State) : (modImg f s).faultn = s.faultn := rfl
@[simp] theorem modImg_resp (f : Img → Img) (s : State) : (modImg f s).resp = s.resp := rfl
@[simp] theorem modImg_stalled (f : Img → Img) (s : State) : (modImg f s).stalled = s.stalled := rfl
@[simp] theorem modImg_free (f : Img → Img) (s : State) : (modImg f s).free = s.free := rfl
@[simp] theorem modImg_pending (f : Img → Img) (s : State) : (modImg f s).pending = s.pending := rfl

/-! modPln -/

@[simp] theorem modPln_setters (f : Pln → Pln) (s : State) : (modPln f s).setters = s.setters := rfl
@[simp] theorem modPln_bays (f : Pln → Pln) (s : State) : (modPln f s).bays = s.bays := rfl
@[simp] theorem modPln_io (f : Pln → Pln) (s : State) : (modPln f s).io = s.io := rfl
@[simp] theorem modPln_clk (f : Pln → Pln) (s : State) : (modPln f s).clk = s.clk := rfl
@[simp] theorem modPln_store (f : Pln → Pln) (s : State) : (modPln f s).store = s.store := rfl
@[simp] theorem modPln_arb (f : Pln → Pln) (s : State) : (modPln f s).arb = s.arb := rfl
@[simp] theorem modPln_hod (f : Pln → Pln) (s : State) : (modPln f s).hod = s.hod := rfl
@[simp] theorem modPln_irs (f : Pln → Pln) (s : State) : (modPln f s).irs = s.irs := rfl
@[simp] theorem modPln_hst (f : Pln → Pln) (s : State) : (modPln f s).hst = s.hst := rfl
@[simp] theorem modPln_img (f : Pln → Pln) (s : State) : (modPln f s).img = s.img := rfl
@[simp] theorem modPln_rpt (f : Pln → Pln) (s : State) : (modPln f s).rpt = s.rpt := rfl
@[simp] theorem modPln_rptHb (f : Pln → Pln) (s : State) : (modPln f s).rptHb = s.rptHb := rfl
@[simp] theorem modPln_pwr (f : Pln → Pln) (s : State) : (modPln f s).pwr = s.pwr := rfl
@[simp] theorem modPln_bst (f : Pln → Pln) (s : State) : (modPln f s).bst = s.bst := rfl
@[simp] theorem modPln_tap (f : Pln → Pln) (s : State) : (modPln f s).tap = s.tap := rfl
@[simp] theorem modPln_evt (f : Pln → Pln) (s : State) : (modPln f s).evt = s.evt := rfl
@[simp] theorem modPln_glb (f : Pln → Pln) (s : State) : (modPln f s).glb = s.glb := rfl
@[simp] theorem modPln_rstout (f : Pln → Pln) (s : State) : (modPln f s).rstout = s.rstout := rfl
@[simp] theorem modPln_faultn (f : Pln → Pln) (s : State) : (modPln f s).faultn = s.faultn := rfl
@[simp] theorem modPln_resp (f : Pln → Pln) (s : State) : (modPln f s).resp = s.resp := rfl
@[simp] theorem modPln_stalled (f : Pln → Pln) (s : State) : (modPln f s).stalled = s.stalled := rfl
@[simp] theorem modPln_free (f : Pln → Pln) (s : State) : (modPln f s).free = s.free := rfl
@[simp] theorem modPln_pending (f : Pln → Pln) (s : State) : (modPln f s).pending = s.pending := rfl

/-! modPwr -/

@[simp] theorem modPwr_setters (f : Pwr → Pwr) (s : State) : (modPwr f s).setters = s.setters := rfl
@[simp] theorem modPwr_bays (f : Pwr → Pwr) (s : State) : (modPwr f s).bays = s.bays := rfl
@[simp] theorem modPwr_io (f : Pwr → Pwr) (s : State) : (modPwr f s).io = s.io := rfl
@[simp] theorem modPwr_clk (f : Pwr → Pwr) (s : State) : (modPwr f s).clk = s.clk := rfl
@[simp] theorem modPwr_store (f : Pwr → Pwr) (s : State) : (modPwr f s).store = s.store := rfl
@[simp] theorem modPwr_arb (f : Pwr → Pwr) (s : State) : (modPwr f s).arb = s.arb := rfl
@[simp] theorem modPwr_hod (f : Pwr → Pwr) (s : State) : (modPwr f s).hod = s.hod := rfl
@[simp] theorem modPwr_irs (f : Pwr → Pwr) (s : State) : (modPwr f s).irs = s.irs := rfl
@[simp] theorem modPwr_hst (f : Pwr → Pwr) (s : State) : (modPwr f s).hst = s.hst := rfl
@[simp] theorem modPwr_img (f : Pwr → Pwr) (s : State) : (modPwr f s).img = s.img := rfl
@[simp] theorem modPwr_rpt (f : Pwr → Pwr) (s : State) : (modPwr f s).rpt = s.rpt := rfl
@[simp] theorem modPwr_rptHb (f : Pwr → Pwr) (s : State) : (modPwr f s).rptHb = s.rptHb := rfl
@[simp] theorem modPwr_pln (f : Pwr → Pwr) (s : State) : (modPwr f s).pln = s.pln := rfl
@[simp] theorem modPwr_bst (f : Pwr → Pwr) (s : State) : (modPwr f s).bst = s.bst := rfl
@[simp] theorem modPwr_tap (f : Pwr → Pwr) (s : State) : (modPwr f s).tap = s.tap := rfl
@[simp] theorem modPwr_evt (f : Pwr → Pwr) (s : State) : (modPwr f s).evt = s.evt := rfl
@[simp] theorem modPwr_glb (f : Pwr → Pwr) (s : State) : (modPwr f s).glb = s.glb := rfl
@[simp] theorem modPwr_rstout (f : Pwr → Pwr) (s : State) : (modPwr f s).rstout = s.rstout := rfl
@[simp] theorem modPwr_faultn (f : Pwr → Pwr) (s : State) : (modPwr f s).faultn = s.faultn := rfl
@[simp] theorem modPwr_resp (f : Pwr → Pwr) (s : State) : (modPwr f s).resp = s.resp := rfl
@[simp] theorem modPwr_stalled (f : Pwr → Pwr) (s : State) : (modPwr f s).stalled = s.stalled := rfl
@[simp] theorem modPwr_free (f : Pwr → Pwr) (s : State) : (modPwr f s).free = s.free := rfl
@[simp] theorem modPwr_pending (f : Pwr → Pwr) (s : State) : (modPwr f s).pending = s.pending := rfl

/-! modIrs -/

@[simp] theorem modIrs_setters (f : Irs → Irs) (s : State) : (modIrs f s).setters = s.setters := rfl
@[simp] theorem modIrs_bays (f : Irs → Irs) (s : State) : (modIrs f s).bays = s.bays := rfl
@[simp] theorem modIrs_io (f : Irs → Irs) (s : State) : (modIrs f s).io = s.io := rfl
@[simp] theorem modIrs_clk (f : Irs → Irs) (s : State) : (modIrs f s).clk = s.clk := rfl
@[simp] theorem modIrs_store (f : Irs → Irs) (s : State) : (modIrs f s).store = s.store := rfl
@[simp] theorem modIrs_arb (f : Irs → Irs) (s : State) : (modIrs f s).arb = s.arb := rfl
@[simp] theorem modIrs_hod (f : Irs → Irs) (s : State) : (modIrs f s).hod = s.hod := rfl
@[simp] theorem modIrs_hst (f : Irs → Irs) (s : State) : (modIrs f s).hst = s.hst := rfl
@[simp] theorem modIrs_img (f : Irs → Irs) (s : State) : (modIrs f s).img = s.img := rfl
@[simp] theorem modIrs_rpt (f : Irs → Irs) (s : State) : (modIrs f s).rpt = s.rpt := rfl
@[simp] theorem modIrs_rptHb (f : Irs → Irs) (s : State) : (modIrs f s).rptHb = s.rptHb := rfl
@[simp] theorem modIrs_pln (f : Irs → Irs) (s : State) : (modIrs f s).pln = s.pln := rfl
@[simp] theorem modIrs_pwr (f : Irs → Irs) (s : State) : (modIrs f s).pwr = s.pwr := rfl
@[simp] theorem modIrs_bst (f : Irs → Irs) (s : State) : (modIrs f s).bst = s.bst := rfl
@[simp] theorem modIrs_tap (f : Irs → Irs) (s : State) : (modIrs f s).tap = s.tap := rfl
@[simp] theorem modIrs_evt (f : Irs → Irs) (s : State) : (modIrs f s).evt = s.evt := rfl
@[simp] theorem modIrs_glb (f : Irs → Irs) (s : State) : (modIrs f s).glb = s.glb := rfl
@[simp] theorem modIrs_rstout (f : Irs → Irs) (s : State) : (modIrs f s).rstout = s.rstout := rfl
@[simp] theorem modIrs_faultn (f : Irs → Irs) (s : State) : (modIrs f s).faultn = s.faultn := rfl
@[simp] theorem modIrs_resp (f : Irs → Irs) (s : State) : (modIrs f s).resp = s.resp := rfl
@[simp] theorem modIrs_stalled (f : Irs → Irs) (s : State) : (modIrs f s).stalled = s.stalled := rfl
@[simp] theorem modIrs_free (f : Irs → Irs) (s : State) : (modIrs f s).free = s.free := rfl
@[simp] theorem modIrs_pending (f : Irs → Irs) (s : State) : (modIrs f s).pending = s.pending := rfl

/-! modHst -/

@[simp] theorem modHst_setters (f : Hst → Hst) (s : State) : (modHst f s).setters = s.setters := rfl
@[simp] theorem modHst_bays (f : Hst → Hst) (s : State) : (modHst f s).bays = s.bays := rfl
@[simp] theorem modHst_io (f : Hst → Hst) (s : State) : (modHst f s).io = s.io := rfl
@[simp] theorem modHst_clk (f : Hst → Hst) (s : State) : (modHst f s).clk = s.clk := rfl
@[simp] theorem modHst_store (f : Hst → Hst) (s : State) : (modHst f s).store = s.store := rfl
@[simp] theorem modHst_arb (f : Hst → Hst) (s : State) : (modHst f s).arb = s.arb := rfl
@[simp] theorem modHst_hod (f : Hst → Hst) (s : State) : (modHst f s).hod = s.hod := rfl
@[simp] theorem modHst_irs (f : Hst → Hst) (s : State) : (modHst f s).irs = s.irs := rfl
@[simp] theorem modHst_img (f : Hst → Hst) (s : State) : (modHst f s).img = s.img := rfl
@[simp] theorem modHst_rpt (f : Hst → Hst) (s : State) : (modHst f s).rpt = s.rpt := rfl
@[simp] theorem modHst_rptHb (f : Hst → Hst) (s : State) : (modHst f s).rptHb = s.rptHb := rfl
@[simp] theorem modHst_pln (f : Hst → Hst) (s : State) : (modHst f s).pln = s.pln := rfl
@[simp] theorem modHst_pwr (f : Hst → Hst) (s : State) : (modHst f s).pwr = s.pwr := rfl
@[simp] theorem modHst_bst (f : Hst → Hst) (s : State) : (modHst f s).bst = s.bst := rfl
@[simp] theorem modHst_tap (f : Hst → Hst) (s : State) : (modHst f s).tap = s.tap := rfl
@[simp] theorem modHst_evt (f : Hst → Hst) (s : State) : (modHst f s).evt = s.evt := rfl
@[simp] theorem modHst_glb (f : Hst → Hst) (s : State) : (modHst f s).glb = s.glb := rfl
@[simp] theorem modHst_rstout (f : Hst → Hst) (s : State) : (modHst f s).rstout = s.rstout := rfl
@[simp] theorem modHst_faultn (f : Hst → Hst) (s : State) : (modHst f s).faultn = s.faultn := rfl
@[simp] theorem modHst_resp (f : Hst → Hst) (s : State) : (modHst f s).resp = s.resp := rfl
@[simp] theorem modHst_stalled (f : Hst → Hst) (s : State) : (modHst f s).stalled = s.stalled := rfl
@[simp] theorem modHst_free (f : Hst → Hst) (s : State) : (modHst f s).free = s.free := rfl
@[simp] theorem modHst_pending (f : Hst → Hst) (s : State) : (modHst f s).pending = s.pending := rfl

/-! modBst -/

@[simp] theorem modBst_setters (f : Bst → Bst) (s : State) : (modBst f s).setters = s.setters := rfl
@[simp] theorem modBst_bays (f : Bst → Bst) (s : State) : (modBst f s).bays = s.bays := rfl
@[simp] theorem modBst_io (f : Bst → Bst) (s : State) : (modBst f s).io = s.io := rfl
@[simp] theorem modBst_clk (f : Bst → Bst) (s : State) : (modBst f s).clk = s.clk := rfl
@[simp] theorem modBst_store (f : Bst → Bst) (s : State) : (modBst f s).store = s.store := rfl
@[simp] theorem modBst_arb (f : Bst → Bst) (s : State) : (modBst f s).arb = s.arb := rfl
@[simp] theorem modBst_hod (f : Bst → Bst) (s : State) : (modBst f s).hod = s.hod := rfl
@[simp] theorem modBst_irs (f : Bst → Bst) (s : State) : (modBst f s).irs = s.irs := rfl
@[simp] theorem modBst_hst (f : Bst → Bst) (s : State) : (modBst f s).hst = s.hst := rfl
@[simp] theorem modBst_img (f : Bst → Bst) (s : State) : (modBst f s).img = s.img := rfl
@[simp] theorem modBst_rpt (f : Bst → Bst) (s : State) : (modBst f s).rpt = s.rpt := rfl
@[simp] theorem modBst_rptHb (f : Bst → Bst) (s : State) : (modBst f s).rptHb = s.rptHb := rfl
@[simp] theorem modBst_pln (f : Bst → Bst) (s : State) : (modBst f s).pln = s.pln := rfl
@[simp] theorem modBst_pwr (f : Bst → Bst) (s : State) : (modBst f s).pwr = s.pwr := rfl
@[simp] theorem modBst_tap (f : Bst → Bst) (s : State) : (modBst f s).tap = s.tap := rfl
@[simp] theorem modBst_evt (f : Bst → Bst) (s : State) : (modBst f s).evt = s.evt := rfl
@[simp] theorem modBst_glb (f : Bst → Bst) (s : State) : (modBst f s).glb = s.glb := rfl
@[simp] theorem modBst_rstout (f : Bst → Bst) (s : State) : (modBst f s).rstout = s.rstout := rfl
@[simp] theorem modBst_faultn (f : Bst → Bst) (s : State) : (modBst f s).faultn = s.faultn := rfl
@[simp] theorem modBst_resp (f : Bst → Bst) (s : State) : (modBst f s).resp = s.resp := rfl
@[simp] theorem modBst_stalled (f : Bst → Bst) (s : State) : (modBst f s).stalled = s.stalled := rfl
@[simp] theorem modBst_free (f : Bst → Bst) (s : State) : (modBst f s).free = s.free := rfl
@[simp] theorem modBst_pending (f : Bst → Bst) (s : State) : (modBst f s).pending = s.pending := rfl

/-! modTap -/

@[simp] theorem modTap_setters (f : Tap → Tap) (s : State) : (modTap f s).setters = s.setters := rfl
@[simp] theorem modTap_bays (f : Tap → Tap) (s : State) : (modTap f s).bays = s.bays := rfl
@[simp] theorem modTap_io (f : Tap → Tap) (s : State) : (modTap f s).io = s.io := rfl
@[simp] theorem modTap_clk (f : Tap → Tap) (s : State) : (modTap f s).clk = s.clk := rfl
@[simp] theorem modTap_store (f : Tap → Tap) (s : State) : (modTap f s).store = s.store := rfl
@[simp] theorem modTap_arb (f : Tap → Tap) (s : State) : (modTap f s).arb = s.arb := rfl
@[simp] theorem modTap_hod (f : Tap → Tap) (s : State) : (modTap f s).hod = s.hod := rfl
@[simp] theorem modTap_irs (f : Tap → Tap) (s : State) : (modTap f s).irs = s.irs := rfl
@[simp] theorem modTap_hst (f : Tap → Tap) (s : State) : (modTap f s).hst = s.hst := rfl
@[simp] theorem modTap_img (f : Tap → Tap) (s : State) : (modTap f s).img = s.img := rfl
@[simp] theorem modTap_rpt (f : Tap → Tap) (s : State) : (modTap f s).rpt = s.rpt := rfl
@[simp] theorem modTap_rptHb (f : Tap → Tap) (s : State) : (modTap f s).rptHb = s.rptHb := rfl
@[simp] theorem modTap_pln (f : Tap → Tap) (s : State) : (modTap f s).pln = s.pln := rfl
@[simp] theorem modTap_pwr (f : Tap → Tap) (s : State) : (modTap f s).pwr = s.pwr := rfl
@[simp] theorem modTap_bst (f : Tap → Tap) (s : State) : (modTap f s).bst = s.bst := rfl
@[simp] theorem modTap_evt (f : Tap → Tap) (s : State) : (modTap f s).evt = s.evt := rfl
@[simp] theorem modTap_glb (f : Tap → Tap) (s : State) : (modTap f s).glb = s.glb := rfl
@[simp] theorem modTap_rstout (f : Tap → Tap) (s : State) : (modTap f s).rstout = s.rstout := rfl
@[simp] theorem modTap_faultn (f : Tap → Tap) (s : State) : (modTap f s).faultn = s.faultn := rfl
@[simp] theorem modTap_resp (f : Tap → Tap) (s : State) : (modTap f s).resp = s.resp := rfl
@[simp] theorem modTap_stalled (f : Tap → Tap) (s : State) : (modTap f s).stalled = s.stalled := rfl
@[simp] theorem modTap_free (f : Tap → Tap) (s : State) : (modTap f s).free = s.free := rfl
@[simp] theorem modTap_pending (f : Tap → Tap) (s : State) : (modTap f s).pending = s.pending := rfl

/-! modRpt -/

@[simp] theorem modRpt_setters (w : Nat) (f : Rpt → Rpt) (s : State) : (modRpt w f s).setters = s.setters := rfl
@[simp] theorem modRpt_bays (w : Nat) (f : Rpt → Rpt) (s : State) : (modRpt w f s).bays = s.bays := rfl
@[simp] theorem modRpt_io (w : Nat) (f : Rpt → Rpt) (s : State) : (modRpt w f s).io = s.io := rfl
@[simp] theorem modRpt_clk (w : Nat) (f : Rpt → Rpt) (s : State) : (modRpt w f s).clk = s.clk := rfl
@[simp] theorem modRpt_store (w : Nat) (f : Rpt → Rpt) (s : State) : (modRpt w f s).store = s.store := rfl
@[simp] theorem modRpt_arb (w : Nat) (f : Rpt → Rpt) (s : State) : (modRpt w f s).arb = s.arb := rfl
@[simp] theorem modRpt_hod (w : Nat) (f : Rpt → Rpt) (s : State) : (modRpt w f s).hod = s.hod := rfl
@[simp] theorem modRpt_irs (w : Nat) (f : Rpt → Rpt) (s : State) : (modRpt w f s).irs = s.irs := rfl
@[simp] theorem modRpt_hst (w : Nat) (f : Rpt → Rpt) (s : State) : (modRpt w f s).hst = s.hst := rfl
@[simp] theorem modRpt_img (w : Nat) (f : Rpt → Rpt) (s : State) : (modRpt w f s).img = s.img := rfl
@[simp] theorem modRpt_rptHb (w : Nat) (f : Rpt → Rpt) (s : State) : (modRpt w f s).rptHb = s.rptHb := rfl
@[simp] theorem modRpt_pln (w : Nat) (f : Rpt → Rpt) (s : State) : (modRpt w f s).pln = s.pln := rfl
@[simp] theorem modRpt_pwr (w : Nat) (f : Rpt → Rpt) (s : State) : (modRpt w f s).pwr = s.pwr := rfl
@[simp] theorem modRpt_bst (w : Nat) (f : Rpt → Rpt) (s : State) : (modRpt w f s).bst = s.bst := rfl
@[simp] theorem modRpt_tap (w : Nat) (f : Rpt → Rpt) (s : State) : (modRpt w f s).tap = s.tap := rfl
@[simp] theorem modRpt_evt (w : Nat) (f : Rpt → Rpt) (s : State) : (modRpt w f s).evt = s.evt := rfl
@[simp] theorem modRpt_glb (w : Nat) (f : Rpt → Rpt) (s : State) : (modRpt w f s).glb = s.glb := rfl
@[simp] theorem modRpt_rstout (w : Nat) (f : Rpt → Rpt) (s : State) : (modRpt w f s).rstout = s.rstout := rfl
@[simp] theorem modRpt_faultn (w : Nat) (f : Rpt → Rpt) (s : State) : (modRpt w f s).faultn = s.faultn := rfl
@[simp] theorem modRpt_resp (w : Nat) (f : Rpt → Rpt) (s : State) : (modRpt w f s).resp = s.resp := rfl
@[simp] theorem modRpt_stalled (w : Nat) (f : Rpt → Rpt) (s : State) : (modRpt w f s).stalled = s.stalled := rfl
@[simp] theorem modRpt_free (w : Nat) (f : Rpt → Rpt) (s : State) : (modRpt w f s).free = s.free := rfl
@[simp] theorem modRpt_pending (w : Nat) (f : Rpt → Rpt) (s : State) : (modRpt w f s).pending = s.pending := rfl

/-! modBond -/

@[simp] theorem modBond_setters (f : Bond → Bond) (s : State) : (modBond f s).setters = s.setters := rfl
@[simp] theorem modBond_bays (f : Bond → Bond) (s : State) : (modBond f s).bays = s.bays := rfl
@[simp] theorem modBond_io (f : Bond → Bond) (s : State) : (modBond f s).io = s.io := rfl
@[simp] theorem modBond_clk (f : Bond → Bond) (s : State) : (modBond f s).clk = s.clk := rfl
@[simp] theorem modBond_store (f : Bond → Bond) (s : State) : (modBond f s).store = s.store := rfl
@[simp] theorem modBond_hod (f : Bond → Bond) (s : State) : (modBond f s).hod = s.hod := rfl
@[simp] theorem modBond_irs (f : Bond → Bond) (s : State) : (modBond f s).irs = s.irs := rfl
@[simp] theorem modBond_hst (f : Bond → Bond) (s : State) : (modBond f s).hst = s.hst := rfl
@[simp] theorem modBond_img (f : Bond → Bond) (s : State) : (modBond f s).img = s.img := rfl
@[simp] theorem modBond_rpt (f : Bond → Bond) (s : State) : (modBond f s).rpt = s.rpt := rfl
@[simp] theorem modBond_rptHb (f : Bond → Bond) (s : State) : (modBond f s).rptHb = s.rptHb := rfl
@[simp] theorem modBond_pln (f : Bond → Bond) (s : State) : (modBond f s).pln = s.pln := rfl
@[simp] theorem modBond_pwr (f : Bond → Bond) (s : State) : (modBond f s).pwr = s.pwr := rfl
@[simp] theorem modBond_bst (f : Bond → Bond) (s : State) : (modBond f s).bst = s.bst := rfl
@[simp] theorem modBond_tap (f : Bond → Bond) (s : State) : (modBond f s).tap = s.tap := rfl
@[simp] theorem modBond_evt (f : Bond → Bond) (s : State) : (modBond f s).evt = s.evt := rfl
@[simp] theorem modBond_glb (f : Bond → Bond) (s : State) : (modBond f s).glb = s.glb := rfl
@[simp] theorem modBond_rstout (f : Bond → Bond) (s : State) : (modBond f s).rstout = s.rstout := rfl
@[simp] theorem modBond_faultn (f : Bond → Bond) (s : State) : (modBond f s).faultn = s.faultn := rfl
@[simp] theorem modBond_resp (f : Bond → Bond) (s : State) : (modBond f s).resp = s.resp := rfl
@[simp] theorem modBond_stalled (f : Bond → Bond) (s : State) : (modBond f s).stalled = s.stalled := rfl
@[simp] theorem modBond_free (f : Bond → Bond) (s : State) : (modBond f s).free = s.free := rfl
@[simp] theorem modBond_pending (f : Bond → Bond) (s : State) : (modBond f s).pending = s.pending := rfl

/-! modPll -/

@[simp] theorem modPll_setters (p : Nat) (f : Pll → Pll) (s : State) : (modPll p f s).setters = s.setters := rfl
@[simp] theorem modPll_bays (p : Nat) (f : Pll → Pll) (s : State) : (modPll p f s).bays = s.bays := rfl
@[simp] theorem modPll_io (p : Nat) (f : Pll → Pll) (s : State) : (modPll p f s).io = s.io := rfl
@[simp] theorem modPll_store (p : Nat) (f : Pll → Pll) (s : State) : (modPll p f s).store = s.store := rfl
@[simp] theorem modPll_arb (p : Nat) (f : Pll → Pll) (s : State) : (modPll p f s).arb = s.arb := rfl
@[simp] theorem modPll_hod (p : Nat) (f : Pll → Pll) (s : State) : (modPll p f s).hod = s.hod := rfl
@[simp] theorem modPll_irs (p : Nat) (f : Pll → Pll) (s : State) : (modPll p f s).irs = s.irs := rfl
@[simp] theorem modPll_hst (p : Nat) (f : Pll → Pll) (s : State) : (modPll p f s).hst = s.hst := rfl
@[simp] theorem modPll_img (p : Nat) (f : Pll → Pll) (s : State) : (modPll p f s).img = s.img := rfl
@[simp] theorem modPll_rpt (p : Nat) (f : Pll → Pll) (s : State) : (modPll p f s).rpt = s.rpt := rfl
@[simp] theorem modPll_rptHb (p : Nat) (f : Pll → Pll) (s : State) : (modPll p f s).rptHb = s.rptHb := rfl
@[simp] theorem modPll_pln (p : Nat) (f : Pll → Pll) (s : State) : (modPll p f s).pln = s.pln := rfl
@[simp] theorem modPll_pwr (p : Nat) (f : Pll → Pll) (s : State) : (modPll p f s).pwr = s.pwr := rfl
@[simp] theorem modPll_bst (p : Nat) (f : Pll → Pll) (s : State) : (modPll p f s).bst = s.bst := rfl
@[simp] theorem modPll_tap (p : Nat) (f : Pll → Pll) (s : State) : (modPll p f s).tap = s.tap := rfl
@[simp] theorem modPll_evt (p : Nat) (f : Pll → Pll) (s : State) : (modPll p f s).evt = s.evt := rfl
@[simp] theorem modPll_glb (p : Nat) (f : Pll → Pll) (s : State) : (modPll p f s).glb = s.glb := rfl
@[simp] theorem modPll_rstout (p : Nat) (f : Pll → Pll) (s : State) : (modPll p f s).rstout = s.rstout := rfl
@[simp] theorem modPll_faultn (p : Nat) (f : Pll → Pll) (s : State) : (modPll p f s).faultn = s.faultn := rfl
@[simp] theorem modPll_resp (p : Nat) (f : Pll → Pll) (s : State) : (modPll p f s).resp = s.resp := rfl
@[simp] theorem modPll_stalled (p : Nat) (f : Pll → Pll) (s : State) : (modPll p f s).stalled = s.stalled := rfl
@[simp] theorem modPll_free (p : Nat) (f : Pll → Pll) (s : State) : (modPll p f s).free = s.free := rfl
@[simp] theorem modPll_pending (p : Nat) (f : Pll → Pll) (s : State) : (modPll p f s).pending = s.pending := rfl

/-! modPack -/

@[simp] theorem modPack_setters (p : Nat) (f : Packer → Packer) (s : State) : (modPack p f s).setters = s.setters := rfl
@[simp] theorem modPack_bays (p : Nat) (f : Packer → Packer) (s : State) : (modPack p f s).bays = s.bays := rfl
@[simp] theorem modPack_io (p : Nat) (f : Packer → Packer) (s : State) : (modPack p f s).io = s.io := rfl
@[simp] theorem modPack_clk (p : Nat) (f : Packer → Packer) (s : State) : (modPack p f s).clk = s.clk := rfl
@[simp] theorem modPack_store (p : Nat) (f : Packer → Packer) (s : State) : (modPack p f s).store = s.store := rfl
@[simp] theorem modPack_arb (p : Nat) (f : Packer → Packer) (s : State) : (modPack p f s).arb = s.arb := rfl
@[simp] theorem modPack_irs (p : Nat) (f : Packer → Packer) (s : State) : (modPack p f s).irs = s.irs := rfl
@[simp] theorem modPack_hst (p : Nat) (f : Packer → Packer) (s : State) : (modPack p f s).hst = s.hst := rfl
@[simp] theorem modPack_img (p : Nat) (f : Packer → Packer) (s : State) : (modPack p f s).img = s.img := rfl
@[simp] theorem modPack_rpt (p : Nat) (f : Packer → Packer) (s : State) : (modPack p f s).rpt = s.rpt := rfl
@[simp] theorem modPack_rptHb (p : Nat) (f : Packer → Packer) (s : State) : (modPack p f s).rptHb = s.rptHb := rfl
@[simp] theorem modPack_pln (p : Nat) (f : Packer → Packer) (s : State) : (modPack p f s).pln = s.pln := rfl
@[simp] theorem modPack_pwr (p : Nat) (f : Packer → Packer) (s : State) : (modPack p f s).pwr = s.pwr := rfl
@[simp] theorem modPack_bst (p : Nat) (f : Packer → Packer) (s : State) : (modPack p f s).bst = s.bst := rfl
@[simp] theorem modPack_tap (p : Nat) (f : Packer → Packer) (s : State) : (modPack p f s).tap = s.tap := rfl
@[simp] theorem modPack_evt (p : Nat) (f : Packer → Packer) (s : State) : (modPack p f s).evt = s.evt := rfl
@[simp] theorem modPack_glb (p : Nat) (f : Packer → Packer) (s : State) : (modPack p f s).glb = s.glb := rfl
@[simp] theorem modPack_rstout (p : Nat) (f : Packer → Packer) (s : State) : (modPack p f s).rstout = s.rstout := rfl
@[simp] theorem modPack_faultn (p : Nat) (f : Packer → Packer) (s : State) : (modPack p f s).faultn = s.faultn := rfl
@[simp] theorem modPack_resp (p : Nat) (f : Packer → Packer) (s : State) : (modPack p f s).resp = s.resp := rfl
@[simp] theorem modPack_stalled (p : Nat) (f : Packer → Packer) (s : State) : (modPack p f s).stalled = s.stalled := rfl
@[simp] theorem modPack_free (p : Nat) (f : Packer → Packer) (s : State) : (modPack p f s).free = s.free := rfl
@[simp] theorem modPack_pending (p : Nat) (f : Packer → Packer) (s : State) : (modPack p f s).pending = s.pending := rfl

/-! modBank -/

@[simp] theorem modBank_setters (k : Bank) (f : IoBank → IoBank) (s : State) : (modBank k f s).setters = s.setters := rfl
@[simp] theorem modBank_bays (k : Bank) (f : IoBank → IoBank) (s : State) : (modBank k f s).bays = s.bays := rfl
@[simp] theorem modBank_clk (k : Bank) (f : IoBank → IoBank) (s : State) : (modBank k f s).clk = s.clk := rfl
@[simp] theorem modBank_store (k : Bank) (f : IoBank → IoBank) (s : State) : (modBank k f s).store = s.store := rfl
@[simp] theorem modBank_arb (k : Bank) (f : IoBank → IoBank) (s : State) : (modBank k f s).arb = s.arb := rfl
@[simp] theorem modBank_hod (k : Bank) (f : IoBank → IoBank) (s : State) : (modBank k f s).hod = s.hod := rfl
@[simp] theorem modBank_irs (k : Bank) (f : IoBank → IoBank) (s : State) : (modBank k f s).irs = s.irs := rfl
@[simp] theorem modBank_hst (k : Bank) (f : IoBank → IoBank) (s : State) : (modBank k f s).hst = s.hst := rfl
@[simp] theorem modBank_img (k : Bank) (f : IoBank → IoBank) (s : State) : (modBank k f s).img = s.img := rfl
@[simp] theorem modBank_rpt (k : Bank) (f : IoBank → IoBank) (s : State) : (modBank k f s).rpt = s.rpt := rfl
@[simp] theorem modBank_rptHb (k : Bank) (f : IoBank → IoBank) (s : State) : (modBank k f s).rptHb = s.rptHb := rfl
@[simp] theorem modBank_pln (k : Bank) (f : IoBank → IoBank) (s : State) : (modBank k f s).pln = s.pln := rfl
@[simp] theorem modBank_pwr (k : Bank) (f : IoBank → IoBank) (s : State) : (modBank k f s).pwr = s.pwr := rfl
@[simp] theorem modBank_bst (k : Bank) (f : IoBank → IoBank) (s : State) : (modBank k f s).bst = s.bst := rfl
@[simp] theorem modBank_tap (k : Bank) (f : IoBank → IoBank) (s : State) : (modBank k f s).tap = s.tap := rfl
@[simp] theorem modBank_evt (k : Bank) (f : IoBank → IoBank) (s : State) : (modBank k f s).evt = s.evt := rfl
@[simp] theorem modBank_glb (k : Bank) (f : IoBank → IoBank) (s : State) : (modBank k f s).glb = s.glb := rfl
@[simp] theorem modBank_rstout (k : Bank) (f : IoBank → IoBank) (s : State) : (modBank k f s).rstout = s.rstout := rfl
@[simp] theorem modBank_faultn (k : Bank) (f : IoBank → IoBank) (s : State) : (modBank k f s).faultn = s.faultn := rfl
@[simp] theorem modBank_resp (k : Bank) (f : IoBank → IoBank) (s : State) : (modBank k f s).resp = s.resp := rfl
@[simp] theorem modBank_stalled (k : Bank) (f : IoBank → IoBank) (s : State) : (modBank k f s).stalled = s.stalled := rfl
@[simp] theorem modBank_free (k : Bank) (f : IoBank → IoBank) (s : State) : (modBank k f s).free = s.free := rfl
@[simp] theorem modBank_pending (k : Bank) (f : IoBank → IoBank) (s : State) : (modBank k f s).pending = s.pending := rfl

/-! modJoint -/

@[simp] theorem modJoint_setters (b : BayId) (n : Nat) (f : Joint → Joint) (s : State) : (modJoint b n f s).setters = s.setters := rfl
@[simp] theorem modJoint_io (b : BayId) (n : Nat) (f : Joint → Joint) (s : State) : (modJoint b n f s).io = s.io := rfl
@[simp] theorem modJoint_clk (b : BayId) (n : Nat) (f : Joint → Joint) (s : State) : (modJoint b n f s).clk = s.clk := rfl
@[simp] theorem modJoint_store (b : BayId) (n : Nat) (f : Joint → Joint) (s : State) : (modJoint b n f s).store = s.store := rfl
@[simp] theorem modJoint_arb (b : BayId) (n : Nat) (f : Joint → Joint) (s : State) : (modJoint b n f s).arb = s.arb := rfl
@[simp] theorem modJoint_hod (b : BayId) (n : Nat) (f : Joint → Joint) (s : State) : (modJoint b n f s).hod = s.hod := rfl
@[simp] theorem modJoint_irs (b : BayId) (n : Nat) (f : Joint → Joint) (s : State) : (modJoint b n f s).irs = s.irs := rfl
@[simp] theorem modJoint_hst (b : BayId) (n : Nat) (f : Joint → Joint) (s : State) : (modJoint b n f s).hst = s.hst := rfl
@[simp] theorem modJoint_img (b : BayId) (n : Nat) (f : Joint → Joint) (s : State) : (modJoint b n f s).img = s.img := rfl
@[simp] theorem modJoint_rpt (b : BayId) (n : Nat) (f : Joint → Joint) (s : State) : (modJoint b n f s).rpt = s.rpt := rfl
@[simp] theorem modJoint_rptHb (b : BayId) (n : Nat) (f : Joint → Joint) (s : State) : (modJoint b n f s).rptHb = s.rptHb := rfl
@[simp] theorem modJoint_pln (b : BayId) (n : Nat) (f : Joint → Joint) (s : State) : (modJoint b n f s).pln = s.pln := rfl
@[simp] theorem modJoint_pwr (b : BayId) (n : Nat) (f : Joint → Joint) (s : State) : (modJoint b n f s).pwr = s.pwr := rfl
@[simp] theorem modJoint_bst (b : BayId) (n : Nat) (f : Joint → Joint) (s : State) : (modJoint b n f s).bst = s.bst := rfl
@[simp] theorem modJoint_tap (b : BayId) (n : Nat) (f : Joint → Joint) (s : State) : (modJoint b n f s).tap = s.tap := rfl
@[simp] theorem modJoint_evt (b : BayId) (n : Nat) (f : Joint → Joint) (s : State) : (modJoint b n f s).evt = s.evt := rfl
@[simp] theorem modJoint_glb (b : BayId) (n : Nat) (f : Joint → Joint) (s : State) : (modJoint b n f s).glb = s.glb := rfl
@[simp] theorem modJoint_rstout (b : BayId) (n : Nat) (f : Joint → Joint) (s : State) : (modJoint b n f s).rstout = s.rstout := rfl
@[simp] theorem modJoint_faultn (b : BayId) (n : Nat) (f : Joint → Joint) (s : State) : (modJoint b n f s).faultn = s.faultn := rfl
@[simp] theorem modJoint_resp (b : BayId) (n : Nat) (f : Joint → Joint) (s : State) : (modJoint b n f s).resp = s.resp := rfl
@[simp] theorem modJoint_stalled (b : BayId) (n : Nat) (f : Joint → Joint) (s : State) : (modJoint b n f s).stalled = s.stalled := rfl
@[simp] theorem modJoint_free (b : BayId) (n : Nat) (f : Joint → Joint) (s : State) : (modJoint b n f s).free = s.free := rfl
@[simp] theorem modJoint_pending (b : BayId) (n : Nat) (f : Joint → Joint) (s : State) : (modJoint b n f s).pending = s.pending := rfl

/-! The field that each changes -/

@[simp] theorem State.usedFree_free (s : State) : s.usedFree.free = s.free + 1 := rfl
@[simp] theorem modImg_img (f : Img → Img) (s : State) : (modImg f s).img = f s.img := rfl
@[simp] theorem modPln_pln (f : Pln → Pln) (s : State) : (modPln f s).pln = f s.pln := rfl
@[simp] theorem modPwr_pwr (f : Pwr → Pwr) (s : State) : (modPwr f s).pwr = f s.pwr := rfl
@[simp] theorem modIrs_irs (f : Irs → Irs) (s : State) : (modIrs f s).irs = f s.irs := rfl
@[simp] theorem modHst_hst (f : Hst → Hst) (s : State) : (modHst f s).hst = f s.hst := rfl
@[simp] theorem modBst_bst (f : Bst → Bst) (s : State) : (modBst f s).bst = f s.bst := rfl
@[simp] theorem modTap_tap (f : Tap → Tap) (s : State) : (modTap f s).tap = f s.tap := rfl
@[simp] theorem modBond_arb (f : Bond → Bond) (s : State) : (modBond f s).arb = { s.arb with bond := f s.arb.bond } := rfl

end Sys2Proof.Machine
end

