-- ==== Sys2Proof/Laws/Tables.lean ====
section
/-! SUPPORT. Laws of the vectors and sparse tables: reading after writing, and the canonical form that every table operation
keeps. -/

namespace Sys2Proof.Machine

/-! ### Vectors -/

theorem get_eq {α : Type} {n : Nat} (v : Vector α n) (i : Fin n) : v.get i = v[i.val] := rfl

@[simp] theorem upd_get_same {α : Type} {n : Nat} (v : Vector α n) (i : Fin n) (x : α) : (upd v i x).get i = x := by
  rw [get_eq, upd, Vector.getElem_set_self]

theorem upd_get_other {α : Type} {n : Nat} (v : Vector α n) (i j : Fin n) (x : α) (h : i ≠ j) :
    (upd v i x).get j = v.get j := by
  have h' : i.val ≠ j.val := fun e => h (Fin.ext e)
  rw [get_eq, get_eq, upd, Vector.getElem_set_ne _ _ h']

theorem upd_get {α : Type} {n : Nat} (v : Vector α n) (i j : Fin n) (x : α) :
    (upd v i x).get j = if i = j then x else v.get j := by
  split
  · next h => subst h; simp
  · next h => exact upd_get_other v i j x h

@[simp] theorem upd_upd {α : Type} {n : Nat} (v : Vector α n) (i : Fin n) (x y : α) : upd (upd v i x) i y = upd v i y := by
  simp [upd]

@[simp] theorem upd_self {α : Type} {n : Nat} (v : Vector α n) (i : Fin n) : upd v i (v.get i) = v := by
  simp [upd, Vector.get]

/-! ### Setters -/

@[simp] theorem State.putS_st (s : State) (i : SetterId) (x : Setter) : (s.putS i x).st i = x := by simp [State.st, State.putS]

theorem State.putS_st_other (s : State) (i j : SetterId) (x : Setter) (h : i ≠ j) : (s.putS i x).st j = s.st j := by
  simp [State.st, State.putS, upd_get_other _ _ _ _ h]

@[simp] theorem State.modS_st (s : State) (i : SetterId) (f : Setter → Setter) : (s.modS i f).st i = f (s.st i) := by
  simp [State.modS]

@[simp] theorem State.putS_putS (s : State) (i : SetterId) (x y : Setter) : (s.putS i x).putS i y = s.putS i y := by
  simp [State.putS]

@[simp] theorem State.putS_self (s : State) (i : SetterId) : s.putS i (s.st i) = s := by
  simp [State.putS, State.st]

theorem State.modS_eq (s : State) (i : SetterId) (f : Setter → Setter) : s.modS i f = s.putS i (f (s.st i)) := rfl

/-! ### Sparse tables -/

theorem kvGet_above {α : Type} (a lo : Nat) (m : List (Nat × α)) (h : kvAbove lo m = true) (hl : a ≤ lo) : kvGet m a = none := by
  induction m with
  | nil => rfl
  | cons e t ih =>
    obtain ⟨k, v⟩ := e
    simp only [kvAbove, List.all_cons, Bool.and_eq_true, decide_eq_true_eq] at h
    have hk : k ≠ a := by omega
    simp only [kvGet, hk, if_false]
    exact ih (by simpa [kvAbove] using h.2)

theorem kvAbove_mono {α : Type} (lo lo' : Nat) (m : List (Nat × α)) (h : kvAbove lo m = true) (hl : lo' ≤ lo) :
    kvAbove lo' m = true := by
  simp only [kvAbove, List.all_eq_true, decide_eq_true_eq] at *
  intro e he
  have := h e he
  omega

@[simp] theorem kvAbove_nil {α : Type} (lo : Nat) : kvAbove lo ([] : List (Nat × α)) = true := rfl

@[simp] theorem kvAbove_cons {α : Type} (lo : Nat) (e : Nat × α) (m : List (Nat × α)) :
    kvAbove lo (e :: m) = (decide (lo < e.1) && kvAbove lo m) := rfl

theorem kvIns_above {α : Type} (a : Nat) (x : α) (lo : Nat) (m : List (Nat × α)) (h : kvAbove lo m = true)
    (hl : lo < a) : kvAbove lo (kvIns a x m) = true := by
  induction m with
  | nil => simp [kvIns, hl]
  | cons e t ih =>
    simp only [kvAbove_cons, Bool.and_eq_true, decide_eq_true_eq] at h
    have ht := ih h.2
    unfold kvIns
    split
    · simp [h.1, h.2, hl]
    · split
      · simp [h.2, hl]
      · simp [h.1, ht]

/-- Removing keys keeps the canonical form. -/
theorem kvFilter_wf {α : Type} (drop : α → Bool) (p : Nat × α → Bool) (m : List (Nat × α)) (h : kvWf drop m = true) :
    kvWf drop (m.filter p) = true := by
  induction m with
  | nil => rfl
  | cons e t ih =>
    obtain ⟨k, v⟩ := e
    simp only [kvWf, Bool.and_eq_true] at h
    obtain ⟨⟨h1, h2⟩, h3⟩ := h
    by_cases hp : p (k, v) = true
    · simp only [List.filter_cons, hp, if_true, kvWf, Bool.and_eq_true]
      refine ⟨⟨h1, ?_⟩, ih h3⟩
      simp only [kvAbove, List.all_eq_true, decide_eq_true_eq, List.mem_filter, and_imp] at *
      intro e he _
      exact h2 e he
    · simp only [List.filter_cons, hp]
      exact ih h3

/-- Removing one key keeps the canonical form. -/
theorem kvDel_wf {α : Type} (drop : α → Bool) (a : Nat) (m : List (Nat × α)) (h : kvWf drop m = true) :
    kvWf drop (kvDel a m) = true := kvFilter_wf _ _ _ h

/-- Listing a key whose value is to be listed keeps the canonical form. -/
theorem kvIns_wf {α : Type} (drop : α → Bool) (a : Nat) (x : α) (m : List (Nat × α)) (hd : drop x = false)
    (h : kvWf drop m = true) : kvWf drop (kvIns a x m) = true := by
  induction m with
  | nil => simp [kvIns, kvWf, hd]
  | cons e t ih =>
    obtain ⟨k, v⟩ := e
    have h0 := h
    simp only [kvWf, Bool.and_eq_true, Bool.not_eq_true'] at h
    obtain ⟨⟨h1, h2⟩, h3⟩ := h
    unfold kvIns
    split
    · next hak =>
      have h4 : kvAbove a t = true := kvAbove_mono k a t h2 (by omega)
      rw [kvWf, h0, kvAbove_cons, h4, hd]
      simp [hak]
    · split
      · next he =>
        subst he
        simp [kvWf, hd, h2, h3]
      · next h4 h5 =>
        simp [kvWf, h1, kvIns_above a x k t h2 (by omega), ih h3]

/-- Writing a key keeps the canonical form. -/
theorem kvPut_wf {α : Type} (drop : α → Bool) (a : Nat) (x : α) (m : List (Nat × α)) (h : kvWf drop m = true) :
    kvWf drop (kvPut drop a x m) = true := by
  unfold kvPut
  split
  · exact kvDel_wf _ _ _ h
  · next hd => exact kvIns_wf _ _ _ _ (by simpa using hd) h

theorem kvGet_del_same {α : Type} (a : Nat) (m : List (Nat × α)) : kvGet (kvDel a m) a = none := by
  induction m with
  | nil => rfl
  | cons e t ih =>
    obtain ⟨k, v⟩ := e
    by_cases hk : k = a
    · simpa [kvDel, hk] using ih
    · simp only [kvDel, List.filter_cons, bne_iff_ne, ne_eq, hk, not_false_eq_true, if_true, kvGet, if_false]
      exact ih

theorem kvGet_del_other {α : Type} (a b : Nat) (m : List (Nat × α)) (hb : a ≠ b) : kvGet (kvDel a m) b = kvGet m b := by
  induction m with
  | nil => rfl
  | cons e t ih =>
    obtain ⟨k, v⟩ := e
    by_cases hk : k = a
    · have h1 : kvDel a ((k, v) :: t) = kvDel a t := by simp [kvDel, hk]
      rw [h1, ih, kvGet, if_neg (fun e => hb (hk.symm.trans e))]
    · have h1 : kvDel a ((k, v) :: t) = (k, v) :: kvDel a t := by simp [kvDel, hk]
      rw [h1, kvGet, kvGet, ih]

theorem kvGet_ins_same {α : Type} (a : Nat) (x : α) (m : List (Nat × α)) : kvGet (kvIns a x m) a = some x := by
  induction m with
  | nil => simp [kvIns, kvGet]
  | cons e t ih =>
    obtain ⟨k, v⟩ := e
    unfold kvIns
    split
    · simp [kvGet]
    · split
      · simp [kvGet]
      · next h1 h2 => simp only [kvGet, if_neg (fun e => h2 (Eq.symm e)), ih]

theorem kvGet_ins_other {α : Type} (a b : Nat) (x : α) (m : List (Nat × α)) (hb : a ≠ b) : kvGet (kvIns a x m) b = kvGet m b := by
  induction m with
  | nil => simp [kvIns, kvGet, hb]
  | cons e t ih =>
    obtain ⟨k, v⟩ := e
    unfold kvIns
    split
    · simp [kvGet, hb]
    · split
      · next he => subst he; simp [kvGet, hb]
      · simp only [kvGet, ih]

/-- Reading the key that was written: its value, or nothing where it is not listed. -/
theorem kvGet_put_same {α : Type} (drop : α → Bool) (a : Nat) (x : α) (m : List (Nat × α)) :
    kvGet (kvPut drop a x m) a = if drop x then none else some x := by
  unfold kvPut
  split
  · exact kvGet_del_same _ _
  · exact kvGet_ins_same _ _ _

/-- Reading another key than the one written. -/
theorem kvGet_put_other {α : Type} (drop : α → Bool) (a b : Nat) (x : α) (m : List (Nat × α)) (hb : a ≠ b) :
    kvGet (kvPut drop a x m) b = kvGet m b := by
  unfold kvPut
  split
  · exact kvGet_del_other _ _ _ hb
  · exact kvGet_ins_other _ _ _ _ hb

/-- Removing a key that is not listed changes nothing. -/
theorem kvDel_absent {α : Type} (a : Nat) (m : List (Nat × α)) (h : kvGet m a = none) : kvDel a m = m := by
  induction m with
  | nil => rfl
  | cons e t ih =>
    obtain ⟨k, v⟩ := e
    simp only [kvGet] at h
    split at h
    · exact absurd h (by simp)
    · next hk =>
      have := ih h
      simp only [kvDel] at *
      simp [hk, this]

/-! ### Byte memories -/

/-- A byte memory in its canonical form: addresses strictly rising, no byte that an unlisted address reads as. -/
abbrev Memory.wf (m : Mem) : Prop := kvWf isZeroByte m = true

theorem memPut_wf (m : Mem) (a : Nat) (b : Byte) (h : Memory.wf m) : Memory.wf (memPut m a b) := kvPut_wf _ _ _ _ h

theorem memWrite_wf (l : List Byte) (m : Mem) (a : Nat) (h : Memory.wf m) : Memory.wf (memWrite m a l) := by
  induction l generalizing m a with
  | nil => exact h
  | cons b t ih => exact ih _ _ (memPut_wf _ _ _ h)

theorem memPutWord_wf (m : Mem) (a : Nat) (w : Word) (h : Memory.wf m) : Memory.wf (memPutWord m a w) := memWrite_wf _ _ _ h

theorem memByte_put_same (m : Mem) (a : Nat) (b : Byte) : memByte (memPut m a b) a = b := by
  unfold memByte memPut
  rw [kvGet_put_same]
  by_cases hb : b = 0#8 <;> simp [isZeroByte, hb]

theorem memByte_put_other (m : Mem) (a n : Nat) (b : Byte) (h : a ≠ n) : memByte (memPut m a b) n = memByte m n := by
  unfold memByte memPut
  rw [kvGet_put_other _ _ _ _ _ h]

/-- Reading one byte after writing a list of bytes. -/
theorem memByte_write (l : List Byte) (m : Mem) (a n : Nat) :
    memByte (memWrite m a l) n = if a ≤ n ∧ n < a + l.length then l.getD (n - a) 0 else memByte m n := by
  induction l generalizing m a with
  | nil => simp [memWrite]
  | cons b t ih =>
    rw [memWrite, ih]
    by_cases h1 : n = a
    · subst h1
      have h2 : ¬ (n + 1 ≤ n ∧ n < n + 1 + t.length) := by omega
      rw [if_neg h2]
      rw [memByte_put_same m n b]
      simp
    · rw [memByte_put_other m a n b (fun e => h1 e.symm)]
      by_cases h2 : a + 1 ≤ n ∧ n < a + 1 + t.length
      · have h3 : a ≤ n ∧ n < a + (b :: t).length := by simp; omega
        simp only [h2, h3, and_self, if_true]
        have : n - a = (n - (a + 1)) + 1 := by omega
        rw [this]; simp
      · have h3 : ¬ (a ≤ n ∧ n < a + (b :: t).length) := by simp; omega
        rw [if_neg h2, if_neg h3]

end Sys2Proof.Machine
end

