-- ==== Sys2Proof/Laws/Issue.lean ====
section
/-! SUPPORT. What issuing an instruction does, said once: an instruction of a setter that issues now and meets no held cause, no
breakpoint and no fetch error runs its own work; and how each outcome of that work ends. -/

namespace Sys2Proof.Machine

/-- An instruction that nothing comes before runs its own work. -/
theorem issue_body (i : SetterId) (reads : List Reg) (acc : Bool) (body : State → Fate) (s : State)
    (h1 : (s.st i).issues = true) (h2 : (s.st i).tm = true ∨ (s.st i).nextHeld = none) (h3 : (s.st i).atBreak = false)
    (h4 : kvGet (s.st i).progErr (s.st i).pc.toNat = none) :
    issue i reads acc body s = finish i (interlock (s.st i) reads acc) (body s) := by
  have h5 : (if (s.st i).tm = true then none else (s.st i).nextHeld) = none := by
    rcases h2 with h | h
    · rw [if_pos h]
    · rw [h]; split <;> rfl
  simp only [issue, h1, h5, h3, h4, Bool.not_true, Bool.false_eq_true, if_false, ite_self]

/-- A setter that issues nothing now is left as it is. -/
theorem issue_idle (i : SetterId) (reads : List Reg) (acc : Bool) (body : State → Fate) (s : State)
    (h : (s.st i).issues = false) : issue i reads acc body s = s := by
  simp [issue, h]

/-- A setter whose RUN is 1 goes on after its instruction. -/
theorem settle_run (i : SetterId) (s : State) (h : (s.st i).run = true) : settle i s = s := by
  simp [settle, settleWith, h]

/-- A completed instruction of a setter whose RUN is 1. -/
theorem finish_done (i : SetterId) (il : Nat) (t : State) (cost : Nat) (load : Option Reg) (mac : Bool)
    (h : (t.st i).run = true) :
    finish i il (.done t cost load mac) = t.modS i (fun x =>
      { x with scan := x.scan + (cost + il), ilReg := load, ilMac := mac, skipBk := false, again := false,
               lutStall := none }) := by
  simp only [finish, retire]
  rw [settle_run]
  simp [h]

@[simp] theorem finish_going (i : SetterId) (il : Nat) (t : State) :
    finish i il (.going t) = t.modS i (fun x =>
      { x with scan := x.scan + il, ilReg := none, ilMac := false, skipBk := false, again := false, lutStall := none }) := rfl

@[simp] theorem finish_hold (i : SetterId) (il : Nat) (t : State) : finish i il (.hold t) = t := rfl

@[simp] theorem finish_trap (i : SetterId) (il : Nat) (t : State) (v sub : Nat) (a : Word) :
    finish i il (.trap t v sub a) = syncTrap i v sub a (t.modS i (fun x => { x with scan := x.scan + il })) := rfl

@[simp] theorem needZero_true (body : State → Fate) (s : State) : needZero true body s = body s := rfl

end Sys2Proof.Machine
end

