-- ==== Sys2Proof/Laws/PerInstr.lean ====
section
/-! SUPPORT. Per-command lemmas: a command that a word of program memory spells is well formed. -/

namespace Sys2Proof.Laws.Spelled
open Sys2Proof Sys2Proof.Machine

/-- A command that program memory spells is well formed. -/
def Statement (c : Instr) : Prop := ∀ e, encodeWord c = some e → c.wf = true

theorem nop : ∀ x0 x1, Statement (.nop x0 x1) := fun _ _ _ _ => rfl
theorem halt : ∀ x0 x1 x2, Statement (.halt x0 x1 x2) := fun _ _ _ _ _ => rfl
theorem fence : ∀ x0 x1 x2, Statement (.fence x0 x1 x2) := fun _ _ _ _ _ => rfl
theorem csrr : ∀ x0 x1 x2, Statement (.csrr x0 x1 x2) := fun _ _ _ _ _ => rfl
theorem csrw : ∀ x0 x1 x2, Statement (.csrw x0 x1 x2) := fun _ _ _ _ _ => rfl
theorem sleep : ∀ x0 x1, Statement (.sleep x0 x1) := fun _ _ _ _ => rfl
theorem sysResume : ∀ x0 x1, Statement (.sysResume x0 x1) := fun _ _ _ _ => rfl
theorem sysTest : ∀ x0 x1, Statement (.sysTest x0 x1) := fun _ _ _ _ => rfl
theorem sysTestAbort : ∀ x0 x1, Statement (.sysTestAbort x0 x1) := fun _ _ _ _ => rfl
theorem sysSwap : ∀ x0 x1, Statement (.sysSwap x0 x1) := fun _ _ _ _ => rfl
theorem bondSwap : ∀ x0 x1, Statement (.bondSwap x0 x1) := fun _ _ _ _ => rfl
theorem sysUndefinedService : ∀ x0 x1 x2, Statement (.sysUndefinedService x0 x1 x2) := fun _ _ _ _ _ => rfl
theorem add : ∀ x0 x1, Statement (.add x0 x1) := fun _ _ _ _ => rfl
theorem addc : ∀ x0 x1, Statement (.addc x0 x1) := fun _ _ _ _ => rfl
theorem sub : ∀ x0 x1, Statement (.sub x0 x1) := fun _ _ _ _ => rfl
theorem subb : ∀ x0 x1, Statement (.subb x0 x1) := fun _ _ _ _ => rfl
theorem and : ∀ x0 x1, Statement (.and x0 x1) := fun _ _ _ _ => rfl
theorem or : ∀ x0 x1, Statement (.or x0 x1) := fun _ _ _ _ => rfl
theorem xor : ∀ x0 x1, Statement (.xor x0 x1) := fun _ _ _ _ => rfl
theorem andn : ∀ x0 x1, Statement (.andn x0 x1) := fun _ _ _ _ => rfl
theorem shl : ∀ x0 x1, Statement (.shl x0 x1) := fun _ _ _ _ => rfl
theorem shr : ∀ x0 x1, Statement (.shr x0 x1) := fun _ _ _ _ => rfl
theorem sar : ∀ x0 x1, Statement (.sar x0 x1) := fun _ _ _ _ => rfl
theorem rol : ∀ x0 x1, Statement (.rol x0 x1) := fun _ _ _ _ => rfl
theorem min : ∀ x0 x1, Statement (.min x0 x1) := fun _ _ _ _ => rfl
theorem max : ∀ x0 x1, Statement (.max x0 x1) := fun _ _ _ _ => rfl
theorem minu : ∀ x0 x1, Statement (.minu x0 x1) := fun _ _ _ _ => rfl
theorem maxu : ∀ x0 x1, Statement (.maxu x0 x1) := fun _ _ _ _ => rfl
theorem cmp : ∀ x0 x1, Statement (.cmp x0 x1) := fun _ _ _ _ => rfl
theorem cmpu : ∀ x0 x1, Statement (.cmpu x0 x1) := fun _ _ _ _ => rfl
theorem clz : ∀ x0 x1, Statement (.clz x0 x1) := fun _ _ _ _ => rfl
theorem popc : ∀ x0 x1, Statement (.popc x0 x1) := fun _ _ _ _ => rfl
theorem divu : ∀ x0 x1, Statement (.divu x0 x1) := fun _ _ _ _ => rfl
theorem divs : ∀ x0 x1, Statement (.divs x0 x1) := fun _ _ _ _ => rfl
theorem remu : ∀ x0 x1, Statement (.remu x0 x1) := fun _ _ _ _ => rfl
theorem rems : ∀ x0 x1, Statement (.rems x0 x1) := fun _ _ _ _ => rfl
theorem addi : ∀ x0 x1 x2 x3 x4, Statement (.addi x0 x1 x2 x3 x4) := fun _ _ _ _ _ _ _ => rfl
theorem andi : ∀ x0 x1 x2 x3 x4, Statement (.andi x0 x1 x2 x3 x4) := fun _ _ _ _ _ _ _ => rfl
theorem ori : ∀ x0 x1 x2 x3 x4, Statement (.ori x0 x1 x2 x3 x4) := fun _ _ _ _ _ _ _ => rfl
theorem xori : ∀ x0 x1 x2 x3 x4, Statement (.xori x0 x1 x2 x3 x4) := fun _ _ _ _ _ _ _ => rfl
theorem shli : ∀ x0 x1 x2 x3, Statement (.shli x0 x1 x2 x3) := fun _ _ _ _ _ _ => rfl
theorem shri : ∀ x0 x1 x2 x3, Statement (.shri x0 x1 x2 x3) := fun _ _ _ _ _ _ => rfl
theorem sari : ∀ x0 x1 x2 x3, Statement (.sari x0 x1 x2 x3) := fun _ _ _ _ _ _ => rfl
theorem roli : ∀ x0 x1 x2 x3, Statement (.roli x0 x1 x2 x3) := fun _ _ _ _ _ _ => rfl
theorem cmpi : ∀ x0 x1 x2 x3 x4, Statement (.cmpi x0 x1 x2 x3 x4) := fun _ _ _ _ _ _ _ => rfl
theorem lui : ∀ x0 x1 x2 x3 x4, Statement (.lui x0 x1 x2 x3 x4) := fun _ _ _ _ _ _ _ => rfl
theorem mul : ∀ x0 x1 x2, Statement (.mul x0 x1 x2) := fun _ _ _ _ _ => rfl
theorem mulh : ∀ x0 x1 x2, Statement (.mulh x0 x1 x2) := fun _ _ _ _ _ => rfl
theorem mulhu : ∀ x0 x1 x2, Statement (.mulhu x0 x1 x2) := fun _ _ _ _ _ => rfl
theorem mac : ∀ x0 x1 x2, Statement (.mac x0 x1 x2) := fun _ _ _ _ _ => rfl
theorem macs : ∀ x0 x1 x2, Statement (.macs x0 x1 x2) := fun _ _ _ _ _ => rfl
theorem accrd : ∀ x0 x1 x2, Statement (.accrd x0 x1 x2) := fun _ _ _ _ _ => rfl
theorem accld : ∀ x0 x1 x2, Statement (.accld x0 x1 x2) := fun _ _ _ _ _ => rfl
theorem accclr : ∀ x0 x1 x2, Statement (.accclr x0 x1 x2) := fun _ _ _ _ _ => rfl
theorem ld : ∀ x0 x1 x2 x3, Statement (.ld x0 x1 x2 x3) := fun _ _ _ _ _ _ => rfl
theorem ldh : ∀ x0 x1 x2 x3, Statement (.ldh x0 x1 x2 x3) := fun _ _ _ _ _ _ => rfl
theorem ldhu : ∀ x0 x1 x2 x3, Statement (.ldhu x0 x1 x2 x3) := fun _ _ _ _ _ _ => rfl
theorem ldb : ∀ x0 x1 x2 x3, Statement (.ldb x0 x1 x2 x3) := fun _ _ _ _ _ _ => rfl
theorem ldbu : ∀ x0 x1 x2 x3, Statement (.ldbu x0 x1 x2 x3) := fun _ _ _ _ _ _ => rfl
theorem st : ∀ x0 x1 x2 x3, Statement (.st x0 x1 x2 x3) := fun _ _ _ _ _ _ => rfl
theorem sth : ∀ x0 x1 x2 x3, Statement (.sth x0 x1 x2 x3) := fun _ _ _ _ _ _ => rfl
theorem stb : ∀ x0 x1 x2 x3, Statement (.stb x0 x1 x2 x3) := fun _ _ _ _ _ _ => rfl
theorem bld : ∀ x0 x1 x2, Statement (.bld x0 x1 x2) := fun _ _ _ _ _ => rfl
theorem bldn : ∀ x0 x1 x2, Statement (.bldn x0 x1 x2) := fun _ _ _ _ _ => rfl
theorem band : ∀ x0 x1 x2, Statement (.band x0 x1 x2) := fun _ _ _ _ _ => rfl
theorem bandn : ∀ x0 x1 x2, Statement (.bandn x0 x1 x2) := fun _ _ _ _ _ => rfl
theorem bor : ∀ x0 x1 x2, Statement (.bor x0 x1 x2) := fun _ _ _ _ _ => rfl
theorem born : ∀ x0 x1 x2, Statement (.born x0 x1 x2) := fun _ _ _ _ _ => rfl
theorem bxor : ∀ x0 x1 x2, Statement (.bxor x0 x1 x2) := fun _ _ _ _ _ => rfl
theorem bnot : ∀ x0 x1 x2, Statement (.bnot x0 x1 x2) := fun _ _ _ _ _ => rfl
theorem bpush : ∀ x0 x1 x2, Statement (.bpush x0 x1 x2) := fun _ _ _ _ _ => rfl
theorem bpop : ∀ x0 x1 x2, Statement (.bpop x0 x1 x2) := fun _ _ _ _ _ => rfl
theorem bout : ∀ x0 x1 x2, Statement (.bout x0 x1 x2) := fun _ _ _ _ _ => rfl
theorem bset : ∀ x0 x1 x2, Statement (.bset x0 x1 x2) := fun _ _ _ _ _ => rfl
theorem brst : ∀ x0 x1 x2, Statement (.brst x0 x1 x2) := fun _ _ _ _ _ => rfl
theorem bedge : ∀ x0 x1 x2, Statement (.bedge x0 x1 x2) := fun _ _ _ _ _ => rfl
theorem tmrs : ∀ x0 x1 x2, Statement (.tmrs x0 x1 x2) := fun _ _ _ _ _ => rfl
theorem tmrq : ∀ x0 x1 x2, Statement (.tmrq x0 x1 x2) := fun _ _ _ _ _ => rfl
theorem tmrc : ∀ x0 x1 x2, Statement (.tmrc x0 x1 x2) := fun _ _ _ _ _ => rfl
theorem tmrrd : ∀ x0 x1 x2, Statement (.tmrrd x0 x1 x2) := fun _ _ _ _ _ => rfl
theorem br : ∀ x0 x1 x2, Statement (.br x0 x1 x2) := fun _ _ _ _ _ => rfl
theorem brl : ∀ x0 x1 x2, Statement (.brl x0 x1 x2) := fun _ _ _ _ _ => rfl
theorem jmp : ∀ x0 x1, Statement (.jmp x0 x1) := fun _ _ _ _ => rfl
theorem loop : ∀ x0 x1 x2 x3 x4, Statement (.loop x0 x1 x2 x3 x4) := fun _ _ _ _ _ _ _ => rfl
theorem tin : ∀ x0 x1 x2, Statement (.tin x0 x1 x2) := fun _ _ _ _ _ => rfl
theorem tout : ∀ x0 x1 x2, Statement (.tout x0 x1 x2) := fun _ _ _ _ _ => rfl
theorem tbit : ∀ x0 x1 x2, Statement (.tbit x0 x1 x2) := fun _ _ _ _ _ => rfl
theorem tedge : ∀ x0 x1 x2, Statement (.tedge x0 x1 x2) := fun _ _ _ _ _ => rfl
theorem tind : ∀ x0 x1 x2 x3, Statement (.tind x0 x1 x2 x3) := fun _ _ _ _ _ _ => rfl
theorem toutd : ∀ x0 x1 x2, Statement (.toutd x0 x1 x2) := fun _ _ _ _ _ => rfl
theorem toutdLanding : ∀ x0, Statement (.toutdLanding x0) := fun _ _ _ => rfl
theorem frame : ∀ x0 x1 x2, Statement (.frame x0 x1 x2) := fun _ _ _ _ _ => rfl
theorem fcnt : ∀ x0 x1, Statement (.fcnt x0 x1) := fun _ _ _ _ => rfl
theorem lutw : ∀ x0 x1 x2, Statement (.lutw x0 x1 x2) := fun _ _ _ _ _ => rfl
theorem lutws : ∀ x0 x1 x2, Statement (.lutws x0 x1 x2) := fun _ _ _ _ _ => rfl
theorem lutwLanding : ∀ x0, Statement (.lutwLanding x0) := fun _ _ _ => rfl
theorem wev : ∀ x0 x1 x2, Statement (.wev x0 x1 x2) := fun _ _ _ _ _ => rfl
theorem wevTimeout : ∀ x0, Statement (.wevTimeout x0) := fun _ _ _ => rfl
theorem sev : ∀ x0 x1 x2, Statement (.sev x0 x1 x2) := fun _ _ _ _ _ => rfl
theorem evq : ∀ x0 x1 x2, Statement (.evq x0 x1 x2) := fun _ _ _ _ _ => rfl
theorem sld : ∀ x0 x1 x2 x3, Statement (.sld x0 x1 x2 x3) := fun _ _ _ _ _ _ => rfl
theorem sst : ∀ x0 x1 x2 x3, Statement (.sst x0 x1 x2 x3) := fun _ _ _ _ _ _ => rfl
theorem sldq : ∀ x0 x1 x2 x3, Statement (.sldq x0 x1 x2 x3) := fun _ _ _ _ _ _ => rfl
theorem sstq : ∀ x0 x1 x2 x3, Statement (.sstq x0 x1 x2 x3) := fun _ _ _ _ _ _ => rfl
theorem sswap : ∀ x0 x1 x2 x3, Statement (.sswap x0 x1 x2 x3) := fun _ _ _ _ _ _ => rfl
theorem put : ∀ x0 x1 x2, Statement (.put x0 x1 x2) := fun _ _ _ _ _ => rfl
theorem get : ∀ x0 x1 x2, Statement (.get x0 x1 x2) := fun _ _ _ _ _ => rfl
theorem peek : ∀ x0 x1 x2, Statement (.peek x0 x1 x2) := fun _ _ _ _ _ => rfl
theorem qst : ∀ x0 x1 x2, Statement (.qst x0 x1 x2) := fun _ _ _ _ _ => rfl
theorem heldTrapEntry : ∀ x0, Statement (.heldTrapEntry x0) := fun _ _ _ => rfl
theorem trapReturn : ∀ x0 x1, Statement (.trapReturn x0 x1) := fun _ _ _ _ => rfl
theorem setterSrst : ∀ x0 x1 x2, Statement (.setterSrst x0 x1 x2) := fun _ _ _ _ _ => rfl
theorem setterRun : ∀ x0 x1 x2, Statement (.setterRun x0 x1 x2) := fun _ _ _ _ _ => rfl
theorem setterStop : ∀ x0 x1, Statement (.setterStop x0 x1) := fun _ _ _ _ => rfl
theorem setterStep : ∀ x0 x1 x2, Statement (.setterStep x0 x1 x2) := fun _ _ _ _ _ => rfl
theorem setterStateWrite : ∀ x0 x1 x2 x3, Statement (.setterStateWrite x0 x1 x2 x3) := fun _ _ _ _ _ _ => rfl
theorem frameSourceWrite : ∀ x0 x1 x2 x3, Statement (.frameSourceWrite x0 x1 x2 x3) := fun _ _ _ _ _ _ => rfl
theorem pmDebugWrite : ∀ x0 x1 x2, Statement (.pmDebugWrite x0 x1 x2) := fun _ _ _ _ _ => rfl
theorem pmDebugRead : ∀ x0 x1, Statement (.pmDebugRead x0 x1) := fun _ _ _ _ => rfl
theorem timerDebugWrite : ∀ x0 x1 x2 x3, Statement (.timerDebugWrite x0 x1 x2 x3) := fun _ _ _ _ _ _ => rfl
theorem frameTimerTick : ∀ x0 x1, Statement (.frameTimerTick x0 x1) := fun _ _ _ _ => rfl
theorem wingTick : ∀ x0 x1, Statement (.wingTick x0 x1) := fun _ _ _ h => nomatch h
theorem timeBaseTick : ∀ x0 x1, Statement (.timeBaseTick x0 x1) := fun _ _ _ h => nomatch h
theorem wingTickWrite : ∀ x0 x1 x2, Statement (.wingTickWrite x0 x1 x2) := fun _ _ _ _ _ => rfl
theorem setterTimerTick : ∀ x0 x1, Statement (.setterTimerTick x0 x1) := fun _ _ _ _ => rfl
theorem softwareRaise : ∀ x0 x1, Statement (.softwareRaise x0 x1) := fun _ _ _ _ => rfl
theorem eventRaise : ∀ x0, Statement (.eventRaise x0) := fun _ _ _ => rfl
theorem pendingClear : ∀ x0 x1 x2 x3, Statement (.pendingClear x0 x1 x2 x3) := fun _ _ _ _ _ _ => rfl
theorem routeWrite : ∀ x0 x1 x2 x3, Statement (.routeWrite x0 x1 x2 x3) := fun _ _ _ _ _ _ => rfl
theorem liveMaskCheck : ∀ x0, Statement (.liveMaskCheck x0) := fun _ _ _ => rfl
theorem bayJointSend : ∀ x0 x1 x2 x3, Statement (.bayJointSend x0 x1 x2 x3) := fun _ _ _ _ _ _ => rfl
theorem bayJointArrival : ∀ x0 x1 x2, Statement (.bayJointArrival x0 x1 x2) := fun _ _ _ _ _ => rfl
theorem bayJointAck : ∀ x0 x1 x2, Statement (.bayJointAck x0 x1 x2) := fun _ _ _ _ _ => rfl
theorem regionalClockWrite : ∀ x0 x1 x2 x3, Statement (.regionalClockWrite x0 x1 x2 x3) := fun _ _ _ _ _ _ => rfl
theorem regionalClockSwitchDone : ∀ x0 x1, Statement (.regionalClockSwitchDone x0 x1) := fun _ _ _ _ => rfl
theorem regionalResetAssert : ∀ x0 x1 x2, Statement (.regionalResetAssert x0 x1 x2) := fun _ _ _ _ _ => rfl
theorem regionalResetRelease : ∀ x0 x1 x2, Statement (.regionalResetRelease x0 x1 x2) := fun _ _ _ _ _ => rfl
theorem probeSelect : ∀ x0 x1 x2 x3, Statement (.probeSelect x0 x1 x2 x3) := fun _ _ _ _ _ _ => rfl
theorem wingProbeSelect : ∀ x0 x1 x2 x3, Statement (.wingProbeSelect x0 x1 x2 x3) := fun _ _ _ _ _ _ => rfl
theorem pinOptionWrite : ∀ x0 x1 x2 x3, Statement (.pinOptionWrite x0 x1 x2 x3) := fun _ _ _ _ _ _ => rfl
theorem bitslip : ∀ x0 x1, Statement (.bitslip x0 x1) := fun _ _ _ _ => rfl
theorem haltAssert : Statement (.haltAssert) := fun _ _ => rfl
theorem haltRelease : Statement (.haltRelease) := fun _ _ => rfl
theorem haltPinReturn : Statement (.haltPinReturn) := fun _ _ => rfl
theorem vioLoss : ∀ x0, Statement (.vioLoss x0) := fun _ _ _ => rfl
theorem vioReturn : ∀ x0 x1, Statement (.vioReturn x0 x1) := fun _ _ _ _ => rfl
theorem refclkWindow : ∀ x0, Statement (.refclkWindow x0) := fun _ _ _ => rfl
theorem refclkMeasWindow : ∀ x0, Statement (.refclkMeasWindow x0) := fun _ _ _ => rfl
theorem lockWindow : ∀ x0 x1, Statement (.lockWindow x0 x1) := fun _ _ _ _ => rfl
theorem pllCtrlWrite : ∀ x0 x1 x2, Statement (.pllCtrlWrite x0 x1 x2) := fun _ _ _ _ _ => rfl
theorem pllOdivWrite : ∀ x0 x1 x2, Statement (.pllOdivWrite x0 x1 x2) := fun _ _ _ _ _ => rfl
theorem pllOutputStart : ∀ x0 x1, Statement (.pllOutputStart x0 x1) := fun _ _ _ _ => rfl
theorem pllOutputStop : ∀ x0 x1, Statement (.pllOutputStop x0 x1) := fun _ _ _ _ => rfl
theorem storeRequestLand : ∀ x0 x1, Statement (.storeRequestLand x0 x1) := fun _ _ _ h => nomatch h
theorem arbiterDecision : Statement (.arbiterDecision) := fun _ _ => rfl
theorem storeDataBeat : Statement (.storeDataBeat) := fun _ _ => rfl
theorem eccWriteback : Statement (.eccWriteback) := fun _ _ => rfl
theorem requestDrop : ∀ x0, Statement (.requestDrop x0) := fun _ _ _ => rfl
theorem lockCutoff : ∀ x0, Statement (.lockCutoff x0) := fun _ _ _ => rfl
theorem holdCutoff : ∀ x0, Statement (.holdCutoff x0) := fun _ _ _ => rfl
theorem starvationLimit : ∀ x0, Statement (.starvationLimit x0) := fun _ _ _ => rfl
theorem regionWrite : ∀ x0 x1 x2 x3 x4, Statement (.regionWrite x0 x1 x2 x3 x4) := fun _ _ _ _ _ _ _ => rfl
theorem keystoneLineWrite : ∀ x0 x1 x2, Statement (.keystoneLineWrite x0 x1 x2) := fun _ _ _ _ _ => rfl
theorem masterCtrlWrite : ∀ x0 x1 x2, Statement (.masterCtrlWrite x0 x1 x2) := fun _ _ _ _ _ => rfl
theorem bondSwapRequest : ∀ x0, Statement (.bondSwapRequest x0) := fun _ _ _ => rfl
theorem bondValidationDone : Statement (.bondValidationDone) := fun _ _ => rfl
theorem bondTableSwitch : Statement (.bondTableSwitch) := fun _ _ => rfl
theorem windowGet : ∀ x0 x1, Statement (.windowGet x0 x1) := fun _ _ _ _ => rfl
theorem windowQst : ∀ x0 x1, Statement (.windowQst x0 x1) := fun _ _ _ _ => rfl
theorem windowPut : ∀ x0 x1 x2, Statement (.windowPut x0 x1 x2) := fun _ _ _ _ _ => rfl
theorem windowPutEob : ∀ x0 x1 x2, Statement (.windowPutEob x0 x1 x2) := fun _ _ _ _ _ => rfl
theorem hodDescriptorStep : ∀ x0 x1, Statement (.hodDescriptorStep x0 x1) := fun _ _ _ _ => rfl
theorem keyLaneStep : ∀ x0 x1, Statement (.keyLaneStep x0 x1) := fun _ _ _ _ => rfl
theorem keyPayloadDone : ∀ x0, Statement (.keyPayloadDone x0) := fun _ _ _ => rfl
theorem qcmdWrite : ∀ x0, Statement (.qcmdWrite x0) := fun _ _ _ => rfl
theorem qcmdEnable : ∀ x0, Statement (.qcmdEnable x0) := fun _ _ _ => rfl
theorem qcmdDisable : ∀ x0, Statement (.qcmdDisable x0) := fun _ _ _ => rfl
theorem qcmdFlush : ∀ x0, Statement (.qcmdFlush x0) := fun _ _ _ => rfl
theorem qcmdRead : ∀ x0, Statement (.qcmdRead x0) := fun _ _ _ => rfl
theorem qcmdUndefined : ∀ x0 x1, Statement (.qcmdUndefined x0 x1) := fun _ _ _ _ => rfl
theorem packerByte : ∀ x0 x1 x2, Statement (.packerByte x0 x1 x2) := fun _ _ _ _ _ => rfl
theorem packerEndAlone : ∀ x0, Statement (.packerEndAlone x0) := fun _ _ _ => rfl
theorem packerStallExpiry : ∀ x0, Statement (.packerStallExpiry x0) := fun _ _ _ => rfl
theorem packerRoomResume : ∀ x0, Statement (.packerRoomResume x0) := fun _ _ _ => rfl
theorem combineIdleFlush : ∀ x0, Statement (.combineIdleFlush x0) := fun _ _ _ => rfl
theorem combineFlushDone : ∀ x0, Statement (.combineFlushDone x0) := fun _ _ _ => rfl
theorem skewWindowEnd : Statement (.skewWindowEnd) := fun _ _ => rfl
theorem cellForward : ∀ x0, Statement (.cellForward x0) := fun _ _ h => nomatch h
theorem cellInsert : Statement (.cellInsert) := fun _ _ => rfl
theorem keyIntervalExpiry : Statement (.keyIntervalExpiry) := fun _ _ => rfl
theorem qputCell : ∀ x0, Statement (.qputCell x0) := fun _ _ h => nomatch h
theorem qfailCell : ∀ x0, Statement (.qfailCell x0) := fun _ _ h => nomatch h
theorem noteCell : ∀ x0, Statement (.noteCell x0) := fun _ _ h => nomatch h
theorem streamCell : ∀ x0, Statement (.streamCell x0) := fun _ _ h => nomatch h
theorem timeCell : ∀ x0, Statement (.timeCell x0) := fun _ _ h => nomatch h
theorem enumCell : ∀ x0 x1 x2, Statement (.enumCell x0 x1 x2) := fun _ _ _ _ h => nomatch h
theorem enumReturn : ∀ x0 x1, Statement (.enumReturn x0 x1) := fun _ _ _ h => nomatch h
theorem joinCell : ∀ x0, Statement (.joinCell x0) := fun _ _ h => nomatch h
theorem ringPause : ∀ x0, Statement (.ringPause x0) := fun _ _ h => nomatch h
theorem ringResume : ∀ x0, Statement (.ringResume x0) := fun _ _ h => nomatch h
theorem linkCellCrc : ∀ x0, Statement (.linkCellCrc x0) := fun _ _ h => nomatch h
theorem linkCellRetrained : ∀ x0, Statement (.linkCellRetrained x0) := fun _ _ h => nomatch h
theorem linkCellSend : Statement (.linkCellSend) := fun _ _ => rfl
theorem imgCell : ∀ x0, Statement (.imgCell x0) := fun _ _ h => nomatch h
theorem wakeCell : ∀ x0, Statement (.wakeCell x0) := fun _ _ h => nomatch h
theorem badCell : ∀ x0, Statement (.badCell x0) := fun _ _ h => nomatch h
theorem undeliveredCell : ∀ x0, Statement (.undeliveredCell x0) := fun _ _ h => nomatch h
theorem linkLost : Statement (.linkLost) := fun _ _ => rfl
theorem trainReceived : Statement (.trainReceived) := fun _ _ => rfl
theorem linkRealigned : Statement (.linkRealigned) := fun _ _ => rfl
theorem chainListenEnd : ∀ x0, Statement (.chainListenEnd x0) := fun _ _ _ => rfl
theorem timeCellDue : ∀ x0, Statement (.timeCellDue x0) := fun _ _ _ => rfl
theorem timeBaseTimeout : Statement (.timeBaseTimeout) := fun _ _ => rfl
theorem headEnum : ∀ x0, Statement (.headEnum x0) := fun _ _ _ => rfl
theorem headEnumKeep : ∀ x0, Statement (.headEnumKeep x0) := fun _ _ _ => rfl
theorem headJoin : ∀ x0, Statement (.headJoin x0) := fun _ _ _ => rfl
theorem chainBondSwap : ∀ x0, Statement (.chainBondSwap x0) := fun _ _ _ => rfl
theorem txStreamDrain : ∀ x0, Statement (.txStreamDrain x0) := fun _ _ _ => rfl
theorem txStreamIdleFlush : ∀ x0, Statement (.txStreamIdleFlush x0) := fun _ _ _ => rfl
theorem hostPortReady : Statement (.hostPortReady) := fun _ _ => rfl
theorem hostRead : ∀ x0 x1 x2, Statement (.hostRead x0 x1 x2) := fun _ _ _ _ _ => rfl
theorem hostWrite : ∀ x0 x1 x2 x3, Statement (.hostWrite x0 x1 x2 x3) := fun _ _ _ _ _ h => nomatch h
theorem hostStatus : ∀ x0, Statement (.hostStatus x0) := fun _ _ _ => rfl
theorem hostEcho : ∀ x0 x1, Statement (.hostEcho x0 x1) := fun _ _ _ h => nomatch h
theorem hostBadCommand : ∀ x0, Statement (.hostBadCommand x0) := fun _ _ _ => rfl
theorem hostFrameAbort : ∀ x0, Statement (.hostFrameAbort x0) := fun _ _ _ => rfl
theorem slotWriteStream : ∀ x0 x1 x2, Statement (.slotWriteStream x0 x1 x2) := fun _ _ _ _ _ => rfl
theorem slotWriteStall : Statement (.slotWriteStall) := fun _ _ => rfl
theorem slotWriteVerifyDone : Statement (.slotWriteVerifyDone) := fun _ _ => rfl
theorem bootStart : ∀ x0 x1, Statement (.bootStart x0 x1) := fun _ _ _ _ => rfl
theorem loadAttempt : ∀ x0, Statement (.loadAttempt x0) := fun _ _ _ => rfl
theorem loadLockTimeout : ∀ x0, Statement (.loadLockTimeout x0) := fun _ _ _ => rfl
theorem globalRelease : ∀ x0, Statement (.globalRelease x0) := fun _ _ h => nomatch h
theorem backgroundDigestDone : Statement (.backgroundDigestDone) := fun _ _ => rfl
theorem swapRelease : Statement (.swapRelease) := fun _ _ => rfl
theorem swapSetterTransferDone : Statement (.swapSetterTransferDone) := fun _ _ => rfl
theorem swapEnd : Statement (.swapEnd) := fun _ _ => rfl
theorem repointerVisit : ∀ x0, Statement (.repointerVisit x0) := fun _ _ _ => rfl
theorem repointerHeartbeatRestart : ∀ x0, Statement (.repointerHeartbeatRestart x0) := fun _ _ _ => rfl
theorem rptCtrlWrite : ∀ x0 x1 x2, Statement (.rptCtrlWrite x0 x1 x2) := fun _ _ _ _ _ => rfl
theorem plinthBoot : Statement (.plinthBoot) := fun _ _ => rfl
theorem plinthRestart : Statement (.plinthRestart) := fun _ _ => rfl
theorem info : ∀ x0 x1 x2, Statement (.info x0 x1 x2) := fun _ _ _ _ h => nomatch h
theorem reload : ∀ x0 x1 x2, Statement (.reload x0 x1 x2) := fun _ _ _ _ h => nomatch h
theorem setboot : ∀ x0 x1 x2, Statement (.setboot x0 x1 x2) := fun _ _ _ _ h => nomatch h
theorem plinthSwap : ∀ x0 x1 x2, Statement (.plinthSwap x0 x1 x2) := fun _ _ _ _ h => nomatch h
theorem plinthTest : ∀ x0 x1 x2, Statement (.plinthTest x0 x1 x2) := fun _ _ _ _ h => nomatch h
theorem swbegin : ∀ x0 x1 x2, Statement (.swbegin x0 x1 x2) := fun _ _ _ _ h => nomatch h
theorem swdata : ∀ x0 x1 x2, Statement (.swdata x0 x1 x2) := fun _ _ _ _ h => nomatch h
theorem swchunk : ∀ x0 x1 x2, Statement (.swchunk x0 x1 x2) := fun _ _ _ _ h => nomatch h
theorem swabort : ∀ x0 x1 x2, Statement (.swabort x0 x1 x2) := fun _ _ _ _ h => nomatch h
theorem swstat : ∀ x0 x1 x2, Statement (.swstat x0 x1 x2) := fun _ _ _ _ h => nomatch h
theorem firmswitch : ∀ x0 x1 x2, Statement (.firmswitch x0 x1 x2) := fun _ _ _ _ h => nomatch h
theorem keyprog : ∀ x0 x1 x2, Statement (.keyprog x0 x1 x2) := fun _ _ _ _ h => nomatch h
theorem minsvn : ∀ x0 x1 x2, Statement (.minsvn x0 x1 x2) := fun _ _ _ _ h => nomatch h
theorem calset : ∀ x0 x1 x2, Statement (.calset x0 x1 x2) := fun _ _ _ _ h => nomatch h
theorem calclear : ∀ x0 x1 x2, Statement (.calclear x0 x1 x2) := fun _ _ _ _ h => nomatch h
theorem calget : ∀ x0 x1 x2, Statement (.calget x0 x1 x2) := fun _ _ _ _ h => nomatch h
theorem logread : ∀ x0 x1 x2, Statement (.logread x0 x1 x2) := fun _ _ _ _ h => nomatch h
theorem logack : ∀ x0 x1 x2, Statement (.logack x0 x1 x2) := fun _ _ _ _ h => nomatch h
theorem logstream : ∀ x0 x1 x2, Statement (.logstream x0 x1 x2) := fun _ _ _ _ h => nomatch h
theorem sensstream : ∀ x0 x1 x2, Statement (.sensstream x0 x1 x2) := fun _ _ _ _ h => nomatch h
theorem fltclr : ∀ x0 x1 x2, Statement (.fltclr x0 x1 x2) := fun _ _ _ _ h => nomatch h
theorem rptset : ∀ x0 x1 x2, Statement (.rptset x0 x1 x2) := fun _ _ _ _ h => nomatch h
theorem rpthb : ∀ x0 x1 x2, Statement (.rpthb x0 x1 x2) := fun _ _ _ _ h => nomatch h
theorem plinthBadCommand : ∀ x0 x1, Statement (.plinthBadCommand x0 x1) := fun _ _ _ _ => rfl
theorem commandBlockTimeout : Statement (.commandBlockTimeout) := fun _ _ => rfl
theorem responsePost : Statement (.responsePost) := fun _ _ => rfl
theorem i2cWrite : ∀ x0, Statement (.i2cWrite x0) := fun _ _ _ => rfl
theorem i2cRead : ∀ x0, Statement (.i2cRead x0) := fun _ _ _ => rfl
theorem sensorCycle : ∀ x0, Statement (.sensorCycle x0) := fun _ _ h => nomatch h
theorem thresholdWrite : ∀ x0 x1 x2, Statement (.thresholdWrite x0 x1 x2) := fun _ _ _ _ _ => rfl
theorem logRecordWrite : Statement (.logRecordWrite) := fun _ _ => rfl
theorem logStreamPost : Statement (.logStreamPost) := fun _ _ => rfl
theorem faultReport : ∀ x0 x1 x2 x3, Statement (.faultReport x0 x1 x2 x3) := fun _ _ _ _ _ _ => rfl
theorem faultWindowWrite : ∀ x0 x1 x2, Statement (.faultWindowWrite x0 x1 x2) := fun _ _ _ _ _ => rfl
theorem powerRequest : ∀ x0 x1, Statement (.powerRequest x0 x1) := fun _ _ _ _ => rfl
theorem powerResumeRequest : ∀ x0, Statement (.powerResumeRequest x0) := fun _ _ _ => rfl
theorem powerEntryComplete : Statement (.powerEntryComplete) := fun _ _ => rfl
theorem wakeSourceActive : ∀ x0, Statement (.wakeSourceActive x0) := fun _ _ _ => rfl
theorem wakeTimerExpiry : Statement (.wakeTimerExpiry) := fun _ _ => rfl
theorem wakeEnableWrite : ∀ x0 x1 x2 x3, Statement (.wakeEnableWrite x0 x1 x2 x3) := fun _ _ _ _ _ _ => rfl
theorem wakeTimerWrite : ∀ x0 x1, Statement (.wakeTimerWrite x0 x1) := fun _ _ _ _ => rfl
theorem napWake : Statement (.napWake) := fun _ _ => rfl
theorem napWakeRelease : ∀ x0, Statement (.napWakeRelease x0) := fun _ _ h => nomatch h
theorem dormantWake : Statement (.dormantWake) := fun _ _ => rfl
theorem dormantWakeRelease : ∀ x0, Statement (.dormantWakeRelease x0) := fun _ _ h => nomatch h
theorem domainWakeAccess : ∀ x0 x1, Statement (.domainWakeAccess x0 x1) := fun _ _ _ _ => rfl
theorem domainWakeComplete : ∀ x0 x1, Statement (.domainWakeComplete x0 x1) := fun _ _ _ _ => rfl
theorem powerOn : Statement (.powerOn) := fun _ _ => rfl
theorem buckStart : Statement (.buckStart) := fun _ _ => rfl
theorem vsupEarlyDrop : Statement (.vsupEarlyDrop) := fun _ _ => rfl
theorem porstAssert : Statement (.porstAssert) := fun _ _ => rfl
theorem brownoutTrip : Statement (.brownoutTrip) := fun _ _ => rfl
theorem brownoutSaveAbandon : Statement (.brownoutSaveAbandon) := fun _ _ => rfl
theorem brownoutRestart : Statement (.brownoutRestart) := fun _ _ => rfl
theorem brownoutRestoreCmd : ∀ x0, Statement (.brownoutRestoreCmd x0) := fun _ _ _ => rfl
theorem brownoutRestoreDone : Statement (.brownoutRestoreDone) := fun _ _ => rfl
theorem brownoutDiscard : ∀ x0, Statement (.brownoutDiscard x0) := fun _ _ _ => rfl
theorem testBudgetExpiry : Statement (.testBudgetExpiry) := fun _ _ => rfl
theorem testSliceDone : ∀ x0, Statement (.testSliceDone x0) := fun _ _ _ => rfl
theorem tapReset : Statement (.tapReset) := fun _ _ => rfl
theorem extest : ∀ x0 x1, Statement (.extest x0 x1) := fun _ _ _ _ => rfl
theorem samplePreload : ∀ x0 x1, Statement (.samplePreload x0 x1) := fun _ _ _ _ => rfl
theorem idcode : Statement (.idcode) := fun _ _ => rfl
theorem clamp : Statement (.clamp) := fun _ _ => rfl
theorem highz : Statement (.highz) := fun _ _ => rfl
theorem bypass : Statement (.bypass) := fun _ _ => rfl
theorem zimgctlOpen : ∀ x0, Statement (.zimgctlOpen x0) := fun _ _ _ => rfl
theorem zimgctlAbort : Statement (.zimgctlAbort) := fun _ _ => rfl
theorem zimgdata : ∀ x0, Statement (.zimgdata x0) := fun _ _ _ => rfl
theorem zboot : ∀ x0, Statement (.zboot x0) := fun _ _ _ => rfl
theorem zprobesel : ∀ x0, Statement (.zprobesel x0) := fun _ _ _ => rfl
theorem zprobecap : ∀ x0, Statement (.zprobecap x0) := fun _ _ _ => rfl
theorem rcFieldRead : ∀ x0 x1 x2, Statement (.rcFieldRead x0 x1 x2) := fun _ _ _ _ _ => rfl
theorem registerWrite : ∀ x0 x1 x2, Statement (.registerWrite x0 x1 x2) := fun _ _ _ _ _ => rfl
theorem vholdCharged : Statement (.vholdCharged) := fun _ _ => rfl
theorem cleanIdleReturned : Statement (.cleanIdleReturned) := fun _ _ => rfl

end Sys2Proof.Laws.Spelled
end

