-- ==== Sys2Proof/Laws/Raise.lean ====
section
/-! SUPPORT. What a raise can do, said once: it sets pending bits, delivers to setters and to the chain's transmit buffer and uses
free values, and nothing else of the state changes but the event latches kept in the vault. The same for the operations that end in a raise: an instruction's end, a tick,
a stop, a trap. -/

namespace Sys2Proof.Machine

/-- All that a raise and what it delivers can change: pending bits (none is cleared), setters and their vault records, the chain's own
cells and its record of those sent, the counter of free values. -/
structure Raised (s t : State) : Prop where
  eq : t = { s with evt := t.evt, setters := t.setters, irs := { s.irs with own := t.irs.own, sent := t.irs.sent },
                    pwr := { s.pwr with recs := t.pwr.recs }, free := t.free }
  route : t.evt.route = s.evt.route
  note : t.evt.note = s.evt.note
  pend : ∀ n, pendBit s n = true → pendBit t n = true

theorem Raised.refl (s : State) : Raised s s := ⟨rfl, rfl, rfl, fun _ h => h⟩

theorem Raised.trans {s t u : State} (h : Raised s t) (k : Raised t u) : Raised s u := by
  refine ⟨?_, k.route.trans h.route, k.note.trans h.note, fun n hn => k.pend n (h.pend n hn)⟩
  rw [k.eq]
  conv_lhs => rw [h.eq]

/-- The setters and the counter of free values change. -/
theorem Raised.of_setters {s t : State} (h : t = { s with setters := t.setters, free := t.free }) : Raised s t := by
  rw [h]
  exact ⟨rfl, rfl, rfl, fun _ h => h⟩

theorem putS_raised (s : State) (i : SetterId) (x : Setter) : Raised s (s.putS i x) := Raised.of_setters rfl

theorem modS_raised (s : State) (i : SetterId) (f : Setter → Setter) : Raised s (s.modS i f) := Raised.of_setters rfl

theorem usedFree_raised (s : State) : Raised s s.usedFree := Raised.of_setters rfl

/-! ### Pending bits -/

/-- A bit of a word of which one bit was put. -/
theorem setBit_get {w : Nat} (v : BitVec w) (j k : Nat) (b : Bool) (hj : j < w) :
    (setBit v j b).getLsbD k = if k = j then b else v.getLsbD k := by
  have h : (BitVec.ofNat w (2 ^ j)).getLsbD k = (decide (k < w) && decide (j = k)) := by
    rw [BitVec.getLsbD_ofNat, Nat.testBit_two_pow]
  unfold setBit
  generalize BitVec.ofNat w (2 ^ j) = p at h
  by_cases hk : k = j
  · subst hk
    simp only [hj, decide_true, Bool.and_true] at h
    cases b <;> simp [h, hj]
  · have hk' : ¬j = k := fun e => hk e.symm
    simp only [hk', decide_false, Bool.and_false] at h
    cases b
    · by_cases hw : k < w
      · have h' : p[k] = false := by rw [← BitVec.getLsbD_eq_getElem]; exact h
        simp [h', hk, hw]
      · simp [hk, BitVec.getLsbD_of_ge v k (by omega)]
    · simp [h, hk]

theorem nth_nthUpd {α : Type} {n : Nat} (v : Vector α n) (i j : Nat) (f : α → α) :
    nth (nthUpd v i f) j = if i = j then (nth v j).map f else nth v j := by
  unfold nth nthUpd updf
  by_cases hi : i < n <;> by_cases hj : j < n <;> by_cases hij : i = j <;> simp [hi, hj, hij]
  rw [upd_get_other]
  simpa [Fin.ext_iff] using hij

/-- One pending bit put, every other as before (R26, R28). -/
theorem pendBit_putPend (s : State) (n k : Nat) (b : Bool) (hn : n < 640) :
    pendBit (putPend n b s) k = if k = n then b else pendBit s k := by
  unfold pendBit putPend
  simp only [nth_nthUpd]
  have h20 : ∀ m, m / 32 < 20 → ∃ w, nth s.evt.pend (m / 32) = some w := fun m h => ⟨_, dif_pos h⟩
  by_cases h : n / 32 = k / 32
  · obtain ⟨w, hw⟩ := h20 k (by omega)
    rw [if_pos h, hw]
    simp only [Option.map_some, Option.getD_some]
    rw [setBit_get _ _ _ _ (Nat.mod_lt _ (by decide))]
    by_cases hk : k = n
    · simp [hk]
    · rw [if_neg hk, if_neg (by omega)]
  · rw [if_neg h, if_neg (by rintro rfl; exact h rfl)]

/-- Setting a pending bit clears none. -/
theorem setPend_mono (s : State) (n k : Nat) (h : pendBit s k = true) : pendBit (setPend n s) k = true := by
  by_cases hn : n < 640
  · rw [setPend, pendBit_putPend _ _ _ _ hn]; split <;> simp [h]
  · have : nthUpd s.evt.pend (n / 32) (fun w => setBit w (n % 32) true) = s.evt.pend := dif_neg (by omega)
    unfold setPend putPend
    rw [this]; exact h

theorem setPend_raised (n : Nat) (s : State) : Raised s (setPend n s) := ⟨rfl, rfl, rfl, fun k h => setPend_mono s n k h⟩

/-! ### Delivery -/

theorem sendOwn_raised {k : Fin 4} {c : Cell} {s t : State} (h : sendOwn k c s = some t) : Raised s t := by
  unfold sendOwn at h
  split at h
  · cases h
  · cases h
    unfold Irs.remember
    split <;> exact ⟨rfl, rfl, rfl, fun _ h => h⟩

section
variable {rs : Nat → State → State} (hrs : ∀ n s, Raised s (rs n s))
include hrs

theorem settleWith_raised (i : SetterId) (s : State) : Raised s (settleWith rs i s) := by
  unfold settleWith
  split
  · exact .refl s
  · exact (modS_raised s i _).trans (hrs _ _)

theorem tickWith_raised (i : SetterId) (v : BitVec 256) (s : State) : Raised s (tickWith rs i v s) := by
  unfold tickWith
  simp only
  split
  · exact .refl s
  · split
    · split
      · exact putS_raised ..
      · exact (putS_raised ..).trans (settleWith_raised hrs _ _)
    · exact putS_raised ..

theorem wevWith_raised (i : SetterId) (s : State) : Raised s (wevWith rs i s) := by
  unfold wevWith
  simp only
  split
  · split
    · exact .refl s
    · exact (putS_raised ..).trans ((usedFree_raised _).trans (settleWith_raised hrs _ _))
  · exact .refl s

theorem lineWith_raised (wake : Bool) (i : SetterId) (line : Nat) (s : State) : Raised s (lineWith rs wake i line s) := by
  unfold lineWith
  simp only
  split
  · exact .refl s
  · split
    · split
      · exact ⟨rfl, rfl, rfl, fun _ h => h⟩
      · exact .refl s
    · refine Raised.trans ?_ (wevWith_raised hrs _ _)
      split
      · exact (putS_raised s i _).trans ((usedFree_raised _).trans (tickWith_raised hrs _ _ _))
      · exact putS_raised s i _

theorem deliverWith_raised (wake : Bool) (route : Word) (s : State) : Raised s (deliverWith rs wake route s) := by
  unfold deliverWith
  generalize List.finRange 16 = l
  induction l generalizing s with
  | nil => exact .refl s
  | cons i l ih =>
    rw [List.foldl_cons]
    refine Raised.trans ?_ (ih _)
    split
    · exact lineWith_raised hrs _ _ _ _
    · exact .refl s

end

theorem raiseF_raised (f n : Nat) (s : State) : Raised s (raiseF f n s) := by
  induction f generalizing n s with
  | zero => exact setPend_raised n s
  | succ f ih =>
    unfold raiseF
    split
    · exact .refl s
    · split
      · exact setPend_raised n s
      · have h := (setPend_raised n s).trans (deliverWith_raised ih (wakeSource s n) (routeOf s n) (setPend n s))
        simp only
        split
        · split
          · exact h.trans (sendOwn_raised ‹_›)
          · exact h.trans (ih _ _)
        · exact h

/-- All that a raise can do. -/
theorem raise_raised (n : Nat) (s : State) : Raised s (raise n s) := raiseF_raised 20 n s

/-- A raise leaves its pending bit set (R26). -/
theorem raise_pend (n : Nat) (s : State) (hn : n < 640) : pendBit (raise n s) n = true := by
  have h1 : pendBit (setPend n s) n = true := by rw [setPend, pendBit_putPend _ _ _ _ hn, if_pos rfl]
  unfold raise raiseF
  split
  · assumption
  · split
    · exact h1
    · have h := (deliverWith_raised (raiseF_raised 19) (wakeSource s n) (routeOf s n) (setPend n s)).pend n h1
      simp only
      split
      · split
        · exact (sendOwn_raised ‹_›).pend n h
        · exact (raiseF_raised _ _ _).pend n h
      · exact h

/-- A raise that finds its bit pending does nothing (R26). -/
theorem raise_again (n : Nat) (s : State) (h : pendBit s n = true) : raise n s = s := by
  unfold raise raiseF
  rw [if_pos h]

/-- In DORMANT a raise is only recorded (R335). -/
theorem raise_dormant (n : Nat) (s : State) (h : pendBit s n = false) (hd : s.pwr.state = 3) : raise n s = setPend n s := by
  unfold raise raiseF
  rw [if_neg (by simp [h]), if_pos hd]

/-- A raise of a source that no route delivers only sets its bit. -/
theorem raise_unrouted (n : Nat) (s : State) (h : pendBit s n = false) (hr : routeOf s n = 0) : raise n s = setPend n s := by
  have hz : ∀ k, (0 : Word).getLsbD k = false := fun k => by simp
  have hd : deliverWith (raiseF 19) (wakeSource s n) 0 (setPend n s) = setPend n s := by
    unfold deliverWith
    generalize List.finRange 16 = l
    induction l with
    | nil => rfl
    | cons i l ih => rw [List.foldl_cons, hz, if_neg (by decide)]; exact ih
  unfold raise raiseF
  rw [if_neg (by simp [h])]
  split
  · rfl
  · simp only [hr, hd, hz]
    rfl

theorem Raised.bays {s t : State} (h : Raised s t) : t.bays = s.bays := by rw [h.eq]
theorem Raised.io {s t : State} (h : Raised s t) : t.io = s.io := by rw [h.eq]
theorem Raised.clk {s t : State} (h : Raised s t) : t.clk = s.clk := by rw [h.eq]
theorem Raised.store {s t : State} (h : Raised s t) : t.store = s.store := by rw [h.eq]
theorem Raised.arb {s t : State} (h : Raised s t) : t.arb = s.arb := by rw [h.eq]
theorem Raised.hod {s t : State} (h : Raised s t) : t.hod = s.hod := by rw [h.eq]
theorem Raised.hst {s t : State} (h : Raised s t) : t.hst = s.hst := by rw [h.eq]
theorem Raised.img {s t : State} (h : Raised s t) : t.img = s.img := by rw [h.eq]
theorem Raised.rpt {s t : State} (h : Raised s t) : t.rpt = s.rpt := by rw [h.eq]
theorem Raised.rptHb {s t : State} (h : Raised s t) : t.rptHb = s.rptHb := by rw [h.eq]
theorem Raised.pln {s t : State} (h : Raised s t) : t.pln = s.pln := by rw [h.eq]
theorem Raised.pwr {s t : State} (h : Raised s t) : t.pwr = { s.pwr with recs := t.pwr.recs } := congrArg State.pwr h.eq
theorem Raised.bst {s t : State} (h : Raised s t) : t.bst = s.bst := by rw [h.eq]
theorem Raised.tap {s t : State} (h : Raised s t) : t.tap = s.tap := by rw [h.eq]
theorem Raised.glb {s t : State} (h : Raised s t) : t.glb = s.glb := by rw [h.eq]
theorem Raised.rstout {s t : State} (h : Raised s t) : t.rstout = s.rstout := by rw [h.eq]
theorem Raised.faultn {s t : State} (h : Raised s t) : t.faultn = s.faultn := by rw [h.eq]
theorem Raised.resp {s t : State} (h : Raised s t) : t.resp = s.resp := by rw [h.eq]
theorem Raised.stalled {s t : State} (h : Raised s t) : t.stalled = s.stalled := by rw [h.eq]
theorem Raised.pending {s t : State} (h : Raised s t) : t.pending = s.pending := by rw [h.eq]

@[simp] theorem raise_bays (n : Nat) (s : State) : (raise n s).bays = s.bays := (raise_raised n s).bays
@[simp] theorem raise_io (n : Nat) (s : State) : (raise n s).io = s.io := (raise_raised n s).io
@[simp] theorem raise_clk (n : Nat) (s : State) : (raise n s).clk = s.clk := (raise_raised n s).clk
@[simp] theorem raise_store (n : Nat) (s : State) : (raise n s).store = s.store := (raise_raised n s).store
@[simp] theorem raise_arb (n : Nat) (s : State) : (raise n s).arb = s.arb := (raise_raised n s).arb
@[simp] theorem raise_hod (n : Nat) (s : State) : (raise n s).hod = s.hod := (raise_raised n s).hod
@[simp] theorem raise_hst (n : Nat) (s : State) : (raise n s).hst = s.hst := (raise_raised n s).hst
@[simp] theorem raise_img (n : Nat) (s : State) : (raise n s).img = s.img := (raise_raised n s).img
@[simp] theorem raise_rpt (n : Nat) (s : State) : (raise n s).rpt = s.rpt := (raise_raised n s).rpt
@[simp] theorem raise_rptHb (n : Nat) (s : State) : (raise n s).rptHb = s.rptHb := (raise_raised n s).rptHb
@[simp] theorem raise_pln (n : Nat) (s : State) : (raise n s).pln = s.pln := (raise_raised n s).pln
@[simp] theorem raise_pwr_stage (n : Nat) (s : State) : (raise n s).pwr.stage = s.pwr.stage := by rw [(raise_raised n s).pwr]
@[simp] theorem raise_pwr_state (n : Nat) (s : State) : (raise n s).pwr.state = s.pwr.state := by rw [(raise_raised n s).pwr]
@[simp] theorem raise_pwr_inflight (n : Nat) (s : State) : (raise n s).pwr.inflight = s.pwr.inflight := by rw [(raise_raised n s).pwr]
@[simp] theorem raise_pwr_target (n : Nat) (s : State) : (raise n s).pwr.target = s.pwr.target := by rw [(raise_raised n s).pwr]
@[simp] theorem raise_pwr_holdok (n : Nat) (s : State) : (raise n s).pwr.holdok = s.pwr.holdok := by rw [(raise_raised n s).pwr]
@[simp] theorem raise_pwr_result (n : Nat) (s : State) : (raise n s).pwr.result = s.pwr.result := by rw [(raise_raised n s).pwr]
@[simp] theorem raise_pwr_point (n : Nat) (s : State) : (raise n s).pwr.point = s.pwr.point := by rw [(raise_raised n s).pwr]
@[simp] theorem raise_pwr_reached (n : Nat) (s : State) : (raise n s).pwr.reached = s.pwr.reached := by rw [(raise_raised n s).pwr]
@[simp] theorem raise_pwr_waking (n : Nat) (s : State) : (raise n s).pwr.waking = s.pwr.waking := by rw [(raise_raised n s).pwr]
@[simp] theorem raise_pwr_caller (n : Nat) (s : State) : (raise n s).pwr.caller = s.pwr.caller := by rw [(raise_raised n s).pwr]
@[simp] theorem raise_pwr_begun (n : Nat) (s : State) : (raise n s).pwr.begun = s.pwr.begun := by rw [(raise_raised n s).pwr]
@[simp] theorem raise_pwr_selbay (n : Nat) (s : State) : (raise n s).pwr.selbay = s.pwr.selbay := by rw [(raise_raised n s).pwr]
@[simp] theorem raise_pwr_selset (n : Nat) (s : State) : (raise n s).pwr.selset = s.pwr.selset := by rw [(raise_raised n s).pwr]
@[simp] theorem raise_pwr_takenB (n : Nat) (s : State) : (raise n s).pwr.takenB = s.pwr.takenB := by rw [(raise_raised n s).pwr]
@[simp] theorem raise_pwr_takenS (n : Nat) (s : State) : (raise n s).pwr.takenS = s.pwr.takenS := by rw [(raise_raised n s).pwr]
@[simp] theorem raise_pwr_on (n : Nat) (s : State) : (raise n s).pwr.on = s.pwr.on := by rw [(raise_raised n s).pwr]
@[simp] theorem raise_pwr_wakeen (n : Nat) (s : State) : (raise n s).pwr.wakeen = s.pwr.wakeen := by rw [(raise_raised n s).pwr]
@[simp] theorem raise_pwr_wakesrc (n : Nat) (s : State) : (raise n s).pwr.wakesrc = s.pwr.wakesrc := by rw [(raise_raised n s).pwr]
@[simp] theorem raise_pwr_wakepol (n : Nat) (s : State) : (raise n s).pwr.wakepol = s.pwr.wakepol := by rw [(raise_raised n s).pwr]
@[simp] theorem raise_pwr_wtimer (n : Nat) (s : State) : (raise n s).pwr.wtimer = s.pwr.wtimer := by rw [(raise_raised n s).pwr]
@[simp] theorem raise_pwr_wtArmed (n : Nat) (s : State) : (raise n s).pwr.wtArmed = s.pwr.wtArmed := by rw [(raise_raised n s).pwr]
@[simp] theorem raise_pwr_user (n : Nat) (s : State) : (raise n s).pwr.user = s.pwr.user := by rw [(raise_raised n s).pwr]
@[simp] theorem raise_pwr_bor (n : Nat) (s : State) : (raise n s).pwr.bor = s.pwr.bor := by rw [(raise_raised n s).pwr]
@[simp] theorem raise_pwr_incomplete (n : Nat) (s : State) : (raise n s).pwr.incomplete = s.pwr.incomplete := by rw [(raise_raised n s).pwr]
@[simp] theorem raise_pwr_bobusy (n : Nat) (s : State) : (raise n s).pwr.bobusy = s.pwr.bobusy := by rw [(raise_raised n s).pwr]
@[simp] theorem raise_pwr_restored (n : Nat) (s : State) : (raise n s).pwr.restored = s.pwr.restored := by rw [(raise_raised n s).pwr]
@[simp] theorem raise_pwr_nostore (n : Nat) (s : State) : (raise n s).pwr.nostore = s.pwr.nostore := by rw [(raise_raised n s).pwr]
@[simp] theorem raise_pwr_trips (n : Nat) (s : State) : (raise n s).pwr.trips = s.pwr.trips := by rw [(raise_raised n s).pwr]
@[simp] theorem raise_pwr_page (n : Nat) (s : State) : (raise n s).pwr.page = s.pwr.page := by rw [(raise_raised n s).pwr]
@[simp] theorem raise_pwr_saving (n : Nat) (s : State) : (raise n s).pwr.saving = s.pwr.saving := by rw [(raise_raised n s).pwr]
@[simp] theorem raise_pwr_vsup (n : Nat) (s : State) : (raise n s).pwr.vsup = s.pwr.vsup := by rw [(raise_raised n s).pwr]
@[simp] theorem raise_bst (n : Nat) (s : State) : (raise n s).bst = s.bst := (raise_raised n s).bst
@[simp] theorem raise_tap (n : Nat) (s : State) : (raise n s).tap = s.tap := (raise_raised n s).tap
@[simp] theorem raise_glb (n : Nat) (s : State) : (raise n s).glb = s.glb := (raise_raised n s).glb
@[simp] theorem raise_rstout (n : Nat) (s : State) : (raise n s).rstout = s.rstout := (raise_raised n s).rstout
@[simp] theorem raise_faultn (n : Nat) (s : State) : (raise n s).faultn = s.faultn := (raise_raised n s).faultn
@[simp] theorem raise_resp (n : Nat) (s : State) : (raise n s).resp = s.resp := (raise_raised n s).resp
@[simp] theorem raise_stalled (n : Nat) (s : State) : (raise n s).stalled = s.stalled := (raise_raised n s).stalled
@[simp] theorem raise_pending (n : Nat) (s : State) : (raise n s).pending = s.pending := (raise_raised n s).pending

/-! ### Operations that end in a raise -/

theorem raiseIf_raised (c : Bool) (n : Nat) (s : State) : Raised s (raiseIf c n s) := by
  unfold raiseIf
  split
  · exact raise_raised n s
  · exact .refl s

theorem settle_raised (i : SetterId) (s : State) : Raised s (settle i s) := settleWith_raised raise_raised i s

theorem tickSetter_raised (i : SetterId) (v : BitVec 256) (s : State) : Raised s (tickSetter i v s) :=
  tickWith_raised raise_raised i v s

theorem stopSetter_raised (i : SetterId) (f : Setter → Setter) (s : State) : Raised s (stopSetter i f s) :=
  (modS_raised s i _).trans (raise_raised _ _)

theorem enterTrap_raised (i : SetterId) (vec sub : Nat) (addr : Word) (s : State) : Raised s (enterTrap i vec sub addr s) :=
  (modS_raised s i _).trans (raise_raised _ _)

theorem syncTrap_raised (i : SetterId) (vec sub : Nat) (addr : Word) (s : State) : Raised s (syncTrap i vec sub addr s) := by
  unfold syncTrap
  split
  · exact (modS_raised s i _).trans ((raise_raised _ _).trans (raise_raised _ _))
  · exact (modS_raised s i _).trans ((enterTrap_raised ..).trans (settle_raised ..))

theorem takeHeld_raised (i : SetterId) (c : Nat × Nat × Word × Setter) (s : State) : Raised s (takeHeld i c s) :=
  (putS_raised s i _).trans (enterTrap_raised _ _ _ _ _)

theorem retire_raised (i : SetterId) (cost : Nat) (load : Option Reg) (mac : Bool) (s : State) : Raised s (retire i cost load mac s) :=
  (modS_raised s i _).trans (settle_raised _ _)

/-- The state that an instruction's own work answered. -/
def Fate.state : Fate → State
  | .done s _ _ _ => s
  | .going s => s
  | .hold s => s
  | .trap s _ _ _ => s

theorem finish_raised (i : SetterId) (il : Nat) (f : Fate) : Raised f.state (finish i il f) := by
  cases f with
  | done s cost load mac => exact retire_raised i (cost + il) load mac s
  | going s => unfold finish; exact modS_raised ..
  | hold s => exact .refl s
  | trap s vec sub addr => exact (modS_raised s i _).trans (syncTrap_raised ..)

/-- Issuing an instruction does what its own work does and what raises do: for every relation that holds across both, it holds across the
issue. -/
theorem issue_rel (R : State → State → Prop) (trans : ∀ {s t u}, R s t → R t u → R s u) (raised : ∀ {s t}, Raised s t → R s t)
    (i : SetterId) (reads : List Reg) (acc : Bool) (body : State → Fate) (hb : ∀ s, R s (body s).state) (s : State) :
    R s (issue i reads acc body s) := by
  unfold issue
  simp only
  split
  · exact raised (.refl s)
  · split
    · exact trans (hb _) (raised (finish_raised ..))
    · split
      · exact raised (takeHeld_raised ..)
      · split
        · exact raised (stopSetter_raised ..)
        · split
          · exact raised (syncTrap_raised ..)
          · exact trans (raised ((putS_raised ..).trans (raise_raised ..))) (trans (hb _) (raised (finish_raised ..)))
          · exact trans (hb _) (raised (finish_raised ..))

/-- A recorded cause of a master changes STR_MCAUSEm and STR_MADDRm beside the raise (R188). -/
theorem masterCause_eq (m : Nat) (bits : BitVec 6) (addr : Nat) (s : State) :
    Raised { s with arb := { s.arb with mcause := nthUpd s.arb.mcause m (· ||| bits), maddr := nthUpd s.arb.maddr m (fun _ => BitVec.ofNat 32 addr) } }
      (masterCause m bits addr s) := raise_raised _ _

end Sys2Proof.Machine
end

