-- ==== Sys2Proof/Laws/Store.lean ====
section
/-! SUPPORT. What the operations over the central store do to its bytes, said once, and that each keeps the store's canonical form;
what `Kept` states is what every operation of the machine must keep for the queue of commands, the store's form and the region
registers. -/

namespace Sys2Proof.Machine

/-- The store's listed bytes stand at strictly rising addresses. -/
abbrev Store.wf (s : Store) : Prop := kvWf keepAll s.mem = true

/-! ### Bytes -/

theorem putBytes_wf (d : List Byte) (m : List Host.Cell) (a : Nat) (h : kvWf keepAll m = true) : kvWf keepAll (putBytes m a d) = true := by
  induction d generalizing m a with
  | nil => exact h
  | cons b t ih => exact ih _ _ (kvPut_wf _ _ _ _ h)

/-- What stands at an address after bytes have been listed. -/
theorem kvGet_putBytes (d : List Byte) (m : List Host.Cell) (a n : Nat) :
    kvGet (putBytes m a d) n = if a ≤ n ∧ n < a + d.length then d[n - a]? else kvGet m n := by
  induction d generalizing m a with
  | nil =>
    rw [if_neg (by simp only [List.length_nil]; omega)]
    rfl
  | cons b t ih =>
    simp only [putBytes, ih, List.length_cons]
    by_cases h1 : a + 1 ≤ n ∧ n < a + 1 + t.length
    · rw [if_pos h1, if_pos (by omega)]
      obtain ⟨k, rfl⟩ : ∃ k, n = a + 1 + k := ⟨n - (a + 1), by omega⟩
      rw [show a + 1 + k - a = k + 1 by omega, List.getElem?_cons_succ, show a + 1 + k - (a + 1) = k by omega]
    · rw [if_neg h1]
      by_cases h2 : n = a
      · subst h2
        rw [if_pos (by omega), kvGet_put_same]
        simp [keepAll]
      · rw [if_neg (by omega), kvGet_put_other _ _ _ _ _ (fun e => h2 e.symm)]

/-- The store's bytes after bytes have been listed. -/
theorem storeByteAt_putBytes (s : State) (st : Store) (a : Nat) (d : List Byte) (n : Nat)
    (h : st.mem = putBytes s.store.mem a d) (he : st.epoch = s.store.epoch) :
    storeByteAt { s with store := st } n = if a ≤ n ∧ n < a + d.length then d.getD (n - a) 0 else storeByteAt s n := by
  simp only [storeByteAt, h, he, kvGet_putBytes]
  split
  · rw [List.getD_eq_getElem?_getD, List.getElem?_eq_getElem (by omega)]
    rfl
  · rfl

/-- Two lists in canonical form, the keys of the first below those of the second, stand in it together. -/
theorem kvWf_append {α : Type} (drop : α → Bool) (l r : List (Nat × α)) (hl : kvWf drop l = true) (hr : kvWf drop r = true)
    (h : ∀ x ∈ l, ∀ y ∈ r, x.1 < y.1) : kvWf drop (l ++ r) = true := by
  induction l with
  | nil => exact hr
  | cons e l ih =>
    obtain ⟨k, v⟩ := e
    simp only [kvWf, Bool.and_eq_true, List.cons_append] at hl ⊢
    refine ⟨⟨hl.1.1, ?_⟩, ih hl.2 (fun x hx => h x (List.mem_cons_of_mem _ hx))⟩
    simp only [kvAbove, List.all_append, Bool.and_eq_true, List.all_eq_true, decide_eq_true_eq] at hl ⊢
    exact ⟨hl.1.2, fun y hy => h (k, v) (List.mem_cons_self ..) y hy⟩

theorem zeros_wf (a n : Nat) : kvWf keepAll ((List.range n).map (fun i => ((a + i, 0) : Host.Cell))) = true := by
  induction n with
  | zero => rfl
  | succ n ih =>
    rw [List.range_succ, List.map_append]
    refine kvWf_append _ _ _ ih rfl ?_
    simp only [List.mem_map, List.mem_range, List.map_cons, List.map_nil, List.mem_singleton]
    rintro x ⟨i, hi, rfl⟩ y rfl
    show a + i < a + n
    omega

/-- The store after its contents are lost. -/
theorem loseStore_wf (s : State) : (loseStore s).store.wf := rfl

theorem restoreStore_wf (l : List (Nat × List Byte)) (s : State) (h : s.store.wf) : (restoreStore l s).store.wf := by
  unfold restoreStore
  induction l generalizing s with
  | nil => exact h
  | cons e l ih => exact ih _ (putBytes_wf _ _ _ h)

/-! ### What every operation keeps -/

/-- The queue of waiting commands and the region registers stand, and a store in its canonical form stays in it. -/
structure Kept (s t : State) : Prop where
  pending : t.pending = s.pending
  base : t.arb.rbase = s.arb.rbase
  lim : t.arb.rlim = s.arb.rlim
  store : s.store.wf → t.store.wf

theorem Kept.refl (s : State) : Kept s s := ⟨rfl, rfl, rfl, id⟩

theorem Kept.trans {s t u : State} (h : Kept s t) (k : Kept t u) : Kept s u :=
  ⟨k.pending.trans h.pending, k.base.trans h.base, k.lim.trans h.lim, fun w => k.store (h.store w)⟩

/-- What is kept from a state is kept from one that agrees with it in the queue, the region registers and the store's bytes. -/
theorem Kept.from {s r t : State} (h : Kept r t) (hp : r.pending = s.pending) (hb : r.arb.rbase = s.arb.rbase)
    (hl : r.arb.rlim = s.arb.rlim) (hs : r.store.mem = s.store.mem) : Kept s t :=
  ⟨h.pending.trans hp, h.base.trans hb, h.lim.trans hl, fun w => h.store (by rw [Store.wf, hs]; exact w)⟩

theorem Raised.kept {s t : State} (h : Raised s t) : Kept s t :=
  ⟨h.pending, by rw [h.arb], by rw [h.arb], fun w => by rw [h.store]; exact w⟩

theorem raise_kept (n : Nat) (s : State) : Kept s (raise n s) := (raise_raised n s).kept

/-- Issuing an instruction keeps what its own work keeps. -/
theorem issue_kept (i : SetterId) (reads : List Reg) (acc : Bool) (body : State → Fate) (hb : ∀ s, Kept s (body s).state) (s : State) :
    Kept s (issue i reads acc body s) := issue_rel Kept Kept.trans Raised.kept i reads acc body hb s

theorem regionViolation_kept (m a : Nat) (s : State) : Kept s (regionViolation m a s) :=
  (masterCause_eq m 1 a s).kept.from rfl rfl rfl rfl

theorem masterCause_kept (m : Nat) (bits : BitVec 6) (addr : Nat) (s : State) : Kept s (masterCause m bits addr s) :=
  (masterCause_eq m bits addr s).kept.from rfl rfl rfl rfl

theorem setBarred_kept (m : Nat) (s : State) : Kept s (setBarred m s) := ⟨rfl, rfl, rfl, id⟩

theorem startWake_kept (d : Domain) (s : State) : Kept s (startWake d s) := by
  unfold startWake
  split
  · exact .refl s
  · cases d <;> exact ⟨rfl, rfl, rfl, id⟩

theorem unlock_kept (m beat : Nat) (s : State) : Kept s (unlock m beat s) := ⟨rfl, rfl, rfl, id⟩

theorem fenceOn_kept (m : Nat) (s : State) : Kept s (fenceOn m s) := ⟨rfl, rfl, rfl, id⟩

theorem correctHalf_kept (s : State) (h : Nat) : Kept s (correctHalf s h) := by
  unfold correctHalf
  split
  · exact ⟨rfl, rfl, rfl, id⟩
  · exact .refl s

theorem correctHalf_fold_kept (l : List Nat) (s : State) : Kept s (l.foldl correctHalf s) := by
  induction l generalizing s with
  | nil => exact .refl s
  | cons h l ih => exact (correctHalf_kept s h).trans (ih _)

theorem storeRead_kept (a n : Nat) (s : State) : Kept s (storeRead a n s).2 := by
  unfold storeRead
  split
  · exact ⟨rfl, rfl, rfl, id⟩
  · exact correctHalf_fold_kept _ s

theorem storeWrite_kept (a : Nat) (d : List Byte) (s : State) : Kept s (storeWrite a d s).2 := by
  unfold storeWrite
  simp only
  split
  · exact .refl s
  · exact ⟨rfl, rfl, rfl, fun w => putBytes_wf d _ a w⟩

theorem cutOff_kept (m : Nat) (bits : BitVec 6) (addr : Nat) (s : State) : Kept s (cutOff m bits addr s) := by
  have tail : ∀ u : State, Kept u (if h : m < 16 then
      (if (u.st ⟨m, h⟩).issues then syncTrap ⟨m, h⟩ 8 0 (BitVec.ofNat 32 addr) u else u) else u) := by
    intro u
    split
    · split
      · exact (syncTrap_raised ..).kept
      · exact .refl _
    · exact .refl _
  unfold cutOff
  simp only
  refine Kept.trans ?_ (tail _)
  exact (masterCause_kept m bits addr _).from rfl rfl rfl rfl

theorem dropOrd_kept (m : Nat) (s : State) : Kept s (dropOrd m s) := ⟨rfl, rfl, rfl, id⟩

theorem cutLock_kept (bits : BitVec 6) (l : Nat × Nat) (s : State) : Kept s (cutLock bits l s) :=
  (dropOrd_kept l.1 s).trans (cutOff_kept ..)

/-- One beat's data phase. -/
theorem storeBeat_kept (m a n : Nat) (wr : Option (List Byte)) (s : State) : Kept s (storeBeat m a n wr s).2 := by
  unfold storeBeat
  cases wr with
  | none =>
    have h := storeRead_kept a n s
    revert h
    generalize storeRead a n s = r
    rintro h
    rcases r with ⟨_ | d, t⟩ <;> exact h
  | some d =>
    have h := storeWrite_kept a d s
    dsimp only
    revert h
    generalize storeWrite a d s = r
    rintro h
    rcases r with ⟨_ | _, t⟩ <;> exact h.trans (unlock_kept ..)

theorem addWait_kept (m n : Nat) (s : State) : Kept s (addWait m n s) := ⟨rfl, rfl, rfl, id⟩

theorem endWait_kept (m : Nat) (s : State) : Kept s (endWait m s) := ⟨rfl, rfl, rfl, id⟩

theorem reportStarve_kept (m : Nat) (s : State) : Kept s (reportStarve m s) := (raise_kept _ _).from rfl rfl rfl rfl

theorem passWait_kept (m n : Nat) (s : State) : Kept s (passWait m n s) := by
  unfold passWait
  simp only
  split
  · exact (addWait_kept m n s).trans ((reportStarve_kept ..).trans (endWait_kept ..))
  · exact (addWait_kept m n s).trans (endWait_kept ..)

theorem storeDoor_kept (m a n : Nat) (rd wr : Bool) (s : State) : ∀ r ∈ storeDoor m a n rd wr s, Kept s r.2 := by
  intro r h
  unfold storeDoor at h
  split at h
  · cases h; exact .refl s
  · split at h
    · cases h; exact .refl s
    · split at h
      · cases h; exact setBarred_kept m s
      · split at h
        · cases h; exact regionViolation_kept m a s
        · split at h
          · cases h; exact startWake_kept .store s
          · cases h

/-- An access of a master to the store, taken as a whole. -/
theorem storeAccess_kept (m a n : Nat) (wr : Option (List Byte)) (key : Bool) (s : State) : Kept s (storeAccess m a n wr key s).2 := by
  unfold storeAccess
  split
  · exact storeDoor_kept m a n _ _ s _ ‹_›
  · split
    · exact .refl s
    · have first : ∀ l : Option (Nat × Nat), Kept s (match l with
          | some l => cutLock 16 l s
          | none => s) := by
        intro l
        cases l with
        | none => exact .refl s
        | some e => exact cutLock_kept ..
      exact (first _).trans ((passWait_kept ..).trans ((storeBeat_kept m a n wr _).from rfl rfl rfl rfl))

/-! ### The store's joints -/

theorem respond_kept (m : Nat) (c : RespCode) (d : List Byte) (s : State) : Kept s (s.respond m c d) := ⟨rfl, rfl, rfl, id⟩

theorem raiseReq_kept (m : Nat) (q : StoreReq) (s : State) : Kept s (raiseReq m q s) := by
  unfold raiseReq
  simp only
  split <;> exact ⟨rfl, rfl, rfl, id⟩

theorem landReq_kept (m : Nat) (q : StoreReq) (s : State) : Kept s (landReq m q s) := by
  unfold landReq
  split
  · exact (setBarred_kept m s).trans (respond_kept ..)
  · split
    · exact respond_kept ..
    · split
      · exact (regionViolation_kept ..).trans (respond_kept ..)
      · exact (respond_kept ..).trans ((startWake_kept ..).trans (raiseReq_kept ..))

/-- What waited at the joints lands. -/
theorem openJoints_kept (s : State) : Kept s (openJoints s) := by
  have all : ∀ (l : List (Nat × StoreReq)) (u : State), Kept u (l.foldl (fun t e => landReq e.1 e.2 t) u) := by
    intro l
    induction l with
    | nil => exact Kept.refl
    | cons e l ih => exact fun u => (landReq_kept e.1 e.2 u).trans (ih _)
  exact (all s.arb.joint _).from rfl rfl rfl rfl

/-- A march leaves the store in its canonical form. -/
theorem marchStore_wf (a n : Nat) (done : Bool) (s : State) (h : s.store.wf) : (marchStore a n done s).store.wf := by
  refine (openJoints_kept _).store ?_
  have hz : kvWf keepAll (if done then (List.range n).map (fun i => ((a + i, 0) : Host.Cell)) else []) = true := by
    split
    · exact zeros_wf a n
    · rfl
  have hm : ∀ x ∈ (if done then (List.range n).map (fun i => ((a + i, 0) : Host.Cell)) else []), a ≤ x.1 ∧ x.1 < a + n := by
    split
    · simp only [List.mem_map, List.mem_range]
      rintro x ⟨i, hi, rfl⟩
      exact ⟨by show a ≤ a + i; omega, by show a + i < a + n; omega⟩
    · simp
  have above : ∀ y ∈ s.store.mem.filter (fun e => decide (a + n ≤ e.1)), a + n ≤ y.1 := by
    intro y hy
    simpa using (List.mem_filter.mp hy).2
  have below : ∀ y ∈ s.store.mem.filter (fun e => decide (e.1 < a)), y.1 < a := by
    intro y hy
    simpa using (List.mem_filter.mp hy).2
  refine kvWf_append _ _ _ (kvWf_append _ _ _ (kvFilter_wf _ _ _ h) hz ?_) (kvFilter_wf _ _ _ h) ?_
  · intro x hx y hy
    have := below x hx
    have := hm y hy
    omega
  · intro x hx y hy
    have := above y hy
    rcases List.mem_append.mp hx with hx | hx
    · have := below x hx
      omega
    · have := hm x hx
      omega

end Sys2Proof.Machine
end

