-- ==== Sys2Proof/Tests/Slice0.lean ====
section
/-! SUPPORT. Tests: the well-formedness check refuses an ill-formed term of each kind, words of the spec's encodings decode to
their instructions, results worked out by hand from the rules, and for every statement with hypotheses a state and operands that
meet them. -/

namespace Sys2Proof.Tests
set_option Elab.async false
open Sys2Proof Sys2Proof.Machine Sys2Proof.Claims

/-! ### States to test on -/

/-- A running setter with every service permitted. -/
def runner : Setter := { Setter.reset with run := true, stopped := false, needSnap := false, perm := 63 }

/-- A bay whose logic runs. -/
def ranBay : Bay := { Bay.reset with rstSrc := Vector.replicate 4 0, tree := 0 }

/-- Every master may read and write the whole address space (R187). -/
def openArb : Arb :=
  let base : Vector (Vector Word 8) 32 := Vector.ofFn (fun m : Fin 32 => if m.val < 30 then #v[7, 0, 0, 0, 0, 0, 0, 0] else Vector.replicate 8 0)
  let lim : Vector (Vector Word 8) 32 :=
    Vector.ofFn (fun m : Fin 32 => if m.val < 30 then #v[0xFFFFF000, 0, 0, 0, 0, 0, 0, 0] else Vector.replicate 8 0)
  let both := Vector.ofFn (fun m : Fin 32 => (base.get m, lim.get m))
  { Arb.reset with rbase := base, rlim := lim, regEff := both, regMid := both }

/-- A started device after its global release: every setter runs, all bays run, the plinth, the host port and the chain are up. -/
def live : State := { State.reset with
  setters := Vector.replicate 16 runner, bays := Vector.replicate 64 ranBay, rstout := false, faultn := false,
  pwr := { Pwr.reset with stage := .run, on := true }, img := { Img.reset with hold := false, locked := true, everRel := true },
  arb := openArb, pln := { Pln.reset with ready := true }, hst := { Hst.reset with ready := true },
  irs := { Irs.reset with chen := true, bypopen := true, addrv := true, addr := 5, inlock := true } }

/-- The same with setter 0 changed. -/
def with0 (f : Setter → Setter) : State := live.putS 0 (f runner)

/-- Setter 0 with these values in g1, g2 and g3. -/
def regs (a b c : Word) (x : Setter) : Setter := { x with g := #v[0, a, b, c, 0, 0, 0, 0, 0, 0, 0, 0, 0, 0, 0, 0] }

/-- The state that a command leaves. -/
def after (c : Instr) (s : State) : State :=
  match exec c s with
  | .next t => t
  | _ => s

/-- Setter 0 after a command. -/
def after0 (c : Instr) (s : State) : Setter := (after c s).st 0

/-- The checks of `RegOpen` on a started device. -/
def regOpenB (s : State) (m : Nat) (b : Block) (off : Nat) (wr : Bool) : Bool :=
  s.pwr.stage == .run && s.pwr.state != 3 && regionOk s m (blockAddr b off) 4 (!wr) wr &&
  (match blockDomain b with
    | some d => !asleep d s
    | none => true) && (b != .hod || !portBusy 16 s)

theorem regOpen_of {s : State} {m : Nat} {b : Block} {off : Nat} {wr : Bool} (h : regOpenB s m b off wr = true) :
    RegOpen s m b off wr := by
  simp only [regOpenB, Bool.and_eq_true, beq_iff_eq, bne_iff_ne, ne_eq] at h
  obtain ⟨⟨⟨⟨h1, h2⟩, h3⟩, h4⟩, h5⟩ := h
  refine ⟨.inl h1, h2, h3, fun d hd => ?_, fun hb => ?_⟩
  · rw [hd] at h4
    simpa using h4
  · subst hb
    simpa using h5

theorem setOpen_of {s : State} {m : Master} {i : SetterId} {off : Nat} {wr : Bool} (h : regOpenB s m.val (.set i) off wr = true)
    (h2 : (s.st i).isol = false) : SetOpen s m i off wr := ⟨regOpen_of h, h2⟩

theorem ex_some {α : Type} {o : Option α} {p : α → Bool} (h : o.any p = true) : ∃ t, o = some t ∧ p t = true := by
  cases o with
  | none => cases h
  | some t => exact ⟨t, rfl, h⟩

/-! ### Well-formedness refuses -/

/-- A cell with 31 payload bytes, a store write of 4 bytes with 3 of data, a store request of no beat, 5 nets for a wing of 4 setters, a
frame's data of the wrong length, an empty echo, 256 arguments, 4 temperatures in a sensor cycle. -/
theorem test_wf_refuses :
    (Instr.cellForward ⟨1, 2, 5, 0, false, false, List.replicate 31 0, 0⟩).wf = false ∧
    (Instr.storeRequestLand 17 ⟨0, 1, 4, true, false, false, [1, 2, 3]⟩).wf = false ∧
    (Instr.storeRequestLand 17 ⟨0, 0, 4, false, false, false, []⟩).wf = false ∧
    (Instr.wingTick 0 [0, 0, 0, 0, 0]).wf = false ∧ (Instr.timeBaseTick 0 []).wf = false ∧
    (Instr.hostWrite 0 0 1 [7]).wf = false ∧ (Instr.hostEcho 0 []).wf = false ∧
    (Instr.info .queue 0 (List.replicate 256 0)).wf = false ∧
    (Instr.sensorCycle ⟨[1, 2, 3, 4], List.replicate 9 0, List.replicate 4 0⟩).wf = false := by decide +kernel

/-- And accepts their well-formed neighbours. -/
theorem test_wf_accepts :
    (Instr.cellForward ⟨1, 2, 5, 0, false, false, List.replicate 32 0, 0⟩).wf = true ∧
    (Instr.storeRequestLand 17 ⟨0, 1, 4, true, false, false, [1, 2, 3, 4]⟩).wf = true ∧
    (Instr.wingTick 0 [0, 0, 0, 0]).wf = true ∧ (Instr.hostWrite 0 0 1 [7, 8]).wf = true ∧
    (Instr.sensorCycle ⟨List.replicate 5 0, List.replicate 9 0, List.replicate 4 0⟩).wf = true := by decide +kernel

/-! ### Words of program memory, written out from R75 to R112 -/

/-- A word in the A format (R75). -/
def formA (op d a b fn : Nat) : Word := BitVec.ofNat 32 (op * 2 ^ 26 + d * 2 ^ 22 + a * 2 ^ 18 + b * 2 ^ 14 + fn)

/-- A word in the I format (R75). -/
def formI (op d a mode imm : Nat) : Word := BitVec.ofNat 32 (op * 2 ^ 26 + d * 2 ^ 22 + a * 2 ^ 18 + mode * 2 ^ 16 + imm)

/-- One word of each opcode of R77 stands for its instruction. -/
theorem test_words_decode :
    decodeWord 0 0 false 0 = .nop 0 none ∧
    decodeWord 0 (formA 0x00 0 0 0 (3 * 1024 + 16)) false 0 = .sleep 0 ⟨0, 0, 0⟩ ∧
    decodeWord 0 (formA 0x01 3 1 2 0x000A) false 0 = .sar 0 ⟨3, 1, 2⟩ ∧
    decodeWord 0 (formI 0x02 4 5 2 0x8001) false 0 = .addi 0 4 5 2 0x8001 ∧
    decodeWord 0 (formI 0x05 4 5 3 7) false 0 = .xori 0 4 5 3 7 ∧
    decodeWord 0 (formI 0x06 1 2 2 31) false 0 = .sari 0 1 2 31 ∧
    decodeWord 0 (formI 0x08 9 0 0 0xFFFF) false 0 = .lui 0 9 0 0 0xFFFF ∧
    decodeWord 0 (formA 0x09 0 1 2 4) false 0 = .macs 0 ⟨0, 1, 2⟩ 0 ∧
    decodeWord 0 (formA 0x09 7 0 0 (0x1F * 32 + 5)) false 0 = .accrd 0 ⟨7, 0, 0⟩ 0x1F ∧
    decodeWord 0 (formA 0x10 0 6 0 (5 * 512 + 17)) false 0 = .born 0 ⟨0, 6, 0⟩ 17 ∧
    decodeWord 0 (formA 0x1A 0 15 0 0) false 0 = .jmp 0 ⟨0, 15, 0⟩ ∧
    decodeWord 0 (formI 0x1B 2 0 0 0xFFFF) false 0 = .loop 0 2 0 0 0xFFFF := by decide +kernel

/-- Words that R76 refuses: a reserved opcode, a reserved function, a field that must be 0. -/
theorem test_words_reserved :
    decodeWord 0 (formA 0x3F 0 0 0 0) false 0 = .nop 0 (some .reservedOpcode) ∧
    decodeWord 0 (formA 0x01 1 2 3 0x0018) false 0 = .nop 0 (some .reservedFunction) ∧
    decodeWord 0 1 false 0 = .nop 0 (some .operandRule) := by decide +kernel

/-- The words that the spec prints. -/
theorem test_words_printed : printed 0 false 0 := by
  refine ⟨?_, ?_, ?_, ?_, ?_, ?_⟩ <;> decide +kernel

/-! ### Results of setter instructions, by hand from the rules -/

/-- R80, R85: 0xFFFF_FFFF + 1 wraps to 0 with Z and C; 0x7FFF_FFFF + 1 overflows. -/
theorem test_add_wraps :
    let x := after0 (.add 0 ⟨3, 1, 2⟩) (with0 (regs 0xFFFFFFFF 1 0))
    x.g.get 3 = 0 ∧ x.flags = ⟨true, false, true, false, false, false⟩ ∧ x.pc = 1 ∧
      (after0 (.add 0 ⟨3, 1, 2⟩) (with0 (regs 0x7FFFFFFF 1 0))).flags = ⟨false, true, false, true, false, false⟩ := by decide +kernel

/-- R85: 0 − 0 with borrow in is −1, borrow out. -/
theorem test_subb_borrows :
    let x := after0 (.subb 0 ⟨1, 1, 2⟩) (with0 (fun x => { x with flags := { x.flags with c := true } }))
    x.g.get 1 = 0xFFFFFFFF ∧ x.flags = ⟨false, true, true, false, false, false⟩ := by decide +kernel

/-- R86: an arithmetic shift keeps the sign; an amount of 32 counts as 0 and leaves C. -/
theorem test_sar_sign :
    let x := after0 (.sar 0 ⟨3, 1, 2⟩) (with0 (regs 0x80000001 1 0))
    x.g.get 3 = 0xC0000000 ∧ x.flags.c = true ∧
      (after0 (.sar 0 ⟨3, 1, 2⟩) (with0 (regs 0x80000001 32 0))).g.get 3 = 0x80000001 := by decide +kernel

/-- R88: 0x8000_0000 by −1, and a division by 0. -/
theorem test_divs_corners :
    let x := after0 (.divs 0 ⟨3, 1, 2⟩) (with0 (regs 0x80000000 0xFFFFFFFF 0))
    let y := after0 (.divu 0 ⟨3, 1, 2⟩) (with0 (regs 5 0 0))
    x.g.get 3 = 0x80000000 ∧ x.flags.v = true ∧ x.scan = 34 ∧ y.g.get 3 = 0xFFFFFFFF ∧ y.flags.v = true := by decide +kernel

/-- R91: the signed and unsigned high words of 0xFFFF_FFFF times itself. -/
theorem test_mulh_sign :
    (after0 (.mulh 0 ⟨3, 1, 2⟩ 0) (with0 (regs 0xFFFFFFFF 0xFFFFFFFF 0))).g.get 3 = 0 ∧
    (after0 (.mulhu 0 ⟨3, 1, 2⟩ 0) (with0 (regs 0xFFFFFFFF 0xFFFFFFFF 0))).g.get 3 = 0xFFFFFFFE := by decide +kernel

/-- R92: ACC 3 shifted by 1 with rounding reads 2; ACC 2^31 saturates. -/
theorem test_accrd_rounds :
    (after0 (.accrd 0 ⟨3, 0, 0⟩ 0x41) (with0 (fun x => { x with acc := 3 }))).g.get 3 = 2 ∧
    (after0 (.accrd 0 ⟨3, 0, 0⟩ 0x80) (with0 (fun x => { x with acc := 0x80000000 }))).g.get 3 = 0x7FFFFFFF := by decide +kernel

/-- R93: a halfword 0x8000 loads with its sign; a store writes its bytes least significant first. -/
theorem test_local_memory :
    (after0 (.ldh 0 3 1 0) (with0 (fun x => regs 4 0 0 { x with data := [(5, 0x80)] }))).g.get 3 = 0xFFFF8000 ∧
    memByte (after0 (.st 0 2 1 0) (with0 (regs 4 0x11223344 0))).data 4 = 0x44 ∧
    memByte (after0 (.st 0 2 1 0) (with0 (regs 4 0x11223344 0))).data 7 = 0x11 := by decide +kernel

/-- R94: an access above the data memory traps to vector 2, a misaligned one to vector 3, with the address in EADDR. -/
theorem test_local_traps :
    let x := after0 (.ld 0 3 1 0) (with0 (regs 0x8000 0 0))
    let y := after0 (.ld 0 3 1 0) (with0 (regs 2 0 0))
    x.causeVec = 2 ∧ x.pc = 2 ∧ x.eaddr = 0x8000 ∧ x.tm = true ∧ y.causeVec = 3 ∧ y.eaddr = 2 := by decide +kernel

/-- R65: a cause while a trap is served stops the setter with DBLTRAP and raises sources 257 and 261 of setter 0. -/
theorem test_double_trap :
    let t := after (.nop 0 (some .reservedOpcode)) (with0 (fun x => { x with tm := true }))
    (t.st 0).dbltrap = true ∧ (t.st 0).run = false ∧ pendBit t 257 = true ∧ pendBit t 261 = true := by decide +kernel

/-- R100: a branch of −1 from 0 wraps to 16,383; LOOP from 1 falls through with 0. -/
theorem test_flow :
    (after0 (.br 0 0 0x3FFFFF) live).pc = 0x3FFF ∧
    (after0 (.loop 0 1 0 0 5) (with0 (regs 1 0 0))).pc = 1 ∧ (after0 (.loop 0 1 0 0 5) (with0 (regs 0 0 0))).pc = 5 := by decide +kernel

/-- R98: an on-delay timer of preset 2 is done at its second tick. -/
theorem test_timer_on_delay :
    let s := with0 (fun x => { x with timers := x.timers.set 0 { Timer.reset with preset := 2, running := true, inp := true } })
    let t := after (.setterTimerTick 0 0) s
    ((t.st 0).timers.get 0).done = false ∧ (((after (.setterTimerTick 0 0) t).st 0).timers.get 0).done = true := by decide +kernel

/-- R26, R29: a raise delivers on its route's line; a second raise with the bit pending delivers nothing. -/
theorem test_raise_delivers :
    let s : State := { live with evt := { live.evt with route := [(3, 0x00020001)] } }
    let t := after (.eventRaise 3) s
    (t.st 0).evl = 4 ∧ (t.st 1).evl = 0 ∧ pendBit t 3 = true ∧ (after (.eventRaise 3) t).setters = t.setters := by decide +kernel

/-- R37: SRST leaves the PC and the registers 0. -/
theorem test_srst :
    let t := after (.setterSrst 16 0 0) (with0 (fun x => regs 7 8 9 { x with pc := 100 }))
    (t.st 0).pc = 0 ∧ (t.st 0).g = Vector.replicate 16 0 ∧ (t.st 0).run = true := by decide +kernel

/-- A device whose wing PLLs run with output 0. -/
def clocked : State := { live with clk := { live.clk with pll := Vector.replicate 8 { Pll.reset false with ctrl := 0x8000000F, lock := true, outs := 15, odiv := 0x80808080 } } }

/-- The running device on whose bays every regional clock runs. -/
def ticking : State := { clocked with bays := Vector.replicate 64 { ranBay with rclk := Vector.replicate 4 ⟨true, false, 0, 0, none, 0⟩ } }

/-! ### Hypotheses met: setters -/

/-- Every setter of the running device is ready: SumsAndCompares, LogicShiftsCounts, Divisions, Immediates, Multiplier, Flow, Taps,
EventInstructions, StoreInstructions, QueueInstructions, SysServices. -/
theorem hyps_ready (i : SetterId) : Ready live i := by
  constructor <;> revert i <;> decide +kernel

/-- LocalLoads, LocalStores: the last word, the last halfword and the last byte of the data memory. -/
theorem hyps_local :
    Ready (with0 (regs 0x7FFC 0x7FFE 0x7FFF)) 0 ∧
    Plain (regs 0x7FFC 0x7FFE 0x7FFF runner) (localAddr (regs 0x7FFC 0x7FFE 0x7FFF runner) 1 0) 4 ∧
    Plain (regs 0x7FFC 0x7FFE 0x7FFF runner) (localAddr (regs 0x7FFC 0x7FFE 0x7FFF runner) 2 0) 2 ∧
    Plain (regs 0x7FFC 0x7FFE 0x7FFF runner) (localAddr (regs 0x7FFC 0x7FFE 0x7FFF runner) 2 1) 1 := by
  refine ⟨?_, ?_, ?_, ?_⟩ <;> constructor <;> decide +kernel

/-- BitLogic: a stack of depth 15, which takes one more and gives one. -/
theorem hyps_bitLogic : Ready (with0 (fun x => { x with bdepth := 15 })) 0 ∧
    ((with0 (fun x => { x with bdepth := 15 })).st 0).bdepth.toNat < 16 ∧ 0 < ((with0 (fun x => { x with bdepth := 15 })).st 0).bdepth.toNat := by
  refine ⟨?_, ?_, ?_⟩ <;> first | decide +kernel | (constructor <;> decide +kernel)

/-- Timers: a running setter's timers tick. -/
theorem hyps_timers : ((live.st 3).stopped && (live.st 3).dbgfrz) = false ∧ (live.st 3).gated = false ∧ (live.st 3).isol = false := by
  decide +kernel

/-- Flow: a condition of each value, a jump to the last word, a FENCE with nothing on its way and one with a TOUTD. -/
theorem hyps_flow :
    let w := with0 (fun x => { x with toutd := [(0, true)] })
    (conditions Flags.reset)[0]? = some true ∧ (conditions Flags.reset)[1]? = some false ∧ (conditions Flags.reset)[15]? = some false ∧
    (((with0 (regs 16383 0 0)).st 0).g.get 1).toNat < 16384 ∧ (live.st 0).lutw = [] ∧ (live.st 0).toutd = [] ∧
    Ready w 0 ∧ (w.st 0).toutd ≠ [] := by
  refine ⟨?_, ?_, ?_, ?_, ?_, ?_, ?_, ?_⟩ <;> first | decide +kernel | (constructor <;> decide +kernel)

/-- A setter that waits at no FENCE. -/
theorem noFence {x : Setter} (h : x.wait = .none) : NoFence x := fun w e => by rw [h] at e; cases e

/-- Taps: a mapped tap of each direction whose bay runs, an unmapped one, a TOUTD on its way alone and with a FENCE that waits for it. -/
theorem hyps_taps :
    let s := with0 (fun x => { x with toutd := [(255, true)], wait := .fence 3 })
    let t := with0 (fun x => { x with toutd := [(255, true), (0, false)], wait := .fence 3 })
    kvGet [(255, 0x40000000#32)] 255 = some 0x40000000#32 ∧ kvGet (live.st 0).tapIn 0 = none ∧ (field 0x40000000#32 31 30).toNat ≠ 0 ∧
    (live.bay (wingBay 0 0x40000000)).runs = true ∧ asleep (.bay (wingBay 0 0x40000000)) live = false ∧
    (with0 (fun x => { x with toutd := [(255, true)] })).st 0 = { runner with toutd := (255, true) :: [] } ∧ NoFence runner ∧
    (s.st 0).wait = .fence 3 ∧ (s.st 0).run = true ∧ (s.st 0).toutd = (255, true) :: [] ∧ (s.st 0).lutw = [] ∧
    (t.st 0).toutd = (255, true) :: [(0, false)] ∧ (t.st 0).wait = .fence 3 := by
  refine ⟨?_, ?_, ?_, ?_, ?_, ?_, noFence rfl, ?_, ?_, ?_, ?_, ?_, ?_⟩ <;> decide +kernel

/-- LiveCells: setter 0 owns the live cell of course 255 in bay 15; a staged mask of it; a landing in a bay that runs and in one that
is held. -/
theorem hyps_liveCells :
    let cell := 15 * 65536 + 255 * 16 + 15
    let x := regs (BitVec.ofNat 32 cell) 0xABCD 0 runner
    let s := live.putS 0 x
    Ready s 0 ∧ x.g.get 1 = BitVec.ofNat 32 cell ∧ 15 / 16 = 0 / 4 ∧ ownerOf (s.bay 15) 255 = 0 % 4 ∧ asleep (.bay 15) s = false ∧
    (∀ e ∈ x.staging, e.1 ≠ cell) ∧ x.staging.length < 32 ∧
    ({ x with staging := [(15 * 4096 + 255 * 16 + 15, 0#16)] } : Setter).staging = [] ++ (15 * 4096 + 255 * 16 + 15, 0#16) :: [] := by
  refine ⟨?_, ?_, ?_, ?_, ?_, ?_, ?_, ?_⟩ <;> first | decide +kernel | (constructor <;> decide +kernel)

/-- LiveCells, the landings: on a clock that runs, one whose line is stopped, one that is not enabled, in a bay that is held. -/
theorem hyps_lutwLanding :
    let with1 (c : State) := (c.putS 0 { runner with lutw := [(15 * 4096 + 255 * 16 + 15, 1)] }).modBay 15 (fun b =>
      { b with rclk := Vector.replicate 4 ⟨true, false, 0, 0, none, 0⟩ })
    let s := with1 clocked
    let t := s.modBay 15 (fun b => { b with held := true })
    let c0 := (s.bay 15).rclk.get 0
    ((s.st 0).lutw = [(15 * 4096 + 255 * 16 + 15, 1)] ∧ NoFence (s.st 0) ∧ (s.bay 15).runs = true ∧ c0.en = true ∧ c0.busy = false ∧
      (s.bay 15).dozed = false ∧ lineRuns s (15 / 16) c0.sel.toNat = true) ∧
    lineRuns (with1 live) (15 / 16) c0.sel.toNat = false ∧ ((live.bay 15).rclk.get 0).en = false ∧
    (t.bay 15).runs = false ∧ (t.st 0).lutw = (s.st 0).lutw := by
  refine ⟨⟨?_, noFence rfl, ?_, ?_, ?_, ?_, ?_⟩, ?_, ?_, ?_, ?_⟩ <;> decide +kernel

/-- EventInstructions: a latch of the mask found, none found with a timeout and with one of 0, and a setter that waits, with RUN 1 and 0. -/
theorem hyps_events :
    let s := with0 (fun x => regs 4 1 0 { x with evl := 4 })
    let t := with0 (regs 4 1 0)
    let z := with0 (regs 4 0 0)
    let u := with0 (fun x => { x with wait := .wev 0 4 0xFFFFFFFE })
    Ready s 0 ∧ (s.st 0).evl &&& (s.st 0).g.get 1 ≠ 0 ∧ Ready t 0 ∧ (t.st 0).evl &&& (t.st 0).g.get 1 = 0 ∧ (t.st 0).g.get 2 ≠ 0 ∧
    Ready z 0 ∧ (z.st 0).g.get 2 = 0 ∧
    (u.st 0).wait = .wev 0 4 0xFFFFFFFE ∧ (u.st 0).run = true ∧ (0xFFFFFFFE#32 ≠ 0xFFFFFFFF#32) ∧
    ((with0 (fun x => { x with wait := .wev 0 4 0xFFFFFFFE, run := false })).st 0).run = false ∧
    ∀ d mask timeout, (live.st 0).wait ≠ .wev d mask timeout := by
  refine ⟨?_, ?_, ?_, ?_, ?_, ?_, ?_, ?_, ?_, ?_, ?_, fun d m v h => ?_⟩
  case refine_12 => exact absurd ((show (live.st 0).wait = .none by decide +kernel).symm.trans h) (by intro e; cases e)
  all_goals first | decide +kernel | (constructor <;> decide +kernel)

/-- FrameCommits: a FRAME behind a LUTW, no tick due, one tick due with each OVRPOL, and a swap's shadow bank waiting for the FRAME. -/
theorem hyps_frameCommits :
    let late (pol : Bool) := with0 (fun x => { x with fen := true, armed := true, due := 1, ovrpol := pol })
    let behind := with0 (fun x => { x with lutw := [(15, 1)], lutStall := some 4 })
    let stalled := with0 (fun x => { x with lutStall := some 4 })
    let v : Swap := ⟨1, 0, 1, false, Vector.replicate 64 0, true, true, 1, 0, 0⟩
    let sw : State := { with0 (fun x => { x with shadow := some ([], none, false) }) with img := { live.img with swap := some v } }
    (Ready behind 0 ∧ (behind.st 0).lutw ≠ [] ∧ (behind.st 0).lutStall = some 4) ∧ (Ready stalled 0 ∧ (stalled.st 0).lutw = [] ∧ (4 : Nat) ≠ 0) ∧
    (Ready live 0 ∧ (live.st 0).lutw = [] ∧ takesSwap 0 live = false ∧ (live.st 0).armed = false) ∧
    (Ready (late false) 0 ∧ takesSwap 0 (late false) = false ∧ ((late false).st 0).due = 1 ∧ ((late false).st 0).armed = true) ∧
    (Ready (late true) 0 ∧ takesSwap 0 (late true) = false ∧ ((late true).st 0).ovrpol = true) ∧
    (Ready sw 0 ∧ (sw.st 0).lutw = [] ∧ (sw.st 0).shadow = some ([], none, false) ∧ (sw.st 0).armed = false ∧ sw.img.swap = some v ∧
      v.moved = true ∧ v.rel = true ∧ v.left.getLsbD 0 = true) := by
  refine ⟨⟨?_, ?_, ?_⟩, ⟨?_, ?_, ?_⟩, ⟨?_, ?_, ?_, ?_⟩, ⟨?_, ?_, ?_, ?_⟩, ⟨?_, ?_, ?_⟩, ⟨?_, ?_, ?_, ?_, ?_, ?_, ?_, ?_⟩⟩ <;>
    first | decide +kernel | (constructor <;> decide +kernel)

/-- A setter that waits at FRAME for a source. -/
def atFrame (src : Nat) : Setter :=
  { runner with wait := .frame 9, fen := true, fsrc := BitVec.ofNat 32 src, fperiod := 1, ftb := 1 }

theorem atFrame_atFrame (src : Nat) (h : src < 4) : AtFrame (atFrame src) src 9 := by
  refine ⟨rfl, rfl, ?_, rfl, ⟨rfl, rfl, rfl⟩, rfl, rfl, rfl⟩
  revert h; revert src; decide +kernel

/-- FrameTicks: a waiting setter for each timed source, a setter that has not reached its FRAME, a wing tick, a valid time base. -/
theorem hyps_frameTicks :
    let s := live.putS 0 (atFrame 0)
    let w : State := { live.putS 0 (atFrame 1) with glb := { live.glb with wtick := Vector.replicate 4 0x80000001 } }
    let t : State := { live.putS 0 (atFrame 3) with irs := { live.irs with tbvalid := true } }
    let d := with0 (fun x => { x with fen := true, fperiod := 1, armed := true })
    (AtFrame (s.st 0) 0 9 ∧ (field (s.st 0).fperiod 15 0).toNat ≠ 0 ∧ (s.st 0).stopped = false) ∧
    ((d.st 0).wait = .none ∧ (d.st 0).armed = true ∧ (field (d.st 0).fperiod 15 0).toNat ≠ 0 ∧ (field (d.st 0).fsrc 1 0).toNat = 0) ∧
    ((w.glb.wtick.get 0).getLsbD 31 = true ∧ (field (w.glb.wtick.get 0) 15 0).toNat ≠ 0 ∧ (∀ j, (w.st j).run = true) ∧
      AtFrame (w.st (wingSetter 0 0)) 1 9) ∧
    (t.irs.tbvalid = true ∧ (∀ j, (t.st j).run = true) ∧ AtFrame (t.st 0) 3 9 ∧ (t.st 0).tblost = false ∧
      0 < (field (t.st 0).ftb 15 0).toNat ∧ 7 % (field (t.st 0).ftb 15 0).toNat = (field (t.st 0).ftb 31 16).toNat % (field (t.st 0).ftb 15 0).toNat) := by
  refine ⟨⟨atFrame_atFrame 0 (by decide), ?_, ?_⟩, ?_, ⟨?_, ?_, ?_, atFrame_atFrame 1 (by decide)⟩,
    ⟨?_, ?_, atFrame_atFrame 3 (by decide), ?_, ?_, ?_⟩⟩ <;> decide +kernel

/-- TrapCauses: operands for each of its rows with a condition, with TM 0 and 1; each held cause; the return. -/
theorem hyps_trapCauses :
    (∀ tm, Ready (with0 (fun x => { x with tm := tm })) 0) ∧
    (∀ e ∈ [regs 0x8000 0 0, regs 0x7FFE 0 0, regs 16384 0 0, regs 0x800000 0 0, regs 0x7FFFFE 0 0], Ready (with0 e) 0) ∧
    Ready (with0 (fun x => regs 0x7FFC 0 0 { x with dataErr := [(0x1FFF, .double)] })) 0 ∧
    Ready (with0 (fun x => { x with bdepth := 16 })) 0 ∧
    (let h := with0 (fun x => { x with heldSys := some (7, 3), heldOvr := true, heldTm := 0x82 })
     (h.st 0).issues = true ∧ (h.st 0).run = true ∧ (h.st 0).tm = false ∧ (h.st 0).heldSys = some (7, 3)) ∧
    (let h := with0 (fun x => { x with heldTm := 0x80 })
     (h.st 0).heldSys = none ∧ (h.st 0).heldOvr = false ∧ (h.st 0).heldTm.getLsbD 7 = true ∧ (h.st 0).again = false ∧
      ∀ u < 7, (h.st 0).heldTm.getLsbD u = false) ∧
    (live.pwr.stage = .run ∧ live.pwr.state ≠ 3 ∧ asleep (.setter 0) live = false ∧ (live.st 0).isol = false ∧
      regionOk live 0 0x20200044 4 false true = true) := by
  refine ⟨?_, ?_, ?_, ?_, ?_, ?_, ?_⟩
  · intro tm; cases tm <;> constructor <;> decide +kernel
  · intro e he
    simp only [List.mem_cons, List.not_mem_nil, or_false] at he
    rcases he with rfl | rfl | rfl | rfl | rfl <;> constructor <;> decide +kernel
  all_goals first | decide +kernel | (constructor <;> decide +kernel)

/-- A store whose first and last 16 bytes have been written. -/
def written0 : State := { live with store := { live.store with
  mem := (List.range 16).map (fun k => (k, BitVec.ofNat 8 (k + 1))) ++ (List.range 16).map (fun k => (0x7FFFF0 + k, BitVec.ofNat 8 (k + 1))) } }

/-- StoreInstructions: the first word and the last quad of the store. -/
theorem hyps_storeInstructions :
    StoreOpen written0 0 0 4 true false ∧ StoreOpen written0 0 0 4 false true ∧ StoreOpen written0 0 0 4 true true ∧
    StoreOpen written0 0 0x7FFFF0 16 true false ∧ StoreOpen written0 0 0x7FFFF0 16 false true ∧ (4 : Reg).val % 4 = 0 ∧
    Ready (written0.putS 0 (regs 0x7FFFF0 0 0 runner)) 0 := by
  refine ⟨?_, ?_, ?_, ?_, ?_, ?_, ?_⟩ <;> first | decide +kernel | (constructor <;> decide +kernel)

/-- A device with queue 64 enabled, 8 elements at 0x1000, holding `n` of them, its head in the buffer. -/
def queued (n : Nat) : State := { live with hod := { live.hod with
  desc := [(64, ⟨0x80001000, BitVec.ofNat 32 n, 0, 0⟩)], comb := [⟨0x1000, 64, some [1, 2, 3, 4, 0x80, 0, 0, 0], none⟩] } }

theorem queued_open (n : Nat) (h : n < 9) : QueueOpen (queued n) 64 := by
  constructor <;> revert n <;> decide +kernel

/-- Port p of the hod is free on a live device. -/
theorem queued_free (n : Nat) (h : n < 9) (p : Nat) (hp : p < 20) : PortFree (queued n) p := by
  constructor <;> revert p <;> revert n <;> decide +kernel

/-- A device with KEY queue 64 of 8 elements at the end of the store, n of them written. -/
def keyQueue (n : Nat) : State := { written0 with hod := { live.hod with desc := [(64, ⟨0xC07FFFC0, BitVec.ofNat 32 n, 0, 0⟩)] } }

theorem keyQueue_open (n : Nat) (h : n < 9) : QueueOpen (keyQueue n) 64 := by
  constructor <;> revert n <;> decide +kernel

theorem keyQueue_free (n : Nat) (h : n < 9) (p : Nat) (hp : p < 20) : PortFree (keyQueue n) p := by
  constructor <;> revert p <;> revert n <;> decide +kernel

/-- A device whose packer p feeds queue 64, which holds n elements, with every regional clock running. -/
def packing (p : Nat) (n : Nat) (k : Packer) : State := { ticking with hod := { ticking.hod with
  desc := [(64, ⟨0xA0001000, BitVec.ofNat 32 n, 0, BitVec.ofNat 32 (p * 2 ^ 15 + 2 ^ 20)⟩)], pack := Vector.replicate 32 k } }

/-- QueueInstructions, the other forms: a PUT to a PACK queue with TM 0 and 1; a remote PUT, ordinary and keystone, with and without
room, refused for KEN and KENREF, into an idle and a used keystone buffer. -/
theorem hyps_queueInstructions2 :
    let k (tm : Bool) : State := (packing 31 0 Packer.reset).putS 0 (regs 64 5 0 { runner with tm := tm })
    let far (kc : Bool) (r : Irs) : State := { live.putS 0 (regs (remoteQueue 0xFFF 0xFFFF kc) 5 0 runner) with irs := r }
    let key (l : List Cell) : Irs := { live.irs with ken := true, ownKey := l }
    let c (n : Nat) : List Cell := List.replicate n ⟨1, 2, 5, 0, false, false, List.replicate 32 0, 0⟩
    (∀ tm, Ready (k tm) 0 ∧ ((k tm).st 0).g.get 1 = localQueue 64 ∧ PortFree (k tm) 0 ∧ QueueOpen (k tm) 64 ∧
      (descOf (k tm) 64).pack = true ∧ (descOf (k tm) 64).key = false ∧ ((k tm).st 0).tm = tm) ∧
    (∀ kc, Ready (far kc live.irs) 0 ∧ ((far kc live.irs).st 0).g.get 1 = remoteQueue 0xFFF 0xFFFF kc ∧ asleep .hod (far kc live.irs) = false) ∧
    ((far false live.irs).irs.own.get 0).length ≤ Config.txRoom 0 ∧
    Config.txRoom 0 < ((far false { live.irs with own := Vector.replicate 4 (c (Config.txRoom 0 + 1)) }).irs.own.get 0).length ∧
    (live.irs.ken = false ∧ ({ key [] with kenref := true } : Irs).kenref = true) ∧
    ((key []).ken = true ∧ (key []).kenref = false ∧ (key []).ownKey.length ≤ Config.txRoom 4 ∧ (key []).keyHold = false ∧ (key []).ownKey = [] ∧
      ({ key [] with keyHold := true } : Irs).keyHold = true) ∧
    Config.txRoom 4 < (key (c (Config.txRoom 4 + 1))).ownKey.length := by
  refine ⟨fun tm => ?_, fun kc => ?_, ?_, ?_, ?_, ⟨?_, ?_, ?_, ?_, ?_, ?_⟩, ?_⟩
  · cases tm <;> refine ⟨?_, ?_, ?_, ?_, ?_, ?_, ?_⟩ <;> first | decide +kernel | (constructor <;> decide +kernel)
  · cases kc <;> refine ⟨?_, ?_, ?_⟩ <;> first | decide +kernel | (constructor <;> decide +kernel)
  · exact Nat.zero_le _
  · show _ < (List.replicate (Config.txRoom 0 + 1) _).length
    rw [List.length_replicate]; omega
  · decide +kernel
  · decide +kernel
  · decide +kernel
  · exact Nat.zero_le _
  · decide +kernel
  · decide +kernel
  · decide +kernel
  · show _ < (List.replicate (Config.txRoom 4 + 1) _).length
    rw [List.length_replicate]; omega

/-- QueueInstructions: an empty queue, one with room, a full one, a disabled one, an element in the buffer, a KEY queue. -/
theorem hyps_queueInstructions :
    let s := (queued 7).putS 0 (regs 64 0xAA 0 runner)
    let off : State := live.putS 0 (regs 64 0xAA 0 runner)
    Ready s 0 ∧ ((s.st 0).g.get 1 = localQueue 64 ∧ (descOf s 64).pack = false ∧ (descOf s 64).key = false ∧
    regionOk s 0 (descOf s 64).base (descOf s 64).ring false true = true ∧ (descOf s 64).count ≠ (descOf s 64).cap ∧
    combRoom s ((descOf s 64).elem (descOf s 64).tail / 16 * 16) = true ∧ (descOf (queued 8) 64).count = (descOf (queued 8) 64).cap ∧
    (descOf (queued 0) 64).count = 0 ∧ (descOf s 64).count ≠ 0 ∧ (combGet s ((descOf s 64).elem (descOf s 64).head)).isSome = true ∧
    (descOf off 64).en = false ∧ (descOf off 64).key = false ∧ kvGet off.hod.derr 64 = none) ∧
    QueueOpen (queued 7) 64 ∧ PortFree (queued 7) 15 ∧ QueueOpen (keyQueue 7) 64 ∧ PortFree (keyQueue 7) 0 ∧
    ((descOf (keyQueue 7) 64).key = true ∧ (descOf (keyQueue 7) 64).pack = false ∧ (descOf (keyQueue 7) 64).count ≠ 0 ∧
      (descOf (keyQueue 7) 64).count ≠ (descOf (keyQueue 7) 64).cap ∧
      regionOk (keyQueue 7) 0 (descOf (keyQueue 7) 64).base (descOf (keyQueue 7) 64).ring true false = true ∧
      regionOk (keyQueue 7) 0 (descOf (keyQueue 7) 64).base (descOf (keyQueue 7) 64).ring false true = true) := by
  refine ⟨?_, ?_, queued_open 7 (by decide), queued_free 7 (by decide) 15 (by decide), keyQueue_open 7 (by decide),
    keyQueue_free 7 (by decide) 0 (by decide), ?_⟩
  · constructor <;> decide +kernel
  all_goals decide +kernel

/-- ControlRegisters: EVT_ROUTE0, read and written. -/
theorem hyps_controlRegisters :
    let s := live.putS 0 (regs (BitVec.ofNat 32 (blockAddr .evt 0x1000)) 3 0 runner)
    (((s.st 0).g.get 1).toNat = blockAddr .evt 0x1000 ∧ placeOf (blockAddr .evt 0x1000) = .reg .evt 0x1000 ∧ 0x1000 % 4 = 0) ∧
    RegOpen s 0 .evt 0x1000 false ∧ RegOpen s 0 .evt 0x1000 true ∧
    (∃ e, blockRead .evt 0x1000 none s = some e ∧ ((e.2.st 0).run) = true) ∧
    ∃ t, blockWrite 0 .evt 0x1000 3 (freeEnv s) (s.putS 0 { s.st 0 with pc := 1 }) = some t ∧ (t.st 0).run = true := by
  exact ⟨by decide +kernel, regOpen_of (by decide +kernel), regOpen_of (by decide +kernel),
    ex_some (p := fun e : Word × State => (e.2.st 0).run) (by decide +kernel),
    ex_some (p := fun t : State => (t.st 0).run) (by decide +kernel)⟩

/-! ### Hypotheses met: services, bus accesses, debug -/

/-- The running device with the power controller selecting bay 0 and a wake source enabled. -/
def selecting : State := { live with pwr := { live.pwr with selbay := 1, wakeen := 1 } }

theorem mayChange_selecting (n : Nat) (h : n = 1 ∨ n = 2 ∨ n = 3) : MayChange selecting n := by
  rcases h with rfl | rfl | rfl <;> constructor <;> decide +kernel

/-- SysServices: SLEEP to each state, RESUME in RUN and DOZE, a test of bay 1 and one under way, a swap of bay 0, both bond tables, an
undefined service, a service without its permission. -/
theorem hyps_sysServices :
    (∀ n : Word, n.toNat ∈ [1, 2, 3] → Ready (selecting.putS 0 (regs n 0 0 runner)) 0 ∧ (runner.perm.getLsbD 0) = true) ∧
    selecting.pwr.wakesrc &&& selecting.pwr.wakeen = 0 ∧
    (live.pwr.inflight = false ∧ live.pwr.state = 0) ∧
    (testBlock 0x01 = some (.bay 1) ∧ MayTest { live with img := { live.img with locked := true } } (.bay 1) 0x00010001 true) ∧
    live.bst.slice = none ∧ live.arb.bond.phase = .idle ∧ live.irs.bond.phase = .idle ∧
    (∀ e ∈ sysRows, (0x3FF : BitVec 10).toNat ≠ e.2.1) ∧
    (∀ e ∈ sysRows, ((with0 (fun x => { x with perm := 0 })).st 0).perm.getLsbD e.2.2 = false) := by
  refine ⟨?_, by decide +kernel, by decide +kernel, ⟨by decide +kernel, ?_⟩, by decide +kernel, by decide +kernel, by decide +kernel,
    by decide +kernel, by decide +kernel⟩
  · intro n h
    simp only [List.mem_cons, List.not_mem_nil, or_false] at h
    have : n = 1 ∨ n = 2 ∨ n = 3 := by
      rcases h with h | h | h
      · exact .inl (BitVec.eq_of_toNat_eq h)
      · exact .inr (.inl (BitVec.eq_of_toNat_eq h))
      · exact .inr (.inr (BitVec.eq_of_toNat_eq h))
    rcases this with rfl | rfl | rfl <;> exact ⟨by constructor <;> decide +kernel, by decide⟩
  · constructor <;> decide +kernel

/-- A slot that holds a VALID image whose manifest and payload are empty. -/
def validSlots : Img := { live.img with slots := Vector.replicate 3 { Slot.empty with state := 2 }, prog := 1, tableid := mTableid [] }

/-- SysServices and PlinthCommands: a swap of bays 0 and 63 and setter 15 from slot 2. -/
theorem hyps_swap : MaySwap { live with img := validSlots } 2 0x8000000000000001 0x8000 := by
  refine ⟨?_, ?_, ?_, ?_, ?_⟩ <;> decide +kernel

/-- BusChecks: the device off and in DORMANT, a misaligned store address and a misaligned register, an address outside every block, a
register that no region permits, a gated domain that wakes, one that is being stopped, SET_OVERRUNS of setter 15. -/
theorem hyps_busChecks :
    (State.reset.pwr.stage = .core ∧ ({ live.pwr with stage := .ao } : Pwr).stage ≠ .run) ∧
    ((0x00000002#32).toNat % 4 ≠ 0 ∧ placeOf (0x00000002#32).toNat = .store) ∧
    (aoPlace (placeOf 0x20200044) = false ∧ aoPlace (placeOf (blockAddr .evt 0x10)) = true) ∧
    ((0x20200002#32).toNat % 4 ≠ 0 ∧ regionOk live 16 0x20200002 4 false true = true ∧ regionOk live 16 0x20200002 4 true false = true) ∧
    (placeOf 0x00800000 = .nowhere ∧ regionOk live 16 0x00800000 4 false true = true) ∧
    (placeOf 0x20200044 = .reg (.set 0) 0x44 ∧ placeOf 0x20200044 ≠ .store ∧ regionOk State.reset 0 0x20200044 4 false true = false) ∧
    (let s := { live.putS 0 { runner with gated := true } with pwr := { live.pwr with state := 2, begun := [.setter 0] } }
     blockDomain (.set 0) = some (.setter 0) ∧ asleep (.setter 0) s = true ∧ Domain.setter 0 ∈ s.pwr.begun ∧ s.pwr.state ≠ 3 ∧
       regionOk s 16 0x20200044 4 false true = true) ∧
    (let s : State := { live with pwr := { live.pwr with inflight := true, target := 2, takenS := 1, reached := 1 } }
     asleep (.setter 0) s = true ∧ Machine.off (.setter 0) s = false) ∧
    (0x202F0020#32).toNat = 0x20200020 + 0x10000 * 15 ∧
    (let s : State := { live with hod := { live.hod with lane := some (⟨16, .get 64, .bus 17⟩, .read 0) } }
     placeOf (blockAddr .hod 0x24) = .reg .hod 0x24 ∧ blockDomain .hod = some .hod ∧ asleep .hod s = false ∧ portBusy 16 s = true ∧
       Machine.off .hod s = false ∧ regionOk s 16 (blockAddr .hod 0x24) 4 false true = true) := by
  refine ⟨?_, ?_, ?_, ?_, ?_, ?_, ?_, ?_, ?_, ?_⟩ <;> decide +kernel

/-- BusChecks, SetterControl, SetterDebug: setters' registers answer master 16. -/
theorem hyps_setOpen :
    SetOpen live 16 0 0 true ∧ SetOpen live 16 15 0x20 false ∧ SetOpen live 16 0 0x6C true ∧ SetOpen live 16 0 0x6C false ∧
    SetOpen live 16 0 0x200 true ∧ SetOpen live 16 0 (0x204 + 16 * 7) true ∧ SetOpen live 16 0 (0x100 + 4 * 15) true ∧
    SetOpen live 16 0 0x08 true ∧ SetOpen live 16 0 0x0C true ∧ SetOpen live 16 0 0x4C true ∧ SetOpen live 16 0 0x58 true ∧
    SetOpen live 16 0 0x5C true ∧ SetOpen live 16 0 0x10 true ∧ SetOpen live 16 0 0x14 true ∧ SetOpen live 16 0 0x18 true := by
  refine ⟨?_, ?_, ?_, ?_, ?_, ?_, ?_, ?_, ?_, ?_, ?_, ?_, ?_, ?_, ?_⟩ <;> exact setOpen_of (by decide +kernel) (by decide +kernel)

/-- SetterControl: a stopped setter, a running one, one that waits, one that a held cause precedes, one whose step begins again. -/
theorem hyps_setterControl :
    let s := live.putS 0 { Setter.reset with halted := true }
    let w := with0 (fun x => { x with wait := .frame 1 })
    let h := live.putS 0 { Setter.reset with heldOvr := true }
    ((s.st 0).stopped = true ∧ (s.st 0).run = false ∧ (s.st 0).wait = .none ∧ (s.st 0).gated = false ∧ (s.st 0).dozed = false ∧
      (s.st 0).testW = false ∧ (h.st 0).testW = false ∧ (s.st 0).nextHeld = none ∧ kvGet (s.st 0).prog (s.st 0).pc.toNat = none ∧ kvGet (s.st 0).progErr (s.st 0).pc.toNat = none) ∧
    ((live.st 0).stopped = false ∧ (live.st 0).run = true ∧ (live.st 0).wait = .none ∧ (live.st 0).again = false ∧
      (16 : Master).val ≠ (0 : SetterId).val) ∧
    (w.st 0).wait ≠ .none ∧ ((with0 (fun x => { x with again := true })).st 0).again = true ∧
    ((h.st 0).stopped = true ∧ (h.st 0).run = false ∧ (h.st 0).wait = .none ∧ (h.st 0).tm = false ∧
      (h.st 0).nextHeld.isSome = true) := by decide +kernel

/-- SetterDebug: legal and illegal values of each frame-source register; a stopped setter with DBGWR; single and double marks. -/
theorem hyps_setterDebug :
    frameLegal { runner with fperiod := 1, ftb := 0x00020003 } .fsrc 3 ∧ ¬frameLegal runner .fsrc 0 ∧
    frameLegal runner .fperiod 1 ∧ ¬frameLegal runner .fperiod 0x10000 ∧ frameLegal runner .ftb 0x00020003 ∧
    ¬frameLegal runner .ftb 0x00030003 ∧
    ({ Setter.reset with dbgwr := true } : Setter).stopped = true ∧ ({ Setter.reset with dbgwr := true } : Setter).dbgwr = true ∧
    kvGet [(0, MemErr.single)] 0 = some .single ∧ kvGet [(0, MemErr.double)] 0 = some .double := by
  refine ⟨?_, ?_, ?_, ?_, ?_, ?_, ?_, ?_, ?_, ?_⟩ <;> (try unfold frameLegal) <;> decide +kernel

/-- EventRaises: a reserved source and one of a held bay, an enabled wake source, source 624 pending and not, in DORMANT and not, routed to
setters, plinth, host and chain; its registers. -/
theorem hyps_eventRaises :
    let s : State := { live with evt := { live.evt with route := [(624, 0x00FFFFFF)] } }
    let d : State := { s with pwr := { s.pwr with state := 3 } }
    let w : State := { live with pwr := { live.pwr with wakeen := 0x40000 }, io := { live.io with pinConf := live.io.pinConf } }
    (raises 639 s = false ∧ raises 494 s = false ∧ 625 ≤ (639 : Source).val ∧ (255 : Nat) = 4 * (63 : BayId).val + 3 ∧
      ((live.modBay 63 (fun b => { b with held := true })).bay 63).runs = false) ∧
    (raises 624 s = true ∧ wakeSource s 624 = false) ∧
    pendBit (setPend 624 s) 624 = true ∧ pendBit s 624 = false ∧ pendBit d 624 = false ∧ d.pwr.state = 3 ∧ s.pwr.state ≠ 3 ∧
    (∀ i, (s.st i).wait = .none ∧ ¬((s.st i).fen = true)) ∧ (routeOf s 624).getLsbD 23 = true ∧
    (s.irs.own.get 2).length = 0 ∧ w.pwr.wakeen = 0x40000 ∧
    (field 639#32 9 0).toNat < 640 ∧ wakeSource s 639 = false ∧ 640 ≤ (field 0x280#32 9 0).toNat ∧ reservedSource 608 = false ∧
    RegOpen s 16 .evt 0x10 true ∧ RegOpen s 16 .evt (0x100 + 4 * 19) true ∧ RegOpen s 16 .evt (0x1000 + 4 * 639) true ∧
    RegOpen s 16 .evt (0x2000 + 4 * 639) true := by
  refine ⟨?_, ?_, ?_, ?_, ?_, ?_, ?_, ?_, ?_, ?_, ?_, ?_, ?_, ?_, ?_, ?_, ?_, ?_, ?_⟩ <;>
    first | decide +kernel | exact regOpen_of (by decide +kernel)

/-- A started device whose source 624 is routed to every setter on event line 31, setter 0 being x. -/
def routed (x : Setter) : State := { live.putS 0 x with evt := { live.evt with route := [(624, 0x001FFFFF)] } }

/-- EventRaises, the delivery: a setter at WEV whose mask does not meet line 31 and one whose mask does, with a timeout and without; one at a
FRAME of that line; one before its FRAME, not armed, armed and running, armed and dozing. -/
theorem hyps_eventRaises2 :
    let wev (mask timeout : Word) : Setter := { runner with wait := .wev 3 mask timeout }
    let hear (a d : Bool) : Setter := { runner with fen := true, fsrc := 0x7E, armed := a, dozed := d }
    let hears (x : Setter) : Prop := x.fen = true ∧ (field x.fsrc 1 0).toNat = 2 ∧ (field x.fsrc 6 2).toNat = 31
    (∀ x : Setter, x ∈ [wev 1 5, wev 0x80000000 5, wev 0x80000000 0xFFFFFFFF, atFrame 0x7E, hear false false, hear true false, hear true true] →
      raises 624 (routed x) = true ∧ wakeSource (routed x) 624 = false ∧ pendBit (routed x) 624 = false ∧ (routed x).pwr.state ≠ 3 ∧
      (routeOf (routed x) 624).getLsbD 0 = true ∧ (routeOf (routed x) 624).getLsbD 23 = false ∧ (∀ j, ((routed x).st j).run = true) ∧
      ((routed x).st 0).gated = false ∧ ((routed x).st 0).isol = false ∧ (field (routeOf (routed x) 624) 20 16).toNat = 31) ∧
    (¬hears (wev 1 5) ∧ (wev 1 5).wait = .wev 3 1 5 ∧ BitVec.ofNat 32 (2 ^ 31) &&& (1#32) = 0 ∧ BitVec.ofNat 32 (2 ^ 31) &&& (0x80000000#32) ≠ 0 ∧
      (5#32) ≠ 0xFFFFFFFF#32) ∧
    (hears (atFrame 0x7E) ∧ AtFrame (atFrame 0x7E) 2 9 ∧ (atFrame 0x7E).fsrcW = none ∧ (atFrame 0x7E).fperiodW = none ∧ (atFrame 0x7E).ftbW = none) ∧
    (hears (hear true false) ∧ (hear true false).wait = .none ∧ (hear false false).armed = false ∧ (hear true false).stopped = false ∧
      (hear true false).dozed = false ∧ (hear true true).dozed = true) := by
  refine ⟨?_, ⟨fun h => Bool.false_ne_true h.1, ?_⟩, ⟨?_, ⟨rfl, rfl, ?_, rfl, ⟨rfl, rfl, rfl⟩, rfl, rfl, rfl⟩, ?_⟩, ?_⟩ <;> decide +kernel

/-! ### Hypotheses met: bays, pins, clocks -/

/-- Whatever clock a joint of bay 0 runs or lands on. -/
theorem ticking_edges (n : Nat) : sendEdge ticking 0 n = true ∧ landEdge ticking 0 n = true := by
  have h : ∀ k : Fin 4, clkRuns ticking 0 k = true := by decide +kernel
  have h0 : (ticking.bay 0).runs = true ∧ ticking.img.hold = false := by decide +kernel
  have e : Fin.ofNat 64 0 = (0 : BayId) := rfl
  exact ⟨by simp only [sendEdge, h0.1, h0.2, h]; rfl, by simp only [landEdge, e, h0.2, h]; rfl⟩

/-- BayTraffic: a bay whose checker meets a good and a bad mask; neighbours across a joint; edges that fall and none in a held bay; a word
in flight; an acknowledgement. -/
theorem hyps_bayTraffic :
    (Running ranBay ∧ oddMask 1 ∧ ¬oddMask 0 ∧ live.img.hold = false) ∧ Adjacent 0 .right 1 ∧ Adjacent 3 .right 16 ∧ Adjacent 12 .down 32 ∧
    (∀ d, ¬Adjacent 0 .left d) ∧ sendEdge ticking 0 (jointNo .right 7) = true ∧ landEdge ticking 0 (jointNo .left 7) = true ∧
    (∀ n, clkRuns live 0 n = false) ∧
    (jointOf (withJoint ranBay .up 7 (fun q => { q with flight := some 9, busy := true })) .up 7).flight = some 9 ∧
    (jointOf (withJoint ranBay .up 7 (fun q => { q with ack := true })) .up 7).ack = true ∧ ¬Running { ranBay with held := true } := by
  refine ⟨⟨⟨?_, ?_, ?_⟩, ?_, ?_, ?_⟩, ?_, ?_, ?_, ?_, (ticking_edges _).1, (ticking_edges _).2, ?_, ?_, ?_, ?_⟩ <;>
    (try unfold Running) <;> (try unfold Adjacent) <;> (try unfold oddMask) <;> decide +kernel

/-- BayControls: registers of bay 63 and of wing 3, a switch to a line that runs, each source cleared, a clock that ticks. -/
theorem hyps_bayControls :
    let b : Bay := { ranBay with rclk := Vector.replicate 4 ⟨true, false, 0, 7, none, 0⟩ }
    let s := clocked.modBay 63 (fun _ => b)
    RegOpen s 16 (.bay 63) 0x1C true ∧ RegOpen s 16 (.bay 63) 0x5C true ∧ RegOpen s 16 .glb (0x200 + 0x40 * 3 + 4 * 15) true ∧
    RegOpen s 16 .glb (0x100 + 4 * 3) true ∧ ({ RClk.reset with busy := true } : RClk).busy = true ∧ LineRuns s 3 7 ∧ Clocked s 63 3 ∧
    (s.img.hold = false ∧ (s.bay 63).rstSw.getLsbD 3 = false ∧ Running (s.bay 63)) ∧
    (s.pwr.stage = .run ∧ (s.bay 63).runs = true ∧ s.img.hold = false ∧ State.reset.img.hold = true ∧
      ((s.modBay 63 (fun b => { b with held := true })).bay 63).runs = false) ∧
    (clkRuns ticking 63 3 = true ∧ clkRuns ticking 48 0 = true ∧ (63 : BayId).val / 16 = (48 : BayId).val / 16 ∧
      ((ticking.bay 63).rclk.get 3).sel = ((ticking.bay 48).rclk.get 0).sel ∧ ((ticking.bay 63).rclk.get 3).cnt = ((ticking.bay 48).rclk.get 0).cnt ∧
      State.reset.pwr.stage ≠ .run) ∧
    LineRuns ticking 3 0 ∧ ({ (ticking.bay 63).rclk.get 3 with busy := true, heldW := some 0x80000007 } : RClk).heldW = some 0x80000007 := by
  refine ⟨?_, ?_, ?_, ?_, ?_, ⟨_, rfl, ?_⟩, ⟨?_, ?_, ?_, ?_, ⟨_, rfl, ?_⟩⟩, ⟨?_, ?_, ?_, ?_, ?_⟩, ?_, ?_, ⟨_, rfl, ?_⟩, ?_⟩ <;>
    first | decide +kernel | exact regOpen_of (by decide +kernel)

/-- No pin of a device whose bays all run is held by its bay. -/
theorem unheld_pin {s : State} (p : Nat) (h : s.io.holdW.getLsbD (pinEntry s p) = false) (hs : s.pwr.state ≠ 3)
    (hb : s.bays = Vector.replicate 64 ranBay) : pinHold s p = false := by
  have h2 : (s.pwr.state == 3) = false := by simpa using hs
  have h3 : ∀ n b, s.bayN n = some b → b = ranBay := by
    intro n b e
    simp only [State.bayN, hb, nth] at e
    split at e
    · have e := Option.some.inj e
      rw [← e, Vector.get, Vector.replicate, Array.getElem_replicate]
    · cases e
  simp only [pinHold, h, h2, Bool.false_or]
  split
  · rename_i b e
    rw [h3 _ _ e]; rfl
  · rfl

/-- Pins: registers, a serialiser and none, HALT_N in and out, VIO lost with HALT_N held; a pin for each row of R163 that the model's
state alone decides. What fabric drives in row 7 is in the configuration latches (log 12), and its three clauses leave no case out. -/
theorem hyps_pins :
    let h : State := { live with io := { live.io with halt := true } }
    let n : State := { live with io := { live.io with bank := Vector.replicate 6 { IoBank.reset with band := none } } }
    let p : State := { live with tap := { live.tap with ir := 4 } }
    let bk : IoBank := { IoBank.reset with inEffect := true, pin := Vector.replicate 22 0x00100000 }
    let u : State := { live with io := { live.io with pinConf := BitVec.allOnes 132, bank := Vector.replicate 6 bk } }
    let t : State := { u with io := { u.io with trip := true } }
    let g : State := { u with pwr := { u.pwr with state := 3 } }
    let lo : IoBank := { bk with vio := 3, band := some 2 }
    let v : State := { u with io := { u.io with bank := Vector.replicate 6 lo } }
    let od : State := { u with io := { u.io with bank := Vector.replicate 6 { bk with pin := Vector.replicate 22 0xA0181000 } } }
    RegOpen live 16 (.iob 5) (0x100 + 4 * 21) true ∧ ((field (pinCfg live 0) 21 20).toNat = 0 ∧ (field (pinCfg u 0) 21 20).toNat ≠ 0 ∧
    live.io.halt = false ∧ (live.io.bank.get 4).band ≠ none ∧ live.bst.slice = none ∧ h.io.halt = true ∧ (4 : Bank).val = 4 ∧
    (nth n.io.bank (131 / 22)).map (·.band) = some none ∧ pinLive live 131 = false ∧ p.tap.ir = 4 ∧ live.tap.ir ≠ 0 ∧
    (u.pwr.stage ≠ .off ∧ pinLive u 131 = true ∧ u.io.trip = false ∧ u.io.halt = false ∧ u.io.haltW.getLsbD (pinEntry u 131) = false ∧
      padTest u 131 = false) ∧
    (t.io.trip = true ∧ pinLive t 131 = true) ∧ (g.pwr.state = 3 ∧ pinLive g 131 = true) ∧
    (nth v.io.bank 5 = some lo ∧ lo.band = some 2 ∧ (2 : BitVec 2).toNat < lo.vio.toNat ∧ lo.inEffect = true ∧ bk.band ≠ none ∧
      ¬(∃ w, bk.band = some w ∧ w.toNat < bk.vio.toNat ∧ bk.inEffect = true)) ∧
    ((pinCfg od 131).getLsbD 19 = true ∧ (pinCfg od 131).getLsbD 23 = false ∧ (pinCfg od 131).getLsbD 29 = true ∧ (pinCfg u 131).getLsbD 29 = false ∧
      (field (pinCfg od 131) 13 12).toNat = 1 ∧ (field (pinCfg od 131) 31 30).toNat = 2) ∧
    ({ u.pwr with stage := .ao } : Pwr).stage = .ao) ∧
    pinHold u 131 = false ∧ pinHold g 131 = true := by
  refine ⟨regOpen_of (by decide +kernel), ?_, unheld_pin 131 ?_ ?_ rfl, ?_⟩
  · decide +kernel
  · decide +kernel
  · decide +kernel
  · rw [pinHold]
    exact Bool.or_eq_true_iff.mpr (.inl (Bool.or_eq_true_iff.mpr (.inr rfl)))

/-- ClockMonitors: the reference monitor on with REFOK 1 and 0, a PLL with lock and without, the run of good windows at 3. -/
theorem hyps_clockMonitors :
    let s : State := { clocked with clk := { clocked.clk with refctl := 1, refok := true, slock := true } }
    (s.clk.refctl.getLsbD 0 = true ∧ s.pwr.stage ≠ .saved ∧ s.clk.refok = true ∧ (8 ≤ 8 ∧ 7 < 8)) ∧
    ((s.clk.pll.get 7).ctrl.getLsbD 31 = true ∧ (s.clk.pll.get 7).ctrl.getLsbD 29 = false ∧ s.clk.devOn = true ∧ (s.clk.pll.get 7).lock = true) ∧
    (let l : Pll := { Pll.reset false with ctrl := 0xC000000F, lock := true, ulpol := true, outs := 15 }
     l.lock = true ∧ l.ulpol = true ∧ (unlockedPll l).stopW = 15) ∧
    (Near 1027 3 ∧ ¬Near 1028 3 ∧ Near 1021 3 ∧ ¬Near 1020 3 ∧ Near 1025 1 ∧ ¬Near 1026 1) ∧ s.clk.slock = true ∧ s.clk.hlock = false := by
  refine ⟨?_, ?_, ?_, ?_, ?_, ?_⟩ <;> (try unfold Near) <;> decide +kernel

/-- WingPlls: registers of an odd and an even PLL, a setting that R168 admits and one that it does not, an output that starts, and one that has
a stop to come. -/
theorem hyps_wingPlls :
    let e : State := { clocked with img := { clocked.img with locked := false } }
    PllOpen clocked 7 ∧ PllOpen e 0 ∧ RegOpen clocked 16 .clk (0x100 + 16 * 7) true ∧ RegOpen e 16 .clk 0x104 true ∧
    Admitted none 0x80000010 0x83838383 ∧ ¬Admitted none 0x8000000F 0x83838383 ∧
    ((clocked.clk.pll.get 7).ctrl.getLsbD 31 = true ∧ (clocked.clk.pll.get 7).lock = true ∧
      (clocked.clk.pll.get 7).odiv.getLsbD 31 = true ∧ clocked.clk.devOn = true) ∧
    (Pll.reset false).odiv.getLsbD 31 = false ∧
    ((clocked.clk.pll.get 7).stopW.getLsbD 3 = false ∧ ({ clocked.clk.pll.get 7 with outs := 0 } : Pll).outs.getLsbD 3 = false ∧
      ({ clocked.clk.pll.get 7 with stopW := 8 } : Pll).stopW.getLsbD 3 = true) := by
  refine ⟨?_, ?_, regOpen_of (by decide +kernel), regOpen_of (by decide +kernel), ⟨50000, ?_⟩, ?_, ?_, ?_, ?_⟩
  · exact .inl (by decide)
  · exact .inr (by decide)
  · decide +kernel
  · rintro ⟨f, hf, h⟩
    have : f = 50000 := by simpa using hf.symm
    subst this
    revert h
    decide +kernel
  all_goals decide +kernel

/-! ### Hypotheses met: the store, the hod, the chain, the host port -/

/-- A legal write of one word by master 17, an eight-beat burst at the end of a 4 KiB page, and a locked read. -/
def oneWord : StoreReq := ⟨0x10, 1, 4, true, false, false, [1, 2, 3, 4]⟩
def eightBeats : StoreReq := ⟨0x7FFF80, 8, 16, false, false, false, []⟩

/-- StoreRequests: legal and illegal forms at the edges of R182, regions, FENCE, a setter's and a port's raised request, a lock, a held
piece, the starvation limit at 64 and at a greater MCTL value. -/
theorem hyps_storeRequests :
    LegalForm 17 oneWord ∧ LegalForm 17 eightBeats ∧ ¬LegalForm 17 { eightBeats with addr := 0x7FFF90 } ∧
    ¬LegalForm 0 { oneWord with bytes := 8 } ∧ LegalForm 0 { oneWord with lock := true } ∧
    (live.arb.ord.get 17 = none ∧ live.arb.kreq.get 17 = none ∧ regionOk live 17 0x10 4 true true = true) ∧
    regionOk State.reset 0 0x10 4 true true = false ∧ fenced live 17 = false ∧
    fenced { live with arb := { live.arb with mctl := Vector.replicate 32 0x8000FFFF } } 17 = true ∧
    (live.store.retn = false ∧ live.store.waking = false) ∧
    (let s : State := { live with arb := { live.arb with ord := put32 live.arb.ord 28 (some eightBeats), grant := some ⟨28, false, 8, false⟩,
                                                         locks := [(29, 16), (28, 0x20)], waitc := Vector.replicate 32 64 } }
     nth s.arb.ord 28 = some (some eightBeats) ∧ s.arb.locks = [(29, 16)] ++ (28, 0x20) :: [] ∧ (29 : Nat) ≠ 28 ∧
     s.arb.grant = some ⟨28, false, 8, false⟩ ∧ granted s ⟨28, false, 8, false⟩ = some eightBeats ∧ nth s.arb.waitc 28 = some 64 ∧
     s.arb.starved.getLsbD 28 = false) ∧
    max 64 (field 0x40#32 15 0).toNat ≤ (64#16).toNat ∧ max 64 (field 0xFFFF#32 15 0).toNat ≤ (0xFFFF#16).toNat := by
  refine ⟨?_, ?_, ?_, ?_, ?_, ?_, ?_, ?_, ?_, ?_, ?_, ?_, ?_⟩ <;> (try unfold LegalForm) <;> decide +kernel

/-- StoreRequests: a keystone request of a master with a line to come, and of one with none; a request landing in DORMANT; a cut-off of a
piece, a drop, a starved master while the store serves. -/
theorem hyps_storeRequests2 :
    let k : State := { live with arb := { live.arb with key := #v[0, 0, 0, 0x80000011] } }
    let q : StoreReq := { oneWord with key := true }
    (q.key = true ∧ LegalForm 17 q ∧ MayKey k 17 ∧ ¬MayKey live 17) ∧ ({ live with pwr := { live.pwr with state := 3 } } : State).pwr.state = 3 ∧
    ((17 : Master).val = 17 ∧ 16 ≤ (17 : Master).val ∧ live.arb.grant = none) ∧ (∀ l ∈ [((29 : Nat), (16 : Nat))], l.1 ≠ (28 : Master).val) := by
  refine ⟨⟨?_, ?_, .inr (.inr ⟨3, ?_, ?_⟩), ?_⟩, ?_, ?_, ?_⟩
  case refine_5 =>
    have h : ∀ k : Fin 4, (live.arb.keyEff.get k).getLsbD 31 = false ∧ (live.arb.keyMid.get k).getLsbD 31 = false ∧
        (live.arb.key.get k).getLsbD 31 = false := by decide +kernel
    rintro (⟨k, h1, -⟩ | ⟨k, h1, -⟩ | ⟨k, h1, -⟩)
    · rw [(h k).1] at h1; cases h1
    · rw [(h k).2.1] at h1; cases h1
    · rw [(h k).2.2] at h1; cases h1
  all_goals ((try unfold LegalForm); decide +kernel)

/-- StoreRequests: a master that raises nothing and one at the closed joint; masters 28 and 29 with the store under test; a setter cut off, with
TM 0 and 1, and its own limits; a lock holder's other request. -/
theorem hyps_storeRequests3 :
    let iso : State := { live with store := { live.store with isol := true } }
    let cut (tm : Bool) : State := { (live.putS 15 { runner with tm := tm }) with arb := { live.arb with locks := [(15, 0x20)] } }
    Silent live 28 ∧ Silent iso 28 ∧ Silent iso 29 ∧ (iso.store.isol = true ∧ iso.pwr.state ≠ 3 ∧ (28 : Master).val ≠ 29 ∧ (29 : Master).val = 29) ∧
    (∀ tm, (cut tm).arb.locks = [] ++ ((15 : Master).val, 0x20) :: [] ∧ ((cut tm).st 15).issues = true ∧ ((cut tm).st 15).tm = tm) ∧
    ((15, 0x20) ∈ (cut false).arb.locks ∧ ({ oneWord with write := false } : StoreReq).write = false ∧
      ∀ k ∈ (cut false).arb.locks, k.1 = 15 → k.2 / 16 ≠ oneWord.addr.toNat / 16) ∧
    ((15 : Master).val < 16) := by
  have silent (s : State) (h : s.arb = live.arb) (m : Nat) (hm : m = 28 ∨ m = 29) : Silent s m := by
    constructor <;> rw [h]
    · rcases hm with rfl | rfl <;> decide +kernel
    · rcases hm with rfl | rfl <;> decide +kernel
    · intro e he; exact absurd he (List.not_mem_nil)
    · intro e he; exact absurd he (List.not_mem_nil)
  refine ⟨silent live rfl 28 (.inl rfl), silent { live with store := { live.store with isol := true } } rfl 28 (.inl rfl),
    silent { live with store := { live.store with isol := true } } rfl 29 (.inr rfl), ?_, ?_, ?_, ?_⟩ <;> decide +kernel

theorem serving_live : Serving live := by unfold Serving; decide +kernel

/-- A device with master 3 and master 17 raised and sampled, master 17 on keystone line 2. -/
def raised2 (key : Bool) (slot : BitVec 8) : State := { live with arb := { live.arb with
  ord := put32 (put32 live.arb.ord 3 (some oneWord)) 17 (some oneWord), sampO := put32 (put32 live.arb.sampO 3 (some oneWord)) 17 (some oneWord),
  kreq := if key then put32 live.arb.kreq 17 (some { oneWord with key := true }) else live.arb.kreq,
  sampK := if key then put32 live.arb.sampK 17 (some { oneWord with key := true }) else live.arb.sampK,
  keyEff := #v[0, 0, 0x80000011, 0], bond := { live.arb.bond with act := Vector.replicate 64 slot } } }

/-- ArbiterDecisions: a keystone request in a FREE slot, a piece in progress, a slot's owner, the background winner, nobody. -/
theorem hyps_arbiterDecisions :
    Serving (raised2 true 0) ∧ FirstLine (raised2 true 0) 2 17 ∧ OpenEntry (entryAt (raised2 true 0).arb.bond.act 1) ∧
    (∀ k m, k < 4 → ¬KeyWaits (raised2 false 0) k m) ∧
    ((field (entryAt (raised2 false 0x83).arb.bond.act (nextSlot (raised2 false 0x83))) 7 6).toNat = 2 ∧
      (ordSampled (raised2 false 0x83) 3).isSome = true ∧ (raised2 false 0x83).arb.grant = none) ∧
    Background (raised2 false 0) 3 ∧ (ordSampled (raised2 false 0) 3).isSome = true ∧
    (∀ m, m < 32 → ordSampled live m = none) ∧ live.arb.park = none := by
  have none_waits : ∀ k m, k < 4 → ¬KeyWaits (raised2 false 0) k m := by
    rintro k m hk ⟨w, h1, h2, h3, h4⟩
    have : ∀ k < 4, (nth (raised2 false 0).arb.keyEff k).all (fun w => !w.getLsbD 31 || decide ((field w 4 0).toNat = 17)) = true := by
      decide +kernel
    have h5 := this k hk
    rw [h1] at h5
    simp only [Option.all_some, h2, Bool.not_true, Bool.false_or, decide_eq_true_eq] at h5
    rw [h3] at h5
    subst h5
    revert h4
    decide +kernel
  refine ⟨by unfold Serving; decide +kernel, ⟨by decide, ⟨_, rfl, ?_, ?_, ?_⟩, ?_⟩, ?_, none_waits, ?_, ?_, ?_, ?_, ?_⟩
  · decide +kernel
  · decide +kernel
  · decide +kernel
  · rintro j n hj hlt ⟨w, h1, h2, -, -⟩
    have : ∀ j < 4, (j + 4 - (raised2 true 0).arb.keyptr.toNat) % 4 < (2 + 4 - (raised2 true 0).arb.keyptr.toNat) % 4 →
      (nth (raised2 true 0).arb.keyEff j).all (fun w => !w.getLsbD 31) = true := by decide +kernel
    have h5 := this j hj hlt
    rw [h1] at h5
    simp only [Option.all_some, h2] at h5
    cases h5
  · unfold OpenEntry; decide +kernel
  · decide +kernel
  · refine ⟨by decide, by decide +kernel, ?_⟩
    decide +kernel
  all_goals decide +kernel

/-- ArbiterDecisions: every sampled keystone request has its line; one that has lost it; a table that switches at the wrap. -/
theorem hyps_arbiterDecisions2 :
    let lost : State := { raised2 true 0 with arb := { (raised2 true 0).arb with
      keyEff := Vector.replicate 4 0, ord := Vector.replicate 32 none, sampO := Vector.replicate 32 none } }
    let w : State := { live with arb := { live.arb with ptr := 63, bond := { live.arb.bond with phase := .armed } } }
    (∀ m, m < 30 → entry (raised2 true 0).arb.sampK m ≠ none → OnLine (raised2 true 0).arb.keyEff m) ∧
    (∀ m, m < 30 → (entry (raised2 true 0).arb.kreq m).all (fun q => q.key) = true) ∧ (raised2 true 0).arb.bond.phase ≠ .armed ∧
    (entry lost.arb.sampK 17 ≠ none ∧ (entry lost.arb.kreq 17).isSome = true ∧ entry lost.arb.ord 17 = none ∧
      entry lost.arb.sampO 17 = none ∧ ¬OnLine lost.arb.keyEff 17) ∧
    (w.arb.bond.phase = .armed ∧ w.arb.ptr.toNat = 63 ∧ Serving w) := by
  refine ⟨fun m hm h => ?_, ?_, ?_, ⟨?_, ?_, ?_, ?_, ?_⟩, ⟨?_, ?_, ?_⟩⟩
  case refine_1 =>
    have h17 : ∀ m, m < 30 → (entry (raised2 true 0).arb.sampK m).isSome = true → m = 17 := by decide +kernel
    have := h17 m hm (Option.isSome_iff_ne_none.mpr h)
    subst this
    exact ⟨2, by decide +kernel, by decide +kernel⟩
  case refine_8 =>
    rintro ⟨k, h1, -⟩
    have h : ∀ k : Fin 4, ((Vector.replicate 4 (0 : Word)).get k).getLsbD 31 = false := by decide
    rw [h k] at h1
    cases h1
  all_goals ((try unfold Serving); decide +kernel)

/-- StoreBeats: a write that covers part of a half with a double-bit error; a granted cycle whose request has gone. -/
theorem hyps_storeBeats2 :
    let s : State := { written0 with arb := { live.arb with grant := some ⟨17, false, 2, false⟩, ord := put32 live.arb.ord 17 (some oneWord) },
                                     store := { written0.store with err := [(2, .double)] } }
    (s.arb.grant = some ⟨17, false, 2, false⟩ ∧ granted s ⟨17, false, 2, false⟩ = some oneWord ∧ oneWord.write = true ∧
      halvesOf 0x10 4 = [2] ∧ coversHalf 0x10 4 2 = false ∧ halfBad s 2 = true) ∧
    granted live ⟨17, false, 2, false⟩ = none ∧ (⟨17, false, 1, true⟩ : Grant).void = true := by
  refine ⟨?_, ?_, ?_⟩ <;> decide +kernel

/-- StoreBeats: a granted write and a granted read of written bytes, a half with a single-bit error, one with a double, a write-back. -/
theorem hyps_storeBeats :
    let g : Grant := ⟨17, false, 1, false⟩
    let rd : StoreReq := { oneWord with addr := 0, write := false, lock := true, data := [] }
    let s (q : StoreReq) (e : List (Nat × MemErr)) : State := { written0 with
      arb := { live.arb with grant := some g, ord := put32 live.arb.ord 17 (some q) }, store := { written0.store with err := e } }
    (Serving (s oneWord []) ∧ (s oneWord []).arb.grant = some g ∧ granted (s oneWord []) g = some oneWord ∧ (s oneWord []).arb.locks = []) ∧
    (granted (s rd []) g = some rd ∧ Clean (s rd []) 0 4) ∧ oneWord.bytes ≤ oneWord.data.length ∧
    (halvesOf 0 4).find? (halfBad (s rd [(0, .double)])) = some 0 ∧
    (halvesOf 0 4 = [0] ∧ kvGet (s rd [(0, .single)]).store.err 0 = some .single ∧ halfBad (s rd [(0, .single)]) 0 = false ∧
      (s rd [(0, .single)]).store.wb = none) ∧ ({ live.store with wb := some 0 } : Store).wb = some 0 := by
  refine ⟨⟨?_, ?_, ?_, ?_⟩, ⟨?_, ?_⟩, ?_, ?_, ?_, ?_⟩ <;> (try unfold Serving) <;> (try unfold Clean) <;> decide +kernel

/-- A bond table whose FREE entries stand n apart, the others owned by master 29. -/
def apart (n : Nat) : Vector (BitVec 8) 64 := Vector.ofFn (fun k : Fin 64 => if k.val % n = 0 then 0 else 0x9D)

theorem apart_gap (n : Nat) (h : n = 16 ∨ n = 32) : LargestGap (apart n) n := by
  have near : ∀ i < 64, OpenEntry (entryAt (apart n) ((i + (n - i % n)) % 64)) := by
    unfold OpenEntry; rcases h with rfl | rfl <;> decide +kernel
  have far : ∀ k < n, 1 ≤ k → ¬OpenEntry (entryAt (apart n) ((0 + k) % 64)) := by
    unfold OpenEntry; rcases h with rfl | rfl <;> decide +kernel
  have first : OpenEntry (entryAt (apart n) 0) := by
    unfold OpenEntry; rcases h with rfl | rfl <;> decide +kernel
  refine ⟨fun i hi _ => ⟨n - i % n, ?_, by omega, near i hi⟩, 0, by decide, first, fun k h1 h2 => far k h2 h1⟩
  have : i % n < n := Nat.mod_lt i (by omega)
  omega

/-- ArbiterRegisters: regions of masters 0 and 29, with and without the lock; keystone lines at master 29 and 30; the bond table with
gaps of 16 and of 32, a reserved KIND, an owner 30. -/
theorem hyps_arbiterRegisters :
    let all (e : BitVec 8) : Vector (BitVec 8) 64 := Vector.replicate 64 e
    (RegOpen live 16 .str 0x800 true ∧ RegOpen live 16 .str (0x804 + 0x40 * 29 + 8 * 7) true ∧ live.arb.rlock = false ∧
      ({ live.arb with rlock := true } : Arb).rlock = true ∧ RegOpen live 0 .str 0x800 true) ∧
    (RegOpen live 16 .str (0x10 + 4 * 3) true ∧ (0x8000001D#32).toNat % 32 < 30 ∧ 30 ≤ (0x8000001E#32).toNat % 32) ∧
    RegOpen live 16 .str (0x100 + 4 * 31) true ∧ RegOpen live 16 .str 0x20 true ∧ live.arb.bond.phase = .idle ∧
    (Owners (apart 16) 29 ∧ LargestGap (apart 16) 16) ∧ (Owners (apart 32) 29 ∧ LargestGap (apart 32) 32) ∧
    (¬Owners (all 0x9E) 29 ∧ ∀ n, n < 64 → (field (entryAt (all 0x9E) n) 7 6).toNat ≠ 3) ∧
    ¬(∀ n, n < 64 → (field (entryAt (all 0xC0) n) 7 6).toNat ≠ 3) := by
  refine ⟨⟨?_, ?_, ?_, ?_, ?_⟩, ⟨?_, ?_, ?_⟩, ?_, ?_, ?_, ⟨?_, apart_gap 16 (.inl rfl)⟩, ⟨?_, apart_gap 32 (.inr rfl)⟩, ⟨?_, ?_⟩, ?_⟩ <;>
    (try unfold Owners) <;> first | exact regOpen_of (by decide +kernel) | decide +kernel

/-- QueueWindows, HodSteps, Packers: an open queue with room, its window, a full queue, an empty one. -/
theorem hyps_queueWindows :
    QueueOpen (queued 7) 64 ∧ WindowOpen (queued 7) 29 64 0 8 false ∧ WindowOpen (queued 7) 29 64 4 4 true ∧
    WindowOpen (queued 7) 29 64 4 4 false ∧ WindowOpen (queued 7) 29 64 0 4 true ∧ HasRoom (queued 7) 29 64 ∧
    (descOf (queued 8) 64).count = (descOf (queued 8) 64).cap ∧ (descOf (queued 0) 64).count = 0 ∧ (descOf (queued 7) 64).key = false ∧
    regionOk (queued 7) 29 (descOf (queued 7) 64).base (descOf (queued 7) 64).ring true false = true ∧
    (descOf (queued 7) 64).count ≠ 0 ∧ (combGet (queued 7) ((descOf (queued 7) 64).elem (descOf (queued 7) 64).head)).isSome = true := by
  have f : PortFree (queued 7) 16 := queued_free 7 (by decide) 16 (by decide)
  refine ⟨queued_open 7 (by decide), ⟨?_, ?_, ?_, f, ?_⟩, ⟨?_, ?_, ?_, f, ?_⟩, ⟨?_, ?_, ?_, f, ?_⟩, ⟨?_, ?_, ?_, f, ?_⟩,
    ⟨queued_open 7 (by decide), ?_, ?_, ?_, ?_⟩, ?_, ?_, ?_, ?_, ?_, ?_⟩ <;> decide +kernel

/-- HodSteps: the ordinary ports and the KEY lane; a port whose KEY operation waits for its payload, one of setter 0. -/
theorem hyps_hodSteps :
    let b : State := { keyQueue 7 with hod := { (keyQueue 7).hod with lane := some (⟨17, .put 64 9 false, .bus 19⟩, .read 0) } }
    HasRoom (queued 7) (portMaster 17) 64 ∧ PortFree (queued 7) 17 ∧ (17 : HodPort).val ≠ 18 ∧ QueueOpen (keyQueue 7) 64 ∧
    PortFree (keyQueue 7) 0 ∧ ((descOf (keyQueue 7) 64).key = true ∧ (descOf (keyQueue 7) 64).pack = false ∧
      (descOf (keyQueue 7) 64).count ≠ (descOf (keyQueue 7) 64).cap ∧
      regionOk (keyQueue 7) (portMaster 0) (descOf (keyQueue 7) 64).base (descOf (keyQueue 7) 64).ring false true = true) ∧
    StoreOpen (keyQueue 7) 18 ((descOf (keyQueue 7) 64).elem (descOf (keyQueue 7) 64).tail) 8 false true ∧
    (b.hod.gated = false ∧ portBusy 17 b = true ∧ (17 : HodPort).val ≠ 16) ∧
    ((0 : SetterId).val = portMaster 0 ∧ ((keyQueue 7).st 0).gated = false ∧ ((keyQueue 7).st 0).tm = false) := by
  refine ⟨⟨queued_open 7 (by decide), ?_, ?_, ?_, ?_⟩, queued_free 7 (by decide) 17 (by decide), ?_, keyQueue_open 7 (by decide),
    keyQueue_free 7 (by decide) 0 (by decide), ?_, ⟨?_, ?_, ?_, ?_, ?_, ?_, ?_, ?_⟩, ?_, ?_⟩ <;> decide +kernel

/-- QueueCommands: an idle descriptor, a live one, one that ENABLE accepts at its limits and one that it refuses, one above its low mark. -/
theorem hyps_queueCommands :
    let d : Desc := ⟨0x0A000000, 0, 0x20001FFF, 0xBF000000⟩
    let s : State := { live with hod := { live.hod with qsel := 64, desc := [(64, d)] } }
    let w : Desc := ⟨0x00001000, 7, 2, 0x01000000⟩
    QcmdOpen s 16 ∧ (descOf s 64).en = false ∧ faulted s 64 = false ∧ DescLegal s 64 d ∧ ¬DescLegal s 64 { d with w0 := 0x0B000000 } ∧
    (descOf (queued 1) 64).en = true ∧ (descOf (queued 1) 64).w3.getLsbD 24 = false ∧
    (w.en = false ∧ w.w3.getLsbD 24 = true ∧ (field w.w2 13 0).toNat < w.count ∧ (field w.w3 31 26).toNat < 48) ∧
    faulted { live with hod := { live.hod with fault := [64] } } 64 = true ∧ ({ s.hod with qsel := 63 } : Hod).qsel.toNat < 64 ∧
    (17 : Master).val ≠ 16 ∧ ((9 : BitVec 4).toNat = 0 ∨ 5 < (9 : BitVec 4).toNat) := by
  refine ⟨⟨regOpen_of (by decide +kernel), ?_, ?_, ?_⟩, ?_, ?_, ?_, ?_, ?_, ?_, ?_, ?_, ?_, ?_, ?_⟩ <;>
    (try unfold DescLegal RingLegal MarksLegal ProducerFree) <;> decide +kernel

/-- QueueCommands: a descriptor for each refusal of R212: a base off its ring's size and a stall of 14 (2), KEY and PACK (7), a 257th KEY queue
(4), a low mark at the capacity (8), a ring that no region of master 18 covers (5), a producer that is bound (6). -/
theorem hyps_queueRefusals :
    let pack : Desc := ⟨0x20001000, 0, 0, 0x00048000⟩
    let keys : State := { live with hod := { live.hod with desc := (List.range 256).map (fun k => (64 + k, ⟨0xC0001000, 0, 0, 0⟩)) } }
    let bound : State := { live with hod := { live.hod with desc := [(65, { pack with w0 := 0xA0001000 })] } }
    FirstFails live 64 ⟨0x0A008000, 0, 0, 0⟩ 2 ∧ FirstFails live 64 { pack with w3 := 0x00F00000 } 2 ∧
    FirstFails live 64 ⟨0x60001000, 0, 0, 0⟩ 7 ∧ FirstFails keys 400 ⟨0x40001000, 0, 0, 0⟩ 4 ∧
    FirstFails live 64 ⟨0x00001000, 0, 8, 0x01000000⟩ 8 ∧ FirstFails { live with arb := Arb.reset } 64 ⟨0x00001000, 0, 0, 0⟩ 5 ∧
    FirstFails bound 64 pack 6 := by
  refine ⟨.inl ⟨rfl, ?_⟩, .inl ⟨rfl, ?_⟩, .inr (.inl ⟨rfl, ?_⟩), .inr (.inr (.inl ⟨rfl, ?_⟩)), .inr (.inr (.inr (.inl ⟨rfl, ?_⟩))),
    .inr (.inr (.inr (.inr (.inl ⟨rfl, ?_⟩)))), .inr (.inr (.inr (.inr (.inr ⟨rfl, ?_⟩))))⟩ <;>
    (try unfold RingLegal) <;> (try unfold MarksLegal) <;> (try unfold ProducerFree) <;> decide +kernel

/-- On a device whose clocks all run a port's clock runs, whichever bay and clock the image chose for it. -/
theorem portLive_ticking (h : Hod) (p : Nat) : portLive { ticking with hod := h } p = true := by
  have h1 : ∀ (b : BayId) (k : Fin 4), clkRuns ticking b k = true := by decide +kernel
  have h2 : ∀ b, (ticking.bay b).runs = true := by decide +kernel
  have h3 (b : BayId) (k : Fin 4) : clkRuns { ticking with hod := h } b k = clkRuns ticking b k := rfl
  have h4 (b : BayId) : State.bay { ticking with hod := h } b = ticking.bay b := rfl
  rw [portLive, h3, h1, h4, h2]
  rfl

/-- Packers: three bytes gathered, a closed word waiting, a full queue; a packer of the fabric, whose buffer has room and has none, and one
of the chain. -/
theorem hyps_packers :
    let held (n : Nat) : State := packing 0 0 { Packer.reset with wait := some (5, 0x80), fifo := List.replicate n (some 1, false) }
    PackRoom (packing 31 0 Packer.reset) 31 64 ∧ PackRoom (packing 0 0 Packer.reset) 0 64 ∧
    PackTakes (packing 0 8 Packer.reset) 0 64 ∧ PackTakes (packing 31 8 Packer.reset) 31 64 ∧
    (packOf (packing 0 0 { Packer.reset with part := [1, 2, 3] }) 0).part.length = 3 ∧ (packOf (packing 0 0 Packer.reset) 0).wait = none ∧
    (descOf (packing 0 0 Packer.reset) 64).stall ≠ 0 ∧
    (packOf (packing 0 0 { Packer.reset with wait := some (5, 0x80) }) 0).wait = some (5, 0x80) ∧
    packQueue (packing 0 8 Packer.reset) 0 = some 64 ∧ (descOf (packing 0 8 Packer.reset) 64).count = (descOf (packing 0 8 Packer.reset) 64).cap ∧
    (∀ n, n < 5 → (packOf (held n) 0).fifo.length = n ∧ portLive (held n) 0 = true ∧ packQueue (held n) 0 = some 64 ∧
      asleep .hod (held n) = false) := by
  have full : ∀ n, n < 5 →
      (packOf (packing 0 0 { Packer.reset with wait := some (5, 0x80), fifo := List.replicate n (some 1, false) }) 0).fifo.length = n ∧
      packQueue (packing 0 0 { Packer.reset with wait := some (5, 0x80), fifo := List.replicate n (some 1, false) }) 0 = some 64 ∧
      asleep .hod (packing 0 0 { Packer.reset with wait := some (5, 0x80), fifo := List.replicate n (some 1, false) }) = false := by
    decide +kernel
  have live31 (n : Nat) : (31 : PackerId).val < 16 → portLive (packing 31 n Packer.reset) 31 = true ∧
      (packOf (packing 31 n Packer.reset) 31).fifo = [] := fun h => absurd h (by decide)
  have live0 (n : Nat) : (0 : PackerId).val < 16 → portLive (packing 0 n Packer.reset) 0 = true ∧
      (packOf (packing 0 n Packer.reset) 0).fifo = [] := fun _ => ⟨portLive_ticking _ 0, rfl⟩
  refine ⟨⟨⟨?_, ?_, ?_, live31 0⟩, ?_, ?_, ?_, ?_⟩, ⟨⟨?_, ?_, ?_, live0 0⟩, ?_, ?_, ?_, ?_⟩, ⟨?_, ?_, ?_, live0 8⟩, ⟨?_, ?_, ?_, live31 8⟩,
    ?_, ?_, ?_, ?_, ?_, ?_, fun n hn => ⟨(full n hn).1, portLive_ticking _ 0, (full n hn).2⟩⟩ <;> decide +kernel

/-- BufferAndBanks: an entry in the buffer, a flush in progress, the skew window on and off. -/
theorem hyps_bufferAndBanks :
    let e : CombEntry := ⟨0, 64, some [1, 2, 3, 4, 0x80, 0, 0, 0], some [1, 2, 3, 4, 0x81, 0, 0, 0]⟩
    (queued 1).hod.flush = [] ∧ ((queued 1).hod.comb.find? (fun c => c.addr == 0x1000)).isSome = true ∧
    e.write = some (0, [1, 2, 3, 4, 0x80, 0, 0, 0, 1, 2, 3, 4, 0x81, 0, 0, 0]) ∧ StoreOpen written0 18 0 16 false true ∧ 0 % 16 + 16 ≤ 16 ∧
    ({ live.hod with skewwin := 1 } : Hod).skewwin ≠ 0 ∧ live.hod.skewwin = 0 := by
  refine ⟨?_, ?_, ?_, ?_, ?_, ?_, ?_⟩ <;> first | decide +kernel | (constructor <;> decide +kernel)

/-- A cell with a right CRC. -/
def cell (type cls dest src : Nat) (hop : Bool) (l : List Byte) : Cell :=
  let c : Cell := ⟨BitVec.ofNat 4 type, BitVec.ofNat 2 cls, BitVec.ofNat 12 dest, BitVec.ofNat 12 src, hop, false, padTo 32 l, 0⟩
  { c with crc := cellCrc c }

theorem cell_good (type cls dest src : Nat) (hop : Bool) (l : List Byte) : Good (cell type cls dest src hop l) := rfl

theorem live_onRing : OnRing live := ⟨by decide +kernel, by decide +kernel⟩

/-- A cell of a type with a class of R237 arrives. -/
theorem cell_arrives (type cls : Nat) (l : List Byte) (h : (type, cls) ∈ legalTypes) : Arrives live (cell type cls 5 9 false l) type := by
  have hk : ∀ e ∈ legalTypes, (BitVec.ofNat 4 e.1).toNat = e.1 ∧ (BitVec.ofNat 2 e.2).toNat = e.2 := by decide
  obtain ⟨h1, h2⟩ := hk _ h
  refine ⟨live_onRing, h1, ?_, ⟨.inl rfl, rfl⟩, ?_, cell_good ..⟩
  · show (type, (BitVec.ofNat 2 cls).toNat) ∈ legalTypes
    rw [h2]; exact h
  · intro h; cases h.2

/-- ChainOutput: a transit cell, one with a broken CRC, the output free and busy, the transit buffer at 95 and 96, the keystone interval,
own cells that wait for their slot, the bond table's switch, a cell of no type, an undelivered one. -/
theorem hyps_chainOutput :
    let c := cell 1 2 7 9 false []
    let key := cell 1 0 7 9 false []
    let r := live.irs
    (Transit live c ∧ Good c ∧ c.cls ≠ 0 ∧ c.type ≠ 5 ∧ Transit live key ∧ key.cls = 0 ∧ Broken { c with crc := 0 }) ∧
    (r.out = none ∧ r.keyBuf = [] ∧ r.tranBuf = [] ∧ r.badRun = 0 ∧ noOwnKey r ∧ Yields r (r.bond.act.get ⟨r.ptr.toNat, r.ptr.isLt⟩)) ∧
    ({ r with tranBuf := List.replicate 96 c } : Irs).tranBuf ≠ [] ∧ (List.replicate 95 c).length < 96 ∧
    ¬Yields { r with ownTime := [c] } 0 ∧ ¬noOwnKey { r with ken := true, ownKey := [key] } ∧
    (({ r with out := some (c, .transit true) } : Irs).out = some (c, .transit true) ∧
      ({ r with out := some (cell 5 1 0 9 false [], .transit true) } : Irs).out = some (cell 5 1 0 9 false [], .transit true) ∧
      (cell 5 1 0 9 false []).type = 5 ∧ (cell 5 1 0 9 false []).cls ≠ 0) ∧
    (OnRing live ∧ r.chen = true ∧ r.ptr ≠ 63 ∧ r.ownTime = [] ∧ r.ownHead = [] ∧ r.tranBuf.length < 8 ∧ r.ins5 = 0 ∧ r.paused = false) ∧
    (let k : Irs := { r with ken := true, ownKey := [key] }
     k.ken = true ∧ k.kenref = false ∧ k.keyHold = false ∧ k.ownKey = key :: [] ∧ k.out = none) ∧
    ((field (0x83 : BitVec 8) 7 6).toNat = 2 ∧ (0x83 : BitVec 8).toNat % 4 = 3 ∧ c.abt = false) ∧
    (let b : Irs := { r with bypopen := false, ptr := 63, bond := { r.bond with phase := .armed } }
     b.chen = true ∧ b.bypopen = false ∧ b.ptr = 63 ∧ b.bond.phase = .armed) ∧
    (((cell 12 2 5 9 false []).type.toNat, (cell 12 2 5 9 false []).cls.toNat) ∉ legalTypes ∧ Addressed live 5) ∧
    (({ r with head := true } : Irs).head = true ∧ (cell 1 2 7 9 true []).hop = true ∧ (cell 4 3 7 9 true []).type = 4) := by
  have y : Yields live.irs (live.irs.bond.act.get ⟨live.irs.ptr.toNat, live.irs.ptr.isLt⟩) :=
    ⟨.inl (by decide +kernel), by decide +kernel, by decide +kernel, fun h => absurd h.1 (by decide +kernel)⟩
  refine ⟨⟨⟨live_onRing, ?_, ?_⟩, cell_good .., ?_, ?_, ⟨live_onRing, ?_, ?_⟩, ?_, ?_⟩, ⟨?_, ?_, ?_, ?_, .inl ?_, y⟩, ?_, ?_, ?_, ?_, ?_,
    ⟨live_onRing, ?_⟩, ?_, ?_, ?_, ⟨?_, ⟨.inl ?_, ?_⟩⟩, ?_⟩
  case refine_16 => intro h; exact absurd h.2.1 (List.cons_ne_nil _ _)
  case refine_17 =>
    rintro (h | h | h | h)
    · exact absurd h (by decide +kernel)
    · exact absurd h (by decide +kernel)
    · exact absurd h (by decide +kernel)
    · exact absurd h (List.cons_ne_nil _ _)
  all_goals ((try unfold Broken); decide +kernel)

/-- ChainOutput, the order of own cells: a TIME cell and a command of the head in front, one that was aborted before; a FREE slot that class 3
wins by rank against class 0, and by the round robin from 3; nothing to send, and insertion paused. -/
theorem hyps_chainOutput2 :
    let c := cell 1 2 7 9 false []
    let own (rank : Word) (p : BitVec 2) : Irs := { live.irs with own := #v[[c], [], [], [{ c with cls := 3 }]], crank := rank, crr := Vector.replicate 8 p }
    let on (r : Irs) : State := { live with irs := r }
    (∀ r ∈ [{ live.irs with ownTime := [c] }, { live.irs with ownHead := [c] }, own 0x7000 0, own 0 3],
      OnRing (on r) ∧ r.chen = true ∧ r.ptr ≠ 63 ∧ noOwnKey r ∧ r.keyBuf = [] ∧ r.tranBuf = [] ∧ r.paused = false) ∧
    (c.abt = false ∧ ({ c with abt := true } : Cell).abt = true) ∧
    (Yields (own 0x7000 0) 0 ∧ (field (0 : BitVec 8) 7 6).toNat < 2 ∧ Wins (own 0x7000 0) 3 ∧ Wins (own 0 3) 3 ∧ ¬Wins (own 0 0) 3 ∧
      (own 0 3).own.get 3 = { c with cls := 3 } :: []) ∧
    ((∀ k, live.irs.own.get k = []) ∧ 2 ≤ (field (0x83 : BitVec 8) 7 6).toNat ∧ ({ live.irs with paused := true } : Irs).paused = true) ∧
    c.type ≠ 5 := by
  refine ⟨?_, ?_, ⟨⟨.inl ?_, ?_, ?_, fun h => absurd h.1 ?_⟩, ?_, ?_, ?_, ?_, ?_⟩, ?_, ?_⟩
  · intro r hr
    simp only [List.mem_cons, List.not_mem_nil, or_false] at hr
    rcases hr with rfl | rfl | rfl | rfl <;> exact ⟨⟨by decide +kernel, by decide +kernel⟩, by decide +kernel, by decide +kernel, .inl (by decide +kernel),
      by decide +kernel, by decide +kernel, by decide +kernel⟩
  all_goals ((try unfold Wins); decide +kernel)

/-- ChainDelivery: QPUT with room, to a full queue and to a KEY queue, QFAIL of both kinds, NOTE, STREAM without and with a receive stream. -/
theorem hyps_chainDelivery :
    let w : Word := 0xC0000000
    (Arrives live (cell 1 2 5 9 false [64, 0, 1, 0, 1, 2, 3, 4]) 1 ∧ HasRoom (queued 7) 19 64 ∧ portBusy 17 (queued 7) = false) ∧
    ((descOf (queued 8) 64).count = (descOf (queued 8) 64).cap ∧ regionOk (queued 8) 19 0x1000 64 false true = true ∧
      routeOf (queued 8) 441 = 0 ∧ portBusy 17 (queued 8) = false ∧ QueueOpen (queued 8) 64) ∧
    (QueueOpen (keyQueue 7) 64 ∧ portBusy 17 (keyQueue 7) = false ∧ (descOf (keyQueue 7) 64).pack = false ∧
      (descOf (keyQueue 7) 64).key = true ∧ (descOf (keyQueue 7) 64).count ≠ (descOf (keyQueue 7) 64).cap ∧
      regionOk (keyQueue 7) 19 (descOf (keyQueue 7) 64).base (descOf (keyQueue 7) 64).ring false true = true ∧ routeOf (keyQueue 7) 443 = 0) ∧
    Arrives live (cell 2 2 5 9 false [0, 0, 2]) 2 ∧ (cell 2 2 5 9 false [0, 0, 2]).payload.getD 2 0 ≠ 5 ∧
    Arrives live (cell 3 2 5 9 false [64]) 3 ∧ Arrives live (cell 4 3 5 9 false [0, 3]) 4 ∧
    (live.hod.gated = false ∧ asleep .hod live = false ∧ (nth live.irs.rx 0).map (·.getLsbD 31) = some false) ∧
    (w.getLsbD 31 = true ∧ w.getLsbD 30 = true ∧ ((cell 4 3 5 9 false [0, 3]).payload.getD 0 0).getLsbD 7 = false ∧
      3 + 2 ≤ (cell 4 3 5 9 false [0, 3]).payload.length) ∧
    (packQueue (packing 16 0 Packer.reset) (16 + 0)).isSome = true ∧ (packOf (packing 16 0 Packer.reset) (16 + 0)).wait = none ∧
    (packOf (packing 16 0 Packer.reset) (16 + 0)).part.length + 3 < 4 := by
  refine ⟨⟨cell_arrives 1 2 _ (by decide), ⟨queued_open 7 (by decide), ?_, ?_, ?_, ?_⟩, ?_⟩, ⟨?_, ?_, ?_, ?_, queued_open 8 (by decide)⟩,
    ⟨keyQueue_open 7 (by decide), ?_, ?_, ?_, ?_, ?_, ?_⟩, cell_arrives 2 2 _ (by decide), ?_, cell_arrives 3 2 _ (by decide),
    cell_arrives 4 3 _ (by decide), ?_, ?_, ?_, ?_, ?_⟩ <;> decide +kernel

/-- A cell of a type that every device reads passes. -/
theorem cell_passes (type cls : Nat) (l : List Byte) (h : (type, cls) ∈ legalTypes) : Passes live (cell type cls 0 9 false l) type cls := by
  have hk : ∀ e ∈ legalTypes, (BitVec.ofNat 4 e.1).toNat = e.1 ∧ (BitVec.ofNat 2 e.2).toNat = e.2 := by decide
  exact ⟨live_onRing, by decide +kernel, hk _ h, cell_good ..⟩

/-- ChainRing: TIME, ENUM with 4 bypassed devices, JOIN, PAUSE and RESUME pass; a head whose ENUM returns; a head with its time base. -/
theorem hyps_chainRing :
    let e := live.irs.bond.act.get ⟨live.irs.ptr.toNat, live.irs.ptr.isLt⟩
    Passes live (cell 5 1 0 9 false []) 5 1 ∧ Passes live (cell 6 2 0 9 false [5]) 6 2 ∧ pay (cell 6 2 0 9 false [5]) 0 2 < 4096 ∧
    ((cell 6 2 0 9 false [5]).payload.getD 2 0).getLsbD 0 = false ∧ (4 : BitVec 8).toNat ≤ 4 ∧
    (live.irs.out = none ∧ live.irs.keyBuf = [] ∧ live.irs.tranBuf = [] ∧ live.irs.ownKey = [] ∧ Yields live.irs e) ∧
    Passes live (cell 8 2 0 9 false [1]) 8 2 ∧ (cell 8 2 0 9 false [1]).payload.getD 0 0 = 1 ∧
    Passes live (cell 8 2 0 9 false [2]) 8 2 ∧ (cell 8 2 0 9 false [2]).payload.getD 0 0 = 2 ∧
    (({ live.irs with waitjoin := true, bypopen := false } : Irs).waitjoin = true ∧ (cell 7 2 0 9 false []).type = 7 ∧
      (cell 7 2 0 9 false []).cls = 2) ∧
    (let h : State := { live with irs := { live.irs with head := true, tbper := 1, tbvalid := true } }
     h.irs.head = true ∧ h.irs.bypopen = true ∧ h.irs.retrain = false ∧ h.irs.tbper ≠ 0 ∧ h.irs.tbvalid = true ∧ h.irs.out = none ∧
       h.irs.keyBuf = [] ∧ noOwnKey h.irs) ∧
    (let h : State := { live with irs := { live.irs with tbvalid := true } }
     h.irs.head = false ∧ h.irs.tbvalid = true) := by
  refine ⟨cell_passes 5 1 _ (by decide), cell_passes 6 2 _ (by decide), ?_, ?_, ?_, ⟨?_, ?_, ?_, ?_, .inl ?_, ?_, ?_, fun h => absurd h.1 ?_⟩,
    cell_passes 8 2 _ (by decide), ?_, cell_passes 8 2 _ (by decide), ?_, ?_, ⟨?_, ?_, ?_, ?_, ?_, ?_, ?_, .inl ?_⟩, ?_⟩ <;> decide +kernel

/-- ChainLinks: LINK cells of both reasons, errors to report, a link lost, trained and re-aligned, a device that listens, a head. -/
theorem hyps_chainLinks :
    Arrives live (cell 9 2 5 9 false [1]) 9 ∧ (cell 9 2 5 9 false [1]).payload.getD 0 0 = 1 ∧
    Arrives live (cell 9 2 5 9 false [2]) 9 ∧ (cell 9 2 5 9 false [2]).payload.getD 0 0 = 2 ∧
    (let r : Irs := { live.irs with linkErr := 1 }
     r.bypopen = true ∧ r.retrained = false ∧ r.linkErr ≠ 0 ∧ (r.own.get 2).length = 0) ∧
    (live.irs.bypopen = true ∧ live.irs.inlock = true ∧ live.irs.sawTrain = false ∧ live.irs.retrain = false) ∧
    (({ live.irs with retrain := true } : Irs).retrain = true ∧ ({ live.irs with retrain := true, inlock := false } : Irs).inlock = false) ∧
    (let r : Irs := { live.irs with bypopen := false }
     r.chen = true ∧ live.pwr.on = true ∧ live.pwr.stage = .run ∧ r.bypopen = false ∧ r.waitjoin = false ∧ live.bst.slice = none) ∧
    (let r : Irs := { live.irs with head := true, retrain := true }
     r.head = true ∧ r.bypopen = true ∧ r.retrain = true ∧ r.hbusy = false ∧ r.autoenum = false ∧ r.inlock = true ∧
       ({ r with inlock := false } : Irs).inlock = false ∧ ({ r with autoenum := true } : Irs).autoenum = true) := by
  refine ⟨cell_arrives 9 2 _ (by decide), ?_, cell_arrives 9 2 _ (by decide), ?_⟩ <;> decide +kernel

/-- ChainHead: the head's register, the chain bond table, a transmit stream whose queue holds a word, one that has gathered, one stopped. -/
theorem hyps_chainHead :
    let tx (x : TxStream) (s : State) : State := { s with irs := { live.irs with tx := Vector.replicate 16 x } }
    let s := tx ⟨0x80000007, 64, [], false, false⟩ (queued 1)
    let g := tx ⟨0x80000007, 64, [1], false, false⟩ (queued 0)
    let w : State := { g with irs := { g.irs with tx := Vector.replicate 16 ⟨0x80000007, 64, [1], true, false⟩
                                                  own := Vector.replicate 4 (List.replicate (Config.txRoom 3 + 1) ⟨4, 3, 7, 5, false, false, [], 0⟩) } }
    RegOpen live 16 .irs 0x50 true ∧ RegOpen live 16 .irs 0x40 true ∧ live.irs.bond.phase = .idle ∧ live.irs.head = false ∧
    ({ live.irs with head := true } : Irs).hbusy = false ∧ QueueOpen s 64 ∧
    ((s.irs.tx.get 15).ctl.getLsbD 31 = true ∧ (s.irs.tx.get 15).stop = false ∧ field (s.irs.tx.get 15).q 15 0 = 64 ∧ s.irs.own.get 3 = [] ∧
      (descOf s 64).key = false ∧ regionOk s 19 (descOf s 64).base (descOf s 64).ring true false = true ∧ (descOf s 64).count ≠ 0 ∧
      combGet s ((descOf s 64).elem (descOf s 64).head) = some [1, 2, 3, 4, 0x80, 0, 0, 0] ∧ ((0x80 : Byte)).getLsbD 3 = false) ∧
    ((g.irs.tx.get 15).got ≠ [] ∧ (g.irs.tx.get 15).stop = false ∧ (descOf g 64).count = 0 ∧ (g.irs.own.get 3).length = 0) ∧
    (⟨0x80000007, 64, [1], false, true⟩ : TxStream).stop = true ∧
    ((w.irs.tx.get 15).last = true ∧ (w.irs.tx.get 15).got.length < 30 ∧ Config.txRoom 3 < (w.irs.own.get 3).length) := by
  have g3 : (live.irs.own.get 3).length = 0 := by decide +kernel
  refine ⟨regOpen_of (by decide +kernel), regOpen_of (by decide +kernel), ?_, ?_, ?_, ⟨?_, ?_, ?_, ?_, ?_⟩, ?_, ⟨?_, ?_, ?_, g3⟩, ?_, ⟨?_, ?_, ?_⟩⟩
  case refine_16 =>
    show _ < (List.replicate (Config.txRoom 3 + 1) _).length
    rw [List.length_replicate]; omega
  all_goals decide +kernel

/-- HostFrames: the port up, an access to the first and the last word of the store, misaligned and outside, one that no region permits, a
frame cut short at each point. -/
theorem hyps_hostFrames :
    let f : HostFrame := ⟨false, 0, [], [], [], none, false, false⟩
    let c (g : HostFrame) (l : Option (LaneOp × LanePay)) : State :=
      { live with hst := { live.hst with frames := [g] }, hod := { live.hod with lane := l } }
    HostUp live ∧ live.hst.frames = [] ∧ StoreOpen written0 17 0 4 true false ∧ StoreOpen written0 17 0x7FFFFC 4 true false ∧
    StoreOpen written0 17 0x7FFFFC 4 false true ∧ (2#32).toNat % 4 ≠ 0 ∧
    (0x800000 ≤ (0x0FFFFFFC#32).toNat ∧ (0x0FFFFFFC#32).toNat < 0x10000000) ∧
    (let s : State := { live with arb := Arb.reset }
     regionOk { s with arb := { s.arb with regEff := Vector.replicate 32 (Vector.replicate 8 0, Vector.replicate 8 0) } } 17 0x7FFFFC 4 true false = false ∧
       fenced s 17 = false ∧ routeOf s 465 = 0) ∧
    ((0xC1 : Byte).toNat / 64 = 3 ∧ (0x40 : Byte).toNat % 64 = 0 ∧ 4 < (0x05 : Byte).toNat % 64) ∧
    ((live.arb.ord.get 17).any (·.write) = false ∧ (live.arb.kreq.get 17).any (·.write) = false ∧
      ((put32 live.arb.ord 17 (some oneWord)).get 17).any (·.write) = true) ∧
    ((c f none).hst.frames = [f] ∧ f.lost = false ∧ (c f none).hod.lane = none ∧
      (c f (some (⟨16, .get 64, .bus 17⟩, .read 0))).hod.lane = some (⟨16, .get 64, .bus 17⟩, .read 0)) := by
  refine ⟨?_, ?_, ?_, ?_, ?_, ?_, ?_, ?_, ?_, ?_, ?_⟩ <;> first | decide +kernel | (constructor <;> decide +kernel)


/-! ### Hypotheses met: images, the plinth, power, tests -/

/-- A stream of a source on slot 2 that has taken n bytes. -/
def stream (src : StreamSource) (n : Nat) (ver : Bool) : Stream := ⟨src, .i2c, 2, n, [], true, ver, false, false⟩

/-- SlotStreams: no stream, a stream of another source, one that stalls, one that verifies, one whose next place does not program, IMG
cells of 1 and 28 bytes. -/
theorem hyps_slotStreams :
    let s (x : Stream) : State := { live with img := { live.img with stream := some x } }
    (live.img.stream = none ∧ live.pwr.stage = .run ∧ live.pwr.state ≠ 3 ∧ (2 : BitVec 2) ≠ 3 ∧ (List.replicate 16 (0 : Byte)).length < 17920) ∧
    field ({ live.img with mode := 1 } : Img).mode 1 0 = 1 ∧
    (vio4 live = true ∧ live.bst.imgen = true ∧ live.pln.ready = true ∧ ({ live.bst with imgen := false } : Bst).imgen = false ∧
      vio4 { live with io := { live.io with bank := Vector.replicate 6 { IoBank.reset with band := none } } } = false) ∧
    ((s (stream .cfg 16 false)).img.stream = some (stream .cfg 16 false) ∧ (stream .cfg 16 false).src ≠ .plinth ∧
      (stream .cfg 16 false).target < 3 ∧ (stream .cfg 16 false).begun = true ∧ (stream .cfg 16 false).verify = false ∧
      (stream .cfg 16 false).ignore = false ∧ (stream .cfg 16 false).boot = false ∧ live.pln.owed = none) ∧
    (stream .cfg 17920 true).verify = true ∧
    (let x : Stream := { stream .cfg 17920 false with buf := [(24, 1)] }
     17920 ≤ x.got ∧ x.got < 17920 + mPaylen x.buf ∧ (2, x.got - 17920) ∈ ({ live.img with defects := [(2, 0)] } : Img).defects) ∧
    (Arrives live (cell 10 3 5 9 false ([0, 0, 0, 8] ++ List.replicate 28 7)) 10 ∧
      imgCount (cell 10 3 5 9 false ([0, 0, 0, 8] ++ List.replicate 28 7)) ∈ List.range' 1 28 ∧
      ((cell 10 3 5 9 false ([0, 0, 0, 8] ++ List.replicate 28 7)).payload.getD 3 0).getLsbD 0 = false ∧
      pay (cell 10 3 5 9 false ([0, 0, 0, 8] ++ List.replicate 28 7)) 0 3 = 0) ∧
    imgCount (cell 10 3 5 9 false [0, 0, 0, 224]) = 28 := by
  refine ⟨?_, ?_, ?_, ?_, ?_, ?_, ⟨cell_arrives 10 3 _ (by decide), ?_⟩, ?_⟩ <;> decide +kernel

/-- A manifest whose header passes: magic, version 1, TARGET of the W9 with major revision 1, key 0. -/
def goodMan : Mem := [(0, 0x5A), (1, 0x57), (2, 0x49), (3, 0x4D), (4, 1), (8, 0x10), (9, 0x09), (10, 0x57), (11, 0x5A)]

/-- A device at a slot's turn, every slot being x, key 0 programmed. -/
def atTurn (x : Slot) : State :=
  { live with img := { live.img with hold := true, locked := false, cands := [1, 0], prog := 1, slots := Vector.replicate 3 x } }

theorem turn_atTurn (x : Slot) : TurnOf (atTurn x) 1 [0] := by
  refine ⟨rfl, ?_, rfl, ?_, rfl, fun y h => ?_⟩
  · show live.pwr.state ≠ 3
    decide +kernel
  · show live.img.load = none
    decide +kernel
  · have : live.img.stream = none := by decide +kernel
    rw [show (atTurn x).img.stream = live.img.stream from rfl, this] at h
    cases h

/-- Loads: before the boot, each mode; an attempt's turn; a slot whose header fails for each cause and one whose header passes, with 8
setter-table records; an attempt that waits for a PLL; one that is released, STRICT and not; a trial; a background digest. -/
theorem hyps_loads :
    let x : Slot := { Slot.empty with state := 2, manifest := goodMan }
    let going : State := { atTurn x with img := { (atTurn x).img with load := some 1 } }
    let off : State := { going with clk := { going.clk with pll := Vector.replicate 8 { Pll.reset false with ctrl := 0x80000010 } } }
    let ready : State := { going with clk := clocked.clk }
    State.reset.pwr.stage = .core ∧ (∀ y, TurnOf (atTurn y) 1 [0]) ∧
    HeaderFails (atTurn x).img Slot.empty 3 ∧ HeaderFails (atTurn x).img { x with manifest := [] } 1 ∧
    HeaderFails (atTurn x).img { x with manifest := goodMan.take 6 } 2 ∧ HeaderFails live.img x 4 ∧
    (∀ e ∈ headerChecks (atTurn x).img x, e.2) ∧ 7 < memNat [(0, (8 : Byte))] (memNat goodMan 0x80 4) 2 ∧
    (off.img.load = some 1 ∧ off.img.cands = 1 :: [0] ∧ (off.clk.pll.get 7).en = true ∧ (off.clk.pll.get 7).lock = false ∧ pllsReady off.clk = false) ∧
    (ready.img.load = some 1 ∧ ready.img.cands = 1 :: [0] ∧ pllsReady ready.clk = true ∧ ready.pln.ready = true ∧
      decide (memNat goodMan 12 4 / 2 % 2 = 1) = false ∧ decide (memNat (goodMan ++ [(12, 2)]) 12 4 / 2 % 2 = 1) = true) ∧
    (({ live.img with trial := 1 } : Img).trial = 1 ∧ Slot.empty.state ≠ 2 ∧ field live.img.mode 1 0 = 0) ∧
    (live.img.hold = false ∧ live.img.digest = 0 ∧ live.img.strict = false ∧ live.img.bootslot.toNat < 3 ∧ live.img.mismatch = false ∧
      ({ live.img with bootslot := 2, mismatch := true } : Img).bootslot = 2) := by
  refine ⟨?_, turn_atTurn, ⟨0, _, rfl, rfl, ?_, fun j d h => absurd h (Nat.not_lt_zero j)⟩, ⟨1, _, rfl, rfl, ?_, fun j d h e => ?_⟩,
    ⟨2, _, rfl, rfl, ?_, fun j d h e => ?_⟩, ⟨3, _, rfl, rfl, ?_, fun j d h e => ?_⟩, ?_, ?_, ?_, ?_, ?_, ?_⟩
  case refine_4 =>
    obtain rfl : j = 0 := by omega
    obtain rfl := Option.some.inj e
    decide +kernel
  case refine_6 =>
    obtain rfl | rfl : j = 0 ∨ j = 1 := by omega
    all_goals (obtain rfl := Option.some.inj e; decide +kernel)
  case refine_8 =>
    obtain rfl | rfl | rfl : j = 0 ∨ j = 1 ∨ j = 2 := by omega
    all_goals (obtain rfl := Option.some.inj e; decide +kernel)
  case refine_9 =>
    intro e he
    simp only [headerChecks, List.mem_cons, List.not_mem_nil, or_false] at he
    rcases he with rfl | rfl | rfl | rfl <;> decide +kernel
  all_goals decide +kernel

theorem crc16Bit_ne {c : BitVec 16} (h : c ≠ 0) : crc16Bit c ≠ 0 := by
  intro e
  unfold crc16Bit at e
  split at e
  · have := congrArg (fun v : BitVec 16 => v.getLsbD 0) e
    simp at this
  · apply h
    refine BitVec.eq_of_getLsbD_eq (fun i hi => ?_)
    by_cases h15 : i = 15
    · subst h15; simp_all
    · have := congrArg (fun v : BitVec 16 => v.getLsbD (i + 1)) e
      simp only [BitVec.getLsbD_shiftLeft] at this
      simpa [show i + 1 < 16 by omega] using this

/-- The CRC-16 of zeros is not 0: a register that holds a 1 goes on holding one. -/
theorem crc16_zeros (n : Nat) : crc16 (List.replicate n 0) ≠ 0 := by
  have step : ∀ (n : Nat) (c : BitVec 16), c ≠ 0 → (List.replicate n (0 : Byte)).foldl crc16Byte c ≠ 0 := by
    intro n
    induction n with
    | zero => intro c h; exact h
    | succ n ih =>
      intro c h
      refine ih _ ?_
      rw [crc16Byte, show c ^^^ ((0 : Byte).setWidth 16 <<< 8) = c by simp]
      exact crc16Bit_ne (crc16Bit_ne (crc16Bit_ne (crc16Bit_ne (crc16Bit_ne (crc16Bit_ne (crc16Bit_ne (crc16Bit_ne h)))))))
  exact step n _ (by decide)

/-- Loads: on an empty payload every frame fails for cause 7, the first one being frame 0 of bay 0, and word 0 of the areas is read before it
stands. Records with right check bits and routing, and digests, are known only through uninterpreted functions (log 12), so the two clauses on
them have no witness here. -/
theorem hyps_firstBad (x : Slot) (h : x.payload = []) :
    FirstBad x 7 0 0 ∧ ∀ c b f, FrameBad x c b f → areaMoment 0 < frameMoment c f := by
  have zeros (a n : Nat) : memRead [] a n = List.replicate n 0 := by
    simp [memRead, memByte, kvGet, List.map_const']
  have crc (b f : Nat) : crc16 (memRead x.payload (recordOf x b f) 130) ≠ BitVec.ofNat 16 (memNat x.payload (recordOf x b f + 130) 2) := by
    rw [memNat, h, zeros, zeros]
    exact crc16_zeros 130
  have only (c b f : Nat) (hb : FrameBad x c b f) : c = 7 := by
    rcases hb.2.2 with ⟨h1, -⟩ | ⟨-, h1, -⟩
    · exact h1
    · exact absurd (.inr (crc b f)) h1
  refine ⟨⟨⟨by decide, by decide, .inl ⟨rfl, .inr (crc 0 0)⟩⟩, fun c b f hb => ?_⟩, fun c b f hb => ?_⟩
  · rw [only c b f hb]
    simp [frameMoment]
    omega
  · rw [only c b f hb]
    simp [frameMoment, areaMoment]

/-- SwapsAndRepointers: a swap before its release, its transfer and its end; repointers with nothing found, an upset row, a bad record. -/
theorem hyps_swapsAndRepointers :
    let w (moved rel : Bool) (left : BitVec 16) : Swap := ⟨2, 1, left, false, Vector.replicate 64 0, moved, rel, left, 1, 0⟩
    let on : Rpt := { Rpt.reset with copy := Vector.replicate 3 0x80000001, shad := 0x80000001 }
    let s (x : Rpt) : State := { live with img := validSlots, rpt := Vector.replicate 4 x }
    let u : State := (s on).modBay 48 (fun b => { b with upset := [(0, .single)] })
    let p : State := { s on with img := { validSlots with slots := Vector.replicate 3 { Slot.empty with state := 2, planeErr := [(48 * 960, .double)] } } }
    ((w false false 1).rel = false ∧ (w false false 1).moved = false ∧ (w false false 1).left ≠ 0 ∧ (w true true 0).rel = true ∧ (w true true 0).left = 0) ∧
    (Runs (s on) ∧ Agree on 0x80000001 ∧ (0x80000001#32).getLsbD 31 = true ∧ 16 * 3 + (following on).1.toNat = 48 ∧ (following on).2.toNat = 0 ∧
      ((s on).bay 48).runs = true ∧ kvGet (imgSlot (s on) 0).planeErr (48 * 960) = none ∧ kvGet ((s on).bay 48).upset 0 = none) ∧
    kvGet (u.bay 48).upset 0 = some .single ∧ kvGet (imgSlot p 0).planeErr (48 * 960) = some .double ∧ on.shad.getLsbD 31 = true ∧
    RegOpen live 16 .rpt (0x100 + 0x20 * 3) true ∧ RegOpen live 17 .rpt 0x100 true ∧ (17 : Master).val ≠ 16 := by
  refine ⟨?_, ⟨⟨?_, ?_, ?_⟩, ?_, ?_, ?_, ?_, ?_, ?_, ?_⟩, ?_, ?_, ?_, ?_, ?_, ?_⟩ <;> (try unfold Agree) <;>
    first | exact regOpen_of (by decide +kernel) | decide +kernel

/-- SwapsAndRepointers: a swap whose bays are all gated has no frame to fail, and a slot whose plane cannot be read has one; a repointer
before the last visit of a pass. -/
theorem hyps_swapRelease :
    let y : Rpt := { Rpt.reset with first := false, bay := 15, frame := 958 }
    badFrame Slot.empty [] = none ∧ (∃ e, badFrame { Slot.empty with planeErr := [(0, .double)] } [0] = some e) ∧
    (following y).1 = 15 ∧ (following y).2 = 959 := by
  refine ⟨?_, ?_, by decide +kernel, by decide +kernel⟩
  · simp [badFrame, badBay]
  · refine Option.isSome_iff_exists.mp ?_
    rw [badFrame, List.findSome?_isSome_iff]
    exact ⟨0, List.mem_range.mpr (by decide), by decide +kernel⟩

/-- A state in which the I²C channel's command waits for the plinth. -/
def asking (s : State) (cmd : Nat) (tag : Byte) (l : List Word) : State :=
  { s with pln := { live.pln with icmd := some (cmdHeader cmd tag l :: l), turn := .i2c } }

/-- The plinth takes it. -/
theorem asked (s : State) (cmd : Nat) (g : Option Nat) (tag : Byte) (l : List Word) (h : s.pwr.state = 0) (hg : ∀ k, g = some k → k < 6) :
    Asked (asking s cmd tag l) (passTurn .i2c (asking s cmd tag l)) .i2c cmd g tag l := by
  have h1 : mayTake .i2c (asking s cmd tag l) = true := by
    simp [mayTake, asking, h, live, Pln.reset, postsFor]
  refine ⟨?_, rfl, ?_⟩
  · have h2 : (asking s cmd tag l).pln.icmd = some (cmdHeader cmd tag l :: l) := rfl
    simp only [takeCmd, h1, h2, Bool.not_true, Bool.false_eq_true, if_false, if_true]
  · intro k hk
    refine ⟨fun h => (nomatch h), fun _ => ?_⟩
    have := hg k hk
    show (0x3F : BitVec 6).getLsbD k = true
    clear hk hg h1 h
    revert k
    decide

/-- PlinthCommands: each command as the I²C channel hands it over; its group disabled there. -/
theorem hyps_plinthCommands (l : List Word) (s : State) (h : s.pwr.state = 0) (e : (Channel → Byte → List Word → Instr) × Nat × Option Nat × (Nat → Bool))
    (he : Command e) :
    Asked (asking s e.2.1 0 l) (passTurn .i2c (asking s e.2.1 0 l)) .i2c e.2.1 e.2.2.1 0 l := by
  refine asked s _ _ _ _ h ?_
  intro k hk
  simp only [Command, List.mem_cons, List.not_mem_nil, or_false] at he
  rcases he with rfl | rfl | rfl | rfl | rfl | rfl | rfl | rfl | rfl | rfl | rfl | rfl | rfl | rfl | rfl | rfl | rfl | rfl | rfl | rfl | rfl | rfl | rfl <;>
    cases hk <;> decide

/-- PlinthCommands: the arguments at the ends of their ranges, a group that is disabled, the stream that SWDATA, SWCHUNK and SWABORT need, a
log record to read. -/
theorem hyps_plinthArguments :
    let s (x : Stream) : State := { written0 with img := { validSlots with stream := some x } }
    let t : State := { live with img := validSlots }
    (({ live.pln with cmdenI := 0x3E } : Pln).cmdenI.getLsbD 0 = false) ∧
    ((imgSlot t 2).state = 2 ∧ (2#32).toNat < 3 ∧ (2#32).toNat ∈ [1, 2]) ∧
    (testBlock (1#32).toNat = some (.bay 1) ∧ (1#32).toNat < 2) ∧ MayTest live (.bay 1) 0x00010001 true ∧
    ((5#32).toNat ∈ [0, 1, 2, 4, 5] ∧ t.img.stream = none) ∧
    OwnStream (s (stream .plinth 16 false)) .i2c (stream .plinth 16 false) ∧ (stream .plinth 16 false).got + 4 * 64 < 17920 ∧
    ((stream .plinth 16 false).begun = true ∧ (stream .plinth 16 false).target < 3) ∧
    ((s (stream .plinth 16 false)).pwr.stage = .run ∧ (s (stream .plinth 16 false)).pwr.state ≠ 3) ∧
    (∀ k, k < (16#32).toNat / 4 → StoreOpen (s (stream .plinth 16 false)) 16 ((0x7FFFF0#32).toNat + 4 * k) 4 true false) ∧
    ((List.replicate 24 (0 : Word)).length = 24 ∧ live.img.prog = 0 ∧ (3#32).toNat < 4) ∧
    (live.img.minsvn.toNat < (65535#32).toNat ∧ (65535#32).toNat ≤ 65535 ∧ (imgSlot live 0).state ≠ 2) ∧
    (InUser 51 0 ∧ InUser 0 0 ∧ ¬InUser 29 0) ∧
    (let r : LogRec := ⟨7, 0, 0x30, 0, 0xFFFF, 1, 0, 0⟩
     ({ live.pln with ram := [r] } : Pln).ring.reverse ++ ({ live.pln with ram := [r] } : Pln).ram = [] ++ r :: [] ∧ r.seq = 7) ∧
    newer live.pln 0 = false ∧ (1000#32).toNat ≤ 1000 ∧ (5#32).toNat ≤ 5 ∧ (0#32).toNat < fltUnits 5 ∧ (255#32).toNat ≤ 255 := by
  refine ⟨?_, ?_, ?_, ?_, ?_, ⟨?_, ?_, ?_⟩, ?_, ?_, ?_, ?_, ?_, ?_, ?_, ?_, ?_, ?_, ?_, ?_, ?_⟩
  case refine_4 => constructor <;> decide +kernel
  case refine_12 =>
    intro k hk
    have : ∀ k < 4, (0x7FFFF0#32).toNat + 4 * k + 4 ≤ 0x800000 ∧ ((0x7FFFF0#32).toNat + 4 * k) % 4 = 0 := by decide
    have hk : k < 4 := hk
    constructor <;> revert k <;> decide +kernel
  all_goals ((try unfold InUser); decide +kernel)

/-- A device whose plinth queues 0 to 3 are enabled, a header in queue 0: one of NARG 0 with EOB, or one of NARG 1 alone. -/
def blocked (eob : Bool) : State := { live with hod := { live.hod with
  desc := (List.range 4).map (fun q => (q, ⟨BitVec.ofNat 32 (0x80001000 + 64 * q), if q = 0 then 1 else 0, 0, 0⟩)),
  comb := [⟨0x1000, 0, some (leBytes 4 (if eob then 0x01050000 else 0x01050100) ++ [if eob then 0x88 else 0x80, 0, 0, 0]), none⟩] } }

/-- PlinthChannels: transfers on I²C of 4 and of 260 bytes, malformed headers, a response, a command, a whole block and a part of one, a
response that waits. -/
theorem hyps_plinthChannels :
    let i (c r : Option (List Word)) : State := { live with pln := { live.pln with icmd := c, iresp := r, turn := .i2c } }
    Serves live ∧ Serves (i (some [0x01000000]) none) ∧ Serves (blocked true) ∧
    (∀ s ∈ [blocked true, blocked false], s.pln.posts = [] ∧ asleep .hod s = false ∧ asleep .store s = false ∧ s.pln.owed = none ∧
      s.pln.icmd = none) ∧
    (live.pln.icmd = none ∧ ¬BadHeader (first4 [0, 0, 0, 1]) ∧ [0, 0, 0, (1 : Byte)].length = 4 * (1 + (field (first4 [0, 0, 0, 1]) 15 8).toNat)) ∧
    (¬BadHeader (first4 [0, 64, 0, 1]) ∧ BadHeader (first4 [0, 65, 0, 1]) ∧ BadHeader (first4 [1, 0, 0, 1])) ∧
    ((i none (some [5])).pln.iresp = some [5] ∧ (i none (some [5])).pln.owed = none) ∧
    ((i (some [0x01000000]) none).pln.icmd = some (0x01000000 :: []) ∧ (i (some [0x01000000]) none).pln.turn = .i2c) ∧
    ((blocked true).pln.qresp = none ∧ (blocked true).hod.gated = false ∧ ∃ t, nextBlock (blocked true) = (.whole [0x01050000], t)) ∧
    cmdDefined 0x06 = false ∧
    (mayTake .queue (blocked false) = true ∧ (blocked false).pln.qdrop = false ∧
      (match (nextBlock (blocked false)).1 with
        | .none => true
        | _ => false) = true ∧ (getWord (blocked false)).1 = some (0x01050100, false) ∧ (getWord (getWord (blocked false)).2).1 = none) ∧
    ({ live.pln with qresp := some [5] } : Pln).qresp = some [5] ∧ (postBlock 1 [5] (blocked true)).isSome = true ∧ postBlock 1 [5] live = none := by
  refine ⟨?_, ?_, ?_, ?_, ?_, ?_, ?_, ?_, ⟨?_, ?_, ⟨(nextBlock (blocked true)).2, ?_⟩⟩, ?_, ⟨?_, ?_, ?_, ?_, ?_⟩, ?_, ?_, ?_⟩
  case refine_11 => exact Prod.ext (by decide +kernel) rfl
  case refine_20 =>
    have : (postBlock 1 [5] live).isSome = false := by decide +kernel
    simpa using this
  all_goals ((try unfold BadHeader); first | decide +kernel | (constructor <;> decide +kernel))

/-- The ROM starts a copy as shipped. -/
theorem starts_shipped {p : Pln} {c : Bool} (h : c = p.fwSel) (hp : (p.fw.get ⟨c.toNat, Bool.toNat_lt c⟩).shipped = true) : Starts p c := by
  refine .inl ⟨h, _, ?_, .inl hp⟩
  simp only [nth, Bool.toNat_lt, dite_true]

/-- Copies of which no byte has been programmed pass no check. -/
theorem noCopy_empty {p : Pln} (h : p.fw = Vector.replicate 2 ⟨false, [], [], none⟩) : NoCopy p := by
  have : ∀ c, ¬Passes302 p c := by
    rintro c ⟨f, hf, h1 | ⟨-, h1⟩⟩
    all_goals
      rw [h] at hf
      simp only [nth, Bool.toNat_lt, dite_true, Vector.get, Vector.replicate, Array.getElem_replicate, Option.some.injEq] at hf
      subst hf
      cases h1
  exact ⟨this false, this true⟩

/-- PlinthServices: the plinth before it starts, with a copy that passes and with none, running, restarting with a response owed and the
selected copy bad; a cycle's readings at the ends of a field; registers; records; a fault report. -/
theorem hyps_plinthServices :
    let off : State := { live with pln := Pln.reset }
    let r (n : Word) : LogRec := ⟨n, 0, 0x30, 0, 0xFFFF, 1, 0, 0⟩
    let h : Word := cmdHeader 0x15 0 [1]
    (off.pwr.stage = .run ∧ off.pwr.state ≠ 3 ∧ off.pln.ready = false ∧ off.pln.romonly = false ∧ off.pln.going = false ∧ Starts off.pln false ∧
      NoCopy { off.pln with fw := Vector.replicate 2 ⟨false, [], [], none⟩ }) ∧
    (live.pln.ready = true ∧ live.pln.going = false ∧ live.pln.owed = .none ∧ live.pln.ram.length ≤ 32 ∧ Starts live.pln live.pln.fwSel) ∧
    (let x : Pln := { live.pln with sensen := 0xFFFFFFFF, armed := 0x55555555, thyst := 5, rhyst := 5 }
     x.ready = true ∧ x.sensen.getLsbD 8 = true ∧ x.armed.getLsbD 8 = true ∧ x.armed.getLsbD 9 = false ∧ x.armed.getLsbD 26 = true ∧
       x.armed.getLsbD 27 = false ∧ x.armed.getLsbD 28 = true ∧ x.armed.getLsbD 31 = false ∧ live.pln.sensen.getLsbD 8 = false) ∧
    (live.pwr.stage = .run ∧ live.pwr.state ≠ 3 ∧ State.reset.pwr.stage ≠ .run) ∧
    (({ live.pln with going := true, owed := some (.i2c, h) } : Pln).owed = some (.i2c, h) ∧ (field h 31 24).toNat = 0x15) ∧
    (RegOpen live 16 .pln 0x10 true ∧ RegOpen live 16 .pln (0x240 + 4 * 8) true ∧ RegOpen live 16 .pln (0x300 + 4 * 3) true ∧
      RegOpen live 16 .pln (0x800 + 4 * 5) true) ∧
    ({ live.pln with ram := [r 1] } : Pln).ram = r 1 :: [] ∧ live.pln.ring.length < 8192 ∧
    (({ live.pln with logOn := true, ring := [r 1] } : Pln).ring.reverse.find? (fun x => decide ((x.seq - 0).toNat < 2 ^ 31))) = some (r 1) ∧
    (((5 : Fin 6).val, 63, 1) ∉ live.pln.reports ∧
      ({ live.pln with reports := [(5, 63, 1)] } : Pln).reports = [] ++ ((5 : Fin 6).val, 63, 1) :: [] ∧
      ((5 : Fin 6).val, 63, 1) ∉ ([] : List (Nat × Nat × Nat)) ∧ 63 < fltUnits 5 ∧
      (1 ≤ 1)) := by
  refine ⟨⟨?_, ?_, ?_, ?_, ?_, starts_shipped rfl ?_, noCopy_empty rfl⟩, ⟨?_, ?_, ?_, ?_, starts_shipped rfl ?_⟩, ?_, ?_, ?_, ⟨?_, ?_, ?_, ?_⟩, ?_, ?_,
    ?_, ?_⟩ <;> first | exact regOpen_of (by decide +kernel) | decide +kernel

/-- PlinthServices: the selected copy fails the ROM's check and the other one passes. -/
theorem hyps_otherCopy : Starts { live.pln with fw := #v[⟨false, [], [], none⟩, ⟨true, [], [], none⟩] } (!live.pln.fwSel) := by
  refine .inr ⟨by decide, ?_, ⟨true, [], [], none⟩, rfl, .inl rfl⟩
  rintro ⟨f, hf, h | ⟨-, h⟩⟩
  all_goals
    have hf := Option.some.inj hf
    subst hf
    cases h

/-- A ring of 8,192 records ends with its oldest. -/
theorem hyps_fullRing (o : LogRec) : (List.replicate 8191 o ++ [o]).length = 8192 := by
  rw [List.length_append, List.length_replicate]; rfl

/-- PowerEntries: requests in RUN, each refusal, DOZE to resume, an entry to each state. -/
theorem hyps_powerEntries :
    let e (k : BitVec 2) : State := { selecting with pwr := { selecting.pwr with inflight := true, target := k } }
    RegOpen selecting 16 .pwr 0x04 true ∧ MayChange selecting 1 ∧ MayChange selecting 2 ∧ MayChange selecting 3 ∧
    (selecting.pwr.wakesrc &&& selecting.pwr.wakeen = 0 ∧ (2#32).getLsbD 31 = false ∧ (0x80000001#32).toNat % 4 ≠ 0) ∧
    Refuses (e 1) 1 3 ∧ Refuses live 2 2 ∧ Refuses live 1 2 ∧
    Refuses (selecting.modBay 0 (fun b => { b with isol := true })) 1 4 ∧
    (let d : State := { live with pwr := { live.pwr with state := 1 } }
     d.pwr.inflight = false ∧ d.pwr.state = 1 ∧ d.pwr.caller = none) ∧
    (let b (w : SetterWait) : State := { e 2 with setters := Vector.replicate 16 { runner with wait := w }, pwr := { (e 2).pwr with takenS := 0x8000 } }
     Entering (b (.access .store (.nop 0 none))) 2 ∧ (b (.access .store (.nop 0 none))).pwr.takenS.getLsbD 15 = true ∧
       Busy ((b (.access .store (.nop 0 none))).st 15) ∧ Busy ((b (.lane 1)).st 15) ∧ Busy ((b (.fence 1)).st 15)) ∧
    (∀ i, ¬Busy ((e 2).st i)) ∧ (∀ n, routeOf (e 2) n = 0) ∧ (e 2).hod.keyWait = [] ∧ (e 3).pln.ram.length < 32 ∧
    Entering (e 1) 1 ∧ Entering (e 2) 2 ∧ Entering (e 3) 3 ∧ Machine.off .store (e 2) = false ∧ (e 1).pwr.wakesrc &&& (e 1).pwr.wakeen = 0 ∧
    (e 1).hod.lane = none := by
  refine ⟨regOpen_of (by decide +kernel), mayChange_selecting 1 (by decide), mayChange_selecting 2 (by decide), mayChange_selecting 3 (by decide),
    ?_, ?_, ?_, ?_, ?_, ?_, ⟨?_, ?_, .inl ⟨_, _, rfl⟩, .inr (.inl ⟨_, rfl⟩), .inr (.inr ⟨_, rfl⟩)⟩, fun i => ?_, fun n => rfl, ?_, ?_, ?_, ?_, ?_, ?_, ?_, ?_⟩
  case refine_9 =>
    have : ∀ i, (selecting.st i).wait = .none := by decide +kernel
    have h : ((({ selecting with pwr := { selecting.pwr with inflight := true, target := 2 } } : State)).st i).wait = .none := this i
    rintro (⟨d, c, e⟩ | ⟨d, e⟩ | ⟨n, e⟩) <;> (rw [h] at e; cases e)
  all_goals ((try unfold Refuses); first | decide +kernel | (constructor <;> decide +kernel))

/-- A device in NAP with bay 63 gated and the store retained. -/
def napping : State := { (live.modBay 63 (fun b => { b with gated := true })) with
  store := { live.store with retn := true }, pwr := { live.pwr with state := 2, wakesrc := 1, wakeen := 1 } }

theorem quiet_napping : Quiet napping := by
  refine ⟨by decide +kernel, by decide +kernel, by decide +kernel, by decide +kernel, by decide +kernel, by decide +kernel, by decide +kernel,
    fun i d ins h => ?_⟩
  have : ∀ i, (napping.st i).wait = .none := by decide +kernel
  rw [this i] at h
  cases h

/-- PowerEntries: no access waits as the entry to NAP ends. -/
theorem quiet_selecting : Quiet selecting := by
  refine ⟨by decide +kernel, by decide +kernel, by decide +kernel, by decide +kernel, by decide +kernel, by decide +kernel, by decide +kernel,
    fun i d ins h => ?_⟩
  have : ∀ i, (selecting.st i).wait = .none := by decide +kernel
  rw [this i] at h
  cases h

/-- Wakes: a source in RUN, DOZE and an entry; the timer; registers; the WAKE cell; a gated domain; NAP's and DORMANT's ends. -/
theorem hyps_wakes :
    let dor : State := { live with pwr := { live.pwr with state := 3, wakesrc := 1 } }
    let back : State := { dor with pwr := { dor.pwr with waking := true, inflight := true }, clk := { clocked.clk with slock := true, hlock := true } }
    InRun live ∧ sourceLive 19 live = true ∧ sourceLive 0 live = true ∧
    (let d : State := { selecting with pwr := { selecting.pwr with state := 1 } }
     d.pwr.stage = .run ∧ d.pwr.state = 1 ∧ d.pwr.inflight = false ∧ d.pwr.caller = none ∧ d.pwr.wakeen.getLsbD 0 = true) ∧
    (let d : State := { selecting with pwr := { selecting.pwr with inflight := true, target := 1 } }
     d.pwr.inflight = true ∧ d.pwr.waking = false ∧ d.pwr.caller = none ∧ d.pwr.target = 1 ∧ d.pwr.reached = 0 ∧
       d.pwr.wakeen.getLsbD 0 = true) ∧
    ({ live.pwr with wtArmed := true } : Pwr).wtArmed = true ∧
    RegOpen live 16 .pwr 0x30 true ∧ RegOpen live 16 .pwr 0x34 true ∧ RegOpen live 16 .pwr 0x3C true ∧ (live.io.bank.get 0).band.isSome = true ∧
    (1#32).toNat % 2 ^ 31 ≠ 0 ∧ Arrives live (cell 11 2 5 9 false []) 11 ∧
    (Machine.off (.bay 63) napping = true ∧ Machine.off .store napping = true ∧ napping.pwr.state ≠ 3 ∧
      napping.pwr.begun.contains (.bay 63) = false) ∧
    (let g : State := { live with pwr := { live.pwr with inflight := true, target := 2, takenS := 1, reached := 1 } }
     asleep (.setter 0) g = true ∧ Machine.off (.setter 0) g = false ∧ g.pwr.state ≠ 3 ∧ g.pwr.stage = .run) ∧
    Quiet napping ∧ ({ napping.pwr with begun := [.bay 63] } : Pwr).begun.contains (.bay 63) = true ∧
    (napping.pwr.state = 2 ∧ napping.pwr.inflight = false ∧ napping.pwr.wakesrc ≠ 0 ∧ napping.pwr.begun = []) ∧
    ({ napping.pwr with inflight := true, waking := true } : Pwr).waking = true ∧
    (dor.pwr.state = 3 ∧ dor.pwr.inflight = false ∧ dor.pwr.wakesrc ≠ 0 ∧ dor.pwr.stage = .run) ∧
    (back.pwr.waking = true ∧ back.img.hold = false ∧ pllsReady back.clk = true ∧ back.clk.slock = true ∧ back.clk.hlock = true) ∧
    (let none : Img := { back.img with hold := true, noimage := true }
     none.hold = true ∧ none.noimage = true ∧ back.pwr.stage = .run ∧ back.pwr.state = 3 ∧ back.pwr.caller = .none) := by
  refine ⟨⟨?_, ?_, ?_⟩, ?_, ?_, ?_, ?_, ?_, regOpen_of (by decide +kernel), regOpen_of (by decide +kernel), regOpen_of (by decide +kernel), ?_, ?_,
    cell_arrives 11 2 _ (by decide), ?_, ?_, quiet_napping, ?_, ?_, ?_, ?_, ?_, ?_⟩ <;> decide +kernel

/-- SuppliesAndResets: each stage, the registers of a restored page. -/
theorem hyps_suppliesAndResets :
    State.reset.pwr.stage = .core ∧ ({ live.pwr with stage := .ao } : Pwr).stage = .ao ∧ live.pwr.stage = .run ∧
    ({ live.pwr with stage := .saved } : Pwr).stage = .saved ∧ ({ live.io with trip := true } : Io).trip = true ∧ live.io.trip = false ∧ State.reset.pwr.stage ≠ .saved ∧
    (let p : Pwr := { live.pwr with bor := true }
     p.bor = true ∧ p.bobusy = false) ∧ RegOpen live 16 .pwr 0x44 true ∧
    (∃ g : SavePage, ({ live.pwr with bobusy := true, page := some g } : Pwr).page = some g) := by
  refine ⟨?_, ?_, ?_, ?_, ?_, ?_, ?_, ?_, regOpen_of (by decide +kernel), ⟨⟨Vector.replicate 16 (recOf runner), [], [], [], false⟩, rfl⟩⟩ <;> decide +kernel

/-- TestsAndTap: a slice inside its budget and one beyond it, one whose PLL unlocked, a setter that has not come to its boundary; what a check can
name; the port with the private instructions and without, a stream of the port, a probe of bay 63 on and gated; the port's row for a ball. -/
theorem hyps_testsAndTap :
    let x : Slice := ⟨1, 1, 0, 1, 0, none⟩
    let s : State := { live with bst := { live.bst with slice := some x } }
    let z : State := { s with bst := { s.bst with budget := 0 } }
    let w : State := { live.putS 15 { runner with testW := true, wait := .lane 1 } with bst := { live.bst with slice := some ⟨0x4F, 1, 0, 1, 0, none⟩ } }
    let v : Stream := { stream .jtag 16 false with begun := true }
    let e : State := { live with tap := { live.tap with ir := 0, upd := BitVec.allOnes 441 } }
    (s.bst.slice = some x ∧ testBlock 1 = some (.bay 1) ∧ overBudget s (.bay 1) x = false ∧ x.fail = none ∧ failAtOk (.bay 1) x 0 = true ∧
      overBudget z (.bay 1) x = true ∧ ({ x with fail := some 7 } : Slice).fail = some 7) ∧
    AtTest s (.bay 1) ∧ (testBlock 0x4F = some (.setter 15) ∧ ¬AtTest w (.setter 15)) ∧
    (vio4 e = true ∧ e.pwr.stage ≠ .off ∧ e.io.trip = false ∧ e.tap.ir = 0 ∧ live.tap.ir = 2 ∧ ({ live.io with trip := true } : Io).trip = true) ∧
    TapUp live ∧ PrivateUp live ∧ ¬PrivateUp { live with pln := Pln.reset } ∧
    (live.bst.imgen = true ∧ live.img.stream = none ∧ (0x80000002#32).toNat % 4 ≠ 3 ∧ (0x80000002#32).getLsbD 31 = true) ∧
    TapStream { live with img := { live.img with stream := some v } } v ∧ (v.begun = true ∧ v.target < 3 ∧ live.pln.owed = none ∧ v.got + 4 < 17920) ∧
    (({ live.img with mode := 3 } : Img).mode.toNat % 4 = 3 ∧ (0x82 : Byte).getLsbD 7 = true ∧ (0x82 : Byte).toNat % 4 ≠ 3 ∧ live.img.noimage = false) ∧
    (({ live.bst with probeen := true } : Bst).probeen = true ∧ (0xBFE00FFF#32).toNat / 2 ^ 12 % 2 ^ 9 = 0 ∧
      (63 : BayId).val = (0xBFE00FFF#32).toNat / 2 ^ 24 % 64 ∧ asleep (.bay 63) live = false ∧ asleep (.bay 63) napping = true) := by
  refine ⟨?_, fun i h => (nomatch h), ⟨?_, fun h => ?_⟩, ?_, ⟨?_, ?_⟩, ⟨⟨?_, ?_⟩, ?_, ?_⟩, fun h => ?_, ?_, ⟨?_, ?_, ?_⟩, ?_, ?_, ?_⟩
  case refine_3 => exact h 15 rfl (by decide +kernel) (.inr (.inl ⟨1, by decide +kernel⟩))
  case refine_11 => exact absurd h.2.1 (by decide +kernel)
  all_goals decide +kernel

/-- StepRunsFront: an empty queue. -/
theorem hyps_stepRunsFront : live.pending = [] := by decide +kernel

/-- StepKeepsForm: the state right after reset has the form, and its step with a command in front answers a next state. -/
theorem hyps_stepKeepsForm : Form State.reset ∧ ∃ t, step { State.reset with pending := [.tapReset] } = .next t := by
  refine ⟨⟨?_, ?_, ?_⟩, ⟨_, rfl⟩⟩ <;> decide +kernel

/-- InstructionWords: a word that spells an instruction, and that instruction's own word. -/
theorem hyps_instructionWords : (encodeWord (.add 0 ⟨3, 1, 2⟩)).map (·.word) = some 0x04C48000 ∧
    decodeWord 0 0x04C48000 false 0 = .add 0 ⟨3, 1, 2⟩ ∧ ¬Reserved (.add 0 ⟨3, 1, 2⟩) := by
  refine ⟨by decide +kernel, by decide +kernel, ?_⟩
  rintro ⟨s, b, h⟩
  cases h

end Sys2Proof.Tests
end

section
/-! PROOFS. What the checks before a register let through, one lemma per way they end (R10, R20 to R23, R62, R214, R339, R343); what a
bus master's access leaves in each case; and the statement BusChecks. -/

namespace Sys2Proof.Proofs
open Sys2Proof Sys2Proof.Machine Sys2Proof.Claims

/-! ### The checks -/

/-- The device is on, and the place answers in its power state (R20, R22). -/
def Answers (s : State) (a : Nat) : Prop :=
  (s.pwr.stage = .run ∨ s.pwr.stage = .core) ∧ (s.pwr.state = 3 → aoPlace (placeOf a) = true)

/-- An access to a register of domain d waits: the domain sleeps, or the hod's bus port is taken (R214, R339, R343). -/
def Waits (s : State) (d : Domain) : Prop := asleep d s = true ∨ (d = .hod ∧ portBusy 16 s = true)

/-- The last check of a register: the block's domain, where it has one. -/
def blockGate (s : State) (b : Block) (off : Nat) : Gate :=
  match blockDomain b with
  | some d => if asleep d s || (d == .hod && portBusy 16 s) then .waits d (startWake d s) else .reg b off
  | none => .reg b off

/-- What an aligned access meets that its regions permit. -/
def placeGate (s : State) (p : Place) : Gate :=
  match p with
  | .nowhere => .error s
  | .store => .store
  | .window q off => .window q off
  | .reg b off => blockGate s b off

theorem silent_iff (s : State) (a : Nat) :
    (!started s || (s.pwr.state == 3 && !aoPlace (placeOf a))) = true ↔ ¬Answers s a := by
  simp only [started, Answers, Bool.or_eq_true, Bool.not_eq_true', Bool.or_eq_false_iff, Bool.and_eq_true, beq_iff_eq,
    beq_eq_false_iff_ne, not_and_or, not_or, Classical.not_imp, Bool.not_eq_true]

theorem waits_iff (s : State) (d : Domain) : (asleep d s || (d == .hod && portBusy 16 s)) = true ↔ Waits s d := by
  simp only [Waits, Bool.or_eq_true, Bool.and_eq_true, beq_iff_eq]

theorem blockGate_waits {s : State} {b : Block} {off : Nat} {d : Domain} (hd : blockDomain b = some d) (hw : Waits s d) :
    blockGate s b off = .waits d (startWake d s) := by
  simp only [blockGate, hd, if_pos ((waits_iff s d).2 hw)]

theorem blockGate_reg {s : State} {b : Block} {off : Nat} (h : ∀ d, blockDomain b = some d → ¬Waits s d) :
    blockGate s b off = .reg b off := by
  unfold blockGate
  split
  next d hd => exact if_neg (mt (waits_iff s d).1 (h d hd))
  next => rfl

section Gate
variable {s : State} {m a : Nat} {wr : Bool}

theorem gate_silent (h : ¬Answers s a) : gate m a wr s = .error s := if_pos ((silent_iff s a).2 h)

/-- An address of the store is checked for its alignment only: the store path checks the rest. -/
theorem gate_store (h : Answers s a) (hp : placeOf a = .store) : gate m a wr s = if a % 4 ≠ 0 then .error s else .store :=
  (if_neg (mt (silent_iff s a).1 (not_not_intro h))).trans (if_pos hp)

theorem gate_violation (h : Answers s a) (hp : placeOf a ≠ .store) (hm : markRead a wr = false)
    (hr : regionOk s m a 4 (!wr) wr = false) : gate m a wr s = .violation (regionViolation m a s) :=
  (if_neg (mt (silent_iff s a).1 (not_not_intro h))).trans ((if_neg hp).trans (if_pos (by simp [hm, hr])))

/-- Past its master's regions, an access goes on to its alignment and its place. -/
theorem gate_permitted (h : Answers s a) (hp : placeOf a ≠ .store) (hr : regionOk s m a 4 (!wr) wr = true) :
    gate m a wr s = if a % 4 ≠ 0 then .error s else placeGate s (placeOf a) :=
  (if_neg (mt (silent_iff s a).1 (not_not_intro h))).trans ((if_neg hp).trans (if_neg (by simp [hr])))

theorem gate_misplaced (h : Answers s a) (hp : placeOf a ≠ .store) (hr : regionOk s m a 4 (!wr) wr = true)
    (hb : a % 4 ≠ 0 ∨ placeOf a = .nowhere) : gate m a wr s = .error s := by
  rw [gate_permitted h hp hr]
  by_cases ha : a % 4 = 0
  · rw [if_neg (not_not_intro ha), hb.resolve_left (not_not_intro ha), placeGate]
  · exact if_pos ha

/-- A permitted, aligned access to a register leaves the question of the block's domain. -/
theorem gate_block {b : Block} {off : Nat} (h : Answers s a) (hp : placeOf a = .reg b off) (ha : a % 4 = 0)
    (hr : regionOk s m a 4 (!wr) wr = true) : gate m a wr s = blockGate s b off := by
  rw [gate_permitted h (by simp [hp]) hr, if_neg (not_not_intro ha), hp, placeGate]

end Gate

theorem eq_hod_of_blockDomain {b : Block} (h : blockDomain b = some .hod) : b = .hod := by
  cases b <;> simp_all [blockDomain]

section Open
variable {s : State} {m off : Nat} {b : Block} {wr : Bool} (h : RegOpen s m b off wr)
include h

theorem answers_of_open (a : Nat) : Answers s a := ⟨h.stage, fun h3 => absurd h3 h.awake⟩

theorem not_waits_of_open {d : Domain} (hd : blockDomain b = some d) : ¬Waits s d := by
  rintro (ha | ⟨rfl, hp⟩)
  · simp [h.domain d hd] at ha
  · simp [h.port (eq_hod_of_blockDomain hd)] at hp

/-- Free values play no part in the checks (log 6). -/
theorem regOpen_free (n : Nat) : RegOpen { s with free := n } m b off wr := ⟨h.stage, h.awake, h.region, h.domain, h.port⟩

theorem gate_open (hp : placeOf (blockAddr b off) = .reg b off) (ha : blockAddr b off % 4 = 0) :
    gate m (blockAddr b off) wr s = .reg b off :=
  (gate_block (answers_of_open h _) hp ha h.region).trans (blockGate_reg fun _ => not_waits_of_open h)

end Open

/-- An access to a domain whose wake has begun, or that is on and only about to stop, begins none (R343). -/
theorem startWake_begun {s : State} {d : Domain} (h : d ∈ s.pwr.begun ∨ Machine.off d s = false) : startWake d s = s := by
  refine if_pos ?_
  rcases h with h | h <;> simp [h]

/-! ### An access and its response -/

section Access
variable {s t : State} {m a off : Nat} {v : Word} {e : WriteEnv} {rec : Option Word} {b : Block}

theorem settleAccess_ended (w : Option Word) {r : Resp} (h : r.code ≠ .waits) : settleAccess m a w r s = answer m r s := by
  unfold settleAccess
  split
  · contradiction
  · rfl

/-- An access that waits is kept in the model's list (log 21). -/
theorem settleAccess_waits (w : Option Word) {d : Domain} (h : waitDomain a = some d) :
    settleAccess m a w ⟨.waits, []⟩ s = ended m .waits (keepWaiting ⟨m, d, a, w.isSome, w.getD 0, none⟩ s) := by
  simp only [settleAccess, h]
  rfl

theorem waitDomain_reg (hp : placeOf a = .reg b off) : waitDomain a = blockDomain b := by
  simp only [waitDomain, hp]

theorem writeAs_error (h : gate m a true s = .error t) : writeAs m a v e s = ended m .busError t := by
  simp only [writeAs, busWrite, h]
  exact settleAccess_ended _ (by decide)

theorem readAs_error (h : gate m a false s = .error t) : readAs m a rec s = ended m .busError t := by
  simp only [readAs, busRead, h]
  exact settleAccess_ended _ (by decide)

theorem writeAs_violation (h : gate m a true s = .violation t) : writeAs m a v e s = ended m .region t := by
  simp only [writeAs, busWrite, h]
  exact settleAccess_ended _ (by decide)

theorem writeAs_waits {d : Domain} (h : gate m a true s = .waits d t) (hd : waitDomain a = some d) :
    writeAs m a v e s = ended m .waits (keepWaiting ⟨m, d, a, true, v, none⟩ t) := by
  simp only [writeAs, busWrite, h]
  exact settleAccess_waits _ hd

/-- A write that nothing keeps from its register leaves what the register's own rules leave. -/
theorem writeAs_open (h : RegOpen s m b off true) (hp : placeOf (blockAddr b off) = .reg b off) (ha : blockAddr b off % 4 = 0)
    (hw : blockWrite m b off v e s = some t) : writeAs m (blockAddr b off) v e s = answeredOk m [] t := by
  simp only [writeAs, busWrite, gate_open h hp ha, hw]
  exact settleAccess_ended _ (by decide)

/-- A read that nothing keeps from its register returns the register's own answer. -/
theorem readAs_open {w : Word} (h : RegOpen s m b off false) (hp : placeOf (blockAddr b off) = .reg b off)
    (ha : blockAddr b off % 4 = 0) (hr : blockRead b off rec s = some (w, t)) :
    readAs m (blockAddr b off) rec s = answeredOk m (leBytes 4 w.toNat) t := by
  simp only [readAs, busRead, gate_open h hp ha, hr]
  exact settleAccess_ended _ (by simp)

end Access

/-! ### The two rows that name an address -/

theorem exec_registerWrite (m : Master) (a v : Word) (s : State) :
    exec (.registerWrite m a v) s = .next (writeAs m.val a.toNat v (freeEnv s) { s with free := s.free + 2 }) := rfl

theorem exec_rcFieldRead (m : Master) (a : Word) (rec : Option Word) (s : State) :
    exec (.rcFieldRead m a rec) s = .next (readAs m.val a.toNat rec s) := rfl

/-! ### SET_OVERRUNS (R59, R407) -/

theorem blockAddr_set (i : SetterId) (off : Nat) : blockAddr (.set i) off = off + (0x20200000 + 0x10000 * i.val) := rfl

theorem placeOf_set (i : SetterId) {off : Nat} (h : off < 0x10000) : placeOf (blockAddr (.set i) off) = .reg (.set i) off := by
  have hi := i.isLt
  have ha := blockAddr_set i off
  rw [placeOf, if_neg (by omega), if_neg (by omega), if_neg (by omega), dif_neg (by omega), dif_pos (by omega)]
  simp only [Place.reg.injEq, Block.set.injEq, Fin.ext_iff]
  omega

theorem valAt_halves (x y : BitVec 16) : (valAt 16 x.toNat ||| valAt 0 y.toNat).toNat = x.toNat * 65536 + y.toNat := by
  have hx := x.isLt
  have hy := y.isLt
  simp only [valAt, BitVec.toNat_or, BitVec.toNat_ofNat]
  rw [Nat.mod_eq_of_lt (by omega), Nat.mod_eq_of_lt (by omega), pow_zero, mul_one, ← Nat.shiftLeft_eq,
    ← Nat.shiftLeft_add_eq_or_of_lt hy, Nat.shiftLeft_eq]

/-- A read of SET_OVERRUNS takes both counters and leaves in them what hardware records in the same cycle. -/
theorem blockRead_overruns (s : State) (i : SetterId) (rec : Option Word) (h : (s.st i).isol = false) :
    blockRead (.set i) 0x20 rec s = some (valAt 16 (s.st i).missed.toNat ||| valAt 0 (s.st i).overruns.toNat,
      s.putS i { s.st i with missed := field (rec.getD 0) 31 16, overruns := field (rec.getD 0) 15 0 }) :=
  (if_neg (by simp [h])).trans rfl

/-! ### The statement -/

/-- Settles O21: each clause is one way the checks end, and what the access leaves then. -/
theorem busChecks : Obligations.BusChecks := by
  unfold Obligations.BusChecks
  intro s m a v rec u on place answers
  refine ⟨?silent, ?misalignedStore, fun h hp => ⟨?violation, ?misplacedWrite, ?misplacedRead⟩,
    fun b off h hp ha => ⟨?waits, ?write, ?read⟩, ?overruns⟩
  case silent =>
    intro h
    exact ⟨congrArg _ (writeAs_error (gate_silent (s := u) h)), congrArg _ (readAs_error (gate_silent h))⟩
  case misalignedStore =>
    intro h hp ha
    exact congrArg _ (writeAs_error ((gate_store (s := u) h hp).trans (if_pos ha)))
  case violation =>
    intro hr
    rw [exec_registerWrite, writeAs_violation (gate_violation (s := u) h hp rfl hr), regionViolation, masterCause,
      BitVec.ofNat_toNat, BitVec.setWidth_eq]
  case misplacedWrite =>
    intro hr hb
    exact congrArg _ (writeAs_error (gate_misplaced (s := u) h hp hr hb))
  case misplacedRead =>
    intro hr hb
    exact congrArg _ (readAs_error (gate_misplaced h hp hr hb))
  case waits =>
    intro hr d hd hw hn
    have hg : gate m.val a.toNat true u = .waits d u := by
      rw [gate_block (s := u) (wr := true) h hp ha hr, blockGate_waits (s := u) hd hw, startWake_begun (s := u) hn]
    exact congrArg _ (writeAs_waits hg ((waitDomain_reg hp).trans hd))
  case write =>
    intro ho hab t ht
    rw [exec_registerWrite, hab, writeAs_open (regOpen_free ho _) (hab ▸ hp) (hab ▸ ha) ht]
  case read =>
    intro ho hab w t ht
    rw [exec_rcFieldRead, hab, readAs_open ho (hab ▸ hp) (hab ▸ ha) ht]
  case overruns =>
    intro i hab ho x r
    have hb : a.toNat = blockAddr (.set i) 0x20 := by rw [hab, blockAddr_set]; omega
    rw [exec_rcFieldRead, hb, readAs_open ho.reg (placeOf_set i (by decide)) (by omega) (blockRead_overruns s i rec ho.isol),
      valAt_halves]

end Sys2Proof.Proofs
end

section
/-! PROOFS. What a ready setter's instruction leaves (R64, R67, R78), and what a raise does to the setters (R29, R52, R112). -/

namespace Sys2Proof.Proofs
open Sys2Proof Sys2Proof.Machine Sys2Proof.Claims

/-! ### Issuing -/

theorem setZN_eq_zn (f : Flags) (r : Word) : setZN f r = zn f r := by
  simp only [setZN, zn, BitVec.msb_eq_decide, Bool.beq_eq_decide_eq, ← BitVec.toNat_inj]
  rfl

theorem interlock_eq_waits (x : Setter) (reads : List Reg) : interlock x reads false = waits x reads := by
  unfold interlock waits
  cases x.ilReg <;> simp

@[simp] theorem waits_nil (x : Setter) : waits x [] = 0 := by
  unfold waits
  cases x.ilReg <;> simp

theorem wait_of_issues {x : Setter} (h : x.issues = true) : x.wait = .none := by
  simp only [Setter.issues, Bool.and_eq_true, beq_iff_eq] at h
  exact h.1.1.1.1.2

/-- A setter whose RUN is 0 stops after its instruction (R67). -/
theorem settle_stopped (i : SetterId) (s : State) (h : (s.st i).run = false) :
    settle i s = raise (setterSource i 5) (s.modS i (fun x => { x with stopped := true })) :=
  if_neg (by simp [h])

section Ready
variable {s t : State} {i : SetterId} {x : Setter} {reads : List Reg} {c : Nat} {load : Option Reg} {mac : Bool}

/-- A ready setter's instruction runs its own work (R64, R67, R78). -/
theorem issue_ready (h : Ready s i) (reads : List Reg) (body : State → Fate) :
    issue i reads false body s = finish i (waits (s.st i) reads) (body s) := by
  rw [issue_body i reads false body s h.issues h.held h.brk h.fetch, interlock_eq_waits]

theorem ran_eq_finish (hr : (t.st i).run = true) (c w : Nat) (load : Option Reg) (mac : Bool) :
    finish i w (.done t c load mac) = ran t i (t.st i) (c + w) load mac :=
  finish_done i w t c load mac hr

@[simp] theorem ran_putS (s : State) (i : SetterId) (x y : Setter) (c : Nat) (load : Option Reg) (mac : Bool) :
    ran (s.putS i x) i y c load mac = ran s i y c load mac := State.putS_putS ..

@[simp] theorem usedFree_st (s : State) (i : SetterId) : s.usedFree.st i = s.st i := rfl

theorem ran_usedFree (s : State) (i : SetterId) (x : Setter) (c : Nat) (load : Option Reg) (mac : Bool) :
    ran s.usedFree i x c load mac = (ran s i x c load mac).usedFree := rfl

/-- An instruction whose work leaves its setter as `x` and completes. -/
theorem issue_done {body : State → Fate} (h : Ready s i) (hb : body s = .done (s.putS i x) c load mac) (hr : x.run = true) :
    issue i reads false body s = ran s i x (c + waits (s.st i) reads) load mac := by
  rw [issue_ready h, hb, ran_eq_finish (by simpa using hr)]
  simp

/-- An instruction whose work leaves its setter as `x`, in progress. -/
theorem issue_going {body : State → Fate} (h : Ready s i) (hb : body s = .going (s.putS i x)) :
    issue i reads false body s = ran s i x (waits (s.st i) reads) none false := by
  rw [issue_ready h, hb, finish_going, State.modS_eq, State.putS_st, State.putS_putS]
  rfl

/-- An instruction that works on the setter alone (R78). -/
theorem issue_local1 {f : Setter → Setter} (h : Ready s i) (hr : (f (s.st i)).run = true) :
    issue i reads false (local1 i f) s = ran s i (f (s.st i)).adv (1 + waits (s.st i) reads) none false :=
  issue_done h rfl hr

end Ready

/-! ### What a raise does to the setters -/

/-- All that a raise can do to a setter, as far as RUN, the power domain, the registers and the instruction in progress go: it may end
a FRAME or a WEV, and a setter between two instructions keeps its registers and its PC (R29, R52, R112). -/
structure Heard (x y : Setter) : Prop where
  run : y.run = x.run
  gated : y.gated = x.gated
  dozed : y.dozed = x.dozed
  acc : y.acc = x.acc
  wait : y.wait = x.wait ∨ y.wait = .none
  idle : x.wait = .none → y.g = x.g ∧ y.pc = x.pc

/-- The setters after a raise. -/
structure HeardAll (s t : State) : Prop where
  each : ∀ i, Heard (s.st i) (t.st i)

theorem Heard.refl (x : Setter) : Heard x x := ⟨rfl, rfl, rfl, rfl, .inl rfl, fun _ => ⟨rfl, rfl⟩⟩

theorem Heard.trans {x y z : Setter} (h : Heard x y) (k : Heard y z) : Heard x z where
  run := k.run.trans h.run
  gated := k.gated.trans h.gated
  dozed := k.dozed.trans h.dozed
  acc := k.acc.trans h.acc
  wait := k.wait.elim (fun e => e ▸ h.wait) .inr
  idle hx := by
    have hy : y.wait = .none := h.wait.elim (·.trans hx) id
    exact ⟨(k.idle hy).1.trans (h.idle hx).1, (k.idle hy).2.trans (h.idle hx).2⟩

theorem HeardAll.of_setters {s t : State} (h : t.setters = s.setters) : HeardAll s t :=
  ⟨fun i => (show t.st i = s.st i from congrArg (fun v : Vector Setter 16 => v.get i) h) ▸ .refl _⟩

theorem HeardAll.refl (s : State) : HeardAll s s := .of_setters rfl

theorem HeardAll.trans {s t u : State} (h : HeardAll s t) (k : HeardAll t u) : HeardAll s u :=
  ⟨fun i => (h.each i).trans (k.each i)⟩

theorem usedFree_heard (s : State) : HeardAll s s.usedFree := .of_setters rfl

theorem putS_heard {s : State} {i : SetterId} {x : Setter} (h : Heard (s.st i) x) : HeardAll s (s.putS i x) := by
  refine ⟨fun j => ?_⟩
  by_cases hj : i = j
  · subst hj; simpa using h
  · rw [State.putS_st_other _ _ _ _ hj]; exact .refl _

/-- A tick that no FRAME takes leaves a setter where it stands. -/
theorem missTick_heard (x : Setter) (tb : Bool) : Heard x (x.missTick.afterTick tb) := by
  unfold Setter.missTick Setter.afterTick Setter.seeTb
  split_ifs <;> exact ⟨rfl, rfl, rfl, rfl, .inl rfl, fun _ => ⟨rfl, rfl⟩⟩

theorem takeTick_heard {x : Setter} {next : BitVec 14} (h : x.wait = .frame next) (v : BitVec 256) (tb : Bool) :
    Heard x ((x.takeTick next v).afterTick tb) := by
  unfold Setter.takeTick Setter.afterTick Setter.seeTb
  split_ifs <;> exact ⟨rfl, rfl, rfl, rfl, .inr rfl, fun e => by simp [h] at e⟩

theorem endWev_heard {x : Setter} {d : Reg} {mask timeout : Word} (h : x.wait = .wev d mask timeout) (v : Word) (c : Nat) :
    Heard x (x.endWev d v c) :=
  ⟨rfl, rfl, rfl, rfl, .inr rfl, fun e => by simp [h] at e⟩

theorem sendOwn_setters {k : Fin 4} {c : Cell} {s t : State} (h : sendOwn k c s = some t) : t.setters = s.setters := by
  unfold sendOwn at h
  split at h
  · cases h
  · cases h; rfl

/-- A relation that every single change of a raise keeps, but the mark of a wake source's pulse in the vault, which only the raise of an
enabled wake source makes (R31). -/
structure RaiseSteps (R : State → State → Prop) : Prop where
  refl : ∀ s, R s s
  trans : ∀ {s t u}, R s t → R t u → R s u
  pend : ∀ n s, R s (setPend n s)
  setter : ∀ {s i x}, Heard (s.st i) x → R s (s.putS i x)
  free : ∀ s, R s s.usedFree
  cell : ∀ {k c s t}, sendOwn k c s = some t → R s t

/-- The stop of a setter is no wake source, nor is 440. -/
theorem wakeSource_low (s : State) {n : Nat} (h : n < 512) : wakeSource s n = false := by
  simp [wakeSource, show ¬512 ≤ n by omega]

section
variable {R : State → State → Prop} (hR : RaiseSteps R) {rs : Nat → State → State} (hrs : ∀ n s, n < 512 → R s (rs n s))
include hR hrs

theorem settleWith_rel (i : SetterId) (s : State) : R s (settleWith rs i s) := by
  unfold settleWith
  split
  · exact hR.refl s
  · have hi := i.isLt
    refine hR.trans (hR.setter (x := { s.st i with stopped := true }) ⟨rfl, rfl, rfl, rfl, .inl rfl, fun _ => ⟨rfl, rfl⟩⟩) (hrs _ _ ?_)
    rw [srcOf]
    omega

theorem tickWith_rel (i : SetterId) (v : BitVec 256) (s : State) : R s (tickWith rs i v s) := by
  unfold tickWith
  simp only
  split
  · exact hR.refl s
  · split
    · next hw =>
      split
      · exact hR.setter (missTick_heard _ _)
      · exact hR.trans (hR.setter (takeTick_heard hw _ _)) (settleWith_rel hR hrs _ _)
    · exact hR.setter (missTick_heard _ _)

theorem wevWith_rel (i : SetterId) (s : State) : R s (wevWith rs i s) := by
  unfold wevWith
  simp only
  split
  · next hw =>
    split
    · exact hR.refl s
    · exact hR.trans (hR.setter (endWev_heard hw _ _)) (hR.trans (hR.free _) (settleWith_rel hR hrs _ _))
  · exact hR.refl s

theorem lineWith_rel {wake : Bool} (hk : wake = true → ∀ i l s, R s (keepLine i l s)) (i : SetterId) (line : Nat) (s : State) :
    R s (lineWith rs wake i line s) := by
  unfold lineWith
  simp only
  split
  · exact hR.refl s
  · split
    · split
      · next h => exact hk h _ _ _
      · exact hR.refl s
    · have h : R s (s.putS i { s.st i with evl := setBit (s.st i).evl line true }) :=
        hR.setter ⟨rfl, rfl, rfl, rfl, .inl rfl, fun _ => ⟨rfl, rfl⟩⟩
      refine hR.trans ?_ (wevWith_rel hR hrs _ _)
      split
      · exact hR.trans h (hR.trans (hR.free _) (tickWith_rel hR hrs _ _ _))
      · exact h

theorem deliverWith_rel {wake : Bool} (hk : wake = true → ∀ i l s, R s (keepLine i l s)) (route : Word) (s : State) :
    R s (deliverWith rs wake route s) := by
  unfold deliverWith
  induction List.finRange 16 generalizing s with
  | nil => exact hR.refl s
  | cons i l ih =>
    rw [List.foldl_cons]
    refine hR.trans ?_ (ih _)
    split
    · exact lineWith_rel hR hrs hk _ _ _
    · exact hR.refl s

end

section
variable {R : State → State → Prop} (hR : RaiseSteps R)
include hR

theorem raiseF_rel (f n : Nat) (s : State) (hk : wakeSource s n = true → ∀ i l s, R s (keepLine i l s)) : R s (raiseF f n s) := by
  induction f generalizing n s with
  | zero => exact hR.pend n s
  | succ f ih =>
    have low : ∀ n s, n < 512 → R s (raiseF f n s) := fun n s h => ih n s fun hw => by simp [wakeSource_low s h] at hw
    unfold raiseF
    split
    · exact hR.refl s
    · split
      · exact hR.pend n s
      · have h := hR.trans (hR.pend n s) (deliverWith_rel hR low hk (routeOf s n) (setPend n s))
        simp only
        split
        · split
          · next hc => exact hR.trans h (hR.cell hc)
          · exact hR.trans h (low _ _ (by decide))
        · exact h

/-- What every single change of a raise keeps, the raise keeps. -/
theorem raise_rel (n : Nat) (s : State) (hk : wakeSource s n = true → ∀ i l s, R s (keepLine i l s)) : R s (raise n s) :=
  raiseF_rel hR 20 n s hk

end

theorem heardAll_steps : RaiseSteps HeardAll where
  refl := .refl
  trans := .trans
  pend _ _ := .of_setters rfl
  setter := putS_heard
  free := usedFree_heard
  cell h := .of_setters (sendOwn_setters h)

theorem raise_heard (n : Nat) (s : State) : HeardAll s (raise n s) :=
  raise_rel heardAll_steps n s fun _ _ _ _ => .of_setters rfl

/-- The raise of any source but an enabled wake source leaves the power controller as it is (R31). -/
theorem raise_pwr {n : Nat} {s : State} (h : wakeSource s n = false) : (raise n s).pwr = s.pwr := by
  refine raise_rel (R := fun s t => t.pwr = s.pwr) ⟨fun _ => rfl, fun h k => k.trans h, fun _ _ => rfl, fun _ => rfl, fun _ => rfl, fun hc => ?_⟩
    n s fun hw => by simp [h] at hw
  unfold sendOwn at hc
  split at hc
  · cases hc
  · cases hc; rfl

end Sys2Proof.Proofs
end

section
/-! PROOFS. WEV, its timeout, SEV and EVQ (R111 to R113): the statement EventInstructions. -/

namespace Sys2Proof.Proofs
open Sys2Proof Sys2Proof.Machine Sys2Proof.Claims

theorem endWev_eq (x : Setter) (d : Reg) (v : Word) (c : Nat) :
    x.endWev d v c = { wrote x d v (zn x.flags v) with evl := x.evl &&& ~~~v, wait := .none, scan := x.scan + c } := by
  simp only [Setter.endWev, setZN_eq_zn]
  rfl

/-- A WEV that waits meets its timeout (R112). -/
theorem exec_wevTimeout_wait {s : State} {i : SetterId} {d : Reg} {mask timeout : Word} (h : (s.st i).wait = .wev d mask timeout) :
    exec (.wevTimeout i) s = .next (if timeout = 0xFFFFFFFF#32 then s else
      settle i (s.putS i ((s.st i).endWev d 0 (300 * timeout.toNat + 2)))) := by
  show Host.Outcome.next _ = _
  rw [h]
  rfl

/-- What a WEV or EVQ leaves that takes these latches (R111, R113). -/
theorem endWev_idle {x : Setter} (h : x.wait = .none) (d : Reg) (v : Word) :
    x.endWev d v 0 = { wrote x d v (zn x.flags v) with evl := x.evl &&& ~~~v } := by
  rw [endWev_eq, ← h]
  rfl

/-- What a WEV leaves that its timeout ends (R112). -/
theorem endWev_zero (x : Setter) (d : Reg) (c : Nat) :
    x.endWev d 0 c = { wrote x d 0 (zn x.flags 0) with wait := .none, scan := x.scan + c } := by
  rw [endWev_eq, show ~~~(0 : Word) = BitVec.allOnes 32 from rfl, BitVec.and_allOnes]
  rfl

theorem evq_setter (x : Setter) (d : Reg) (v : Word) :
    ({ x.alu d (v, setZN x.flags v) with evl := x.evl &&& ~~~v } : Setter).adv =
      { wrote x d v (zn x.flags v) with evl := x.evl &&& ~~~v } := by
  rw [setZN_eq_zn]
  rfl

/-- Settles O13: each instruction by its own work on a ready setter; SEV through what a raise leaves of the setter that sends it. -/
theorem eventInstructions : Obligations.EventInstructions := by
  unfold Obligations.EventInstructions
  intro s i d a b x
  refine ⟨fun h => ?ready, fun mask timeout hw => ?timeout, fun h => ?noWait⟩
  case ready =>
    intro mask found taken
    have hwait : x.wait = .none := wait_of_issues h.issues
    refine ⟨fun hf => ?_, fun hf hb => ?_, ?_, fun u => ?_⟩
    · exact congrArg _ (issue_done (x := taken) h ((if_pos hf).trans (by rw [endWev_idle hwait]; rfl)) h.run)
    · exact congrArg _ (issue_going h (if_neg (not_or_intro (not_not_intro hf) hb)))
    · exact congrArg _ ((issue_local1 h h.run).trans (by rw [evq_setter]; rfl))
    · intro t
      have hu : field (BitVec.ofNat 12 u.toNat) 11 1 = 0 ∧ (BitVec.ofNat 12 u.toNat).getLsbD 0 = u := by cases u <;> decide
      have hrun : (t.st i).run = true := by
        rw [((raise_heard _ _).each i).run, State.putS_st]
        exact h.run
      refine congrArg _ ((issue_ready h _ _).trans ?_)
      rw [show needZero _ _ s = .done t 1 none false by simp only [needZero, hu]; rfl, ran_eq_finish hrun]
      rw [waits_nil]
  case timeout =>
    intro y
    have ht := exec_wevTimeout_wait hw
    rw [endWev_zero] at ht
    refine ⟨fun h => ?_, fun h hr => ?_, fun h hr => ?_⟩
    · rw [ht, if_pos h]
    · rw [ht, if_neg h, settle_run i _ (by rw [State.putS_st]; exact hr)]
    · rw [ht, if_neg h, settle_stopped i _ (by rw [State.putS_st]; exact hr), State.modS_eq, State.putS_st, State.putS_putS]
  case noWait =>
    show Host.Outcome.next _ = _
    split
    next hw => exact absurd hw (h _ _ _)
    next => rfl

end Sys2Proof.Proofs
end

section
/-! PROOFS. The tap instructions and the landing of TOUTD (R42, R103 to R105): the statement Taps. -/

namespace Sys2Proof.Proofs
open Sys2Proof Sys2Proof.Machine Sys2Proof.Claims

/-! ### Function fields of the word -/

theorem toNat_field {w : Nat} (v : BitVec w) (hi lo : Nat) : (field v hi lo).toNat = v.toNat / 2 ^ lo % 2 ^ (hi - lo + 1) := by
  rw [field, BitVec.extractLsb'_toNat, Nat.shiftRight_eq_div_pow]

theorem tapGroup_ofNat (k : Fin 8) : tapGroup (BitVec.ofNat 10 k.val) = k.val := by
  have := k.isLt
  simp only [tapGroup, toNat_field, BitVec.toNat_ofNat]
  omega

theorem tapNo_ofNat (n : Nat) : tapNo (BitVec.ofNat 10 n) = n % 256 := by
  simp only [tapNo, toNat_field, BitVec.toNat_ofNat]
  omega

theorem field_eq_zero {w : Nat} {v : BitVec w} {hi lo : Nat} (h : v.toNat < 2 ^ lo) : field v hi lo = 0 := by
  rw [← BitVec.toNat_inj, toNat_field, Nat.div_eq_of_lt h]
  simp

/-- A bit of a vector of which a field was put. -/
theorem putField_get {w : Nat} (v : BitVec w) (lo len x m : Nat) (h : m < w) :
    (putField v lo len x).getLsbD m = if lo ≤ m ∧ m < lo + len then x.testBit (m - lo) else v.getLsbD m := by
  simp only [putField, BitVec.getLsbD_or, BitVec.getLsbD_and, BitVec.getLsbD_not, BitVec.getLsbD_ofNat, h, decide_true, Bool.true_and,
    Nat.testBit_mul_two_pow, Nat.testBit_two_pow_sub_one, Nat.testBit_mod_two_pow]
  by_cases h1 : lo ≤ m <;> by_cases h2 : m < lo + len
  · simp [h1, h2, show m - lo < len by omega]
  · simp [h1, h2, show ¬m - lo < len by omega]
  · simp [h1]
  · simp [h1]

/-! ### The keepers -/

theorem foldl_setBit_get {w n : Nat} (f : Nat → Bool) (v : BitVec w) (hn : n ≤ w) (p : Nat) :
    ((List.range n).foldl (fun v p => setBit v p (f p)) v).getLsbD p = if p < n then f p else v.getLsbD p := by
  induction n with
  | zero => simp
  | succ n ih =>
    rw [List.range_succ, List.foldl_append, List.foldl_cons, List.foldl_nil, setBit_get _ _ _ _ (by omega), ih (by omega)]
    by_cases hp : p = n
    · simp [hp]
    · simp only [hp, if_false]
      by_cases hlt : p < n
      · simp [hlt, Nat.lt_succ_of_lt hlt]
      · rw [if_neg hlt, if_neg (by omega)]

/-- A pin whose keeper holds its level is not in row 1, and its pull is the keeper (R157, R388). -/
theorem keeper_row {s : State} {p : Nat} {v : Bool} (h : pinDrive s p = .keeper v) : pinPull s p = 3 ∧ pinRow s p ≠ 1 := by
  have idle : idleDrive s p = .keeper v → pinPull s p = 3 := by
    unfold idleDrive; split <;> simp_all
  have safe : safeDrive s p = .keeper v → pinPull s p = 3 := by
    unfold safeDrive; split
    · simp
    · exact idle
  unfold pinDrive padDrive driveBy at h
  split at h
  case h_1 hr => exact ⟨safe h, by simp [hr]⟩
  case h_2 hr => exact ⟨safe h, by simp [hr]⟩
  case h_3 hr => unfold scanDrive at h; simp only at h; split at h <;> simp at h
  case h_4 hr => simp [weakPull] at h
  case h_5 hr =>
    refine ⟨?_, by simp [hr]⟩
    split at h
    · exact safe h
    · unfold keptDrive at h
      split at h
      · simp at h
      · exact idle h
  case h_6 hr =>
    refine ⟨?_, by simp [hr]⟩
    unfold fabDrive at h
    split at h
    · exact idle h
    · simp at h
  case h_7 => simp at h
  case h_8 => simp at h

/-- What the keepers take is what KeepersTake asks of them (R157, R388). -/
theorem keepersTake_latch (s : State) : KeepersTake s (latchKeepers s).io.keeper := by
  intro p hp
  have hk : (latchKeepers s).io.keeper.getLsbD p = (onBall s p (pinDrive s p)).getD
      (if pinPull s p = 3 ∧ pinRow s p ≠ 1 then s.io.keeper.getLsbD p else Config.boardLevel s.free p) := by
    simp only [latchKeepers]
    rw [foldl_setBit_get _ _ (le_refl 132), if_pos hp]
  refine ⟨fun v h => ?_, fun v h hb => ?_⟩
  · rw [hk, h]
    rfl
  · rw [hk, if_pos (keeper_row h), h]
    simp [onBall, hb]

theorem latchKeepers_eq (s : State) : (latchKeepers s).usedFree = keeping s (latchKeepers s).io.keeper := by
  unfold latchKeepers
  generalize (List.range 132).foldl _ _ = w
  rfl

/-! ### Direct taps -/

theorem netBay_eq (i : SetterId) (v : Word) : (Fin.ofNat 64 (wingOf i * 16 + (field v 29 26).toNat) : BayId) = wingBay i v := by
  simp only [wingOf, wingBay, Nat.mul_comm]

/-- A direct tap whose bay, where its net has one, is not asleep does its own work. -/
theorem direct_awake {i : SetterId} {bay : Option BayId} {ins : Instr} {body : State → Fate} {s : State}
    (h : ∀ b, bay = some b → asleep (.bay b) s = false) : direct i bay ins body s = body s := by
  unfold direct
  split
  next b => exact if_neg (by simp [h b rfl])
  next => rfl

/-- A tap that the table maps lies in its wing's bay (R40, R274). -/
theorem tapBay_some {i : SetterId} {l : List (Nat × Word)} {n : Nat} {b : BayId} (h : tapBay i l n = some b) :
    ∃ v, kvGet l n = some v ∧ b = wingBay i v := by
  unfold tapBay at h
  split at h
  next v hv =>
    split at h
    · simp at h
    · exact ⟨v, hv, by rw [← netBay_eq]; simpa using h.symm⟩
  next => simp at h

theorem tapBay_mapped {i : SetterId} {l : List (Nat × Word)} {n : Nat} {v : Word} (h : kvGet l n = some v)
    (hv : (field v 31 30).toNat ≠ 0) : tapBay i l n = some (wingBay i v) := by
  have : ¬(field v 31 30 == 0) = true := by
    rw [beq_iff_eq, ← BitVec.toNat_inj]
    exact hv
  rw [tapBay, h, ← netBay_eq]
  exact if_neg this

/-- What TIND samples: the net of a tap whose bay runs, 0 where the table maps none (R105, log 25). -/
theorem sampleOne_eq {s : State} {i : SetterId} {n : Nat} {w : Option Word} {net : Bool} (hw : kvGet (s.st i).tapIn n = w)
    (hv : ∀ v, w = some v → (field v 31 30).toNat ≠ 0 ∧ (s.bay (wingBay i v)).runs = true) : sampleOne i n net s = (w.isSome && net) := by
  cases w with
  | none => simp [sampleOne, tapBay, hw]
  | some v => simp [sampleOne, tapBay_mapped hw (hv v rfl).1, (hv v rfl).2]

/-! ### A landing and the FENCE that waits for it (R84) -/

section Fence
variable {s : State} {i : SetterId} {w : Nat}

theorem fenceEnd_noFence (h : NoFence (s.st i)) : fenceEnd i s = s := by
  unfold fenceEnd
  split
  next hw => exact absurd hw (h _)
  next => rfl

theorem fenceEnd_outstanding (hw : (s.st i).wait = .fence w) (h : (s.st i).toutd ≠ [] ∨ (s.st i).lutw ≠ []) : fenceEnd i s = s := by
  unfold fenceEnd
  rw [hw]
  refine if_neg ?_
  simp only [Bool.and_eq_true, List.isEmpty_iff]
  tauto

/-- The FENCE ends at a cost free up to its bound (R84, log 9). -/
theorem fenceEnd_done (hw : (s.st i).wait = .fence w) (ht : (s.st i).toutd = []) (hl : (s.st i).lutw = []) (hr : (s.st i).run = true) :
    ∃ c, 1 ≤ c ∧ (w ≠ 0 → c ≤ w) ∧
      fenceEnd i s = (ran s i { s.st i with pc := (s.st i).pc + 1, wait := .none } c none false).usedFree := by
  refine ⟨freeFrom 1 w s, Nat.le_add_right .., fun h0 => ?_, ?_⟩
  · have := Nat.mod_lt (Config.freeCost s.free) (Nat.pos_of_ne_zero h0)
    rw [freeFrom]
    omega
  · unfold fenceEnd
    rw [hw]
    refine (if_pos (by simp [ht, hl])).trans ((ran_eq_finish (w := 0) (by simpa [Setter.adv] using hr) ..).trans ?_)
    rw [ran_usedFree, usedFree_st, State.modS_st, State.modS_eq, ran_putS]
    rfl

end Fence

theorem exec_toutdLanding {s : State} {i : SetterId} {n : Nat} {v : Bool} {rest : List (Nat × Bool)}
    (h : (s.st i).toutd = (n, v) :: rest) : exec (.toutdLanding i) s = .next (fenceEnd i
      ((keeping s (latchKeepers s).io.keeper).putS i { s.st i with olat := setBit (s.st i).olat n v, toutd := rest })) := by
  show Host.Outcome.next (fenceEnd i _) = _
  rw [latchKeepers_eq, State.modS_eq, show (keeping s (latchKeepers s).io.keeper).st i = s.st i from rfl, h]

/-! ### The statement -/

theorem issue_needZero {i : SetterId} {reads : List Reg} {acc ok : Bool} {body : State → Fate} {s : State} (h : ok = true) :
    issue i reads acc (needZero ok body) s = issue i reads acc body s := by
  rw [h]
  rfl

/-- Bits 8 and 9 of the function field of a tap instruction. -/
theorem functBits (n : Nat) :
    (BitVec.ofNat 10 n).getLsbD 8 = decide (n / 256 % 2 = 1) ∧ (BitVec.ofNat 10 n).getLsbD 9 = decide (n / 512 % 2 = 1) := by
  constructor <;> rw [BitVec.getLsbD_ofNat, Nat.testBit_eq_decide_div_mod_eq] <;> rfl

theorem tout_bits (o : BitVec 256) (k : Fin 8) (v : Word) {m : Nat} (h : m < 256) :
    (putSlice32 o k.val v).getLsbD m = if m / 32 = k.val then v.getLsbD (m % 32) else o.getLsbD m := by
  rw [putSlice32, putField_get _ _ _ _ _ h]
  by_cases hk : m / 32 = k.val
  · rw [if_pos hk, if_pos (by omega), show m - 32 * k.val = m % 32 by omega]
    rfl
  · rw [if_neg hk, if_neg (by omega)]

/-- TIND and TOUTD: a direct access whose bay is not asleep, at a cost free from 4 to 6 setter cycles (R105, log 9). -/
theorem issue_direct {s : State} {i : SetterId} {bay : Option BayId} {ins : Instr} {x : Setter} {f : State → Setter → Setter} (h : Ready s i)
    (ha : ∀ b, bay = some b → asleep (.bay b) s = false) (hf : f s (s.st i) = x) (hr : x.run = true) :
    ∃ c, 4 ≤ c ∧ c ≤ 6 ∧ issue i [] false (direct i bay ins fun st =>
      .done (st.modS i (f st)).usedFree (freeIn 4 3 st) none false) s =
      (ran s i x c none false).usedFree := by
  refine ⟨freeIn 4 3 s, Nat.le_add_right .., by have := Nat.mod_lt (Config.freeCost s.free) (show 3 > 0 by decide); rw [freeIn]; omega, ?_⟩
  rw [issue_ready h, direct_awake ha, waits_nil, State.modS_eq, hf, ran_eq_finish (by simpa using hr), usedFree_st,
    State.putS_st, ran_usedFree, ran_putS]
  rfl

/-- Settles O11: each tap instruction by its own work on a ready setter; the landing through what a FENCE that waits does. -/
theorem taps : Obligations.Taps := by
  unfold Obligations.Taps
  intro s i x
  refine ⟨fun h d k n net => ?ready, fun n v rest hx => ?landing⟩
  case ready =>
    intro tap
    have hn := n.isLt
    have hgrp : field (BitVec.ofNat 10 k.val) 9 3 = 0 := field_eq_zero (by rw [BitVec.toNat_ofNat]; omega)
    have htap : field tap 9 8 = 0 := field_eq_zero (by rw [BitVec.toNat_ofNat]; omega)
    have hno : tapNo tap = n.val := (tapNo_ofNat _).trans (Nat.mod_eq_of_lt hn)
    refine ⟨?tin, ?tout, ?tbit, ?rise, ?fall, ?tind, ?toutd⟩
    case tin =>
      refine congrArg _ ((issue_needZero (by simp [hgrp])).trans ((issue_local1 h h.run).trans ?_))
      rw [tapGroup_ofNat, waits_nil]
      rfl
    case tout =>
      refine ⟨_, congrArg _ ((issue_needZero (by simp [hgrp])).trans (issue_local1 h h.run)), fun m hm => ?_⟩
      rw [tapGroup_ofNat]
      exact tout_bits _ _ _ hm
    case tbit =>
      refine congrArg _ ((issue_needZero (by simp [htap])).trans ((issue_local1 h h.run).trans ?_))
      rw [hno, waits_nil]
      rfl
    case rise =>
      refine congrArg _ ((issue_needZero (by rw [(functBits _).1, Nat.div_eq_of_lt (by omega)]; rfl)).trans ((issue_local1 h h.run).trans ?_))
      have h9 : tap.getLsbD 9 = false := (functBits _).2.trans (by rw [Nat.div_eq_of_lt (by omega)]; rfl)
      simp only [h9, hno, waits_nil]
      rfl
    case fall =>
      refine congrArg _ ((issue_needZero (by rw [(functBits _).1, show (512 + n.val) / 256 = 2 by omega]; rfl)).trans
        ((issue_local1 h h.run).trans ?_))
      simp only [(functBits (512 + n.val)).2, show (512 + n.val) / 512 = 1 by omega, tapNo_ofNat, waits_nil,
        show (512 + n.val) % 256 = n.val by omega]
      rfl
    case tind =>
      intro w hw hrun
      have ha : ∀ b, tapBay i x.tapIn (tapNo tap) = some b → asleep (.bay b) s = false := by
        intro b hb
        obtain ⟨v, hv, rfl⟩ := tapBay_some hb
        rw [hno] at hv
        exact (hrun v (hw.symm.trans hv)).2.2
      have hf : ((x.setB (sampleOne i (tapNo tap) net s)).adv : Setter) = bFlag x (w.isSome && net) := by
        rw [hno, sampleOne_eq hw fun v hv => ⟨(hrun v hv).1, (hrun v hv).2.1⟩]
        rfl
      obtain ⟨c, h4, h6, hc⟩ := issue_direct (f := fun st y => (y.setB (sampleOne i (tapNo tap) net st)).adv)
        (ins := .tind i ⟨0, 0, 0⟩ tap net) h ha hf h.run
      exact ⟨c, h4, h6, congrArg _ ((issue_needZero (by simp [htap])).trans hc)⟩
    case toutd =>
      intro w hw hrun
      have ha : ∀ b, tapBay i x.tapOut (tapNo tap) = some b → asleep (.bay b) s = false := by
        intro b hb
        obtain ⟨v, hv, rfl⟩ := tapBay_some hb
        rw [hno] at hv
        exact hrun v (hw.symm.trans hv)
      obtain ⟨c, h4, h6, hc⟩ := issue_direct (ins := .toutd i ⟨0, 0, 0⟩ tap) (f := fun _ y =>
        { y.adv with obuf := setBit y.obuf (tapNo tap) y.flags.b, toutd := y.toutd ++ [(tapNo tap, y.flags.b)] }) h ha rfl h.run
      refine ⟨c, h4, h6, congrArg _ ((issue_needZero (by simp [htap])).trans (hc.trans ?_))⟩
      rw [hno]
      rfl
  case landing =>
    intro y
    refine ⟨_, keepersTake_latch s, fun hw => ?_, fun w hw hr => ⟨fun ho => ?_, fun ht hl => ?_⟩⟩
    · rw [exec_toutdLanding hx, fenceEnd_noFence (by rw [State.putS_st]; exact hw)]
    · rw [exec_toutdLanding hx, fenceEnd_outstanding (w := w) (by simpa using hw) (by simpa using ho)]
    · obtain ⟨c, h1, hc, h⟩ := fenceEnd_done (s := (keeping s (latchKeepers s).io.keeper).putS i y) (i := i) (w := w)
        (by simpa using hw) (by simpa using ht) (by simpa using hl) (by simpa using hr)
      refine ⟨c, h1, hc, ?_⟩
      rw [exec_toutdLanding hx]
      refine congrArg _ (h.trans ?_)
      rw [ran_putS, State.putS_st]

end Sys2Proof.Proofs
end

section
/-! PROOFS. A STREAM cell that comes to the chain port behind a cell that waits there (R214, R227): the statement ChainDelivery fails,
since its clause of STREAM does not ask that the port be free. -/

namespace Sys2Proof.Proofs
open Sys2Proof Sys2Proof.Machine Sys2Proof.Claims

/-- A cell from device 9 to device 5, its CRC right (R235, R236). -/
def cellTo5 (type : BitVec 4) (cls : BitVec 2) (payload : List Byte) : Cell :=
  let c : Cell := ⟨type, cls, 5, 9, false, false, padTo 32 payload, 0⟩
  { c with crc := cellCrc c }

/-- A QPUT of a word to KEY queue 65. -/
def keyPut : Cell := cellTo5 1 0 [65, 0, 0, 0, 1, 2, 3, 4]

/-- A STREAM cell of stream 0 with three bytes, without END. -/
def threeBytes : Cell := cellTo5 4 3 [0, 3, 7, 8, 9]

/-- Device 5 on the ring. Stream 0 takes cells from any source into packer 16, which feeds queue 64. At the KEY lane a QPUT to queue 65
still has its keystone beat to do, and behind it a second QPUT waits at the chain port, which has one operation outstanding (R214). -/
def putWaits : State := { State.reset with
  pwr := { Pwr.reset with stage := .run }
  irs := { Irs.reset with bypopen := true, addrv := true, addr := 5, rx := Vector.replicate 16 0xC0000000 }
  hod := { Hod.reset with
    desc := [(64, ⟨0xA0001000, 0, 0, 0x00080000⟩), (65, ⟨0xC0002000, 0, 0, 0⟩)]
    lane := some (⟨17, .put 65 0x04030201 false, .cell keyPut⟩, .write 0x2000 (elemBytes 0x04030201 0x80) 0)
    cells := [keyPut] } }

theorem threeBytes_arrives : Arrives putWaits threeBytes 4 where
  ring := ⟨by decide +kernel, by decide +kernel⟩
  kind := by decide +kernel
  legal := by decide +kernel
  mine := ⟨.inl (by decide +kernel), by decide +kernel⟩
  fresh := by decide +kernel
  crc := by
    show threeBytes.crc = cellCrc threeBytes
    decide +kernel

/-- The cells at the chain port after the STREAM cell has come. -/
def cellsAfter : List Cell :=
  match exec (.streamCell threeBytes) putWaits with
  | .next t => t.hod.cells
  | _ => []

/-- The STREAM cell waits behind the QPUT. -/
theorem cellsAfter_eq : cellsAfter = [keyPut, threeBytes] := by decide +kernel

/-- Refutes O40: the clause of STREAM holds every part of the hod but its packers to what it was, and asks nothing of the cells that wait
at the chain port. Where a QPUT waits there for its turn (R214), the STREAM cell waits behind it: the port then holds two cells, the
statement's one, and no byte has reached the packer. -/
theorem not_chainDelivery : ¬Obligations.ChainDelivery := by
  unfold Obligations.ChainDelivery
  intro h
  obtain ⟨-, -, -, -, -, stream⟩ := h putWaits threeBytes
  obtain ⟨-, takes⟩ := stream 0xC0000000 threeBytes_arrives (by decide +kernel) (by decide +kernel) (by decide +kernel) (by decide +kernel)
    (by decide +kernel)
  obtain ⟨t, ht, hkeep, -⟩ := takes (by decide) (.inl (by decide)) (by decide +kernel) (by decide +kernel) (by decide +kernel) (by decide +kernel)
  have hport : t.hod.cells = [keyPut] := by rw [hkeep]; rfl
  have hcells : t.hod.cells = [keyPut, threeBytes] := by
    rw [← cellsAfter_eq, cellsAfter, ht]
  rw [hport] at hcells
  cases hcells

end Sys2Proof.Proofs
end

section
/-! PROOFS. The delivery of a raise (R26, R28, R29, R31): what a pulse on an event line leaves of the setter that hears it (R52, R60, R112),
and the state after the delivery to every setter of a route. -/

namespace Sys2Proof.Proofs
open Sys2Proof Sys2Proof.Machine Sys2Proof.Claims

/-! ### One pulse -/

/-- The latch of an event line set. -/
def latched (x : Setter) (line : Nat) : Setter := { x with evl := x.evl ||| BitVec.ofNat 32 (2 ^ line) }

@[simp] theorem latched_run (x : Setter) (line : Nat) : (latched x line).run = x.run := rfl
@[simp] theorem latched_gated (x : Setter) (line : Nat) : (latched x line).gated = x.gated := rfl
@[simp] theorem latched_isol (x : Setter) (line : Nat) : (latched x line).isol = x.isol := rfl
@[simp] theorem latched_wait (x : Setter) (line : Nat) : (latched x line).wait = x.wait := rfl

/-- The setter takes its ticks from this event line (R52, R60). -/
def Hears (x : Setter) (line : Nat) : Prop := x.fen = true ∧ (field x.fsrc 1 0).toNat = 2 ∧ (field x.fsrc 6 2).toNat = line

/-- Setter i became y; beside it only free values were used. -/
def Only (s t : State) (i : SetterId) (y : Setter) : Prop := t = { s.putS i y with free := t.free }

theorem Only.st {s t : State} {i : SetterId} {y : Setter} (h : Only s t i y) : t.st i = y := by
  rw [h]
  exact State.putS_st s i y

theorem only_putS (s : State) (i : SetterId) (y : Setter) : Only s (s.putS i y) i y := rfl

theorem only_self (s : State) (i : SetterId) : Only s s i (s.st i) := by
  unfold Only
  rw [State.putS_self]

theorem Only.trans {s t u : State} {i : SetterId} {x y : Setter} (h : Only s t i x) (k : Only t u i y) : Only s u i y := by
  unfold Only at *
  conv_lhs => rw [k, h]
  exact congrArg (fun v : State => { v with free := u.free }) (State.putS_putS s i x y)

theorem Only.usedFree {s t : State} {i : SetterId} {y : Setter} (h : Only s t i y) : Only s t.usedFree i y := by
  unfold Only at *
  conv_lhs => rw [h]
  rfl

theorem Only.put {s t : State} {i : SetterId} {x : Setter} (h : Only s t i x) (y : Setter) : Only s (t.putS i y) i y :=
  h.trans (only_putS t i y)

/-- A setter that hears nothing of this line, or whose domain is off, sees no tick in a pulse on it. -/
theorem lineWith_deaf {rs : Nat → State → State} {i : SetterId} {line : Nat} {s : State} (hg : (s.st i).gated = false)
    (hi : (s.st i).isol = false) (h : ¬Hears (s.st i) line) :
    lineWith rs false i line s = wevWith rs i (s.putS i (latched (s.st i) line)) := by
  have hc : ¬((s.st i).fen && (s.st i).src == 2 && (s.st i).line == line) = true := by
    simpa [Hears, Setter.src, Setter.line, and_assoc] using h
  exact (if_neg (by simp [hi])).trans ((if_neg (by simp [hg])).trans (congrArg (wevWith rs i) (if_neg hc)))

theorem lineWith_hears {rs : Nat → State → State} {i : SetterId} {line : Nat} {s : State} (hg : (s.st i).gated = false)
    (hi : (s.st i).isol = false) (h : Hears (s.st i) line) :
    lineWith rs false i line s = wevWith rs i
      (tickWith rs i (sampleTaps i (Config.freeNets s.free) s) (s.putS i (latched (s.st i) line)).usedFree) := by
  obtain ⟨hf, hs, hl⟩ := h
  have hc : ((s.st i).fen && (s.st i).src == 2 && (s.st i).line == line) = true := by simp [hf, Setter.src, Setter.line, hs, hl]
  exact (if_neg (by simp [hi])).trans ((if_neg (by simp [hg])).trans (congrArg (wevWith rs i) (if_pos hc)))

theorem lineWith_off {rs : Nat → State → State} {i : SetterId} {line : Nat} {s : State} (h : (s.st i).gated = true ∨ (s.st i).isol = true) :
    lineWith rs false i line s = s := by
  unfold lineWith
  rcases h with h | h <;> simp [h]

theorem wevWith_idle {rs : Nat → State → State} {i : SetterId} {s : State} (h : ∀ d mask timeout, (s.st i).wait ≠ .wev d mask timeout) :
    wevWith rs i s = s := by
  simp only [wevWith]

theorem settleWith_run {rs : Nat → State → State} {i : SetterId} {s : State} (h : (s.st i).run = true) : settleWith rs i s = s :=
  if_pos h

/-- A bit of a vector of which another bit was put. -/
theorem setBit_get_other {w : Nat} (v : BitVec w) (j k : Nat) (b : Bool) (h : k ≠ j) : (setBit v j b).getLsbD k = v.getLsbD k := by
  by_cases hj : j < w
  · rw [setBit_get v j k b hj, if_neg h]
  · have h0 : BitVec.ofNat w (2 ^ j) = 0 := by
      rw [← BitVec.toNat_inj, BitVec.toNat_ofNat, Nat.mod_eq_zero_of_dvd (Nat.pow_dvd_pow 2 (by omega))]
      rfl
    unfold setBit
    split <;> simp [h0]

/-- A waiting WEV that a latch ends, at a cost free from 2 to its timeout's (R111, R112, log 9). -/
theorem wevCost_bounds (timeout : Word) (k : Nat) :
    2 ≤ wevCost timeout k ∧ (timeout ≠ 0xFFFFFFFF#32 → wevCost timeout k ≤ 300 * timeout.toNat + 2) := by
  refine ⟨Nat.le_add_right .., fun h => ?_⟩
  have := Nat.mod_lt (Config.freeCost k) (show 300 * timeout.toNat + 1 > 0 by omega)
  rw [wevCost, if_neg h]
  omega

/-- The sample at an event-line tick holds 0 for every tap that the table does not map (R40). -/
theorem sampleTaps_unmapped (i : SetterId) (nets : BitVec 256) (s : State) {k : Nat} (h : ∀ e ∈ (s.st i).tapIn, e.1 ≠ k) :
    (sampleTaps i nets s).getLsbD k = false := by
  have fold : ∀ (f : Nat × Word → Bool) (l : List (Nat × Word)) (v : BitVec 256), (∀ e ∈ l, e.1 ≠ k) →
      (l.foldl (fun v e => setBit v e.1 (f e)) v).getLsbD k = v.getLsbD k := by
    intro f l
    induction l with
    | nil => exact fun _ _ => rfl
    | cons e l ih =>
      intro v he
      rw [List.foldl_cons, ih _ fun e h => he e (List.mem_cons_of_mem _ h)]
      exact setBit_get_other _ _ _ _ fun hk => he e (List.mem_cons_self ..) hk.symm
  exact (fold _ _ 0 h).trans (by simp)

/-- A waiting WEV of a setter whose RUN is 1, after its line's latch is set (R112). -/
theorem wevWith_wev {rs : Nat → State → State} {i : SetterId} {s : State} {d : Reg} {mask timeout : Word}
    (hw : (s.st i).wait = .wev d mask timeout) (hr : (s.st i).run = true) :
    wevWith rs i s = if (s.st i).evl &&& mask = 0 then s
      else (s.putS i ((s.st i).endWev d ((s.st i).evl &&& mask) (wevCost timeout s.free))).usedFree := by
  unfold wevWith
  simp only [hw]
  split
  · rfl
  · rw [settleWith_run (by simpa [Setter.endWev, Setter.adv, Setter.setReg] using hr)]

theorem wevWith_only {rs : Nat → State → State} {i : SetterId} {s : State} (hr : (s.st i).run = true) :
    ∃ y, Only s (wevWith rs i s) i y := by
  by_cases hw : ∀ d mask timeout, (s.st i).wait ≠ .wev d mask timeout
  · rw [wevWith_idle hw]
    exact ⟨_, only_self s i⟩
  · simp only [not_forall, not_not] at hw
    obtain ⟨d, mask, timeout, hw⟩ := hw
    rw [wevWith_wev hw hr]
    split
    · exact ⟨_, only_self s i⟩
    · exact ⟨_, (only_putS s i _).usedFree⟩

/-- The setter after a tick of its source (R45, R59). -/
def afterTickOf (x : Setter) (v : BitVec 256) (tb : Bool) : Setter :=
  match x.wait with
  | .frame next => if x.dozed then x.missTick.afterTick tb else (x.takeTick next v).afterTick tb
  | _ => x.missTick.afterTick tb

theorem tickWith_run {rs : Nat → State → State} {i : SetterId} {v : BitVec 256} {s : State} (hg : (s.st i).gated = false)
    (hi : (s.st i).isol = false) (hr : (s.st i).run = true) :
    tickWith rs i v s = s.putS i (afterTickOf (s.st i) v s.irs.tbvalid) := by
  unfold tickWith afterTickOf
  refine (if_neg (by simp [hg, hi])).trans ?_
  cases hw : (s.st i).wait with
  | frame next =>
    by_cases hd : (s.st i).dozed = true
    · exact (if_pos hd).trans (congrArg (s.putS i) (if_pos hd).symm)
    · refine (if_neg hd).trans ((settleWith_run ?_).trans (congrArg (s.putS i) (if_neg hd).symm))
      rw [State.putS_st, (takeTick_heard hw v _).run]
      exact hr
  | _ => rfl

theorem afterTickOf_run (x : Setter) (v : BitVec 256) (tb : Bool) : (afterTickOf x v tb).run = x.run := by
  unfold afterTickOf
  split
  next next hw =>
    split
    · exact (missTick_heard x tb).run
    · exact (takeTick_heard hw v tb).run
  next => exact (missTick_heard x tb).run

/-- With RUN 1 everywhere a pulse changes the setter that hears it, and nothing else but free values. -/
theorem lineWith_only {rs : Nat → State → State} {i : SetterId} {line : Nat} {s : State} (hr : (s.st i).run = true) :
    ∃ y, Only s (lineWith rs false i line s) i y := by
  by_cases hoff : (s.st i).gated = true ∨ (s.st i).isol = true
  · rw [lineWith_off hoff]
    exact ⟨_, only_self s i⟩
  · simp only [not_or, Bool.not_eq_true] at hoff
    obtain ⟨hg, hi⟩ := hoff
    by_cases hh : Hears (s.st i) line
    · rw [lineWith_hears hg hi hh, tickWith_run (by simpa using hg) (by simpa using hi) (by simpa using hr)]
      have h1 := ((only_putS s i (latched (s.st i) line)).usedFree).put
        (afterTickOf ((s.putS i (latched (s.st i) line)).usedFree.st i) (sampleTaps i (Config.freeNets s.free) s) s.irs.tbvalid)
      obtain ⟨y, hy⟩ := wevWith_only (rs := rs) (i := i) (s := (s.putS i (latched (s.st i) line)).usedFree.putS i
        (afterTickOf ((s.putS i (latched (s.st i) line)).usedFree.st i) (sampleTaps i (Config.freeNets s.free) s) s.irs.tbvalid))
        (by rw [State.putS_st, afterTickOf_run]; simpa using hr)
      exact ⟨y, h1.trans hy⟩
    · rw [lineWith_deaf hg hi hh]
      obtain ⟨y, hy⟩ := wevWith_only (rs := rs) (i := i) (s := s.putS i (latched (s.st i) line)) (by simpa using hr)
      exact ⟨y, (only_putS s i _).trans hy⟩

/-- After a tick of an event-line source that no write waited for (R55, R59). -/
theorem afterTick_event {x : Setter} (hs : (field x.fsrc 1 0).toNat = 2) (h1 : x.fsrcW = none) (h2 : x.fperiodW = none)
    (h3 : x.ftbW = none) (tb : Bool) : x.afterTick tb = { x with tblost := false } := by
  have hx : x.takeFrameWrites = x := by
    cases x
    cases h1
    cases h2
    cases h3
    rfl
  rw [Setter.afterTick, hx]
  exact if_pos (by rw [Setter.src, hs]; decide)

/-- A setter at a FRAME that takes its ticks from this line (R45, R52). -/
theorem afterTickOf_atFrame {x : Setter} {next : BitVec 14} (h : AtFrame x 2 next) (line : Nat) (v : BitVec 256) (tb : Bool) :
    afterTickOf (latched x line) v tb = { ticked x next v with evl := (latched x line).evl, tblost := false } := by
  obtain ⟨h1, h2, h3⟩ := h.writes
  have hd : ¬x.dozed = true := by simp [h.domain]
  unfold afterTickOf
  rw [latched_wait, h.wait]
  exact (if_neg hd).trans ((afterTick_event (x := (latched x line).takeTick next v) h.source h1 h2 h3 tb).trans rfl)

theorem missTick_fields (x : Setter) : x.missTick.fsrc = x.fsrc ∧ x.missTick.fsrcW = x.fsrcW ∧ x.missTick.fperiodW = x.fperiodW ∧
    x.missTick.ftbW = x.ftbW := by
  unfold Setter.missTick
  split_ifs <;> exact ⟨rfl, rfl, rfl, rfl⟩

theorem missTick_wait (x : Setter) : x.missTick.wait = x.wait := by
  unfold Setter.missTick
  split_ifs <;> rfl

/-- A setter between two instructions that takes its ticks from this line (R56, R59). -/
theorem afterTickOf_idle {x : Setter} {line : Nat} (hw : x.wait = .none) (hs : (field x.fsrc 1 0).toNat = 2) (h1 : x.fsrcW = none)
    (h2 : x.fperiodW = none) (h3 : x.ftbW = none) (v : BitVec 256) (tb : Bool) :
    afterTickOf (latched x line) v tb = { (latched x line).missTick with tblost := false } := by
  obtain ⟨e0, e1, e2, e3⟩ := missTick_fields (latched x line)
  unfold afterTickOf
  rw [latched_wait, hw]
  exact afterTick_event (by rw [e0]; exact hs) (e1.trans h1) (e2.trans h2) (e3.trans h3) tb

theorem missTick_unarmed {x : Setter} (h : x.armed = false) : x.missTick = x := if_pos (by simp [h])

theorem missTick_due {x : Setter} (h : x.armed = true) (hs : x.stopped = false) (hd : x.dozed = false) :
    x.missTick = { x with due := x.due + 1, late := false } :=
  (if_neg (by simp [h])).trans (if_neg (by simp [hs, hd]))

theorem missTick_missed {x : Setter} (h : x.armed = true) (hs : x.stopped = true ∨ x.dozed = true) :
    x.missTick = { x with missed := sat16 (x.missed.toNat + 1), late := true } :=
  (if_neg (by simp [h])).trans (if_pos (by simpa using hs))

/-- The latches that a WEV found are the latches of its mask. -/
theorem and_not_and (l m : Word) : l &&& ~~~(l &&& m) = l &&& ~~~m := by
  ext k hk
  simp only [BitVec.getElem_and, BitVec.getElem_not]
  cases l[k] <;> simp

/-- A pulse on an event line, at a setter whose domain is on and whose RUN is 1 (R52, R59, R60, R112). -/
theorem lineWith_pulsed {rs : Nat → State → State} {i : SetterId} {line : Nat} {s : State} (hg : (s.st i).gated = false)
    (hi : (s.st i).isol = false) (hr : (s.st i).run = true) : Pulsed (s.st i) ((lineWith rs false i line s).st i) line := by
  refine ⟨fun hh => ?deaf, fun hh h1 h2 h3 => ?hears⟩
  case deaf =>
    rw [lineWith_deaf hg hi hh]
    refine ⟨fun hw => ?_, fun d mask timeout hw => ?_⟩
    · rw [wevWith_idle (by simp [hw]), State.putS_st]
      rfl
    · rw [wevWith_wev (by simpa using hw) (by simpa using hr), State.putS_st]
      refine ⟨fun hf => ?_, fun hf => ⟨wevCost timeout s.free, (wevCost_bounds ..).1, (wevCost_bounds ..).2, ?_⟩⟩
      · rw [if_pos (c := (latched (s.st i) line).evl &&& mask = 0) hf, State.putS_st]
        rfl
      · rw [if_neg (c := (latched (s.st i) line).evl &&& mask = 0) hf, usedFree_st, State.putS_st, endWev_eq, and_not_and]
        rfl
  case hears =>
    rw [lineWith_hears hg hi hh, tickWith_run (by simpa using hg) (by simpa using hi) (by simpa using hr), usedFree_st, State.putS_st]
    refine ⟨fun next hf => ⟨sampleTaps i (Config.freeNets s.free) s, fun k _ => sampleTaps_unmapped i _ s, ?_⟩, fun hw => ?_⟩
    · rw [afterTickOf_atFrame hf, wevWith_idle (by simp [ticked]), State.putS_st]
      rfl
    · have hm : (latched (s.st i) line).missTick.wait = .none :=
        (missTick_wait _).trans hw
      rw [afterTickOf_idle hw hh.2.1 h1 h2 h3, wevWith_idle (by simp [hm]), State.putS_st]
      refine ⟨fun ha => ?_, fun ha hs hd => ?_, fun ha hs => ?_⟩
      · rw [missTick_unarmed (by exact ha)]
        rfl
      · rw [missTick_due (by exact ha) (by exact hs) (by exact hd)]
        rfl
      · rw [missTick_missed (by exact ha) (by exact hs)]
        rfl

/-! ### Every setter of a mask -/

/-- A pass over the members of a mask, each step changing its own member: what each step does to its member, and a fact that each
keeps. -/
theorem foldl_each {ι β : Type} {get : State → ι → β} {I : State → Prop} {Q : ι → β → β → Prop} {f : ι → State → State} {m : ι → Bool}
    (h : ∀ i u, I u → I (f i u) ∧ Q i (get u i) (get (f i u) i) ∧ ∀ j, i ≠ j → get (f i u) j = get u j)
    {l : List ι} (hl : l.Nodup) {s : State} (hs : I s) :
    I (l.foldl (fun u i => if m i then f i u else u) s) ∧
      (∀ i ∈ l, m i = true → Q i (get s i) (get (l.foldl (fun u i => if m i then f i u else u) s) i)) ∧
      ∀ i, (i ∉ l ∨ m i = false) → get (l.foldl (fun u i => if m i then f i u else u) s) i = get s i := by
  induction l generalizing s with
  | nil => exact ⟨hs, fun i hi => by simp at hi, fun _ _ => rfl⟩
  | cons a l ih =>
    obtain ⟨ha, hl⟩ := List.nodup_cons.1 hl
    rw [List.foldl_cons]
    by_cases hm : m a = true
    · rw [if_pos hm]
      obtain ⟨hI, hQ, ho⟩ := h a s hs
      obtain ⟨hI', hQ', ho'⟩ := ih hl hI
      refine ⟨hI', fun i hi hmi => ?_, fun i hi => ?_⟩
      · rcases List.mem_cons.1 hi with rfl | hi
        · rw [ho' i (.inl ha)]
          exact hQ
        · have hai : a ≠ i := fun e => ha (e ▸ hi)
          rw [← ho i hai]
          exact hQ' i hi hmi
      · have hai : a ≠ i := by
          rintro rfl
          simp [hm] at hi
        rw [ho' i (hi.imp_left fun hn hil => hn (List.mem_cons_of_mem _ hil)), ho i hai]
    · rw [if_neg hm]
      obtain ⟨hI', hQ', ho'⟩ := ih hl hs
      refine ⟨hI', fun i hi hmi => ?_, fun i hi => ?_⟩
      · rcases List.mem_cons.1 hi with rfl | hi
        · exact absurd hmi hm
        · exact hQ' i hi hmi
      · exact ho' i (hi.imp_left fun hn hil => hn (List.mem_cons_of_mem _ hil))

/-- A state that differs from another in its setters and free values only. -/
def SettersOnly (s t : State) : Prop := t = { s with setters := t.setters, free := t.free }

theorem Only.settersOnly {s t u : State} {i : SetterId} {y : Setter} (h : SettersOnly s t) (k : Only t u i y) : SettersOnly s u := by
  unfold SettersOnly Only at *
  conv_lhs => rw [k, h]
  conv_rhs => rw [k]
  rfl

/-- The delivery where RUN is 1 everywhere (R29, R52, R60, R112). -/
theorem deliverWith_pulsed {rs : Nat → State → State} (hrs : ∀ n s, n < 512 → HeardAll s (rs n s)) {route : Word} {s : State}
    (hr : ∀ j, (s.st j).run = true) :
    SettersOnly s (deliverWith rs false route s) ∧
      ∀ i : SetterId, route.getLsbD i.val = true → (s.st i).gated = false → (s.st i).isol = false →
        Pulsed (s.st i) ((deliverWith rs false route s).st i) (field route 20 16).toNat := by
  have step : ∀ i u, (SettersOnly s u ∧ ∀ j, (u.st j).run = true) →
      (SettersOnly s (lineWith rs false i (field route 20 16).toNat u) ∧
        ∀ j, ((lineWith rs false i (field route 20 16).toNat u).st j).run = true) ∧
      ((u.st i).gated = false → (u.st i).isol = false →
        Pulsed (u.st i) ((lineWith rs false i (field route 20 16).toNat u).st i) (field route 20 16).toNat) ∧
      ∀ j, i ≠ j → (lineWith rs false i (field route 20 16).toNat u).st j = u.st j := by
    rintro i u ⟨hu, hrun⟩
    obtain ⟨y, hy⟩ := lineWith_only (rs := rs) (line := (field route 20 16).toNat) (hrun i)
    have heard := lineWith_rel heardAll_steps hrs (wake := false) (by simp) i (field route 20 16).toNat u
    refine ⟨⟨hy.settersOnly hu, fun j => (heard.each j).run.trans (hrun j)⟩, fun hg hi => lineWith_pulsed hg hi (hrun i), fun j hj => ?_⟩
    rw [hy]
    exact State.putS_st_other u i j y hj
  obtain ⟨⟨hI, -⟩, hQ, -⟩ := foldl_each (get := State.st) (I := fun u => SettersOnly s u ∧ ∀ j, (u.st j).run = true)
    (Q := fun _ x y => x.gated = false → x.isol = false → Pulsed x y (field route 20 16).toNat)
    (m := fun i => route.getLsbD i.val) step (List.nodup_finRange 16) (s := s) ⟨rfl, hr⟩
  exact ⟨hI, fun i hi => hQ i (List.mem_finRange i) hi⟩

/-- A pulse where every setter stands between two instructions and none takes its ticks from the line: only latches (R29). -/
theorem lineWith_noListener {rs : Nat → State → State} {i : SetterId} {line : Nat} {s : State} (h : NoListener s line) :
    lineWith rs false i line s =
      s.putS i (if !(s.st i).gated && !(s.st i).isol then latched (s.st i) line else s.st i) := by
  by_cases hoff : (s.st i).gated = true ∨ (s.st i).isol = true
  · rw [lineWith_off hoff, if_neg (by rcases hoff with h | h <;> simp [h]), State.putS_self]
  · simp only [not_or, Bool.not_eq_true] at hoff
    obtain ⟨hg, hi⟩ := hoff
    rw [lineWith_deaf hg hi (h i).2, wevWith_idle (by simp [(h i).1]), if_pos (by simp [hg, hi])]

/-- The same over every setter of a route. -/
theorem deliverWith_noListener {rs : Nat → State → State} {route : Word} {s : State} (h : NoListener s (field route 20 16).toNat) :
    deliverWith rs false route s = { s with setters := (deliverWith rs false route s).setters } ∧
      ∀ i : SetterId, (deliverWith rs false route s).st i = if route.getLsbD i.val && !(s.st i).gated && !(s.st i).isol
        then latched (s.st i) (field route 20 16).toNat else s.st i := by
  have step : ∀ i u, (u = { s with setters := u.setters } ∧ NoListener u (field route 20 16).toNat) →
      (lineWith rs false i (field route 20 16).toNat u = { s with setters := (lineWith rs false i (field route 20 16).toNat u).setters } ∧
        NoListener (lineWith rs false i (field route 20 16).toNat u) (field route 20 16).toNat) ∧
      ((lineWith rs false i (field route 20 16).toNat u).st i =
        if !(u.st i).gated && !(u.st i).isol then latched (u.st i) (field route 20 16).toNat else u.st i) ∧
      ∀ j, i ≠ j → (lineWith rs false i (field route 20 16).toNat u).st j = u.st j := by
    rintro i u ⟨hu, hn⟩
    rw [lineWith_noListener hn]
    refine ⟨⟨by conv_lhs => rw [hu]
                rfl, fun j => ?_⟩, State.putS_st .., fun j hj => State.putS_st_other _ _ _ _ hj⟩
    by_cases hj : i = j
    · subst hj
      rw [State.putS_st]
      split <;> exact hn i
    · rw [State.putS_st_other _ _ _ _ hj]
      exact hn j
  obtain ⟨⟨hI, -⟩, hQ, ho⟩ := foldl_each (get := State.st)
    (I := fun u => u = { s with setters := u.setters } ∧ NoListener u (field route 20 16).toNat)
    (Q := fun _ x y => y = if !x.gated && !x.isol then latched x (field route 20 16).toNat else x)
    (m := fun i => route.getLsbD i.val) step (List.nodup_finRange 16) (s := s) ⟨rfl, h⟩
  refine ⟨hI, fun i => ?_⟩
  by_cases hm : route.getLsbD i.val = true
  · refine (hQ i (List.mem_finRange i) hm).trans ?_
    rw [hm, Bool.true_and]
  · rw [Bool.not_eq_true] at hm
    refine (ho i (.inr hm)).trans ?_
    rw [hm]
    rfl

/-! ### A raise whose bit was not pending -/

/-- The NOTE cell of a source (R29, R238). -/
def noteCell (s : State) (n : Nat) : Cell :=
  mkCell s 3 2 (field (noteOf s n) 27 16) (leBytes 2 (field (noteOf s n) 15 0).toNat ++ [0, 0] ++ leBytes 4 (n + s.irs.self.toNat * 1024))

/-- The pending bit and the delivery to the setters, of a raise that neither DORMANT nor its own bit stops. -/
def delivered (n : Nat) (s : State) : State := deliverWith (raiseF 19) (wakeSource s n) (routeOf s n) (setPend n s)

theorem raise_delivers {n : Nat} {s : State} (hp : pendBit s n = false) (hd : s.pwr.state ≠ 3) :
    raise n s = if (routeOf s n).getLsbD 23 then
      (match sendNote n (delivered n s) with
        | some t => t
        | none => raiseF 19 440 (delivered n s)) else delivered n s :=
  (if_neg (by simp [hp])).trans (if_neg hd)

theorem remember_sent (r : Irs) (c : Cell) : r.remember c = { r with sent := (r.remember c).sent } := by
  unfold Irs.remember
  split <;> rfl

/-- A transmit buffer with room takes the cell at its end (R245). -/
theorem sendOwn_room {k : Fin 4} {s : State} (c : Cell) (h : (s.irs.own.get k).length ≤ Config.txRoom k.val) :
    sendOwn k c s = some { s with irs := { s.irs with own := updf s.irs.own k (· ++ [c]), sent := (s.irs.remember c).sent } } := by
  unfold sendOwn
  rw [if_neg (by omega), remember_sent]

theorem sendNote_eq (n : Nat) (s : State) : sendNote n s = sendOwn 2 (noteCell s n) s := rfl

theorem noteCell_congr {s t : State} (hirs : t.irs = s.irs) (hnote : t.evt.note = s.evt.note) (n : Nat) : noteCell t n = noteCell s n := by
  simp only [noteCell, mkCell, noteOf, hirs, hnote]

/-- With room in the transmit buffer of class Hod the raise ends with its NOTE cell there, where its route asks for one (R29, R245). -/
theorem raise_withRoom {n : Nat} {s : State} (hp : pendBit s n = false) (hd : s.pwr.state ≠ 3)
    (hirs : (delivered n s).irs = s.irs) (hnote : (delivered n s).evt.note = s.evt.note)
    (hroom : (routeOf s n).getLsbD 23 = true → (s.irs.own.get 2).length ≤ Config.txRoom 2) :
    ∃ r : Irs, raise n s = { delivered n s with irs := r } ∧ r = { s.irs with own := r.own, sent := r.sent } ∧
      ∀ k : Fin 4, r.own.get k = s.irs.own.get k ++ (if (routeOf s n).getLsbD 23 = true ∧ k = 2 then [noteCell s n] else []) := by
  rw [raise_delivers hp hd]
  by_cases hc : (routeOf s n).getLsbD 23 = true
  · rw [if_pos hc, sendNote_eq, sendOwn_room _ (by rw [hirs]; exact hroom hc), noteCell_congr hirs hnote, hirs]
    refine ⟨_, rfl, rfl, fun k => ?_⟩
    rw [updf, upd_get]
    by_cases hk : k = 2
    · simp [hk, hc]
    · simp [hk, hc, Ne.symm hk]
  · refine ⟨s.irs, ?_, rfl, fun k => by rw [if_neg fun h => hc h.1, List.append_nil]⟩
    rw [if_neg hc, ← hirs]

end Sys2Proof.Proofs
end

section
/-! PROOFS. A raise that wakes nothing, clause by clause, and writes of the event controller's registers (R25 to R31, R292, R335). -/

namespace Sys2Proof.Proofs
open Sys2Proof Sys2Proof.Machine Sys2Proof.Claims

/-! ### The row -/

theorem exec_eventRaise_refused {n : Source} {s : State} (h : raises n.val s = false) : exec (.eventRaise n) s = .next s := by
  show Host.Outcome.next (if raises n.val s then raiseWake n.val s else s) = _
  rw [h]
  rfl

theorem exec_eventRaise {n : Source} {s : State} (h : raises n.val s = true) : exec (.eventRaise n) s = .next (raiseWake n.val s) := by
  show Host.Outcome.next (if raises n.val s then raiseWake n.val s else s) = _
  rw [h]
  rfl

theorem raiseWake_eq {n : Nat} {s : State} (h : wakeSource s n = false) : raiseWake n s = raise n s := if_neg (by simp [h])

theorem raises_reserved {n : Nat} {s : State} (h : reservedSource n = true) : raises n s = false := by simp [raises, h]

theorem reservedSource_iff (n : Nat) :
    reservedSource n = true ↔ (494 ≤ n ∧ n ≤ 511) ∨ (556 ≤ n ∧ n ≤ 575) ∨ (595 ≤ n ∧ n ≤ 607) ∨ 625 ≤ n := by
  simp only [reservedSource, Bool.or_eq_true, Bool.and_eq_true, decide_eq_true_eq, or_assoc]

/-- The two user events of a bay that does not run (R292). -/
theorem raises_stoppedBay {n : Nat} {s : State} (b : BayId) (hn : n = 4 * b.val + 2 ∨ n = 4 * b.val + 3) (hb : (s.bay b).runs = false) :
    raises n s = false := by
  have hlt := b.isLt
  have hbay : s.bayN (n / 4) = some (s.bay b) := by
    rw [show n / 4 = b.val by omega]
    exact dif_pos hlt
  simp [raises, hbay, hb, show n < 256 by omega, show 2 ≤ n % 4 by omega]

/-! ### Pending -/

theorem pending_of_evt {s t : State} {n : Nat} (hn : n < 640) (h : t.evt = (setPend n s).evt) : Pending s t n := by
  have bit : ∀ k, pendBit t k = pendBit (setPend n s) k := fun k => by rw [pendBit, h, pendBit]
  refine ⟨?_, fun k _ hk => ?_, by rw [h]; rfl, by rw [h]; rfl⟩
  · rw [bit, setPend, pendBit_putPend _ _ _ _ hn, if_pos rfl]
  · rw [bit, setPend, pendBit_putPend _ _ _ _ hn, if_neg hk]

/-- An output line is asserted while a pending source of the first 640 has its bit in its route (R29). -/
theorem any_pending {t : State} {n : Nat} {b : Nat} (hn : n < 640) (hp : pendBit t n = true) (hr : (routeOf t n).getLsbD b = true) :
    (List.range 640).any (fun n => pendBit t n && (routeOf t n).getLsbD b) = true :=
  List.any_eq_true.2 ⟨n, List.mem_range.2 hn, by rw [hp, hr, Bool.true_and]⟩

theorem plinthIrq_of_pending {t : State} {n : Nat} (hn : n < 640) (hs : t.pwr.state ≠ 3) (hp : pendBit t n = true)
    (hr : (routeOf t n).getLsbD 21 = true) : plinthIrq t = true := by
  rw [plinthIrq, any_pending hn hp hr, Bool.and_true, bne_iff_ne]
  exact hs

theorem hirqLow_of_pending {t : State} {n : Nat} (hn : n < 640) (hs : t.pwr.state ≠ 3) (hp : pendBit t n = true)
    (hr : (routeOf t n).getLsbD 22 = true) : hirqLow t = true := by
  rw [hirqLow, any_pending hn hp hr, Bool.and_true, bne_iff_ne]
  exact hs

/-! ### The raise of a source whose bit is clear -/

section
variable {n : Source} {s : State} (hp : pendBit s n.val = false) (hd : s.pwr.state ≠ 3) (hw : wakeSource s n.val = false)
include hp hd hw

/-- While every setter is between two instructions and none takes its ticks from the line, a raise sets latches and nothing else of
the setters (R29). -/
theorem raise_noListener (hl : NoListener s (field (routeOf s n.val) 20 16).toNat)
    (hroom : (routeOf s n.val).getLsbD 23 = true → (s.irs.own.get 2).length ≤ Config.txRoom 2) :
    Pending s (raise n.val s) n.val ∧
      raise n.val s = { s with evt := (raise n.val s).evt, setters := (raise n.val s).setters,
                               irs := { s.irs with own := (raise n.val s).irs.own, sent := (raise n.val s).irs.sent } } ∧
      (∀ i, (raise n.val s).st i = if (routeOf s n.val).getLsbD i.val && !(s.st i).gated && !(s.st i).isol
        then latched (s.st i) (field (routeOf s n.val) 20 16).toNat else s.st i) ∧
      (∀ k : Fin 4, (raise n.val s).irs.own.get k = s.irs.own.get k ++
        (if (routeOf s n.val).getLsbD 23 = true ∧ k = 2 then [noteCell s n.val] else [])) ∧
      ((routeOf s n.val).getLsbD 21 = true → plinthIrq (raise n.val s) = true) ∧
      ((routeOf s n.val).getLsbD 22 = true → hirqLow (raise n.val s) = true) := by
  obtain ⟨hD, hst⟩ := deliverWith_noListener (rs := raiseF 19) (s := setPend n.val s) hl
  have hdel : delivered n.val s = deliverWith (raiseF 19) false (routeOf s n.val) (setPend n.val s) := by rw [delivered, hw]
  rw [← hdel] at hD hst
  obtain ⟨r, hr, hown, hcells⟩ := raise_withRoom hp hd (by rw [hD]; rfl) (by rw [hD]; rfl) hroom
  have hpend : Pending s (raise n.val s) n.val := pending_of_evt n.isLt (by rw [hr, hD])
  have hroute : routeOf (raise n.val s) n.val = routeOf s n.val := by rw [routeOf, hpend.2.2.1, routeOf]
  refine ⟨hpend, ?_, fun i => ?_, by rw [hr]; exact hcells, fun h => ?_, fun h => ?_⟩
  · rw [hr, hD]
    simp only [← hown]
    rfl
  · rw [hr]
    exact hst i
  · exact plinthIrq_of_pending n.isLt (by simpa using hd) hpend.1 (by rw [hroute]; exact h)
  · exact hirqLow_of_pending n.isLt (by simpa using hd) hpend.1 (by rw [hroute]; exact h)

/-- Where RUN is 1 everywhere, every powered setter of the route hears one pulse (R29, R52, R60, R112). -/
theorem raise_pulsed (hrun : ∀ j, (s.st j).run = true)
    (hroom : (routeOf s n.val).getLsbD 23 = true → (s.irs.own.get 2).length ≤ Config.txRoom 2) (i : SetterId)
    (hi : (routeOf s n.val).getLsbD i.val = true) (hg : (s.st i).gated = false) (hz : (s.st i).isol = false) :
    Pulsed (s.st i) ((raise n.val s).st i) (field (routeOf s n.val) 20 16).toNat := by
  obtain ⟨hD, hst⟩ := deliverWith_pulsed (rs := raiseF 19) (s := setPend n.val s) (route := routeOf s n.val)
    (fun m u hm => raiseF_rel heardAll_steps 19 m u fun h => by simp [wakeSource_low u hm] at h) hrun
  have hdel : delivered n.val s = deliverWith (raiseF 19) false (routeOf s n.val) (setPend n.val s) := by rw [delivered, hw]
  rw [← hdel] at hD hst
  unfold SettersOnly at hD
  obtain ⟨r, hr, -, -⟩ := raise_withRoom hp hd (by rw [hD]; rfl) (by rw [hD]; rfl) hroom
  rw [hr]
  exact hst i hi hg hz

omit hp hd in
/-- All that a raise which wakes nothing can change. -/
theorem raise_changes :
    raise n.val s = { s with evt := (raise n.val s).evt, setters := (raise n.val s).setters,
                             irs := { s.irs with own := (raise n.val s).irs.own, sent := (raise n.val s).irs.sent },
                             free := (raise n.val s).free } := by
  conv_lhs => rw [(raise_raised n.val s).eq, raise_pwr hw]

end

/-! ### Writes of the event controller's registers -/

section
variable {s : State} {m : Master}

theorem blockAddr_evt (off : Nat) : blockAddr .evt off = off + 0x20090000 := rfl

theorem placeOf_evt {off : Nat} (h : off < 0x10000) : placeOf (blockAddr .evt off) = .reg .evt off := by
  have ha := blockAddr_evt off
  rw [placeOf, if_neg (by omega), if_neg (by omega), if_pos (by omega), show (blockAddr .evt off - 0x20000000) / 0x10000 = 9 by omega,
    show blockAddr .evt off % 0x10000 = off by omega]
  rfl

/-- A write of one of the controller's registers, at a moment that its command gives. -/
theorem writeAs_evt {off : Nat} {v : Word} {e : WriteEnv} {t : State} (h : RegOpen s m.val .evt off true) (hoff : off < 0x10000)
    (h4 : off % 4 = 0) (ht : writeEvt raiseWake off v e s = some t) : writeAs m.val (blockAddr .evt off) v e s = answeredOk m.val [] t :=
  writeAs_open h (placeOf_evt hoff) (by rw [blockAddr_evt]; omega) ht

/-- The same at a moment that its command does not give (log 6). -/
theorem writeReg_evt {off : Nat} {v : Word} {t : State} (h : RegOpen s m.val .evt off true) (hoff : off < 0x10000) (h4 : off % 4 = 0)
    (ht : writeEvt raiseWake off v (freeEnv s) { s with free := s.free + 2 } = some t) :
    writeReg m .evt off v s = answeredOk m.val [] t :=
  writeAs_evt (regOpen_free h (s.free + 2)) hoff h4 ht

/-- EVT_RAISE (R26). -/
theorem writeEvt_raise (rz : Nat → State → State) (v : Word) (e : WriteEnv) (s : State) :
    writeEvt rz 0x10 v e s = some (if (field v 9 0).toNat < 640 then rz (field v 9 0).toNat s else s) := rfl

/-- EVT_PENDk (R27). -/
theorem writeEvt_pend (rz : Nat → State → State) (k : Fin 20) (v : Word) (e : WriteEnv) (s : State) :
    writeEvt rz (0x100 + 4 * k.val) v e s = some (writePend rz k.val v e.raised s) := by
  have hk := k.isLt
  rw [writeEvt, if_neg (by omega), if_neg (by omega), if_pos (by omega), show (0x100 + 4 * k.val - 0x100) / 4 = k.val by omega]

/-- EVT_ROUTEn (R30). -/
theorem writeEvt_route (rz : Nat → State → State) (n : Source) (v : Word) (e : WriteEnv) (s : State) :
    writeEvt rz (0x1000 + 4 * n.val) v e s = some (putRoute n.val v s) := by
  have hn := n.isLt
  rw [writeEvt, if_neg (by omega), if_neg (by omega), if_neg (by omega), if_pos (by omega),
    show (0x1000 + 4 * n.val - 0x1000) / 4 = n.val by omega]

/-- EVT_NOTEn (R30). -/
theorem writeEvt_note (rz : Nat → State → State) (n : Source) (v : Word) (e : WriteEnv) (s : State) :
    writeEvt rz (0x2000 + 4 * n.val) v e s = some (putNote n.val v s) := by
  have hn := n.isLt
  rw [writeEvt, if_neg (by omega), if_neg (by omega), if_neg (by omega), if_neg (by omega), if_pos (by omega),
    show (0x2000 + 4 * n.val - 0x2000) / 4 = n.val by omega]

/-- EVT_PENDk with the written ones cleared. -/
def pendCleared (k : Fin 20) (v : Word) (s : State) : State :=
  { s with evt := { s.evt with pend := s.evt.pend.set k.val (s.evt.pend.get k &&& ~~~v) k.isLt } }

/-- Of a list of raises that may coincide with a clear, the ones that none of its bits names. -/
theorem foldl_raises_none {α : Type} (p : α → Bool) (f : α → State → State) (l : List α) (h : ∀ i ∈ l, p i = false) (t : State) :
    l.foldl (fun t i => if p i then f i t else t) t = t := by
  induction l with
  | nil => rfl
  | cons i l ih =>
    rw [List.foldl_cons, h i (List.mem_cons_self ..)]
    exact ih fun j hj => h j (List.mem_cons_of_mem _ hj)

theorem writePend_eq (rz : Nat → State → State) (k : Fin 20) (v raised : Word) (s : State) :
    writePend rz k.val v raised s = (List.range 32).foldl (fun t i =>
      if raised.getLsbD i && !reservedSource (32 * k.val + i) then rz (32 * k.val + i) t else t) (pendCleared k v s) := by
  rw [writePend, nthUpd, dif_pos k.isLt]
  rfl

theorem writePend_zero (rz : Nat → State → State) (k : Fin 20) (v : Word) (s : State) :
    writePend rz k.val v 0 s = pendCleared k v s :=
  (writePend_eq rz k v 0 s).trans (foldl_raises_none _ (fun i => rz (32 * k.val + i)) _ (by simp) _)

theorem range_split {j n : Nat} (h : j < n) : List.range n = List.range j ++ j :: (List.range (n - 1 - j)).map (j + 1 + ·) := by
  conv_lhs => rw [show n = j + 1 + (n - 1 - j) by omega, List.range_add, List.range_succ]
  simp

/-- One raise in the cycle of the clear (R27). -/
theorem writePend_one (rz : Nat → State → State) (k : Fin 20) (v : Word) (j : Fin 32) (s : State)
    (hr : reservedSource (32 * k.val + j.val) = false) :
    writePend rz k.val v (BitVec.ofNat 32 (2 ^ j.val)) s = rz (32 * k.val + j.val) (pendCleared k v s) := by
  have hj := j.isLt
  have bit : ∀ i, i ≠ j.val → (BitVec.ofNat 32 (2 ^ j.val)).getLsbD i = false := fun i hi => by
    rw [BitVec.getLsbD_ofNat, Nat.testBit_two_pow]
    simp [hi.symm]
  have one : (BitVec.ofNat 32 (2 ^ j.val)).getLsbD j.val = true := by
    rw [BitVec.getLsbD_ofNat, Nat.testBit_two_pow]
    simp [hj]
  rw [writePend_eq, range_split hj, List.foldl_append, List.foldl_cons,
    foldl_raises_none _ (fun i => rz (32 * k.val + i)) (List.range j.val) (fun i hi => by rw [bit i (List.mem_range.1 hi).ne, Bool.false_and]),
    one, hr]
  exact foldl_raises_none _ (fun i => rz (32 * k.val + i)) _ (fun i hi => by
    obtain ⟨a, -, rfl⟩ := List.mem_map.1 hi
    rw [bit _ (by omega), Bool.false_and]) _

/-- A keyed word that is 0 where it is not listed, put and read again. -/
theorem kvGet_putWord (m : List (Nat × Word)) (n k : Nat) (v : Word) :
    (kvGet (kvPut wordDrop n v m) k).getD 0 = if k = n then v else (kvGet m k).getD 0 := by
  by_cases hk : k = n
  · subst hk
    rw [kvGet_put_same, if_pos rfl]
    by_cases hv : v = 0
    · simp [wordDrop, hv]
    · rw [if_neg (by simpa [wordDrop] using hv)]
      rfl
  · rw [kvGet_put_other _ _ _ _ _ (Ne.symm hk), if_neg hk]

theorem exec_softwareRaise (m : Master) (v : Word) (s : State) : exec (.softwareRaise m v) s = .next (writeReg m .evt 0x10 v s) := rfl

theorem exec_pendingClear (m : Master) (k : Fin 20) (v raised : Word) (s : State) :
    exec (.pendingClear m k v raised) s = .next (writeAs m.val (blockAddr .evt (0x100 + 4 * k.val)) v ⟨0, raised, 0⟩ s) := rfl

theorem exec_routeWrite (m : Master) (note : Bool) (n : Source) (v : Word) (s : State) :
    exec (.routeWrite m note n v) s = .next (writeReg m .evt ((if note then 0x2000 else 0x1000) + 4 * n.val) v s) := rfl

theorem softwareRaise_raises {v : Word} (h : RegOpen s m.val .evt 0x10 true) (hv : (field v 9 0).toNat < 640)
    (hw : wakeSource s (field v 9 0).toNat = false) :
    exec (.softwareRaise m v) s = .next (wroteThen m (raise (field v 9 0).toNat) s) := by
  rw [exec_softwareRaise, writeReg_evt h (by decide) (by decide) (writeEvt_raise ..), if_pos hv, raiseWake_eq (by exact hw)]
  rfl

theorem softwareRaise_above {v : Word} (h : RegOpen s m.val .evt 0x10 true) (hv : 640 ≤ (field v 9 0).toNat) :
    exec (.softwareRaise m v) s = .next (wroteOk m s) := by
  rw [exec_softwareRaise, writeReg_evt h (by decide) (by decide) (writeEvt_raise ..), if_neg (by omega)]
  rfl

theorem pendingClear_writes {k : Fin 20} {v raised : Word} (h : RegOpen s m.val .evt (0x100 + 4 * k.val) true) :
    exec (.pendingClear m k v raised) s = .next (answeredOk m.val [] (writePend raiseWake k.val v raised s)) := by
  have hk := k.isLt
  rw [exec_pendingClear, writeAs_evt h (by omega) (by omega) (writeEvt_pend ..)]

theorem routeWrite_route {n : Source} {v : Word} (h : RegOpen s m.val .evt (0x1000 + 4 * n.val) true) :
    exec (.routeWrite m false n v) s = .next (wroteOk m (putRoute n.val v s)) := by
  have hn := n.isLt
  rw [exec_routeWrite, if_neg (by decide), writeReg_evt h (by omega) (by omega) (writeEvt_route ..)]
  rfl

theorem routeWrite_note {n : Source} {v : Word} (h : RegOpen s m.val .evt (0x2000 + 4 * n.val) true) :
    exec (.routeWrite m true n v) s = .next (wroteOk m (putNote n.val v s)) := by
  have hn := n.isLt
  rw [exec_routeWrite, if_pos rfl, writeReg_evt h (by omega) (by omega) (writeEvt_note ..)]
  rfl

end

end Sys2Proof.Proofs
end

section
/-! PROOFS. What stands of the event controller and of the wake flags over an access to the store and over the hod's work, down to its
drain (R26, R230, R340): no pending bit clears, and no wake source is flagged; the cells at the chain port stand too. -/

namespace Sys2Proof.Proofs
open Sys2Proof Sys2Proof.Machine Sys2Proof.Claims

/-- No pending bit has cleared, PWR_WAKESRC is as before, and so are the cells at the chain port and what the boot ROM checks of the
firmware copies. -/
structure Onward (s t : State) : Prop where
  pend : ∀ n, pendBit s n = true → pendBit t n = true
  wakesrc : t.pwr.wakesrc = s.pwr.wakesrc
  cells : t.hod.cells = s.hod.cells
  fw : t.pln.fw = s.pln.fw
  fwSel : t.pln.fwSel = s.pln.fwSel

theorem Onward.refl (s : State) : Onward s s := ⟨fun _ h => h, rfl, rfl, rfl, rfl⟩

theorem Onward.trans {s t u : State} (h : Onward s t) (k : Onward t u) : Onward s u :=
  ⟨fun n hn => k.pend n (h.pend n hn), k.wakesrc.trans h.wakesrc, k.cells.trans h.cells, k.fw.trans h.fw, k.fwSel.trans h.fwSel⟩

/-- A change beside all these. -/
theorem Onward.beside {s t : State} (h : (t.evt.pend, t.pwr.wakesrc, t.hod.cells, t.pln.fw, t.pln.fwSel) =
    (s.evt.pend, s.pwr.wakesrc, s.hod.cells, s.pln.fw, s.pln.fwSel)) : Onward s t := by
  simp only [Prod.mk.injEq] at h
  obtain ⟨he, hw, hc, hf, hs⟩ := h
  exact ⟨fun n hn => by rw [pendBit, he]; exact hn, hw, hc, hf, hs⟩

/-- The same before what is known. -/
theorem Onward.after {s r t : State} (k : Onward r t) (h : (r.evt.pend, r.pwr.wakesrc, r.hod.cells, r.pln.fw, r.pln.fwSel) =
    (s.evt.pend, s.pwr.wakesrc, s.hod.cells, s.pln.fw, s.pln.fwSel)) : Onward s t :=
  (Onward.beside h).trans k

theorem Onward.ofRaised {s t : State} (h : Raised s t) : Onward s t := ⟨h.pend, by rw [h.pwr], by rw [h.hod], by rw [h.pln], by rw [h.pln]⟩

theorem raise_onward (n : Nat) (s : State) : Onward s (raise n s) := .ofRaised (raise_raised n s)

/-- The state of an operation that answers with a result too. -/
theorem Onward.of_eq {α : Type} {s t : State} {p : α × State} {a : α} (h : Onward s p.2) (e : p = (a, t)) : Onward s t := by
  rw [e] at h
  exact h

theorem foldl_onward {α : Type} {f : State → α → State} (h : ∀ s a, Onward s (f s a)) (l : List α) (s : State) : Onward s (l.foldl f s) := by
  induction l generalizing s with
  | nil => exact .refl s
  | cons a l ih => exact (h s a).trans (ih _)

theorem ite_onward {s t u : State} {c : Prop} [Decidable c] (h : Onward s t) (k : Onward s u) : Onward s (if c then t else u) := by
  split
  · exact h
  · exact k

/-! ### The store -/

theorem startWake_onward (d : Domain) (s : State) : Onward s (startWake d s) := by
  unfold startWake
  refine ite_onward (.refl s) ?_
  cases d <;> exact .beside rfl

theorem masterCause_onward (m : Nat) (bits : BitVec 6) (addr : Nat) (s : State) : Onward s (masterCause m bits addr s) :=
  (raise_onward _ _).after rfl

/-- The trap of a setter in its SSWAP (R117). -/
theorem cutTrap_onward (m addr : Nat) (s : State) : Onward s (if h : m < 16 then
    (if (s.st ⟨m, h⟩).issues then syncTrap ⟨m, h⟩ 8 0 (BitVec.ofNat 32 addr) s else s) else s) := by
  split
  · exact ite_onward (.ofRaised (syncTrap_raised ..)) (.refl s)
  · exact .refl s

theorem cutOff_onward (m : Nat) (bits : BitVec 6) (addr : Nat) (s : State) : Onward s (cutOff m bits addr s) := by
  unfold cutOff
  simp only
  refine Onward.trans ?_ (cutTrap_onward m addr _)
  exact (masterCause_onward m bits addr _).after rfl

theorem cutLock_onward (bits : BitVec 6) (l : Nat × Nat) (s : State) : Onward s (cutLock bits l s) :=
  (cutOff_onward l.1 bits l.2 (dropOrd l.1 s)).after rfl

theorem passWait_onward (m n : Nat) (s : State) : Onward s (passWait m n s) := by
  unfold passWait
  simp only
  refine Onward.trans (ite_onward ?_ ?_) (.beside rfl)
  · exact (raise_onward _ _).after rfl
  · exact .beside rfl

theorem storeRead_onward (a n : Nat) (s : State) : Onward s (storeRead a n s).2 := by
  unfold storeRead
  split
  · exact .beside rfl
  · refine foldl_onward (fun s h => ?_) _ _
    exact ite_onward (.beside rfl) (.refl s)

theorem storeWrite_onward (a : Nat) (d : List Byte) (s : State) : Onward s (storeWrite a d s).2 := by
  unfold storeWrite
  simp only
  split
  · exact .refl s
  · exact .beside rfl

theorem storeBeat_onward (m a n : Nat) (wr : Option (List Byte)) (s : State) : Onward s (storeBeat m a n wr s).2 := by
  unfold storeBeat
  cases wr with
  | none =>
    dsimp only
    split <;> exact (storeRead_onward a n s).of_eq ‹_›
  | some d =>
    dsimp only
    have h := storeWrite_onward a d s
    revert h
    generalize storeWrite a d s = r
    intro h
    rcases r with ⟨_ | _, t⟩ <;> exact Onward.trans (t := t) h (.beside rfl)

theorem storeDoor_onward {m a n : Nat} {rd wr : Bool} {s : State} {r : Resp × State} (h : storeDoor m a n rd wr s = some r) :
    Onward s r.2 := by
  unfold storeDoor at h
  split_ifs at h <;> cases h
  · exact .refl s
  · exact .refl s
  · exact .beside rfl
  · exact masterCause_onward ..
  · exact startWake_onward ..

theorem storeAccess_onward (m a n : Nat) (wr : Option (List Byte)) (key : Bool) (s : State) : Onward s (storeAccess m a n wr key s).2 := by
  unfold storeAccess
  split
  · exact storeDoor_onward ‹_›
  · split
    · exact .refl s
    · refine Onward.trans ?_ ((passWait_onward ..).trans ((storeBeat_onward m a n wr _).after rfl))
      split
      · exact cutLock_onward ..
      · exact .refl s

/-! ### Queues -/

theorem readDesc_onward (q : QueueId) (s : State) : Onward s (readDesc q s) := by
  unfold readDesc
  split
  · exact .refl s
  · exact (raise_onward _ _).after rfl
  · exact (raise_onward _ _).after rfl

theorem countBank_onward (q : QueueId) (s : State) : Onward s (countBank q s) := by
  unfold countBank
  exact ite_onward (.refl s) (.beside rfl)

theorem crossing_onward (g : Nat) (hi : Bool) (q : QueueId) (s : State) : Onward s (crossing g hi q s) :=
  (raise_onward _ _).after rfl

theorem countChanged_onward (q : QueueId) (d : Desc) (c0 c1 : Nat) (s : State) : Onward s (countChanged q d c0 c1 s) := by
  unfold countChanged
  have step : ∀ (c : Prop) [Decidable c] (hi : Bool) (u : State), Onward u (if c then crossing (field d.w3 31 26).toNat hi q u else u) :=
    fun _ _ hi u => ite_onward (crossing_onward _ hi q u) (.refl u)
  exact (step _ true s).trans ((step _ false _).trans (.ofRaised (raiseIf_raised ..)))

theorem putDesc_onward (q : QueueId) (d : Desc) (s : State) : Onward s (putDesc q d s) := .beside rfl

theorem flushError_onward (q : QueueId) (s : State) : Onward s (flushError q s) := (raise_onward _ _).after rfl

theorem raiseFlush_onward (a : Nat) (s : State) : Onward s (raiseFlush a s) := by
  unfold raiseFlush
  refine ite_onward (.refl s) ?_
  split
  · exact .refl s
  · exact .beside rfl

theorem flushComplete_onward (s : State) : Onward s (flushComplete s) := by
  unfold flushComplete
  split
  · exact raiseFlush_onward ..
  · exact .refl s

theorem combPut_onward (q : QueueId) (a : Nat) (d : List Byte) (s : State) : Onward s (combPut q a d s) :=
  (flushComplete_onward _).after rfl

theorem writeBurst_onward (l : List CombEntry) (failAt : Option Nat) (s : State) : Onward s (writeBurst l failAt s).2 := by
  induction l generalizing failAt s with
  | nil => exact .refl s
  | cons e t ih =>
    unfold writeBurst
    split
    · exact flushError_onward ..
    · exact ih _ _
    · split
      · exact ((storeAccess_onward ..).of_eq ‹_›).trans (ih _ _)
      · exact (storeAccess_onward ..).of_eq ‹_›
      · exact ((storeAccess_onward ..).of_eq ‹_›).trans (flushError_onward ..)

theorem flushDone_onward (failAt : Option Nat) (s : State) : Onward s (flushDone failAt s) := by
  unfold flushDone
  refine ite_onward (.refl s) ?_
  split
  · next h => exact ((writeBurst_onward ..).of_eq h).trans ((flushComplete_onward _).after rfl)
  · next h => exact ((writeBurst_onward ..).of_eq h).trans (.beside rfl)

theorem flushAll_onward (n : Nat) (s : State) : Onward s (flushAll n s) := by
  induction n generalizing s with
  | zero => exact .refl s
  | succ n ih =>
    unfold flushAll
    split
    · exact .refl s
    · exact (raiseFlush_onward ..).trans ((flushDone_onward ..).trans (ih _))
    · exact (flushDone_onward ..).trans (ih _)

theorem appendElem_onward (q : QueueId) (v : Word) (vb : Nat) (brk eob : Bool) (s : State) : Onward s (appendElem q v vb brk eob s).2 := by
  unfold appendElem
  simp only
  split
  · exact (putDesc_onward ..).trans ((countChanged_onward ..).trans (combPut_onward ..))
  · split
    · exact raiseFlush_onward ..
    · exact .refl s

theorem putRefusal_onward {m : Nat} {q : QueueId} {s : State} {r : QRes × State} (h : putRefusal m q s = some r) : Onward s r.2 := by
  unfold putRefusal at h
  simp only at h
  split_ifs at h <;> cases h
  · exact raise_onward ..
  · exact .refl s
  · exact raise_onward ..
  · exact raise_onward ..

theorem getRefusal_onward {m : Nat} {q : QueueId} {s : State} {r : QRes × State} (h : getRefusal m q s = some r) : Onward s r.2 := by
  unfold getRefusal at h
  simp only at h
  split_ifs at h <;> cases h
  · exact raise_onward ..
  · exact raise_onward ..
  · exact .refl s

theorem dropHead_onward (q : QueueId) (s : State) : Onward s (dropHead q s) := (putDesc_onward ..).trans (countChanged_onward ..)

/-! ### The KEY lane -/

theorem keyRead_onward (m : Nat) (q : QueueId) (remove : Bool) (s : State) : Onward s (keyRead m q remove s).2 := by
  unfold keyRead
  simp only
  split
  · exact (readDesc_onward ..).trans ((getRefusal_onward ‹_›).trans (countBank_onward ..))
  · exact (readDesc_onward ..).trans (.trans (ite_onward (dropHead_onward ..) (.refl _)) (countBank_onward ..))

theorem keyStep_onward (m : Nat) (op : HodOp) (s : State) : Onward s (keyStep m op s).2 := by
  unfold keyStep
  cases op with
  | put q v eob =>
    simp only
    split
    · exact (readDesc_onward ..).trans ((putRefusal_onward ‹_›).trans (countBank_onward ..))
    · exact (readDesc_onward ..).trans (countBank_onward ..)
  | get q => exact keyRead_onward ..
  | peek q => exact keyRead_onward ..
  | qst q => exact (readDesc_onward ..).trans (countBank_onward ..)

theorem keyAppended_onward (q : QueueId) (tail : Nat) (s : State) : Onward s (keyAppended q tail s) :=
  ite_onward ((putDesc_onward ..).trans (countChanged_onward ..)) (.refl s)

theorem keyPayload_onward (q : QueueId) (err : Bool) (p : LanePay) (s : State) : Onward s (keyPayload q err p s).2 := by
  unfold keyPayload
  cases p with
  | write a bytes tail =>
    simp only
    split
    · exact flushError_onward ..
    · split
      · exact ((storeAccess_onward ..).of_eq ‹_›).trans (keyAppended_onward ..)
      · exact (storeAccess_onward ..).of_eq ‹_›
      · exact ((storeAccess_onward ..).of_eq ‹_›).trans (flushError_onward ..)
  | read a =>
    simp only
    split
    · exact .refl s
    · split <;> exact (storeAccess_onward ..).of_eq ‹_›

theorem queueOutcome_onward (i : SetterId) (d : Reg) (op : HodOp) (r : QRes) (s : State) : Onward s (queueOutcome i d op r s).state := by
  cases r with
  | disabled => cases op <;> exact .beside rfl
  | _ => exact .beside rfl

theorem cellOutcome_onward (c : Cell) (q : QueueId) (r : QRes) (s : State) : Onward s (cellOutcome c q r s) := by
  unfold cellOutcome
  split
  · exact ite_onward (raise_onward ..) (.refl s)
  · exact .beside rfl

theorem deliverLane_onward (l : LaneOp) (r : QRes) (s : State) : Onward s (deliverLane l r s) := by
  unfold deliverLane
  split
  · next m _ =>
    refine Onward.trans (t := answer m (windowResp l.op r) s) (.beside rfl) ?_
    simp only
    split
    · exact ite_onward (.ofRaised (syncTrap_raised ..)) (.refl _)
    · exact .refl _
  · split
    · exact ((queueOutcome_onward ..).trans (.ofRaised (finish_raised ..))).after rfl
    · exact .refl s
  · exact cellOutcome_onward ..

theorem runLane_onward (n : Nat) (s : State) : Onward s (runLane n s) := by
  induction n generalizing s with
  | zero => exact .refl s
  | succ n ih =>
    unfold runLane
    refine ite_onward (.refl s) ?_
    split
    · exact .refl s
    · split
      · next h => exact (((keyStep_onward ..).of_eq h).trans ((deliverLane_onward ..).trans (ih _))).after rfl
      · next t h => exact Onward.trans (t := t) (((keyStep_onward ..).of_eq h).after rfl) (.beside rfl)

theorem laneDone_onward (err : Bool) (s : State) : Onward s (laneDone err s) := by
  unfold laneDone
  split
  · exact .refl s
  · split
    · exact (keyPayload_onward ..).of_eq ‹_›
    · next h => exact ((keyPayload_onward ..).of_eq h).trans (((deliverLane_onward ..).trans (runLane_onward ..)).after rfl)

theorem drainLane_onward (n : Nat) (s : State) : Onward s (drainLane n s) := by
  induction n generalizing s with
  | zero => exact .refl s
  | succ n ih => exact ite_onward ((laneDone_onward ..).trans (ih _)) (.refl s)

/-! ### Packers and the drain -/

theorem dropWord_onward (p src : Nat) (s : State) : Onward s (dropWord p src s) := (raise_onward _ _).after rfl

theorem dropFrom_onward (p src : Nat) (q : QueueId) (s : State) : Onward s (dropFrom p src q s) :=
  (putDesc_onward ..).trans (dropWord_onward ..)

theorem appendPacked_onward (p : Nat) (v : Word) (tag : BitVec 8) (s : State) : Onward s (appendPacked p v tag s).2 := by
  unfold appendPacked
  split
  · exact dropWord_onward ..
  · next q _ =>
    refine (readDesc_onward q s).trans ?_
    simp only
    split
    · exact (countBank_onward ..).trans (dropWord_onward ..)
    · split
      · exact (countBank_onward ..).trans (dropFrom_onward ..)
      · split
        · split
          · exact .beside rfl
          · exact (countBank_onward ..).trans (dropFrom_onward ..)
        · split
          · next h => exact ((appendElem_onward ..).of_eq h).trans ((countBank_onward ..).trans (.beside rfl))
          · next h => exact ((appendElem_onward ..).of_eq h).trans (.beside rfl)

theorem closeWord_onward (p : Nat) (brk eob : Bool) (s : State) : Onward s (closeWord p brk eob s).2 := by
  unfold closeWord
  exact (appendPacked_onward ..).after rfl

theorem stallClose_onward (p : Nat) (s : State) : Onward s (stallClose p s) := by
  unfold stallClose
  exact ite_onward (.refl s) ((closeWord_onward ..).trans (raise_onward ..))

theorem qcmd_onward (m c : Nat) (s : State) : Onward s (qcmd m c s) := by
  have read := readDesc_onward s.hod.qsel s
  unfold qcmd
  simp only
  refine ite_onward (.beside rfl) (ite_onward ((countBank_onward ..).trans (.beside rfl)) (.trans ?_ (countBank_onward ..)))
  refine ite_onward (ite_onward ?_ ?_) (ite_onward (ite_onward ?_ (ite_onward ?_ (ite_onward ?_ ?_)))
    (ite_onward ?_ (ite_onward (ite_onward ?_ ?_) ?_)))
  · exact read.trans (.beside rfl)
  · exact read.trans ((putDesc_onward ..).trans ((countChanged_onward ..).trans (.beside rfl)))
  · exact read.trans (.beside rfl)
  · exact read.trans (.beside rfl)
  · exact read.trans (.beside rfl)
  · exact read.trans (.beside rfl)
  · exact read.trans (.beside rfl)
  · exact read.trans (.beside rfl)
  · exact read.trans ((putDesc_onward ..).trans ((countChanged_onward ..).trans (.beside rfl)))
  · exact read.trans (.beside rfl)

theorem qcmdDone_onward (s : State) : Onward s (qcmdDone s) := by
  unfold qcmdDone
  split
  · exact (qcmd_onward ..).after rfl
  · exact .refl s

/-- The hod drains (R230). -/
theorem drainHod_onward (s : State) : Onward s (drainHod s) :=
  (qcmdDone_onward s).trans ((drainLane_onward ..).trans ((foldl_onward (fun t p => stallClose_onward p t) _ _).trans (flushAll_onward ..)))

end Sys2Proof.Proofs
end

section
/-! PROOFS. An enabled wake source becomes active (R338, R340): whatever entry, abandoned entry or end of DOZE follows, it is flagged and no
pending bit clears. Then the raises of all sources together. -/

namespace Sys2Proof.Proofs
open Sys2Proof Sys2Proof.Machine Sys2Proof.Claims

/-! ### The steps of an entry -/

theorem eachSet_onward {f : SetterId → State → State} (h : ∀ i s, Onward s (f i s)) (m : BitVec 16) (s : State) : Onward s (eachSet m f s) :=
  foldl_onward (fun t i => ite_onward (h i t) (.refl t)) _ _

theorem eachBay_onward {f : BayId → State → State} (h : ∀ b s, Onward s (f b s)) (m : BitVec 64) (s : State) : Onward s (eachBay m f s) :=
  foldl_onward (fun t b => ite_onward (h b t) (.refl t)) _ _

theorem keepPins_onward (m : BitVec 132) (s : State) : Onward s (keepPins m s) := .beside rfl

theorem modBay_onward (b : BayId) (f : Bay → Bay) (s : State) : Onward s (s.modBay b f) := .beside rfl

theorem stepTwo_onward (s : State) : Onward s (stepTwo s) := by
  unfold stepTwo
  have stop := eachSet_onward (f := stopSetterClock) (fun i u => .beside rfl) (stopSets s.pwr s.pwr.target.toNat) s
  have doze : ∀ (m : BitVec 64) (u : State), Onward u (eachBay m (fun b u => u.modBay b (fun x => { x with dozed := true })) u) :=
    eachBay_onward fun b u => modBay_onward b _ u
  have held : ∀ (c : Prop) [Decidable c] (m : BitVec 132) (u : State), Onward u (if c then drainHod (keepPins m u) else keepPins m u) :=
    fun _ _ m u => ite_onward ((keepPins_onward m u).trans (drainHod_onward _)) (keepPins_onward m u)
  refine Onward.trans ?_ (doze _ _)
  split
  · exact stop
  · exact stop.trans (held _ _ _)

/-- The plinth's state with its log moved on: records in RAM, in the ring, and the counts of them (R323, R326). -/
structure Logged (p q : Pln) : Prop where
  eq : q = { p with ram := q.ram, ring := q.ring, lost := q.lost, seq := q.seq, rais550 := q.rais550 }

theorem Logged.refl (p : Pln) : Logged p p := ⟨rfl⟩

theorem Logged.trans {p q r : Pln} (h : Logged p q) (k : Logged q r) : Logged p r := ⟨by
  conv_lhs => rw [k.eq, h.eq]⟩

theorem writeRing_logged (p : Pln) : Logged p (writeRing p) := by
  unfold writeRing
  split
  · exact .refl p
  · exact ⟨rfl⟩

theorem flushLog_logged (n : Nat) (p : Pln) : Logged p (flushLog n p) := by
  induction n generalizing p with
  | zero => exact .refl p
  | succ n ih => exact (writeRing_logged p).trans (ih _)

theorem Onward.log {s : State} {q : Pln} (h : Logged s.pln q) : Onward s { s with pln := q } :=
  .beside (by rw [h.eq])

theorem stepThree_onward (s : State) : Onward s (stepThree s) := by
  unfold stepThree
  exact ite_onward (Onward.trans (t := fillUser s) (.beside rfl) (.log (flushLog_logged 32 s.pln))) (.refl s)

theorem passPoint_onward (s : State) : Onward s (passPoint s) := by
  unfold passPoint
  have reach : ∀ u : State, Onward u (modPwr (fun p => { p with reached := p.reached + 1 }) u) := fun u => .beside rfl
  refine Onward.trans ?_ (reach _)
  split
  · exact stepTwo_onward s
  · exact stepThree_onward s
  · exact .refl s

theorem passTo_onward (k : Nat) (s : State) : Onward s (passTo k s) := foldl_onward (fun t _ => passPoint_onward t) _ _

/-! ### The end of an entry, of DOZE -/

theorem sleepDone_onward (i : SetterId) (code : Nat) (point : Option Nat) (s : State) : Onward s (sleepDone i code point s) := by
  unfold sleepDone
  exact (Onward.ofRaised (retire_raised ..)).after rfl

theorem wakeCaller_onward (i : SetterId) (s : State) : Onward s (wakeCaller i s) := by
  unfold wakeCaller
  exact ite_onward ((Onward.ofRaised (settle_raised ..)).after rfl) (.refl s)

/-- A record joins the log; where it is the one that makes 6,144 unread, 550 follows (R323). -/
theorem logRec_cases (code sev src : Nat) (d0 d1 : Word) (s : State) :
    ∃ q, Logged s.pln q ∧
      (logRec code sev src d0 d1 s = { s with pln := q } ∨ logRec code sev src d0 d1 s = raise 550 { s with pln := q }) := by
  have room : Logged s.pln (if 32 ≤ s.pln.ram.length then writeRing s.pln else s.pln) := by
    split
    · exact writeRing_logged _
    · exact .refl _
  unfold logRec
  generalize (if 32 ≤ s.pln.ram.length then writeRing s.pln else s.pln) = p at room ⊢
  simp only
  split
  · exact ⟨_, room.trans ⟨rfl⟩, .inr rfl⟩
  · exact ⟨_, room.trans ⟨rfl⟩, .inl rfl⟩

theorem logRec_onward (code sev src : Nat) (d0 d1 : Word) (s : State) : Onward s (logRec code sev src d0 d1 s) := by
  obtain ⟨q, hq, h | h⟩ := logRec_cases code sev src d0 d1 s
  · rw [h]
    exact .log hq
  · rw [h]
    exact (Onward.log hq).trans (raise_onward _ _)

theorem endDoze_onward (s : State) : Onward s (endDoze s) := by
  have rest : Onward s (logPower 555 0 (raise 555 (modPwr (fun p => { p with state := 0 }) (restartClocks s)))) :=
    ((raise_onward _ _).trans (logRec_onward ..)).after rfl
  unfold endDoze
  simp only
  split
  · exact rest.trans (wakeCaller_onward ..)
  · exact rest

theorem abortEntry_onward (point : Nat) (s : State) : Onward s (abortEntry point s) := by
  unfold abortEntry
  simp only
  have undone : ∀ u t : State, Onward s u → Onward s (match t.pwr.caller with
      | some i => sleepDone i 8 (some point) (modPwr (fun p => { p with caller := none }) u)
      | none => u) := by
    intro u t h
    split
    · exact h.trans ((sleepDone_onward ..).after rfl)
    · exact h
  refine undone _ _ ((passTo_onward point s).trans (.trans ?_ (raise_onward 553 _)))
  exact ite_onward (.beside rfl) (ite_onward (.beside rfl) (.beside rfl))

/-! ### An active source -/

theorem usedFree_onward (s : State) : Onward s s.usedFree := .beside rfl

/-- What an activation does once its sources are flagged (R338, R340). -/
def afterFlag (s : State) : State :=
  let p := s.pwr
  if p.inflight && !p.waking then
    let last := lastPoint p.target
    if p.reached.toNat = last then s else
    let from_ := if p.reached = 0 then 0 else p.reached.toNat + 1
    let late := if p.reached = 0 && !stopsReady s then 0 else 1
    let k := from_ + Config.freeCost s.free % (last + 1 + late - from_)
    if k ≤ last then abortEntry k s.usedFree
    else passTo last s.usedFree
  else if p.state = 1 && !p.inflight then endDoze s
  else s

/-- The flags of an activation. -/
def flagged (m : BitVec 20) (s : State) : State := modPwr (fun p => { p with wakesrc := p.wakesrc ||| (m &&& p.wakeen) }) s

theorem activate_eq (m : BitVec 20) (s : State) : activate m s = if m &&& s.pwr.wakeen = 0 then s else afterFlag (flagged m s) := rfl

theorem afterFlag_onward (s : State) : Onward s (afterFlag s) := by
  unfold afterFlag
  simp only
  refine ite_onward (ite_onward (.refl s) (ite_onward ?_ ?_)) (ite_onward (endDoze_onward s) (.refl s))
  · exact (usedFree_onward s).trans (abortEntry_onward ..)
  · exact (usedFree_onward s).trans (passTo_onward ..)

/-- Enabled sources are flagged, whatever follows, and no pending bit clears (R340). -/
theorem activate_flags (m : BitVec 20) (s : State) :
    (activate m s).pwr.wakesrc = s.pwr.wakesrc ||| (m &&& s.pwr.wakeen) ∧ ∀ n, pendBit s n = true → pendBit (activate m s) n = true := by
  rw [activate_eq]
  by_cases h : m &&& s.pwr.wakeen = 0
  · rw [if_pos h, h]
    exact ⟨BitVec.or_zero.symm, fun _ hn => hn⟩
  · rw [if_neg h]
    have after := afterFlag_onward (flagged m s)
    exact ⟨after.wakesrc, after.pend⟩

/-! ### The raise of a wake source -/

theorem raiseWake_wakes {n : Source} {s : State} (h : wakeSource s n.val = true) :
    pendBit (raiseWake n.val s) n.val = true ∧ (raiseWake n.val s).pwr.wakesrc.getLsbD 18 = true := by
  have hen : s.pwr.wakeen.getLsbD 18 = true := by
    simp only [wakeSource, Bool.and_eq_true] at h
    exact h.2
  have heq : raiseWake n.val s = activate (BitVec.ofNat 20 (2 ^ 18)) (raise n.val s) := if_pos h
  obtain ⟨hsrc, hpend⟩ := activate_flags (BitVec.ofNat 20 (2 ^ 18)) (raise n.val s)
  rw [heq]
  refine ⟨hpend _ (raise_pend n.val s n.isLt), ?_⟩
  rw [hsrc, raise_pwr_wakeen, BitVec.getLsbD_or, BitVec.getLsbD_and, hen]
  simp

/-- Settles O24, raise by raise as R26 to R31 tell them apart, then register by register. -/
theorem eventRaises : Obligations.EventRaises := by
  unfold Obligations.EventRaises
  refine ⟨fun s n => ⟨exec_eventRaise_refused, fun h => raises_reserved ((reservedSource_iff n.val).2 h),
    fun b hn hb => raises_stoppedBay b hn hb, fun hr hw => ?_, fun hr hw => ?_⟩,
    fun s m v => ⟨softwareRaise_raises, softwareRaise_above, fun k hk => ⟨?_, fun j hj hw => ?_⟩,
    fun n => ⟨fun hn => ?_, fun hn => ?_⟩⟩⟩
  · obtain ⟨hp, hb⟩ := raiseWake_wakes hw
    exact ⟨_, exec_eventRaise hr, hp, hb⟩
  · have hrow : exec (.eventRaise n) s = .next (raise n.val s) := by rw [exec_eventRaise hr, raiseWake_eq hw]
    rw [hrow]
    refine ⟨fun hp => by rw [raise_again n.val s hp], fun hp hd => ?_, fun hp hd hl hroom => ?_, fun hp hd hrun hroom => ?_, fun hp hd => ?_⟩
    · exact ⟨_, rfl, pending_of_evt n.isLt (by rw [raise_dormant n.val s hp hd]), by rw [raise_dormant n.val s hp hd]; rfl⟩
    · exact ⟨_, rfl, raise_noListener hp hd hw hl hroom⟩
    · exact ⟨_, rfl, raise_pulsed hp hd hw hrun hroom⟩
    · exact ⟨_, rfl, raise_pend n.val s n.isLt, raise_changes hw, (raise_raised n.val s).route, (raise_raised n.val s).note⟩
  · rw [pendingClear_writes hk, writePend_zero]
    rfl
  · rw [pendingClear_writes hk, writePend_one _ _ _ _ _ hj, raiseWake_eq (by exact hw)]
    rfl
  · refine ⟨_, routeWrite_route hn, ?_, fun k hk => ?_, rfl⟩
    · exact (kvGet_putWord _ _ _ _).trans (if_pos rfl)
    · exact (kvGet_putWord _ _ _ _).trans (if_neg hk)
  · refine ⟨_, routeWrite_note hn, ?_, fun k hk => ?_, rfl⟩
    · exact (kvGet_putWord _ _ _ _).trans (if_pos rfl)
    · exact (kvGet_putWord _ _ _ _).trans (if_neg hk)

end Sys2Proof.Proofs
end

section
/-! PROOFS. What an image's tables leave as it was (R273, R274, R283): no record reaches the cells at the chain port or what the boot ROM
checks of the firmware copies, whatever its register writes set off. -/

namespace Sys2Proof.Proofs
open Sys2Proof Sys2Proof.Machine Sys2Proof.Claims

/-- The cells at the chain port and what the boot ROM checks of the firmware copies are as before. -/
structure Carried (s t : State) : Prop where
  cells : t.hod.cells = s.hod.cells
  fw : t.pln.fw = s.pln.fw
  fwSel : t.pln.fwSel = s.pln.fwSel

theorem Carried.trans {s t u : State} (h : Carried s t) (k : Carried t u) : Carried s u :=
  ⟨k.cells.trans h.cells, k.fw.trans h.fw, k.fwSel.trans h.fwSel⟩

/-- A change beside them, or none. -/
theorem Carried.beside {s t : State} (h : (t.hod.cells, t.pln.fw, t.pln.fwSel) = (s.hod.cells, s.pln.fw, s.pln.fwSel)) : Carried s t := by
  simp only [Prod.mk.injEq] at h
  exact ⟨h.1, h.2.1, h.2.2⟩

/-- The same before what is known. -/
theorem Carried.after {s r t : State} (k : Carried r t) (h : (r.hod.cells, r.pln.fw, r.pln.fwSel) = (s.hod.cells, s.pln.fw, s.pln.fwSel)) :
    Carried s t := (Carried.beside h).trans k

theorem Onward.carried {s t : State} (h : Onward s t) : Carried s t := ⟨h.cells, h.fw, h.fwSel⟩

theorem raise_carried (n : Nat) (s : State) : Carried s (raise n s) := (raise_onward n s).carried

theorem ite_carried {s t u : State} {c : Prop} [Decidable c] (h : Carried s t) (k : Carried s u) : Carried s (if c then t else u) := by
  split
  · exact h
  · exact k

theorem foldl_carried {α : Type} {f : State → α → State} (h : ∀ s a, Carried s (f s a)) (l : List α) (s : State) :
    Carried s (l.foldl f s) := by
  induction l generalizing s with
  | nil => exact .beside rfl
  | cons a l ih => exact (h s a).trans (ih _)

/-- What a write that may be refused leaves. -/
structure MayCarry (s : State) (o : Option State) : Prop where
  of : ∀ t, o = some t → Carried s t

theorem MayCarry.none {s : State} : MayCarry s none := ⟨fun _ h => by cases h⟩

theorem MayCarry.some {s t : State} (h : Carried s t) : MayCarry s (some t) := ⟨fun _ e => by cases e; exact h⟩

theorem MayCarry.map {s : State} {o : Option State} {f : State → State} (h : MayCarry s o) (k : ∀ t, Carried t (f t)) :
    MayCarry s (o.map f) := by
  cases o with
  | none => exact .none
  | some t => exact .some ((h.of t rfl).trans (k t))

theorem MayCarry.bind {s : State} {o : Option State} {f : State → Option State} (h : MayCarry s o) (k : ∀ t, MayCarry t (f t)) :
    MayCarry s (o.bind f) := by
  cases o with
  | none => exact .none
  | some t => exact ⟨fun u hu => (h.of t rfl).trans ((k t).of u hu)⟩

theorem ite_mayCarry {s : State} {o p : Option State} {c : Prop} [Decidable c] (h : MayCarry s o) (k : MayCarry s p) :
    MayCarry s (if c then o else p) := by
  split
  · exact h
  · exact k

/-! ### Writes of the blocks -/

theorem modBond_carried (f : Bond → Bond) (s : State) : Carried s (modBond f s) := .beside rfl

theorem modIrs_carried (f : Irs → Irs) (s : State) : Carried s (modIrs f s) := .beside rfl

theorem modPln_carried {f : Pln → Pln} (hf : ∀ p, (f p).fw = p.fw) (hs : ∀ p, (f p).fwSel = p.fwSel) (s : State) : Carried s (modPln f s) :=
  .beside (by rw [modPln, hf, hs])

theorem writeGlb_carries (off : Nat) (v : Word) (s : State) : MayCarry s (writeGlb off v s) := by
  unfold writeGlb
  exact ite_mayCarry .none (ite_mayCarry (.some (.beside rfl)) (ite_mayCarry (.some (.beside rfl)) (ite_mayCarry (.some (.beside rfl)) .none)))

theorem writeKeyLine_carried (k : Nat) (v : Word) (s : State) : Carried s (writeKeyLine k v s) := by
  unfold writeKeyLine
  exact ite_carried (.beside rfl) (.beside rfl)

theorem writeRegion_carries (by_ m r : Nat) (lim : Bool) (v : Word) (s : State) : MayCarry s (writeRegion by_ m r lim v s) := by
  unfold writeRegion
  exact ite_mayCarry .none (ite_mayCarry (.some (.beside rfl)) (ite_mayCarry (.some (.beside rfl)) (.some (.beside rfl))))

theorem writeStr_carries (m off : Nat) (v : Word) (s : State) : MayCarry s (writeStr m off v s) := by
  unfold writeStr
  refine ite_mayCarry .none (ite_mayCarry (ite_mayCarry .none (.some (modBond_carried ..))) (ite_mayCarry (writeRegion_carries ..)
    (ite_mayCarry (.some (.beside rfl)) (ite_mayCarry (.some (.beside rfl)) (ite_mayCarry (.some (.beside rfl))
    (ite_mayCarry (.some (.beside rfl)) ?_))))))
  split
  case h_1 => exact .some (ite_carried (.beside rfl) (.beside rfl))
  case h_3 => exact .some (writeKeyLine_carried ..)
  case h_4 => exact .some (writeKeyLine_carried ..)
  case h_5 => exact .some (writeKeyLine_carried ..)
  case h_6 => exact .some (writeKeyLine_carried ..)
  case h_7 => exact .some (ite_carried (.beside rfl) (.beside rfl))
  case h_12 => exact .none
  all_goals exact .some (.beside rfl)

theorem qcmdMaybe_carried (s : State) : Carried s (qcmdMaybe s) := by
  unfold qcmdMaybe
  exact ite_carried (.beside rfl) (ite_carried ((qcmdDone_onward _).carried.after rfl) (.beside rfl))

theorem whenIdle_carries (f : State → State) (hf : ∀ t, Carried t (f t)) (s : State) : MayCarry s (whenIdle f s) := by
  unfold whenIdle
  exact ite_mayCarry .none (.some ((qcmdMaybe_carried s).trans (hf _)))

theorem writeHod_carries (m off : Nat) (v : Word) (s : State) : MayCarry s (writeHod m off v s) := by
  unfold writeHod
  refine ite_mayCarry .none (ite_mayCarry (.some (.beside rfl)) (ite_mayCarry (.some (.beside rfl)) ?_))
  split
  case h_2 => exact .some (ite_carried (.beside rfl) (.beside rfl))
  case h_3 | h_4 | h_5 | h_6 | h_7 | h_8 =>
    refine whenIdle_carries _ (fun _ => ?_) s
    exact .beside rfl
  case h_17 => exact .none
  all_goals exact .some (.beside rfl)

theorem setTb_carried (b : Bool) (s : State) : Carried s (setTb b s) := by
  unfold setTb
  exact ite_carried (.beside rfl) ((raise_carried _ _).after rfl)

theorem headTb_carried (s : State) : Carried s (headTb s) := by
  unfold headTb
  exact ite_carried (setTb_carried ..) (.beside rfl)

theorem writeIrsCtrl_carried (v : Word) (s : State) : Carried s (writeIrsCtrl v s) := by
  unfold writeIrsCtrl
  exact ite_carried (.beside rfl) (ite_carried ((setTb_carried _ _).after rfl) ((headTb_carried _).after rfl))

theorem writeTbper_carried (n : BitVec 14) (s : State) : Carried s (writeTbper n s) := by
  unfold writeTbper
  exact ite_carried ((headTb_carried _).after rfl) (.beside rfl)

theorem chainSwap_carried (s : State) : Carried s (chainSwap s) := by
  unfold chainSwap
  refine ite_carried (.beside rfl) ?_
  split
  exact (Onward.ofRaised (raiseIf_raised ..)).carried.after rfl

theorem setBypassed_carried (n : BitVec 8) (s : State) : Carried s (setBypassed n s) := by
  unfold setBypassed
  exact (Onward.ofRaised (raiseIf_raised ..)).carried.after rfl

theorem sendEnum_carried (keep : Bool) (s : State) : Carried s (sendEnum keep s) := by
  unfold sendEnum
  generalize hs : { s with free := s.free + 2 } = u
  have start : Carried s u := hs ▸ (.beside rfl)
  exact start.trans ((setBypassed_carried _ u).trans ((headTb_carried _).after rfl))

theorem queueHead_carried (c : Cell) (s : State) : Carried s (queueHead c s) := .beside rfl

theorem headCommand_carried (code : Nat) (s : State) : Carried s (headCommand code s) := by
  unfold headCommand
  refine ite_carried (.beside rfl) ?_
  split
  · exact sendEnum_carried ..
  · exact sendEnum_carried ..
  · exact ((modIrs_carried _ s).trans (raise_carried 484 _)).trans ((queueHead_carried ..).trans (queueHead_carried ..))
  · exact .beside rfl

theorem writeIrs_carries (off : Nat) (v : Word) (s : State) : MayCarry s (writeIrs off v s) := by
  unfold writeIrs
  refine ite_mayCarry .none (ite_mayCarry .none (ite_mayCarry (ite_mayCarry .none (.some (modIrs_carried ..)))
    (ite_mayCarry (.some (modIrs_carried ..)) (ite_mayCarry (.some (modIrs_carried ..)) ?_))))
  split
  case h_1 => exact .some (writeIrsCtrl_carried ..)
  case h_8 => exact .some (writeTbper_carried ..)
  case h_15 => exact .some (ite_carried (chainSwap_carried s) (.beside rfl))
  case h_18 => exact .some (headCommand_carried ..)
  case h_19 => exact .none
  all_goals exact .some (.beside rfl)

theorem logRec_carried (code sev src : Nat) (d0 d1 : Word) (s : State) : Carried s (logRec code sev src d0 d1 s) :=
  (logRec_onward ..).carried

theorem writeImg_carries (m off : Nat) (v : Word) (s : State) : MayCarry s (writeImg m off v s) := by
  unfold writeImg
  refine ite_mayCarry (ite_mayCarry (.some ?_) .none) ?_
  · unfold writeBoot
    exact ite_carried (.beside rfl) ((logRec_carried ..).after rfl)
  · cases readImg off s with
    | none => exact .none
    | some r => exact .some (.beside rfl)

theorem writeRpt_carries (m off : Nat) (v : Word) (s : State) : MayCarry s (writeRpt m off v s) := by
  unfold writeRpt
  refine ite_mayCarry .none (ite_mayCarry (ite_mayCarry .none (ite_mayCarry (.some (.beside rfl)) (.some (.beside rfl)))) (ite_mayCarry .none ?_))
  split
  case h_1 => exact ite_mayCarry (.some (.beside rfl)) .none
  case h_4 => exact .some (ite_carried (.beside rfl) (.beside rfl))
  case h_6 => exact .none
  all_goals exact .some (.beside rfl)

theorem activate_carried (m : BitVec 20) (s : State) : Carried s (activate m s) := by
  rw [activate_eq]
  exact ite_carried (.beside rfl) ((afterFlag_onward _).carried.after rfl)

theorem askState_carried (st : Nat) (caller : Option SetterId) (s : State) : Carried s (askState st caller s).2 := by
  unfold askState
  simp only
  split
  · exact .beside rfl
  · split
    · exact .beside rfl
    · split
      · exact .beside rfl
      · exact ite_carried (.beside rfl) ((abortEntry_onward ..).carried.after rfl)

theorem askResume_carried (s : State) : Carried s (askResume s).2 := by
  unfold askResume
  split
  · exact .beside rfl
  · split
    · exact .beside rfl
    · split
      · exact (endDoze_onward s).carried
      · exact .beside rfl

theorem writeReq_carried (v : Word) (s : State) : Carried s (writeReq v s) := by
  unfold writeReq
  have res : ∀ (st : Nat) (r : Nat × State), Carried s r.2 →
      Carried s (if r.1 = 0 ∧ r.2.pwr.result = 8 ∧ st ≠ 0 ∧ !r.2.pwr.inflight then r.2
      else modPwr (fun p => { p with result := BitVec.ofNat 4 r.1 }) r.2) := fun st r h => ite_carried h (h.trans (.beside rfl))
  refine ite_carried (ite_carried (res _ (2, s) (.beside rfl)) (res _ _ (askResume_carried s))) (ite_carried (.beside rfl) (res _ _ ?_))
  exact (askState_carried ..).after rfl

theorem writeWakeen_carried (v : Word) (levels : BitVec 16) (s : State) : Carried s (writeWakeen v levels s) := by
  unfold writeWakeen
  exact ite_carried ((activate_carried _ _).after rfl) (.beside rfl)

theorem writeWakepol_carried (v : Word) (levels : BitVec 16) (s : State) : Carried s (writeWakepol v levels s) := by
  unfold writeWakepol
  exact ite_carried ((activate_carried _ _).after rfl) (.beside rfl)

theorem writeWtimer_carried (v : Word) (s : State) : Carried s (writeWtimer v s) := by
  unfold writeWtimer
  exact ite_carried ((activate_carried _ _).after rfl) (.beside rfl)

theorem writeBoctl_carried (v : Word) (s : State) : Carried s (writeBoctl v s) := by
  unfold writeBoctl
  exact ite_carried (.beside rfl) (ite_carried (.beside rfl) (ite_carried (.beside rfl) (.beside rfl)))

theorem writePwr_carries (off : Nat) (v : Word) (e : WriteEnv) (s : State) : MayCarry s (writePwr off v e s) := by
  unfold writePwr
  refine ite_mayCarry .none (ite_mayCarry (.some (.beside rfl)) (ite_mayCarry (.some (.beside rfl)) ?_))
  split
  case h_2 => exact .some (writeReq_carried ..)
  case h_9 => exact .some (writeWakeen_carried ..)
  case h_10 => exact .some (writeWakepol_carried ..)
  case h_12 => exact .some (writeWtimer_carried ..)
  case h_14 => exact .some (writeBoctl_carried ..)
  case h_15 => exact .none
  all_goals exact .some (.beside rfl)

theorem writeBst_carries (off : Nat) (v : Word) (s : State) : MayCarry s (writeBst off v s) := by
  unfold writeBst
  refine ite_mayCarry .none (ite_mayCarry (.some (.beside rfl)) ?_)
  split
  · exact .some (.beside rfl)
  · exact .some (.beside rfl)
  · exact .some (ite_carried (.beside rfl) (.beside rfl))
  · exact .none

theorem writeClk_carries (off : Nat) (v : Word) (s : State) : MayCarry s (writeClk off v s) := by
  unfold writeClk
  refine ite_mayCarry .none (ite_mayCarry ?_ ?_)
  · split
    · exact .some (ite_carried (.beside rfl) (.beside rfl))
    · exact .some (ite_carried (.beside rfl) (.beside rfl))
    · exact .some (.beside rfl)
    · exact .some (.beside rfl)
  · split
    case h_1 => exact .some (ite_carried (.beside rfl) (.beside rfl))
    case h_2 => exact .some (ite_carried (.beside rfl) (.beside rfl))
    case h_6 => exact .none
    all_goals exact .some (.beside rfl)

theorem raiseWake_carried (n : Nat) (s : State) : Carried s (raiseWake n s) := by
  unfold raiseWake
  exact ite_carried ((raise_carried n s).trans (activate_carried ..)) (raise_carried n s)

theorem writeEvt_carries (off : Nat) (v : Word) (e : WriteEnv) (s : State) : MayCarry s (writeEvt raiseWake off v e s) := by
  unfold writeEvt
  refine ite_mayCarry .none (ite_mayCarry (.some (ite_carried (raiseWake_carried ..) (.beside rfl))) (ite_mayCarry (.some ?_)
    (ite_mayCarry (.some (.beside rfl)) (ite_mayCarry (.some (.beside rfl)) .none))))
  unfold writePend
  refine Carried.trans ?_ (foldl_carried (fun t i => ?_) _ _)
  · exact .beside rfl
  · exact ite_carried (raiseWake_carried _ t) (.beside rfl)

theorem writePln_carries (off : Nat) (v : Word) (s : State) : MayCarry s (writePln off v s) := by
  have chg : ∀ f : Pln → Pln, (∀ p, (f p).fw = p.fw) → (∀ p, (f p).fwSel = p.fwSel) → MayCarry s (some (modPln f s)) :=
    fun f hf hs => .some (modPln_carried hf hs s)
  have same : MayCarry s (some s) := .some (.beside rfl)
  unfold writePln
  refine ite_mayCarry .none (ite_mayCarry same (ite_mayCarry (ite_mayCarry same .none) (ite_mayCarry (chg _ (fun _ => rfl) fun _ => rfl)
    (ite_mayCarry same (ite_mayCarry same (ite_mayCarry same (ite_mayCarry (chg _ (fun _ => rfl) fun _ => rfl)
    (ite_mayCarry (chg _ (fun _ => rfl) fun _ => rfl) (ite_mayCarry same (ite_mayCarry (chg _ (fun _ => rfl) fun _ => rfl)
    (ite_mayCarry same ?_)))))))))))
  split
  case h_1 => exact chg _ (fun _ => rfl) fun _ => rfl
  case h_4 => exact ite_mayCarry same (chg _ (fun _ => rfl) fun _ => rfl)
  case h_5 => exact chg _ (fun _ => rfl) fun _ => rfl
  case h_6 => exact chg _ (fun _ => rfl) fun _ => rfl
  case h_9 => exact .none
  all_goals exact same

theorem modBay_carried (b : BayId) (f : Bay → Bay) (s : State) : Carried s (s.modBay b f) := .beside rfl

theorem writeRst_carried (b : BayId) (v : BitVec 4) (s : State) : Carried s (writeRst b v s) := by
  unfold writeRst
  refine (modBay_carried b _ s).trans (foldl_carried (fun t n => ?_) _ _)
  exact ite_carried (modBay_carried ..) (modBay_carried ..)

theorem writeBay_carries (b : BayId) (off : Nat) (v : Word) (s : State) : MayCarry s (writeBay b off v s) := by
  have same : MayCarry s (some s) := .some (.beside rfl)
  have chg : ∀ f : Bay → Bay, MayCarry s (some (s.modBay b f)) := fun f => .some (modBay_carried b f s)
  unfold writeBay
  exact ite_mayCarry .none (ite_mayCarry (.some (ite_carried (modBay_carried ..) (.beside rfl))) (ite_mayCarry (chg _)
    (ite_mayCarry (.some (writeRst_carried ..)) (ite_mayCarry same (ite_mayCarry (chg _) (ite_mayCarry same (ite_mayCarry same .none)))))))

theorem modS_carried (i : SetterId) (f : Setter → Setter) (s : State) : Carried s (s.modS i f) := .beside rfl

theorem stateWrite_carries (i : SetterId) (s : State) (f : Setter → Setter) : MayCarry s (stateWrite i s f) := by
  unfold stateWrite
  exact ite_mayCarry (.some (modS_carried ..)) .none

theorem writeTimer_carries (i : SetterId) (t : TimerId) (sub : Nat) (v : Word) (s : State) : MayCarry s (writeTimer i t sub v s) := by
  unfold writeTimer
  split
  · exact stateWrite_carries ..
  · exact stateWrite_carries ..
  · exact stateWrite_carries ..
  · exact .none

theorem startSetter_carried (i : SetterId) (v : BitVec 256) (run : Bool) (s : State) : Carried s (startSetter i v run s) := by
  unfold startSetter
  refine Carried.trans ?_ (modS_carried ..)
  exact ite_carried (modS_carried ..) (.beside rfl)

theorem stopRequest_carried (i : SetterId) (own : Bool) (s : State) : Carried s (stopRequest i own s) := by
  unfold stopRequest
  exact ite_carried (modS_carried ..) (ite_carried (modS_carried ..) (Onward.ofRaised (stopSetter_raised ..)).carried)

theorem srst_carried (i : SetterId) (v : BitVec 256) (s : State) : Carried s (srst i v s) := by
  unfold srst
  exact ite_carried (.beside rfl) ((Onward.ofRaised (raiseIf_raised ..)).carried.after rfl)

/-- RUN as a write of SET_CTRL leaves it (R67). -/
theorem runWrite_carried (i : SetterId) (own c d : Bool) (v : BitVec 256) (s : State) : Carried s (if c then
    (if d then startSetter i v true s else s.modS i (fun x => { x with run := true })) else stopRequest i own s) :=
  ite_carried (ite_carried (startSetter_carried ..) (modS_carried ..)) (stopRequest_carried ..)

theorem writeCtrl_carried (i : SetterId) (own : Bool) (v : Word) (nets : BitVec 256) (s : State) : Carried s (writeCtrl i own v nets s) := by
  unfold writeCtrl
  refine ite_carried (modS_carried ..) ?_
  have rest : ∀ u : State, Carried s u → Carried s (if v.getLsbD 31 then srst i (sampleTaps i nets s) u
      else if v.getLsbD 7 && (s.st i).stopped && !v.getLsbD 0 then startSetter i (sampleTaps i nets s) false u else u) :=
    fun u h => ite_carried (h.trans (srst_carried ..)) (ite_carried (h.trans (startSetter_carried ..)) h)
  exact rest _ ((modS_carried i _ s).trans (runWrite_carried i own (v.getLsbD 0) (s.st i).stopped _ _))

theorem writePm_carries (i : SetterId) (v : Word) (s : State) : MayCarry s (writePm i v s) := by
  unfold writePm
  exact ite_mayCarry (.some (.beside rfl)) .none

theorem writeSet_carries (m : Nat) (i : SetterId) (off : Nat) (v : Word) (e : WriteEnv) (s : State) : MayCarry s (writeSet m i off v e s) := by
  have chg : ∀ f : Setter → Setter, MayCarry s (some (s.modS i f)) := fun f => .some (modS_carried i f s)
  have state := stateWrite_carries i s
  unfold writeSet
  refine ite_mayCarry .none (ite_mayCarry (state _) (ite_mayCarry .none (ite_mayCarry (state _) (ite_mayCarry (.some (.beside rfl)) ?_))))
  split
  · exact writeTimer_carries ..
  · refine ite_mayCarry .none ?_
    split
    · exact state _
    · split
      case h_1 => exact .some (writeCtrl_carried ..)
      case h_2 => exact chg _
      case h_5 => exact chg _
      case h_6 => exact chg _
      case h_7 => exact chg _
      case h_8 => exact chg _
      case h_9 => exact ite_mayCarry (chg _) .none
      case h_10 => exact chg _
      case h_15 => exact chg _
      case h_16 => exact chg _
      case h_17 => exact chg _
      case h_3 => exact state _
      case h_4 => exact state _
      case h_11 => exact state _
      case h_12 => exact state _
      case h_13 => exact state _
      case h_14 => exact state _
      case h_18 => exact writePm_carries ..
      case h_26 => exact .none
      all_goals exact .some (.beside rfl)

theorem writeIob_carries (k : Bank) (off : Nat) (v : Word) (s : State) : MayCarry s (writeIob k off v s) := by
  unfold writeIob
  refine ite_mayCarry .none (ite_mayCarry (.some (ite_carried (.beside rfl) (.beside rfl)))
    (ite_mayCarry (.some (ite_carried (.beside rfl) (.beside rfl)))
    (ite_mayCarry (.some ?_) .none)))
  exact Carried.trans (t := (latchKeepers s).usedFree) (.beside rfl) (.beside rfl)

/-- Whatever a register write of the image sets off (R273). -/
theorem blockWrite_carries (m : Nat) (b : Block) (off : Nat) (v : Word) (e : WriteEnv) (s : State) :
    MayCarry s (blockWrite m b off v e s) := by
  cases b with
  | glb => exact writeGlb_carries ..
  | str => exact writeStr_carries ..
  | hod => exact writeHod_carries ..
  | irs => exact writeIrs_carries ..
  | hst => exact ite_mayCarry (.some (.beside rfl)) .none
  | img => exact writeImg_carries ..
  | rpt => exact writeRpt_carries ..
  | pwr => exact writePwr_carries ..
  | bst => exact writeBst_carries ..
  | clk => exact writeClk_carries ..
  | evt => exact writeEvt_carries ..
  | pln => exact writePln_carries ..
  | bay b => exact writeBay_carries ..
  | set i => exact ite_mayCarry .none (writeSet_carries ..)
  | iob k => exact writeIob_carries ..

/-! ### The tables -/

theorem tablePll_carries (off : Nat) (v : Word) (s : State) : MayCarry s (tablePll off v s) := by
  unfold tablePll
  exact ite_mayCarry .none (.some (.beside rfl))

theorem tableWrite_carries (a : Nat) (v : Word) (s : State) : MayCarry s (tableWrite a v s) := by
  unfold tableWrite
  refine ite_mayCarry .none ?_
  split
  · next b off _ =>
    refine ite_mayCarry .none (ite_mayCarry (tablePll_carries ..) (.map ?_ fun t => ?_))
    · exact ⟨fun t ht => ((blockWrite_carries ..).of t ht).after rfl⟩
    · cases b <;> exact .beside rfl
  · exact .none

theorem tableWrites_carries (l : List (Nat × Word)) (s : State) : MayCarry s (tableWrites l s) := by
  induction l generalizing s with
  | nil => exact .some (.beside rfl)
  | cons w l ih => exact (tableWrite_carries w.1 w.2 s).bind ih

theorem tapMap_carries (pay : Mem) (r : TableRec) (s : State) : MayCarry s (tapMap pay r s) := by
  unfold tapMap
  simp only
  split
  · exact ite_mayCarry (.some (modS_carried ..)) .none
  · exact .none

theorem setterTable_carries (pay : Mem) (r : TableRec) (s : State) : MayCarry s (setterTable pay r s) := by
  unfold setterTable
  simp only
  split
  · exact ite_mayCarry (.some (.beside rfl)) .none
  · exact .none

theorem applyRecord_carries (pay : Mem) (r : TableRec) (s : State) : MayCarry s (applyRecord pay r s) := by
  unfold applyRecord
  split
  · exact ite_mayCarry (tableWrites_carries ..) .none
  · exact tapMap_carries ..
  · exact setterTable_carries ..
  · exact ite_mayCarry (.some (.beside rfl)) .none
  · exact ite_mayCarry (.some (.beside rfl)) .none
  · exact ite_mayCarry (.some (.beside rfl)) .none
  · exact ite_mayCarry (.some (.beside rfl)) .none
  · exact .none

theorem applyRecords_carries (pay : Mem) (l : List TableRec) (s : State) : MayCarry s (applyRecords pay l s) := by
  induction l generalizing s with
  | nil => exact .some (.beside rfl)
  | cons r l ih => exact (applyRecord_carries pay r s).bind ih

theorem tablesEnd_carries (pay : Mem) (s : State) : MayCarry s (tablesEnd pay s) := by
  unfold tablesEnd
  split
  · exact ite_mayCarry (.some (.beside rfl)) .none
  · exact .none

theorem applyTables_carries (x : Slot) (s : State) : MayCarry s (applyTables x s) := by
  unfold applyTables
  split
  · exact .none
  · refine ite_mayCarry (MayCarry.bind ?_ (tablesEnd_carries x.payload)) .none
    exact ⟨fun t ht => ((applyRecords_carries ..).of t ht).after rfl⟩

/-- The device as a load's reset and the image's tables leave it has no cell at the chain port, and the firmware copies of before. -/
theorem tableState_carried (s : State) :
    (tableState s).hod.cells = [] ∧ (tableState s).pln.fw = s.pln.fw ∧ (tableState s).pln.fwSel = s.pln.fwSel := by
  unfold tableState
  generalize hb : loadReset { s with pln := { keepPln s.pln with i2caddr := s.pln.i2caddr }, bst := Bst.reset } = base
  have start : base.hod.cells = [] ∧ base.pln.fw = s.pln.fw ∧ base.pln.fwSel = s.pln.fwSel := by
    rw [← hb]
    exact ⟨rfl, rfl, rfl⟩
  simp only
  split
  · exact start
  · cases h : applyTables (baySlot s 0) base with
    | none => exact start
    | some t =>
      obtain ⟨hc, hf, hs⟩ := (applyTables_carries _ _).of t h
      exact ⟨hc.trans start.1, hf.trans start.2.1, hs.trans start.2.2⟩

end Sys2Proof.Proofs
end

section
/-! PROOFS. Wake sources and their registers (R338, R340): what an activation leaves in RUN, in DOZE and during an entry to DOZE. -/

namespace Sys2Proof.Proofs
open Sys2Proof Sys2Proof.Machine Sys2Proof.Claims

/-! ### Raises and log records -/

/-- All that raises of sources that wake nothing, and log records, change: pending bits (none is cleared), setters, the chain's own cells
and its record of those sent, free values, the log. -/
structure Told (s t : State) : Prop where
  eq : t = { s with evt := t.evt, setters := t.setters, irs := { s.irs with own := t.irs.own, sent := t.irs.sent }, free := t.free,
                    pln := t.pln }
  log : Logged s.pln t.pln
  heard : HeardAll s t
  pend : ∀ n, pendBit s n = true → pendBit t n = true

theorem Told.refl (s : State) : Told s s := ⟨rfl, .refl _, .refl s, fun _ h => h⟩

theorem Told.trans {s t u : State} (h : Told s t) (k : Told t u) : Told s u := by
  refine ⟨?_, h.log.trans k.log, h.heard.trans k.heard, fun n hn => k.pend n (h.pend n hn)⟩
  rw [k.eq]
  conv_lhs => rw [h.eq]

theorem raise_told {n : Nat} {s : State} (h : wakeSource s n = false) : Told s (raise n s) := by
  refine ⟨?_, ?_, raise_heard n s, (raise_raised n s).pend⟩
  · conv_lhs => rw [(raise_raised n s).eq, raise_pwr h]
    rw [raise_pln]
  · rw [raise_pln]
    exact .refl _

/-- The power controller's own sources are none. -/
theorem wakeSource_high (s : State) {n : Nat} (h : 544 ≤ n) : wakeSource s n = false := by
  simp [wakeSource, show ¬n < 544 by omega]

theorem logRec_told (code sev src : Nat) (d0 d1 : Word) (s : State) : Told s (logRec code sev src d0 d1 s) := by
  obtain ⟨q, hq, h⟩ := logRec_cases code sev src d0 d1 s
  have log : Told s { s with pln := q } := ⟨rfl, hq, .of_setters rfl, fun _ h => h⟩
  rcases h with h | h
  · rw [h]
    exact log
  · rw [h]
    exact log.trans (raise_told (wakeSource_high _ (by decide)))

/-! ### An activation -/

theorem flagged_eq (m : BitVec 20) (s : State) :
    flagged m s = withPwr s { s.pwr with wakesrc := s.pwr.wakesrc ||| (m &&& s.pwr.wakeen) } := rfl

/-- With no entry in progress and not in DOZE nothing follows the flags. -/
theorem afterFlag_still {s : State} (hi : s.pwr.inflight = false) (hs : s.pwr.state ≠ 1) : afterFlag s = s := by
  rw [afterFlag, if_neg (by simp [hi]), if_neg (by rw [decide_eq_false hs, Bool.false_and]; decide)]

theorem activate_still {m : BitVec 20} {s : State} (hi : s.pwr.inflight = false) (hs : s.pwr.state ≠ 1) : activate m s = flagged m s := by
  rw [activate_eq, afterFlag_still (s := flagged m s) hi hs]
  by_cases h : m &&& s.pwr.wakeen = 0
  · rw [if_pos h, flagged_eq, h, show s.pwr.wakesrc ||| 0 = s.pwr.wakesrc from BitVec.or_zero]
    rfl
  · rw [if_neg h]

theorem inRun_still {s : State} (h : InRun s) : s.pwr.inflight = false ∧ s.pwr.state ≠ 1 := ⟨h.2.2, by rw [h.2.1]; decide⟩

/-- The bit of one source is the source itself where it is enabled. -/
theorem sourceBit_and {k : Fin 20} {w : BitVec 20} (h : w.getLsbD k.val = true) :
    BitVec.ofNat 20 (2 ^ k.val) &&& w = BitVec.ofNat 20 (2 ^ k.val) := by
  apply BitVec.eq_of_getLsbD_eq
  intro i _
  rw [BitVec.getLsbD_and, BitVec.getLsbD_ofNat, Nat.testBit_two_pow]
  by_cases hi : k.val = i
  · rw [← hi, h, Bool.and_true]
  · simp [hi]

theorem sourceBit_ne_zero (k : Fin 20) : BitVec.ofNat 20 (2 ^ k.val) ≠ 0 := by
  revert k
  decide

theorem activate_enabled {k : Fin 20} {s : State} (h : s.pwr.wakeen.getLsbD k.val = true) :
    activate (BitVec.ofNat 20 (2 ^ k.val)) s = afterFlag (withPwr s { s.pwr with wakesrc := s.pwr.wakesrc ||| BitVec.ofNat 20 (2 ^ k.val) }) := by
  rw [activate_eq, flagged_eq, sourceBit_and h, if_neg (sourceBit_ne_zero k)]

theorem exec_wakeSourceActive {k : Fin 20} {s : State} (hl : sourceLive k.val s = true) (hr : s.pwr.stage = .run) :
    exec (.wakeSourceActive k) s = .next (activate (BitVec.ofNat 20 (2 ^ k.val)) s) := by
  show Host.Outcome.next (if sourceLive k.val s && s.pwr.stage == .run then _ else _) = _
  rw [hl, hr]
  rfl

/-! ### DOZE -/

/-- A fold that leaves a part of the state as it is. -/
theorem foldl_same {α β : Type} (g : State → β) {f : State → α → State} (h : ∀ s a, g (f s a) = g s) (l : List α) (s : State) :
    g (l.foldl f s) = g s := by
  induction l generalizing s with
  | nil => rfl
  | cons a l ih => exact (ih _).trans (h s a)

theorem restartClocks_st (s : State) (i : SetterId) : (restartClocks s).st i = { s.st i with dozed := false } :=
  Vector.getElem_map ..

theorem endDoze_eq {s : State} (h : s.pwr.caller = none) :
    endDoze s = logPower 555 0 (raise 555 (modPwr (fun p => { p with state := 0 }) (restartClocks s))) := by
  unfold endDoze
  simp only [h]

/-- The end of DOZE that no setter waits for (R333, R341). -/
theorem endDoze_told {s : State} (h : s.pwr.caller = none) :
    Told (modPwr (fun p => { p with state := 0 }) (restartClocks s)) (endDoze s) ∧ pendBit (endDoze s) 555 = true := by
  rw [endDoze_eq h]
  have log := logRec_told 0x0032 0 555 (valAt 0 0) 0 (raise 555 (modPwr (fun p => { p with state := 0 }) (restartClocks s)))
  exact ⟨(raise_told (wakeSource_high _ (by decide))).trans log, log.pend _ (raise_pend _ _ (by decide))⟩

/-- An enabled source ends DOZE (R333, R340). -/
theorem wakeSourceActive_doze {k : Fin 20} {s : State} (hr : s.pwr.stage = .run) (hs : s.pwr.state = 1) (hi : s.pwr.inflight = false)
    (hc : s.pwr.caller = none) (hl : sourceLive k.val s = true) (he : s.pwr.wakeen.getLsbD k.val = true) :
    ∃ t, exec (.wakeSourceActive k) s = .next t ∧
      t.pwr = { s.pwr with state := 0, wakesrc := s.pwr.wakesrc ||| BitVec.ofNat 20 (2 ^ k.val) } ∧ pendBit t 555 = true ∧
      ∀ i, (t.st i).dozed = false := by
  rw [exec_wakeSourceActive hl hr, activate_enabled he]
  generalize hu : withPwr s { s.pwr with wakesrc := s.pwr.wakesrc ||| BitVec.ofNat 20 (2 ^ k.val) } = u
  have hdoze : afterFlag u = endDoze u := by
    subst hu
    exact (if_neg (by simp [withPwr, hi])).trans (if_pos (by simp [withPwr, hs, hi]))
  obtain ⟨told, h555⟩ := endDoze_told (s := u) (by subst hu; exact hc)
  refine ⟨_, rfl, ?_, hdoze ▸ h555, fun i => ?_⟩
  · rw [hdoze, told.eq]
    subst hu
    rfl
  · rw [hdoze, (told.heard.each i).dozed]
    exact congrArg Setter.dozed (restartClocks_st u i)

/-! ### An entry to DOZE -/

theorem eachSet_same {β : Type} (g : State → β) {f : SetterId → State → State} (h : ∀ i s, g (f i s) = g s) (m : BitVec 16) (s : State) :
    g (eachSet m f s) = g s :=
  foldl_same g (fun t i => by split; exact h i t; rfl) _ s

theorem eachBay_same {β : Type} (g : State → β) {f : BayId → State → State} (h : ∀ b s, g (f b s) = g s) (m : BitVec 64) (s : State) :
    g (eachBay m f s) = g s :=
  foldl_same g (fun t b => by split; exact h b t; rfl) _ s

/-- What step 2 of an entry to DOZE leaves alone: everything but setters and bays (R333). -/
theorem stepTwo_doze {β : Type} (g : State → β) (hset : ∀ s i x, g (s.putS i x) = g s) (hbay : ∀ s b f, g (s.modBay b f) = g s) {s : State}
    (h : s.pwr.target = 1) : g (stepTwo s) = g s := by
  have ht : s.pwr.target.toNat = 1 := by rw [h]; rfl
  unfold stepTwo
  simp only [ht, if_true]
  rw [eachBay_same g fun b s => hbay s b _, eachSet_same g (f := stopSetterClock) fun i s => hset s i _]

/-- The first point of an entry to DOZE is also its last (R337). -/
theorem passTo_doze {s : State} (h : s.pwr.target = 1) (hr : s.pwr.reached = 0) :
    (passTo 1 s).store = s.store ∧ (passTo 1 s).pwr = { s.pwr with reached := 1 } := by
  have h0 : s.pwr.reached.toNat = 0 := by rw [hr]; rfl
  have hpass : passTo 1 s = modPwr (fun p => { p with reached := p.reached + 1 }) (stepTwo s) := by
    have first : passTo 1 s = passPoint s := by
      unfold passTo
      rw [h0]
      rfl
    rw [first]
    unfold passPoint
    simp only [h0]
  rw [hpass]
  refine ⟨stepTwo_doze State.store (fun _ _ _ => rfl) (fun _ _ _ => rfl) h, ?_⟩
  show { (stepTwo s).pwr with reached := (stepTwo s).pwr.reached + 1 } = _
  rw [stepTwo_doze State.pwr (fun _ _ _ => rfl) (fun _ _ _ => rfl) h, hr]
  rfl

/-- An entry to DOZE that no setter waits for is abandoned (R338). -/
theorem abortEntry_doze {s u : State} {point : Nat} (hu : passTo point s = u) (ht : u.pwr.target = 1) (hc : u.pwr.caller = none) :
    (abortEntry point s).store = u.store ∧ pendBit (abortEntry point s) 553 = true ∧
      (abortEntry point s).pwr =
        { u.pwr with inflight := false, target := 0, reached := 0, result := 8, point := BitVec.ofNat 2 point } := by
  obtain ⟨v, hv, hstore, hpwr⟩ : ∃ v : State, abortEntry point s = raise 553 v ∧ v.store = u.store ∧
      v.pwr = { u.pwr with inflight := false, target := 0, reached := 0, result := 8, point := BitVec.ofNat 2 point } := by
    have ht1 : u.pwr.target.toNat = 1 := by rw [ht]; rfl
    unfold abortEntry
    simp only [hu, ht1, if_true]
    split
    · next i h => simp [hc] at h
    · refine ⟨_, rfl, ?_, ?_⟩
      · split <;> rfl
      · split <;> rfl
  rw [hv, raise_store, raise_pwr (wakeSource_high _ (by decide))]
  exact ⟨hstore, raise_pend _ _ (by decide), hpwr⟩

/-- An enabled source cuts an entry to DOZE at a point not yet passed, or lands after the last one (R338). -/
theorem wakeSourceActive_entry {k : Fin 20} {s : State} (hr : s.pwr.stage = .run) (hi : s.pwr.inflight = true) (hw : s.pwr.waking = false)
    (hc : s.pwr.caller = none) (ht : s.pwr.target = 1) (h0 : s.pwr.reached = 0) (hl : sourceLive k.val s = true)
    (he : s.pwr.wakeen.getLsbD k.val = true) :
    ∃ t, exec (.wakeSourceActive k) s = .next t ∧ t.pwr.wakesrc = s.pwr.wakesrc ||| BitVec.ofNat 20 (2 ^ k.val) ∧ t.store = s.store ∧
      ((t.pwr.inflight = false ∧ t.pwr.result = 8 ∧ t.pwr.point.toNat ≤ 1 ∧ pendBit t 553 = true) ∨
        (t.pwr.inflight = true ∧ t.pwr.reached = 1)) := by
  rw [exec_wakeSourceActive hl hr, activate_enabled he]
  generalize hu : withPwr s { s.pwr with wakesrc := s.pwr.wakesrc ||| BitVec.ofNat 20 (2 ^ k.val) } = u
  obtain ⟨p, hup, hp⟩ : ∃ p, u.pwr = p ∧ p = { s.pwr with wakesrc := s.pwr.wakesrc ||| BitVec.ofNat 20 (2 ^ k.val) } :=
    ⟨_, rfl, by rw [← hu]; rfl⟩
  have hstore : u.store = s.store := by rw [← hu]; rfl
  have hus : u.usedFree.pwr = p := hup
  have hsrc : p.wakesrc = s.pwr.wakesrc ||| BitVec.ofNat 20 (2 ^ k.val) := by rw [hp]
  replace hi : p.inflight = true := by rw [hp]; exact hi
  replace hw : p.waking = false := by rw [hp]; exact hw
  replace hc : p.caller = none := by rw [hp]; exact hc
  replace ht : p.target = 1 := by rw [hp]; exact ht
  replace h0 : p.reached = 0 := by rw [hp]; exact h0
  have hlast : lastPoint p.target = 1 := by rw [ht]; rfl
  have hzero : (passTo 0 u.usedFree) = u.usedFree := by
    unfold passTo
    rw [Nat.zero_sub]
    rfl
  obtain ⟨pstore, ppwr⟩ := passTo_doze (s := u.usedFree) (by rw [hus]; exact ht) (by rw [hus]; exact h0)
  obtain ⟨j, hj⟩ : ∃ j, afterFlag u = if j ≤ 1 then abortEntry j u.usedFree else passTo 1 u.usedFree := by
    unfold afterFlag
    simp only [hup, hi, hw, h0, hlast]
    exact ⟨_, rfl⟩
  refine ⟨_, rfl, ?_⟩
  rw [hj]
  by_cases hle : j ≤ 1
  · obtain ⟨v, hv, hvt, hvc, hvs, hvw⟩ : ∃ v, passTo j u.usedFree = v ∧ v.pwr.target = 1 ∧ v.pwr.caller = none ∧ v.store = s.store ∧
        v.pwr.wakesrc = p.wakesrc := by
      refine ⟨_, rfl, ?_⟩
      obtain rfl | rfl : j = 0 ∨ j = 1 := by omega
      · rw [hzero, hus]
        exact ⟨ht, hc, hstore, rfl⟩
      · rw [ppwr, pstore, hus]
        exact ⟨ht, hc, hstore, rfl⟩
    obtain ⟨astore, apend, apwr⟩ := abortEntry_doze hv hvt hvc
    rw [if_pos hle, astore, apwr]
    refine ⟨hvw.trans hsrc, hvs, .inl ⟨rfl, rfl, ?_, apend⟩⟩
    show (BitVec.ofNat 2 j).toNat ≤ 1
    rw [BitVec.toNat_ofNat]
    omega
  · rw [if_neg hle, ppwr, pstore, hus]
    exact ⟨hsrc, hstore, .inr ⟨hi, rfl⟩⟩

/-! ### In RUN -/

/-- In RUN an active source is flagged, and no more (R340). -/
theorem wakeSourceActive_run {k : Fin 20} {s : State} (h : InRun s) (hl : sourceLive k.val s = true) :
    exec (.wakeSourceActive k) s =
      .next (withPwr s { s.pwr with wakesrc := s.pwr.wakesrc ||| (BitVec.ofNat 20 (2 ^ k.val) &&& s.pwr.wakeen) }) := by
  obtain ⟨hi, hs⟩ := inRun_still h
  rw [exec_wakeSourceActive hl h.1, activate_still hi hs, flagged_eq]

theorem wakeTimerExpiry_run {s : State} (h : InRun s) (ha : s.pwr.wtArmed = true) :
    exec .wakeTimerExpiry s = .next (withPwr s { s.pwr with
      wtimer := s.pwr.wtimer &&& 0x80000000#32, wtArmed := false,
      wakesrc := s.pwr.wakesrc ||| (BitVec.ofNat 20 (2 ^ 17) &&& s.pwr.wakeen) }) := by
  obtain ⟨hi, hs⟩ := inRun_still h
  show Host.Outcome.next (if !s.pwr.wtArmed then _ else activate _ (modPwr _ s)) = _
  rw [ha, activate_still (by exact hi) (by exact hs), flagged_eq]
  rfl

/-! ### The registers -/

section
variable {s : State} {m : Master} {v : Word}

theorem blockAddr_pwr (off : Nat) : blockAddr .pwr off = off + 0x20060000 := rfl

theorem placeOf_pwr {off : Nat} (h : off < 0x10000) : placeOf (blockAddr .pwr off) = .reg .pwr off := by
  have ha := blockAddr_pwr off
  rw [placeOf, if_neg (by omega), if_neg (by omega), if_pos (by omega), show (blockAddr .pwr off - 0x20000000) / 0x10000 = 6 by omega,
    show blockAddr .pwr off % 0x10000 = off by omega]
  rfl

/-- A write of a PWR register, at a moment that its command gives. -/
theorem writeAs_pwr {off : Nat} {e : WriteEnv} {t : State} (h : RegOpen s m.val .pwr off true) (hoff : off < 0x10000) (h4 : off % 4 = 0)
    (ht : writePwr off v e s = some t) : writeAs m.val (blockAddr .pwr off) v e s = answeredOk m.val [] t :=
  writeAs_open h (placeOf_pwr hoff) (by rw [blockAddr_pwr]; omega) ht

theorem sourceLive_pin (h : (s.io.bank.get 0).band.isSome = true) : sourceLive 0 s = true := h

/-- PWR_WAKEEN in RUN: pins that stand at their active level are flagged where the enable is set (R340). -/
theorem writeWakeen_run {levels : BitVec 16} (h : InRun s) (hb : (s.io.bank.get 0).band.isSome = true) :
    writeWakeen v levels s = withPwr s { s.pwr with wakeen := field v 19 0, wakesrc := (s.pwr.wakesrc |||
      (field (field v 19 0 &&& ~~~s.pwr.wakeen) 15 0 &&& ~~~(levels ^^^ s.pwr.wakepol)).setWidth 20) &&& field v 19 0 } := by
  obtain ⟨hi, hs⟩ := inRun_still h
  have or_and : ∀ a b c : BitVec 20, (a ||| b) &&& c = (a &&& c) ||| (b &&& c) := fun a b c => by
    apply BitVec.eq_of_getLsbD_eq
    intro i _
    simp only [BitVec.getLsbD_and, BitVec.getLsbD_or, Bool.and_or_distrib_right]
  rw [or_and]
  unfold writeWakeen
  simp only
  rw [if_pos (sourceLive_pin hb), activate_still (by exact hi) (by exact hs), flagged_eq]
  rfl

/-- PWR_WAKEPOL in RUN: a pin that stands at the level that became active is flagged where it is enabled (R340). -/
theorem writeWakepol_run {levels : BitVec 16} (h : InRun s) (hb : (s.io.bank.get 0).band.isSome = true) :
    writeWakepol v levels s = withPwr s { s.pwr with wakepol := field v 15 0, wakesrc := s.pwr.wakesrc |||
      (((field v 15 0 ^^^ s.pwr.wakepol) &&& ~~~(levels ^^^ field v 15 0)).setWidth 20 &&& s.pwr.wakeen) } := by
  obtain ⟨hi, hs⟩ := inRun_still h
  unfold writeWakepol
  simp only
  rw [if_pos (sourceLive_pin hb), activate_still (by exact hi) (by exact hs), flagged_eq]
  rfl

theorem exec_wakeEnableWrite (m : Master) (pol : Bool) (v : Word) (levels : BitVec 16) (s : State) :
    exec (.wakeEnableWrite m pol v levels) s =
      .next (writeAs m.val (blockAddr .pwr (if pol then 0x34 else 0x30)) v ⟨0, 0, levels⟩ s) := rfl

theorem exec_wakeTimerWrite (m : Master) (v : Word) (s : State) :
    exec (.wakeTimerWrite m v) s = .next (writeAs m.val (blockAddr .pwr 0x3C) v (freeEnv s) { s with free := s.free + 2 }) := rfl

/-- A count that is not 0 starts (R340). -/
theorem writeWtimer_count (h : v.toNat % 2 ^ 31 ≠ 0) (s : State) :
    writeWtimer v s = modPwr (fun p => { p with wtimer := v, wtArmed := true }) s := by
  have hf : (field v 30 0).toNat = v.toNat % 2 ^ 31 := by rw [toNat_field, pow_zero, Nat.div_one]
  have hne : field v 30 0 ≠ 0 := fun e => h (by rw [← hf, e]; rfl)
  unfold writeWtimer
  rw [if_neg hne, bne_iff_ne.2 hne]

end

/-! ### The WAKE cell -/

section
variable {s : State} {c : Cell}

theorem arrives_wake (h : Arrives s c 11) : arrives 11 c s = true := by
  obtain ⟨⟨hopen, hre⟩, hkind, hlegal, ⟨haddr, hself⟩, hfresh, -⟩ := h
  have hcls : c.cls = 2 := by
    have : c.cls.toNat = 2 := by simpa [legalTypes] using hlegal
    exact BitVec.eq_of_toNat_eq this
  have hok : typeOk c = true := by
    unfold typeOk
    rw [hkind, hcls]
    rfl
  have hme : forMe s c = true := by
    unfold forMe hasAddr
    rw [← hself, show s.irs.self = ownAddr s.irs from rfl, beq_self_eq_true, Bool.and_true]
    rcases haddr with h | h <;> simp [h]
  have hhop : (s.irs.head && c.hop) = false := by
    rw [Bool.and_eq_false_iff]
    by_contra hn
    simp only [not_or, Bool.not_eq_false] at hn
    exact hfresh hn
  unfold arrives onRing
  rw [hopen, hre, hkind, hok, hme, hhop]
  rfl

/-- A good cell that this device takes does its work; a run of bad ones ends (R234, R244). -/
theorem takeCell_good {good : State → State} (h : Good c) : takeCell c good s = good (withIrs s id) := by
  have hk : crcKind c = .good := if_pos h
  unfold takeCell checkCell
  rw [hk, if_pos rfl]
  rfl

theorem wakeCell_run (h : InRun s) (ha : Arrives s c 11) :
    exec (.wakeCell c) s = .next (withPwr (withIrs s id) { s.pwr with
      wakesrc := s.pwr.wakesrc ||| (BitVec.ofNat 20 (2 ^ 19) &&& s.pwr.wakeen) }) := by
  obtain ⟨hi, hs⟩ := inRun_still h
  have hlive : sourceLive 19 (withIrs s id) = true := by
    show (s.pwr.state != 3) = true
    rw [h.2.1]
    decide
  show Host.Outcome.next (if arrives 11 c s then takeCell c _ s else s) = _
  rw [if_pos (arrives_wake ha), takeCell_good ha.crc, if_pos hlive, activate_still (by exact hi) (by exact hs), flagged_eq]
  rfl

end

end Sys2Proof.Proofs
end

section
/-! PROOFS. Wakes that begin (R22, R341 to R343): an access to a gated domain, the wake from NAP, the wake from DORMANT. -/

namespace Sys2Proof.Proofs
open Sys2Proof Sys2Proof.Machine Sys2Proof.Claims

variable {s : State} {d : Domain} {m : Master}

theorem exec_domainWakeAccess (ha : asleep d s = true) (h3 : s.pwr.state ≠ 3) (hr : s.pwr.stage = .run) :
    exec (.domainWakeAccess m d) s = .next ((startWake d s).respond m.val .waits []) := by
  show Host.Outcome.next (if asleep d s && s.pwr.state != 3 && s.pwr.stage == .run then _ else s) = _
  rw [ha, hr, bne_iff_ne.2 h3]
  rfl

theorem asleep_of_off (h : off d s = true) : asleep d s = true := by
  unfold asleep shut
  rw [h]
  rfl

/-- The wake of a domain has begun (R22, R343). -/
structure WakeBegun (d : Domain) (s t : State) : Prop where
  pwr : t.pwr = { s.pwr with begun := s.pwr.begun ++ [d] }
  bays : t.bays = s.bays
  setters : t.setters = s.setters
  store : t.store = if d = .store then { s.store with retn := false, waking := true } else s.store
  hod : t.hod = if d = .hod then { s.hod with waking := true } else s.hod

/-- The first access to a gated domain (R343). -/
theorem startWake_first (ho : off d s = true) (h3 : s.pwr.state ≠ 3) (hb : s.pwr.begun.contains d = false) :
    WakeBegun d s (startWake d s) := by
  have hc : ¬(!off d s || s.pwr.state == 3 || s.pwr.begun.contains d) = true := by
    rw [ho, hb, beq_false_of_ne h3]
    decide
  unfold startWake
  rw [if_neg hc]
  clear ho hb hc
  cases d <;> exact ⟨rfl, rfl, rfl, rfl, rfl⟩

theorem nth_respond (s : State) (m : Master) (code : RespCode) (data : List Byte) :
    nth (s.respond m.val code data).resp m.val = some ⟨code, data⟩ := by
  have hm := m.isLt
  show nth (nthUpd s.resp m.val _) m.val = _
  rw [nth_nthUpd, if_pos rfl, nth, dif_pos (by omega)]
  rfl

/-- An access to a domain that is on and about to stop waits, and begins no wake (R22, R339). -/
theorem domainWakeAccess_on (ha : asleep d s = true) (ho : off d s = false) (h3 : s.pwr.state ≠ 3) (hr : s.pwr.stage = .run) :
    exec (.domainWakeAccess m d) s = .next { s with resp := s.resp.set m.val ⟨.waits, []⟩ (by omega) } := by
  rw [exec_domainWakeAccess ha h3 hr, startWake_begun (.inr ho)]
  show Host.Outcome.next { s with resp := nthUpd s.resp m.val _ } = _
  rw [nthUpd, dif_pos (by omega)]
  rfl

/-- An access to a gated domain begins its wake, and waits (R22, R343). -/
theorem domainWakeAccess_off (ho : off d s = true) (h3 : s.pwr.state ≠ 3) (hr : s.pwr.stage = .run) (hb : s.pwr.begun.contains d = false) :
    ∃ t, exec (.domainWakeAccess m d) s = .next t ∧ t.pwr = { s.pwr with begun := s.pwr.begun ++ [d] } ∧
      nth t.resp m.val = some ⟨.waits, []⟩ ∧ t.bays = s.bays ∧ t.setters = s.setters ∧
      (d = .store → t.store = { s.store with retn := false, waking := true }) ∧ (d ≠ .store → t.store = s.store) ∧
      (d = .hod → t.hod = { s.hod with waking := true }) ∧ (d ≠ .hod → t.hod = s.hod) := by
  obtain ⟨hpwr, hbays, hsetters, hstore, hhod⟩ := startWake_first ho h3 hb
  exact ⟨_, exec_domainWakeAccess (asleep_of_off ho) h3 hr, hpwr, nth_respond .., hbays, hsetters,
    fun h => hstore.trans (if_pos h), fun h => hstore.trans (if_neg h), fun h => hhod.trans (if_pos h), fun h => hhod.trans (if_neg h)⟩

/-- A domain that is on begins no wake; one that is off begins it, or has. -/
theorem startWake_on (h : off d s = false) : startWake d s = s := startWake_begun (.inr h)

/-- The wake from NAP begins (R341). -/
theorem napWake_begins (h2 : s.pwr.state = 2) (hi : s.pwr.inflight = false) (hw : s.pwr.wakesrc ≠ 0) (hr : s.pwr.stage = .run)
    (hb : s.pwr.begun = []) :
    ∃ t, exec .napWake s = .next t ∧ t.pwr.inflight = true ∧ t.pwr.waking = true ∧ t.pwr.state = 2 ∧ t.store.retn = false ∧
      t.store.waking = (s.store.waking || s.store.retn) ∧ (s.hod.gated = true → t.hod.waking = true) ∧ t.bays = s.bays ∧
      t.setters = s.setters := by
  have hexec : exec .napWake s = .next (startWake .hod (startWake .store
      (modPwr (fun p => { p with inflight := true, waking := true, target := 0 }) s))) := by
    show Host.Outcome.next (if s.pwr.state != 2 || s.pwr.inflight || s.pwr.wakesrc == 0 || s.pwr.stage != .run then s else _) = _
    rw [h2, hi, hr, beq_false_of_ne hw]
    rfl
  generalize hu : modPwr (fun p => { p with inflight := true, waking := true, target := 0 }) s = u at hexec
  have hstate : u.pwr.state ≠ 3 := by
    rw [← hu]
    show s.pwr.state ≠ 3
    rw [h2]
    decide
  have hub : u.pwr.begun = [] := by rw [← hu]; exact hb
  obtain ⟨v, hv, hpwr, hbays, hsetters, hstore, hhod, hbegun⟩ : ∃ v, startWake .store u = v ∧
      v.pwr = { u.pwr with begun := v.pwr.begun } ∧ v.bays = u.bays ∧ v.setters = u.setters ∧
      (v.store.retn = false ∧ v.store.waking = (u.store.waking || u.store.retn)) ∧ v.hod = u.hod ∧ v.pwr.begun.contains .hod = false := by
    refine ⟨_, rfl, ?_⟩
    by_cases ho : Machine.off .store u = true
    · obtain ⟨hpwr, hbays, hsetters, hstore, hhod⟩ := startWake_first ho hstate (by rw [hub]; rfl)
      have hw : (u.store.retn || u.store.waking) = true := ho
      rw [hpwr, hstore, hub]
      exact ⟨rfl, hbays, hsetters, ⟨rfl, by rw [Bool.or_comm, hw]; rfl⟩, hhod, rfl⟩
    · rw [Bool.not_eq_true] at ho
      obtain ⟨hretn, hwaking⟩ := Bool.or_eq_false_iff.1 ho
      rw [startWake_on ho]
      exact ⟨rfl, rfl, rfl, ⟨hretn, by rw [hretn, hwaking]; rfl⟩, rfl, by rw [hub]; rfl⟩
  refine ⟨_, hexec, ?_⟩
  rw [hv]
  have hmarks : v.pwr.inflight = true ∧ v.pwr.waking = true ∧ v.pwr.state = 2 ∧ v.store.retn = false ∧
      v.store.waking = (s.store.waking || s.store.retn) ∧ v.bays = s.bays ∧ v.setters = s.setters ∧ v.hod = s.hod := by
    subst hu
    rw [hpwr]
    exact ⟨rfl, rfl, h2, hstore.1, hstore.2, hbays, hsetters, hhod⟩
  obtain ⟨hinfl, hwaking, hst, hretn, hsw, hb', hs', hh⟩ := hmarks
  by_cases ho : Machine.off .hod v = true
  · obtain ⟨hp, hbs, hss, hst', hhod'⟩ := startWake_first ho (by rw [hst]; decide) hbegun
    rw [hp, hbs, hss, hst', hhod']
    exact ⟨hinfl, hwaking, hst, hretn, hsw, fun _ => rfl, hb', hs'⟩
  · rw [Bool.not_eq_true] at ho
    rw [startWake_on ho]
    refine ⟨hinfl, hwaking, hst, hretn, hsw, fun hg => ?_, hb', hs'⟩
    have : v.hod.gated = false := ho
    rw [hh, hg] at this
    cases this

/-- The wake from DORMANT begins (R342). -/
theorem dormantWake_begins (h3 : s.pwr.state = 3) (hi : s.pwr.inflight = false) (hw : s.pwr.wakesrc ≠ 0) (hr : s.pwr.stage = .run) :
    ∃ t, exec .dormantWake s = .next t ∧ t.pwr = { s.pwr with inflight := true, waking := true, target := 0, on := true } ∧
      t.clk.devOn = true ∧ t.clk.slock = false ∧ t.clk.hlock = false ∧ t.bays = s.bays ∧ t.store = s.store := by
  have hexec : exec .dormantWake s = .next { modPwr (fun p => { p with inflight := true, waking := true, target := 0, on := true }) s with
      clk := dormantClocks s.clk } := by
    show Host.Outcome.next (if s.pwr.state != 3 || s.pwr.inflight || s.pwr.wakesrc == 0 || s.pwr.stage != .run then s else _) = _
    rw [h3, hi, hr, beq_false_of_ne hw]
    rfl
  exact ⟨_, hexec, rfl, rfl, rfl, rfl, rfl, rfl⟩

end Sys2Proof.Proofs
end

section
/-! PROOFS. What each domain holds when it is on again (R334, R341, R344, R346), and every domain together. -/

namespace Sys2Proof.Proofs
open Sys2Proof Sys2Proof.Machine Sys2Proof.Claims

/-! ### A bay -/

theorem modBay_bay (s : State) (b : BayId) (f : Bay → Bay) : (s.modBay b f).bay b = f (s.bay b) := upd_get_same _ _ _

theorem modBay_bay_other (s : State) (b c : BayId) (f : Bay → Bay) (h : b ≠ c) : (s.modBay b f).bay c = s.bay c :=
  upd_get_other _ _ _ _ h

theorem modBay_eq (s : State) (b : BayId) (f : Bay → Bay) : s.modBay b f = s.modBay b (fun _ => f (s.bay b)) := rfl

theorem modBay_modBay (s : State) (b : BayId) (y : Bay) (f : Bay → Bay) :
    (s.modBay b (fun _ => y)).modBay b f = s.modBay b (fun _ => f y) := by
  unfold State.modBay
  simp only [updf, upd_get_same, upd_upd]

/-- Bays changed, and of the setters the latches of their output taps. -/
structure BaysOnly (s t : State) : Prop where
  eq : t = { s with bays := t.bays, setters := t.setters }
  setters : ∀ i, t.st i = { s.st i with olat := (t.st i).olat }

theorem BaysOnly.refl (s : State) : BaysOnly s s := ⟨rfl, fun _ => rfl⟩

theorem BaysOnly.trans {s t u : State} (h : BaysOnly s t) (k : BaysOnly t u) : BaysOnly s u := by
  refine ⟨?_, fun i => ?_⟩
  · rw [k.eq]
    conv_lhs => rw [h.eq]
  · rw [k.setters i]
    conv_lhs => rw [h.setters i]

theorem modBay_baysOnly (s : State) (b : BayId) (f : Bay → Bay) : BaysOnly s (s.modBay b f) := ⟨rfl, fun _ => rfl⟩

theorem modS_olat (s : State) (i : SetterId) (v : Setter → BitVec 256) : BaysOnly s (s.modS i (fun x => { x with olat := v x })) := by
  refine ⟨rfl, fun j => ?_⟩
  by_cases hj : i = j
  · subst hj
    rw [State.modS_st]
  · rw [State.modS_eq, State.putS_st_other _ _ _ _ hj]

theorem refreshTaps_baysOnly (b : BayId) (s : State) : BaysOnly s (refreshTaps b s) ∧ (refreshTaps b s).bays = s.bays := by
  unfold refreshTaps
  generalize List.finRange 4 = l
  induction l generalizing s with
  | nil => exact ⟨.refl s, rfl⟩
  | cons j l ih =>
    rw [List.foldl_cons]
    obtain ⟨h, hb⟩ := ih (s.modS ⟨b.val / 16 * 4 + j.val, by omega⟩ (fun x => { x with olat := x.tapOut.foldl (fun v e =>
      if (field e.2 29 26).toNat = b.val % 16 ∧ e.2.toNat / 2 ^ 30 = 2 then setBit v e.1 (x.obuf.getLsbD e.1) else v) x.olat }))
    exact ⟨(modS_olat s _ _).trans h, hb⟩

/-- A bay reloaded from its plane, its upsets gone, stands with every flip-flop at INIT (R133, R334). -/
theorem reloadBay_eq (b : BayId) (mems : Bool) (s : State) : ∃ y, reloadBay b mems s = s.modBay b (fun _ => y) ∧ y.ffs = [] := by
  have step : ∀ (n : Nat) (u : State), (∃ y, u = s.modBay b (fun _ => y) ∧ y.ffs = [] ∧ y.upset = []) →
      ∃ y, assertReset b n .reinit u = s.modBay b (fun _ => y) ∧ y.ffs = [] ∧ y.upset = [] := by
    rintro n u ⟨y, rfl, hf, hu⟩
    refine ⟨_, modBay_modBay s b y _, ?_, hu⟩
    show resetFfs _ _ _ _ = []
    unfold resetFfs
    rw [if_pos (by show y.upset.isEmpty = true; rw [hu]; rfl)]
    show y.ffs.filter _ = []
    rw [hf]
    rfl
  have all : ∀ (l : List Nat) (u : State), (∃ y, u = s.modBay b (fun _ => y) ∧ y.ffs = [] ∧ y.upset = []) →
      ∃ y, l.foldl (fun t n => assertReset b n .reinit t) u = s.modBay b (fun _ => y) ∧ y.ffs = [] ∧ y.upset = [] := by
    intro l
    induction l with
    | nil => exact fun _ h => h
    | cons n l ih => exact fun u h => ih _ (step n u h)
  unfold reloadBay
  refine (all (List.range 4) _ ?_).imp fun y ⟨hy, hf, _⟩ => ⟨hy, hf⟩
  exact ⟨_, modBay_eq s b _, rfl, rfl⟩

/-- What the tables give a bay that wakes (R346). -/
def bayOn (f : State) (b : BayId) (x : Bay) : Bay :=
  { x with gated := false, lperr := false, lpCount := 0, lpCell := 0, rstSw := (f.bay b).rstSw, probe := (f.bay b).probe,
           rstSrc := Vector.ofFn (fun n : Fin 4 => setBit (x.rstSrc.get n) 1 ((f.bay b).rstSw.getLsbD n.val)),
           rclk := x.rclk.map (fun c => { RClk.settled c with busy := false }) }

theorem wakeBay_gated (f : State) {b : BayId} {s : State} (h : (s.bay b).gated = true) :
    wakeBay f b s = refreshTaps b ((reloadBay b true s).modBay b (bayOn f b)) := if_neg (by simp [h])

theorem wakeBay_on (f : State) {b : BayId} {s : State} (h : (s.bay b).gated = false) : wakeBay f b s = s := if_pos (by simp [h])

/-- A bay that wakes. -/
theorem wakeBay_wakes (f : State) (b : BayId) (s : State) :
    BaysOnly s (wakeBay f b s) ∧ ((wakeBay f b s).bay b).gated = false ∧ ((s.bay b).gated = true → ((wakeBay f b s).bay b).ffs = []) ∧
      ∀ c, b ≠ c → (wakeBay f b s).bay c = s.bay c := by
  by_cases hg : (s.bay b).gated = true
  · obtain ⟨y, hy, hf⟩ := reloadBay_eq b true s
    have heq : wakeBay f b s = refreshTaps b (s.modBay b fun _ => bayOn f b y) := by rw [wakeBay_gated f hg, hy, modBay_modBay]
    obtain ⟨honly, hbays⟩ := refreshTaps_baysOnly b (s.modBay b fun _ => bayOn f b y)
    have hbay : ∀ c, (wakeBay f b s).bay c = (s.modBay b fun _ => bayOn f b y).bay c := fun c => by
      rw [heq]
      exact congrArg (fun v : Vector Bay 64 => v.get c) hbays
    rw [hbay b, modBay_bay]
    refine ⟨?_, rfl, fun _ => hf, fun c hc => (hbay c).trans (modBay_bay_other _ b c _ hc)⟩
    rw [heq]
    exact (modBay_baysOnly s b _).trans honly
  · rw [wakeBay_on f (by simpa using hg)]
    exact ⟨.refl s, by simpa using hg, fun h => absurd h hg, fun _ _ => rfl⟩

/-- All bays. -/
theorem wakeBays_wake (f s : State) :
    BaysOnly s (eachBay (BitVec.allOnes 64) (wakeBay f) s) ∧ ∀ b, ((eachBay (BitVec.allOnes 64) (wakeBay f) s).bay b).gated = false ∧
      ((s.bay b).gated = true → ((eachBay (BitVec.allOnes 64) (wakeBay f) s).bay b).ffs = []) := by
  obtain ⟨honly, hq, -⟩ := foldl_each (get := State.bay) (I := BaysOnly s)
    (Q := fun _ x y => y.gated = false ∧ (x.gated = true → y.ffs = [])) (m := fun b => (BitVec.allOnes 64).getLsbD b.val)
    (fun b u hu => by
      obtain ⟨h1, h2, h3, h4⟩ := wakeBay_wakes f b u
      exact ⟨hu.trans h1, ⟨h2, h3⟩, h4⟩) (List.nodup_finRange 64) (.refl s)
  exact ⟨honly, fun b => hq b (List.mem_finRange b) (by rw [BitVec.getLsbD_allOnes]; exact decide_eq_true b.isLt)⟩

/-! ### A setter -/

theorem seeTb_eq (x : Setter) (tb : Bool) : x.seeTb tb = { x with tblost := (x.seeTb tb).tblost } := by
  unfold Setter.seeTb
  split_ifs <;> rfl

/-- A setter as its record gives it back (R344), between two instructions. -/
structure GivenBack (x : Setter) (r : SetterRec) : Prop where
  g : x.g = r.g
  acc : x.acc = r.acc
  pc : x.pc = r.pc
  wait : x.wait = .none

theorem GivenBack.heard {x y : Setter} {r : SetterRec} (h : GivenBack x r) (k : Heard x y) : GivenBack y r where
  g := (k.idle h.wait).1.trans h.g
  acc := k.acc.trans h.acc
  pc := (k.idle h.wait).2.trans h.pc
  wait := k.wait.elim (·.trans h.wait) id

/-- What wakes of setters change: setters, the records and the caller that they take, and what the raise of a setter's stop changes. -/
structure SettersBack (s t : State) : Prop where
  eq : t = { s with evt := t.evt, setters := t.setters, irs := { s.irs with own := t.irs.own, sent := t.irs.sent }, free := t.free,
                    pwr := { s.pwr with recs := t.pwr.recs, caller := t.pwr.caller } }
  wait : ∀ i, (t.st i).wait = (s.st i).wait ∨ (t.st i).wait = .none

theorem SettersBack.refl (s : State) : SettersBack s s := ⟨rfl, fun _ => .inl rfl⟩

theorem SettersBack.trans {s t u : State} (h : SettersBack s t) (k : SettersBack t u) : SettersBack s u := by
  refine ⟨?_, fun i => (k.wait i).elim (fun e => e ▸ h.wait i) .inr⟩
  rw [k.eq]
  conv_lhs => rw [h.eq]

theorem putS_back {s : State} {i : SetterId} {x : Setter} (h : x.wait = (s.st i).wait ∨ x.wait = .none) : SettersBack s (s.putS i x) := by
  refine ⟨rfl, fun j => ?_⟩
  by_cases hj : i = j
  · subst hj
    rwa [State.putS_st]
  · exact .inl (congrArg Setter.wait (State.putS_st_other s i j x hj))

theorem raise_back {n : Nat} {s : State} (h : n < 512) : SettersBack s (raise n s) := by
  refine ⟨?_, fun i => ((raise_heard n s).each i).wait⟩
  have hp := raise_pwr (wakeSource_low s h)
  have he := (raise_raised n s).eq
  generalize raise n s = t at hp he
  rw [hp] at he ⊢
  exact he

theorem settle_back (i : SetterId) (s : State) :
    SettersBack s (settle i s) ∧ ∀ j, ((settle i s).st j).gated = (s.st j).gated := by
  have hi := i.isLt
  by_cases hr : (s.st i).run = true
  · rw [settle_run i s hr]
    exact ⟨.refl s, fun _ => rfl⟩
  · rw [settle_stopped i s (by simpa using hr), State.modS_eq]
    have stop : SettersBack s (s.putS i { s.st i with stopped := true }) := putS_back (.inl rfl)
    refine ⟨stop.trans (raise_back (by rw [setterSource]; omega)), fun j => ((raise_heard _ _).each j).gated.trans ?_⟩
    by_cases hj : i = j
    · subst hj
      rw [State.putS_st]
    · rw [State.putS_st_other _ _ _ _ hj]

theorem modPwr_putS_modS (p : Pwr → Pwr) (s : State) (i : SetterId) (x : Setter) (f : Setter → Setter) :
    (modPwr p (s.putS i x)).modS i f = modPwr p (s.putS i (f x)) := by
  show modPwr p ((s.putS i x).putS i (f ((s.putS i x).st i))) = _
  rw [State.putS_putS, State.putS_st]

section
variable (f : State) {i : SetterId} (nets : BitVec 256) {s : State}

theorem wakeSetter_on (h : (s.st i).gated = false) : wakeSetter f i nets s = s := if_pos (by simp [h])

theorem wakeSetter_bare (h : (s.st i).gated = true) (hr : s.pwr.recs.get i = none) :
    wakeSetter f i nets s = s.putS i { s.st i with gated := false } := by
  unfold wakeSetter
  rw [if_neg (by simp [h]), hr]
  rfl

/-- A gated setter with a record takes it; the caller of the SLEEP gets its answer (R127, R344). -/
theorem wakeSetter_record {r : SetterRec} (h : (s.st i).gated = true) (hr : s.pwr.recs.get i = some r) :
    ∃ y, GivenBack y r ∧ y.gated = false ∧
      wakeSetter f i nets s = wakeCaller i (modPwr (fun p => { p with recs := upd p.recs i none }) (s.putS i y)) := by
  have heq : wakeSetter f i nets s = wakeCaller i ((initSnap i (sampleTaps i nets (modPwr (fun p => { p with recs := upd p.recs i none })
      (s.putS i ((s.st i).restored r)))) (modPwr (fun p => { p with recs := upd p.recs i none }) (s.putS i ((s.st i).restored r)))).modS i
      (fun x => { x.seeTb s.irs.tbvalid with
        needSnap := (s.st i).needSnap, bkpt0 := (f.st i).bkpt0, bkpt1 := (f.st i).bkpt1, pmaddr := (f.st i).pmaddr })) := by
    unfold wakeSetter
    rw [if_neg (by simp [h])]
    split
    · next e => cases hr.symm.trans e
    · next q e =>
      obtain rfl : r = q := Option.some.inj (hr.symm.trans e)
      rfl
  rw [heq]
  unfold initSnap
  rw [modPwr_putS_modS, modPwr_putS_modS]
  refine ⟨_, ?_, ?_, rfl⟩
  · rw [seeTb_eq]
    exact ⟨rfl, rfl, rfl, rfl⟩
  · rw [seeTb_eq]
    rfl

theorem wakeCaller_other (h : s.pwr.caller ≠ some i) : wakeCaller i s = s := if_neg h

theorem takeRecord_back (i : SetterId) (s : State) : SettersBack s (modPwr (fun p => { p with recs := upd p.recs i none }) s) :=
  ⟨rfl, fun _ => .inl rfl⟩

theorem wakeCaller_back (i : SetterId) (s : State) :
    SettersBack s (wakeCaller i s) ∧ ∀ j, ((wakeCaller i s).st j).gated = (s.st j).gated := by
  unfold wakeCaller
  split
  · have noCaller : SettersBack s (modPwr (fun p => { p with caller := none }) s) := ⟨rfl, fun _ => .inl rfl⟩
    have ok : SettersBack (modPwr (fun p => { p with caller := none }) s)
        ((modPwr (fun p => { p with caller := none }) s).putS i ((s.st i).setReg 0 0)) := putS_back (.inl rfl)
    obtain ⟨back, gated⟩ := settle_back i ((modPwr (fun p => { p with caller := none }) s).putS i ((s.st i).setReg 0 0))
    refine ⟨(noCaller.trans ok).trans back, fun j => (gated j).trans ?_⟩
    by_cases hj : i = j
    · subst hj
      rw [State.putS_st]
      rfl
    · rw [State.putS_st_other _ _ _ _ hj]
      rfl
  · exact ⟨.refl s, fun _ => rfl⟩

/-- A setter that wakes. -/
theorem wakeSetter_wakes (i : SetterId) (s : State) :
    SettersBack s (wakeSetter f i nets s) ∧ ((wakeSetter f i nets s).st i).gated = false ∧
      ∀ j, i ≠ j → ((wakeSetter f i nets s).st j).gated = (s.st j).gated := by
  by_cases hg : (s.st i).gated = true
  · cases hr : s.pwr.recs.get i with
    | none =>
      rw [wakeSetter_bare f nets hg hr]
      refine ⟨putS_back (.inl rfl), ?_, fun j hj => ?_⟩
      · rw [State.putS_st]
      · rw [State.putS_st_other _ _ _ _ hj]
    | some r =>
      obtain ⟨y, hy, hyg, heq⟩ := wakeSetter_record f nets hg hr
      rw [heq]
      have put : SettersBack s (s.putS i y) := putS_back (.inr hy.wait)
      obtain ⟨back, gated⟩ := wakeCaller_back i (modPwr (fun p => { p with recs := upd p.recs i none }) (s.putS i y))
      refine ⟨(put.trans (takeRecord_back i _)).trans back, ?_, fun j hj => ?_⟩
      · rw [gated i]
        exact (congrArg Setter.gated (State.putS_st s i y)).trans hyg
      · rw [gated j]
        exact congrArg Setter.gated (State.putS_st_other s i j y hj)
  · rw [Bool.not_eq_true] at hg
    rw [wakeSetter_on f nets hg]
    exact ⟨.refl s, hg, fun _ _ => rfl⟩

/-- Where no setter waits for a SLEEP, a wake changes its own setter alone, and gives it its record (R344). -/
theorem wakeSetter_noCaller (i : SetterId) {s : State} (hc : s.pwr.caller = none) :
    (wakeSetter f i nets s).pwr.caller = none ∧
      ((s.st i).gated = true → ∀ r, s.pwr.recs.get i = some r → GivenBack ((wakeSetter f i nets s).st i) r) ∧
      ∀ j, i ≠ j → (wakeSetter f i nets s).st j = s.st j ∧ (wakeSetter f i nets s).pwr.recs.get j = s.pwr.recs.get j := by
  by_cases hg : (s.st i).gated = true
  · cases hr : s.pwr.recs.get i with
    | none =>
      rw [wakeSetter_bare f nets hg hr]
      exact ⟨hc, fun _ r h => (nomatch h), fun j hj => ⟨State.putS_st_other _ _ _ _ hj, rfl⟩⟩
    | some r =>
      obtain ⟨y, hy, -, heq⟩ := wakeSetter_record f nets hg hr
      rw [heq, wakeCaller_other (by exact fun e => by cases hc.symm.trans e)]
      refine ⟨hc, fun _ q h => ?_, fun j hj => ⟨State.putS_st_other _ _ _ _ hj, upd_get_other _ _ _ _ hj⟩⟩
      obtain rfl : r = q := Option.some.inj h
      exact (State.putS_st s i y).symm ▸ hy
  · rw [Bool.not_eq_true] at hg
    rw [wakeSetter_on f nets hg]
    exact ⟨hc, fun h => absurd h (by simp [hg]), fun _ _ => ⟨rfl, rfl⟩⟩

end

/-- All setters. -/
def wakeSetters (f : State) (nets : List (BitVec 256)) (s : State) : State :=
  (List.finRange 16).foldl (fun t i => wakeSetter f i (nets.getD i.val 0) t) s

/-- A pass over every member. -/
theorem foldl_every {ι β : Type} {get : State → ι → β} {I : State → Prop} {Q : ι → β → β → Prop} {f : ι → State → State}
    (h : ∀ i u, I u → I (f i u) ∧ Q i (get u i) (get (f i u) i) ∧ ∀ j, i ≠ j → get (f i u) j = get u j)
    {l : List ι} (hl : l.Nodup) {s : State} (hs : I s) :
    I (l.foldl (fun u i => f i u) s) ∧ ∀ i ∈ l, Q i (get s i) (get (l.foldl (fun u i => f i u) s) i) := by
  have key := foldl_each (m := fun _ => true) h hl hs
  simp only [if_true] at key
  exact ⟨key.1, fun i hi => key.2.1 i hi trivial⟩

theorem wakeSetters_wake (f : State) (nets : List (BitVec 256)) (s : State) :
    SettersBack s (wakeSetters f nets s) ∧ ∀ i, ((wakeSetters f nets s).st i).gated = false := by
  have step : ∀ i u, SettersBack s u → SettersBack s (wakeSetter f i (nets.getD i.val 0) u) ∧
      ((wakeSetter f i (nets.getD i.val 0) u).st i).gated = false ∧
      ∀ j, i ≠ j → ((wakeSetter f i (nets.getD i.val 0) u).st j).gated = (u.st j).gated := fun i u hu => by
    obtain ⟨h1, h2, h3⟩ := wakeSetter_wakes f (nets.getD i.val 0) i u
    exact ⟨hu.trans h1, h2, h3⟩
  obtain ⟨back, on⟩ := foldl_every (get := fun u i => (u.st i).gated) (Q := fun _ _ g => g = false) step (List.nodup_finRange 16) (.refl s)
  exact ⟨back, fun i => on i (List.mem_finRange i)⟩

/-- A setter and its record. -/
def withRecord (s : State) (i : SetterId) : Setter × Option SetterRec := (s.st i, s.pwr.recs.get i)

/-- A gated setter with a record has it back. -/
def TakesRecord (x y : Setter × Option SetterRec) : Prop := x.1.gated = true → ∀ r, x.2 = some r → GivenBack y.1 r

theorem wakeSetters_noCaller (f : State) (nets : List (BitVec 256)) {s : State} (hc : s.pwr.caller = none) (i : SetterId)
    (hg : (s.st i).gated = true) {r : SetterRec} (hr : s.pwr.recs.get i = some r) : GivenBack ((wakeSetters f nets s).st i) r := by
  have step : ∀ i u, u.pwr.caller = none → (wakeSetter f i (nets.getD i.val 0) u).pwr.caller = none ∧
      TakesRecord (withRecord u i) (withRecord (wakeSetter f i (nets.getD i.val 0) u) i) ∧
      ∀ j, i ≠ j → withRecord (wakeSetter f i (nets.getD i.val 0) u) j = withRecord u j := fun i u hu => by
    obtain ⟨h1, h2, h3⟩ := wakeSetter_noCaller f (nets.getD i.val 0) i hu
    exact ⟨h1, h2, fun j hj => Prod.ext (h3 j hj).1 (h3 j hj).2⟩
  obtain ⟨-, each⟩ := foldl_every (get := withRecord) (I := fun u => u.pwr.caller = none) (Q := fun _ => TakesRecord)
    (f := fun i => wakeSetter f i (nets.getD i.val 0)) step (List.nodup_finRange 16) hc
  have take : TakesRecord (withRecord s i) (withRecord (wakeSetters f nets s) i) := each i (List.mem_finRange i)
  exact take hg r hr

end Sys2Proof.Proofs
end

section
/-! PROOFS. The ends of a wake by access and of NAP (R341, R343): every domain that was stopped is on, and nothing else waited. -/

namespace Sys2Proof.Proofs
open Sys2Proof Sys2Proof.Machine Sys2Proof.Claims

/-! ### What waits -/

/-- No access, cell, frame, block or byte waits that did not. -/
structure NoNewWaits (s t : State) : Prop where
  stalled : t.stalled = s.stalled
  tap : t.tap.selW = s.tap.selW
  hst : t.hst.frames = s.hst.frames
  pln : t.pln.posts = s.pln.posts ∧ t.pln.chunk = s.pln.chunk
  cells : t.hod.cells = s.hod.cells ∨ t.hod.cells = []
  fifo : ∀ p, (packOf t p).fifo = (packOf s p).fifo
  wait : ∀ i, (t.st i).wait = (s.st i).wait ∨ (t.st i).wait = .none

theorem NoNewWaits.refl (s : State) : NoNewWaits s s := ⟨rfl, rfl, rfl, ⟨rfl, rfl⟩, .inl rfl, fun _ => rfl, fun _ => .inl rfl⟩

theorem NoNewWaits.trans {s t u : State} (h : NoNewWaits s t) (k : NoNewWaits t u) : NoNewWaits s u where
  stalled := k.stalled.trans h.stalled
  tap := k.tap.trans h.tap
  hst := k.hst.trans h.hst
  pln := ⟨k.pln.1.trans h.pln.1, k.pln.2.trans h.pln.2⟩
  cells := k.cells.elim (fun e => e ▸ h.cells) .inr
  fifo p := (k.fifo p).trans (h.fifo p)
  wait i := (k.wait i).elim (fun e => e ▸ h.wait i) .inr

theorem NoNewWaits.quiet {s t : State} (h : NoNewWaits s t) (hq : Quiet s) : Quiet t := by
  obtain ⟨hstalled, hcells, htap, hhst, hposts, hchunk, hfifo, hwait⟩ := hq
  refine ⟨h.stalled.trans hstalled, h.cells.elim (·.trans hcells) id, h.tap.trans htap, h.hst.trans hhst, h.pln.1.trans hposts,
    h.pln.2.trans hchunk, fun p hp => (h.fifo p).trans (hfifo p hp), fun i d ins hi => ?_⟩
  rcases h.wait i with e | e
  · exact hwait i d ins (e.symm.trans hi)
  · cases e.symm.trans hi

theorem BaysOnly.noWaits {s t : State} (h : BaysOnly s t) : NoNewWaits s t := by
  have wait : ∀ i, (t.st i).wait = (s.st i).wait := fun i => by rw [h.setters i]
  rw [h.eq]
  exact ⟨rfl, rfl, rfl, ⟨rfl, rfl⟩, .inl rfl, fun _ => rfl, fun i => .inl (wait i)⟩

theorem SettersBack.noWaits {s t : State} (h : SettersBack s t) : NoNewWaits s t := by
  have wait := h.wait
  rw [h.eq]
  exact ⟨rfl, rfl, rfl, ⟨rfl, rfl⟩, .inl rfl, fun _ => rfl, wait⟩

theorem Told.noWaits {s t : State} (h : Told s t) : NoNewWaits s t := by
  have wait := fun i => (h.heard.each i).wait
  have log := h.log.eq
  have posts : t.pln.posts = s.pln.posts := by rw [log]
  have chunk : t.pln.chunk = s.pln.chunk := by rw [log]
  rw [h.eq]
  exact ⟨rfl, rfl, rfl, ⟨posts, chunk⟩, .inl rfl, fun _ => rfl, wait⟩

/-- Where nothing waits, nothing proceeds. -/
theorem serveAll_quiet {s : State} (h : Quiet s) : serveAll s = s := by
  obtain ⟨hstalled, hcells, htap, hhst, hposts, hchunk, hfifo, hwait⟩ := h
  have probes : serveProbes s = s := by
    unfold serveProbes
    rw [htap]
    show { s with tap := { s.tap with selW := [] } } = s
    rw [← htap]
  have bus : serveBus s = s := by
    unfold serveBus
    rw [hstalled]
    show { s with stalled := [] } = s
    rw [← hstalled]
  have cells : ∀ n, serveCells n s = s := fun n => by
    cases n with
    | zero => rfl
    | succ n => rw [serveCells, hcells]
  have host : ∀ n, serveHost n s = s := fun n => by
    cases n with
    | zero => rfl
    | succ n => rw [serveHost, hhst]
  have posts : ∀ n, servePosts n s = s := fun n => by
    cases n with
    | zero => rfl
    | succ n => rw [servePosts, hposts]
  have chunk : serveChunk s = s := by
    unfold serveChunk
    rw [hchunk]
  have setter : ∀ i, serveSetter i s = s := fun i => by
    unfold serveSetter
    split
    · next d c e => exact absurd e (hwait i d c)
    · rfl
  have packer : ∀ p, p < 16 → servePacker p s = s := fun p hp => by
    unfold servePacker
    rw [hfifo p hp]
    rfl
  have packers : ∀ l : List Nat, (∀ p ∈ l, p < 16) → l.foldl (fun t p => servePacker p t) s = s := fun l => by
    induction l with
    | nil => exact fun _ => rfl
    | cons p l ih =>
      intro hl
      rw [List.foldl_cons, packer p (hl p List.mem_cons_self)]
      exact ih fun q hq => hl q (List.mem_cons_of_mem _ hq)
  have setters : ∀ l : List SetterId, l.foldl (fun t i => serveSetter i t) s = s := fun l => by
    induction l with
    | nil => rfl
    | cons i l ih => rw [List.foldl_cons, setter i, ih]
  unfold serveAll
  simp only [probes, bus, cells, host, posts, chunk, packers _ fun p hp => List.mem_range.1 hp, setters]

/-! ### The store and the hod -/

theorem wakeStore_eq (s : State) : ∃ a, a.rbase = s.arb.rbase ∧ a.rlim = s.arb.rlim ∧
    wakeStore s = { s with store := { s.store with retn := false, waking := false }, arb := a } := by
  unfold wakeStore
  by_cases h : (s.store.retn || s.store.waking) = true
  · rw [if_pos h]
    exact ⟨{ settleArb s.arb with ptr := 0 }, rfl, rfl, rfl⟩
  · rw [if_neg h]
    rw [Bool.or_eq_true, not_or, Bool.not_eq_true, Bool.not_eq_true] at h
    obtain ⟨hretn, hwaking⟩ := h
    refine ⟨s.arb, rfl, rfl, ?_⟩
    nth_rw 1 [← hretn, ← hwaking]

theorem wakeHod_eq (f s : State) : wakeHod f s = { s with hod := if s.hod.gated then freshHod f.hod s.hod else s.hod } := by
  unfold wakeHod
  split <;> rfl

theorem wakeHod_on (f s : State) : (wakeHod f s).hod.gated = false := by
  rw [wakeHod_eq]
  show (if s.hod.gated then freshHod f.hod s.hod else s.hod).gated = false
  split
  · rfl
  · next h => simpa using h

theorem wakeHod_noWaits {f : State} (hf : f.hod.cells = []) (s : State) : NoNewWaits s (wakeHod f s) := by
  unfold wakeHod
  split
  · refine ⟨rfl, rfl, rfl, ⟨rfl, rfl⟩, .inr hf, fun p => ?_, fun _ => .inl rfl⟩
    unfold packOf nth
    by_cases hp : p < 32
    · rw [dif_pos hp, dif_pos hp]
      show ((s.hod.pack.map fun k : Packer => { k with drop := 0 })[p]'hp).fifo = _
      rw [Vector.getElem_map]
      rfl
    · rw [dif_neg hp, dif_neg hp]
  · exact .refl s

/-! ### Every domain -/

theorem wakeAll_eq (f : State) (nets : List (BitVec 256)) (s : State) :
    wakeAll f nets s = wakeSetters f nets (wakeHod f (wakeStore (eachBay (BitVec.allOnes 64) (wakeBay f) s))) := rfl

/-- Every domain that was stopped is on again (R341, R344, R346). -/
structure AllWoken (s t : State) : Prop where
  eq : t = { s with evt := t.evt, bays := t.bays, setters := t.setters, store := { s.store with retn := false, waking := false },
                    arb := t.arb, hod := t.hod, irs := { s.irs with own := t.irs.own, sent := t.irs.sent }, free := t.free,
                    pwr := { s.pwr with recs := t.pwr.recs, caller := t.pwr.caller } }
  regions : t.arb.rbase = s.arb.rbase ∧ t.arb.rlim = s.arb.rlim
  bays : ∀ b, (t.bay b).gated = false
  setters : ∀ i, (t.st i).gated = false
  hod : t.hod.gated = false
  ffs : ∀ b, (s.bay b).gated = true → (t.bay b).ffs = []
  back : s.pwr.caller = none → ∀ i r, (s.st i).gated = true → s.pwr.recs.get i = some r → GivenBack (t.st i) r

theorem wakeAll_wakes (f : State) (nets : List (BitVec 256)) (s : State) :
    AllWoken s (wakeAll f nets s) ∧ (f.hod.cells = [] → NoNewWaits s (wakeAll f nets s)) := by
  obtain ⟨bays, hbays⟩ := wakeBays_wake f s
  rw [wakeAll_eq]
  generalize eachBay (BitVec.allOnes 64) (wakeBay f) s = u at bays hbays
  obtain ⟨a, hbase, hlim, hstore⟩ := wakeStore_eq u
  have hodOn := wakeHod_on f (wakeStore u)
  have storeQuiet : NoNewWaits u (wakeStore u) := by
    rw [hstore]
    exact ⟨rfl, rfl, rfl, ⟨rfl, rfl⟩, .inl rfl, fun _ => rfl, fun _ => .inl rfl⟩
  have hodQuiet := fun hf => wakeHod_noWaits (f := f) hf (wakeStore u)
  have hhod := wakeHod_eq f (wakeStore u)
  generalize wakeHod f (wakeStore u) = v at hodOn hodQuiet hhod
  generalize (if (wakeStore u).hod.gated then freshHod f.hod (wakeStore u).hod else (wakeStore u).hod) = h at hhod
  obtain ⟨back, hon⟩ := wakeSetters_wake f nets v
  have given := fun hc i hg r hr => wakeSetters_noCaller f nets (s := v) hc i hg (r := r) hr
  generalize wakeSetters f nets v = t at back hon given
  refine ⟨⟨?_, ?_, ?_, hon, ?_, ?_, ?_⟩, fun hf => ((bays.noWaits.trans storeQuiet).trans (hodQuiet hf)).trans back.noWaits⟩
  · rw [back.eq, hhod, hstore]
    conv_lhs => rw [bays.eq]
  · rw [back.eq, hhod, hstore]
    exact ⟨hbase.trans (by rw [bays.eq]), hlim.trans (by rw [bays.eq])⟩
  · intro b
    rw [back.eq, hhod, hstore]
    exact (hbays b).1
  · rw [back.eq]
    exact hodOn
  · intro b
    rw [back.eq, hhod, hstore]
    exact (hbays b).2
  · intro hc i r hg hr
    refine given ?_ i ?_ r ?_
    · rw [hhod, hstore, bays.eq]
      exact hc
    · rw [hhod, hstore]
      show (u.st i).gated = true
      rw [bays.setters i]
      exact hg
    · rw [hhod, hstore, bays.eq]
      exact hr

/-! ### The end of a wake -/

/-- A wake has ended: STATE is RUN, no wake is under way, 555 is pending (R341). -/
structure WakeEnded (s t : State) : Prop where
  eq : t = { s with evt := t.evt, setters := t.setters, irs := { s.irs with own := t.irs.own, sent := t.irs.sent }, free := t.free,
                    pln := t.pln, io := t.io, pwr := { s.pwr with state := 0, inflight := false, waking := false, begun := [] } }
  log : Logged s.pln t.pln
  heard : HeardAll s t
  event : pendBit t 555 = true

theorem endWake_ends (bays : Nat → Bool) (s : State) : WakeEnded s (endWake bays s) := by
  have hraise := raise_told (n := 555) (s := returnHold bays
    (modPwr (fun p => { p with state := 0, inflight := false, waking := false, begun := [] }) s)) (wakeSource_high _ (by decide))
  have hpend := raise_pend 555 (returnHold bays
    (modPwr (fun p => { p with state := 0, inflight := false, waking := false, begun := [] }) s)) (by decide)
  have hlog := logRec_told 0x0032 0 555 (valAt 0 0) 0 (raise 555 (returnHold bays
    (modPwr (fun p => { p with state := 0, inflight := false, waking := false, begun := [] }) s)))
  have told := hraise.trans hlog
  refine ⟨?_, told.log, ⟨told.heard.each⟩, hlog.pend _ hpend⟩
  conv_lhs => rw [show endWake bays s = _ from told.eq]
  rw [show (endWake bays s).io = _ from congrArg State.io told.eq]
  rfl

theorem WakeEnded.noWaits {s t : State} (h : WakeEnded s t) : NoNewWaits s t := by
  have wait := fun i => (h.heard.each i).wait
  have log := h.log.eq
  have posts : t.pln.posts = s.pln.posts := by rw [log]
  have chunk : t.pln.chunk = s.pln.chunk := by rw [log]
  rw [h.eq]
  exact ⟨rfl, rfl, rfl, ⟨posts, chunk⟩, .inl rfl, fun _ => rfl, wait⟩

/-- The end of a wake in which every domain came back. -/
theorem AllWoken.allOn {s u t : State} (h : AllWoken s u) (k : WakeEnded u t) : AllOn t where
  state := by
    rw [k.eq]
    exact ⟨rfl, rfl, rfl⟩
  bays b := by
    rw [k.eq]
    exact h.bays b
  setters i := (k.heard.each i).gated.trans (h.setters i)
  store := by
    rw [k.eq, h.eq]
    exact ⟨rfl, rfl⟩
  hod := by
    rw [k.eq]
    exact h.hod
  event := k.event

theorem AllWoken.gives {s u t : State} (h : AllWoken s u) (k : WakeEnded u t) (hc : s.pwr.caller = none) : Back s t := fun i r hg hr =>
  have back := (h.back hc i r hg hr).heard (k.heard.each i)
  ⟨back.g, back.acc, back.pc⟩

/-- NAP has ended (R341, R344). -/
theorem napWakeRelease_run {s : State} (nets : List (BitVec 256)) (hq : Quiet s) (h2 : s.pwr.state = 2) (hi : s.pwr.inflight = true)
    (hw : s.pwr.waking = true) (hr : s.pwr.stage = .run) :
    ∃ t, exec (.napWakeRelease nets) s = .next t ∧ AllOn t ∧ t.pwr.begun = [] ∧ t.img = s.img ∧ t.store.mem = s.store.mem ∧
      (s.pwr.caller = none → Back s t) ∧ ∀ b, (s.bay b).gated = true → (t.bay b).ffs = [] := by
  have hexec : exec (.napWakeRelease nets) s = .next (serveAll (endWake (gatedBay s) (wakeAll (tableState s) nets s))) := by
    show Host.Outcome.next (if s.pwr.state != 2 || !s.pwr.inflight || !s.pwr.waking || s.pwr.stage != .run then s else _) = _
    rw [h2, hi, hw, hr]
    rfl
  obtain ⟨woken, quiet⟩ := wakeAll_wakes (tableState s) nets s
  replace quiet := quiet (tableState_carried s).1
  generalize wakeAll (tableState s) nets s = u at hexec woken quiet
  have ended := endWake_ends (gatedBay s) u
  generalize endWake (gatedBay s) u = t at hexec ended
  rw [serveAll_quiet ((quiet.trans ended.noWaits).quiet hq)] at hexec
  refine ⟨t, hexec, woken.allOn ended, ?_, ?_, ?_, woken.gives ended, fun b hb => ?_⟩
  · rw [ended.eq]
  · rw [ended.eq, woken.eq]
  · rw [ended.eq, woken.eq]
  · rw [ended.eq]
    exact woken.ffs b hb

/-! ### One domain (R343) -/

/-- Domain d is on, every other one as before. -/
structure DomainOn (d : Domain) (s t : State) : Prop where
  on : off d t = false
  others : ∀ e, e ≠ d → off e t = off e s
  pwr : t.pwr = { s.pwr with begun := t.pwr.begun, recs := t.pwr.recs, caller := t.pwr.caller }
  noWaits : NoNewWaits s t

theorem wakeBay_domain (f : State) (b : BayId) (s : State) : DomainOn (.bay b) s (wakeBay f b s) := by
  obtain ⟨only, on, -, others⟩ := wakeBay_wakes f b s
  refine ⟨on, fun e he => ?_, ?_, only.noWaits⟩
  · cases e with
    | bay c => exact congrArg Bay.gated (others c fun h => he (h ▸ rfl))
    | setter i => exact (congrArg Setter.gated (only.setters i)).trans rfl
    | store =>
      rw [only.eq]
      rfl
    | hod =>
      rw [only.eq]
      rfl
  · rw [only.eq]

theorem wakeSetter_domain (f : State) (i : SetterId) (nets : BitVec 256) (s : State) : DomainOn (.setter i) s (wakeSetter f i nets s) := by
  obtain ⟨back, on, others⟩ := wakeSetter_wakes f nets i s
  refine ⟨on, fun e he => ?_, ?_, back.noWaits⟩
  · cases e with
    | setter j => exact others j fun h => he (h ▸ rfl)
    | bay b =>
      rw [back.eq]
      rfl
    | store =>
      rw [back.eq]
      rfl
    | hod =>
      rw [back.eq]
      rfl
  · rw [back.eq]

theorem wakeStore_domain (s : State) : DomainOn .store s (wakeStore s) := by
  obtain ⟨a, -, -, h⟩ := wakeStore_eq s
  rw [h]
  refine ⟨rfl, fun e he => ?_, rfl, ⟨rfl, rfl, rfl, ⟨rfl, rfl⟩, .inl rfl, fun _ => rfl, fun _ => .inl rfl⟩⟩
  cases e with
  | store => exact absurd rfl he
  | bay | setter | hod => rfl

theorem wakeHod_domain {f : State} (hf : f.hod.cells = []) (s : State) : DomainOn .hod s (wakeHod f s) := by
  refine ⟨wakeHod_on f s, fun e he => ?_, ?_, wakeHod_noWaits hf s⟩
  · rw [wakeHod_eq]
    cases e with
    | hod => exact absurd rfl he
    | bay | setter | store => rfl
  · rw [wakeHod_eq]

theorem domainOn_domain (d : Domain) (nets : BitVec 256) (s : State) : DomainOn d s (domainOn d nets s) := by
  have start : NoNewWaits s (modPwr (fun p => { p with begun := p.begun.filter (· != d) }) s) :=
    ⟨rfl, rfl, rfl, ⟨rfl, rfl⟩, .inl rfl, fun _ => rfl, fun _ => .inl rfl⟩
  have leave : ∀ t, DomainOn d (modPwr (fun p => { p with begun := p.begun.filter (· != d) }) s) t → DomainOn d s t := fun t h =>
    ⟨h.on, fun e he => (h.others e he).trans (by cases e <;> rfl), h.pwr, start.trans h.noWaits⟩
  apply leave
  cases d with
  | bay b =>
    obtain ⟨on, others, pwr, quiet⟩ := wakeBay_domain (tableState s) b (modPwr (fun p => { p with begun := p.begun.filter (· != .bay b) }) s)
    exact ⟨on, fun e he => (by cases e <;> rfl : off e (domainOn (.bay b) nets s) = _).trans (others e he), pwr,
      ⟨quiet.stalled, quiet.tap, quiet.hst, quiet.pln, quiet.cells, quiet.fifo, quiet.wait⟩⟩
  | setter i => exact wakeSetter_domain _ i nets _
  | store => exact wakeStore_domain _
  | hod => exact wakeHod_domain (tableState_carried s).1 _

theorem off_of_ended {s t : State} (h : WakeEnded s t) (d : Domain) : off d t = off d s := by
  cases d with
  | setter i => exact (h.heard.each i).gated
  | bay | store | hod =>
    rw [h.eq]
    rfl

theorem anyAsleep_iff (s : State) : anyAsleep s = false ↔ ∀ d, off d s = false := by
  have each : ∀ {α : Type} {n : Nat} (v : Vector α n) (p : α → Bool), v.toList.any p = false ↔ ∀ i, p (v.get i) = false := fun v p => by
    rw [List.any_eq_false]
    simp only [Bool.not_eq_true]
    refine ⟨fun h i => h _ (Vector.mem_toList_iff.2 (Vector.getElem_mem ..)), fun h x hx => ?_⟩
    obtain ⟨i, hi, rfl⟩ := Vector.mem_iff_getElem.1 (Vector.mem_toList_iff.1 hx)
    exact h ⟨i, hi⟩
  unfold anyAsleep
  rw [Bool.or_eq_false_iff, Bool.or_eq_false_iff, Bool.or_eq_false_iff, Bool.or_eq_false_iff, each, each]
  refine ⟨fun ⟨⟨⟨⟨hb, hs⟩, hr⟩, hw⟩, hh⟩ d => ?_, fun h => ⟨⟨⟨⟨fun b => h (.bay b), fun i => h (.setter i)⟩, ?_⟩, ?_⟩, h .hod⟩⟩
  · cases d with
    | bay b => exact hb b
    | setter i => exact hs i
    | store => exact Bool.or_eq_false_iff.2 ⟨hr, hw⟩
    | hod => exact hh
  · exact (Bool.or_eq_false_iff.1 (h .store)).1
  · exact (Bool.or_eq_false_iff.1 (h .store)).2

/-- A wake by access has ended, and NAP with the last of them (R343). -/
theorem domainWakeComplete_run {s : State} {d : Domain} (net : BitVec 256) (hq : Quiet s) (ho : off d s = true)
    (hb : s.pwr.begun.contains d = true) (h3 : s.pwr.state ≠ 3) (hr : s.pwr.stage = .run) :
    ∃ t, exec (.domainWakeComplete d net) s = .next t ∧ off d t = false ∧ (∀ e, e ≠ d → off e t = off e s) ∧
      (s.pwr.state = 2 → s.pwr.inflight = false → (∀ e, off e s = true → e = d) → t.pwr.state = 0 ∧ pendBit t 555 = true) ∧
      ∀ e, e ≠ d → off e s = true → t.pwr.state = s.pwr.state := by
  have hexec : exec (.domainWakeComplete d net) s = .next (serveAll (napOver (domainOn d net s))) := by
    show Host.Outcome.next (if !off d s || !s.pwr.begun.contains d || s.pwr.state == 3 || s.pwr.stage != .run then s else _) = _
    rw [ho, hb, hr, beq_false_of_ne h3]
    rfl
  obtain ⟨on, others, pwr, quiet⟩ := domainOn_domain d net s
  generalize domainOn d net s = u at hexec on others pwr quiet
  have hstate : u.pwr.state = s.pwr.state := by rw [pwr]
  have hinfl : u.pwr.inflight = s.pwr.inflight := by rw [pwr]
  have ended := endWake_ends (fun _ => false) u
  by_cases hover : (u.pwr.state = 2 && !u.pwr.inflight && !anyAsleep u) = true
  · rw [napOver, if_pos hover, serveAll_quiet ((quiet.trans ended.noWaits).quiet hq)] at hexec
    simp only [Bool.and_eq_true, Bool.not_eq_true', decide_eq_true_eq] at hover
    obtain ⟨-, hasleep⟩ := hover
    refine ⟨_, hexec, (off_of_ended ended d).trans on, fun e he => (off_of_ended ended e).trans (others e he), fun _ _ _ => ?_,
      fun e he hoff => ?_⟩
    · exact ⟨by rw [ended.eq], ended.event⟩
    · have := (anyAsleep_iff u).1 hasleep e
      rw [others e he, hoff] at this
      cases this
  · rw [napOver, if_neg hover, serveAll_quiet (quiet.quiet hq)] at hexec
    refine ⟨u, hexec, on, others, fun h2 hi hall => absurd ?_ hover, fun _ _ _ => hstate⟩
    have hasleep : anyAsleep u = false := (anyAsleep_iff u).2 fun e => by
      by_cases he : e = d
      · rw [he, on]
      · rw [others e he, ← Bool.not_eq_true]
        exact fun h => he (hall e h)
    rw [hstate, hinfl, h2, hi, hasleep]
    rfl

end Sys2Proof.Proofs
end

section
/-! PROOFS. The end of DORMANT (R288, R302, R342, R346, R348): what the image, the vault and the tables bring back, the start of the
firmware. -/

namespace Sys2Proof.Proofs
open Sys2Proof Sys2Proof.Machine Sys2Proof.Claims

/-! ### The firmware (R302) -/

/-- The ROM's check of one copy. -/
theorem romCheck_iff (p : Pln) (c : Bool) : ((nth p.fw c.toNat).map romCheck).getD false = true ↔ Passes302 p c := by
  unfold Passes302
  have len : manifestLen = 17920 := by decide
  cases nth p.fw c.toNat with
  | none => simp
  | some f =>
    simp only [Option.map_some, Option.getD_some, romCheck, len, Bool.or_eq_true, Bool.and_eq_true, beq_iff_eq, Option.some.injEq,
      exists_eq_left']

theorem startedCopy_of_starts {p q : Pln} (hfw : q.fw = p.fw) (hsel : q.fwSel = p.fwSel) {k : Bool} (h : Starts p k) : startedCopy q = some k := by
  have same : ∀ c, Passes302 q c ↔ Passes302 p c := fun c => by
    unfold Passes302
    rw [hfw]
  unfold startedCopy
  rw [hsel]
  dsimp only
  rcases h with ⟨rfl, h⟩ | ⟨hne, hfail, h⟩
  · rw [if_pos ((romCheck_iff q _).2 ((same _).2 h))]
  · obtain rfl : k = !p.fwSel := Bool.eq_not.2 hne
    rw [if_neg fun e => hfail ((same _).1 ((romCheck_iff q _).1 e)), if_pos ((romCheck_iff q _).2 ((same _).2 h))]

/-- What the start of the firmware changes. -/
structure FirmwareStarted (s t : State) : Prop where
  eq : t = { s with evt := t.evt, setters := t.setters, irs := { s.irs with own := t.irs.own, sent := t.irs.sent }, free := t.free,
                    pln := t.pln, hod := { s.hod with desc := t.hod.desc }, faultn := t.faultn }
  heard : HeardAll s t

theorem FirmwareStarted.trans {s t u : State} (h : FirmwareStarted s t) (k : FirmwareStarted t u) : FirmwareStarted s u := by
  refine ⟨?_, h.heard.trans k.heard⟩
  rw [k.eq]
  conv_lhs => rw [h.eq]

theorem Told.firmware {s t : State} (h : Told s t) : FirmwareStarted s t := by
  refine ⟨?_, h.heard⟩
  have hhod : t.hod = s.hod := by rw [h.eq]
  have hfaultn : t.faultn = s.faultn := by rw [h.eq]
  rw [hhod, hfaultn]
  exact h.eq

theorem modPln_firmware (f : Pln → Pln) (s : State) : FirmwareStarted s (modPln f s) := ⟨rfl, .of_setters rfl⟩

theorem putDesc_firmware (q : QueueId) (d : Desc) (s : State) : FirmwareStarted s (putDesc q d s) := ⟨rfl, .of_setters rfl⟩

theorem FirmwareStarted.refl (s : State) : FirmwareStarted s s := ⟨rfl, .of_setters rfl⟩

/-- A fold whose steps all stay in a relation. -/
theorem foldl_rel {α : Type} {R : State → State → Prop} (hrefl : ∀ s, R s s) (htrans : ∀ {s t u}, R s t → R t u → R s u)
    {f : State → α → State} (h : ∀ s a, R s (f s a)) (l : List α) (s : State) : R s (l.foldl f s) := by
  induction l generalizing s with
  | nil => exact hrefl s
  | cons a l ih => exact htrans (h s a) (ih _)

theorem setupQueues_firmware (s : State) : FirmwareStarted s (setupQueues s) ∧ (setupQueues s).pln = s.pln := by
  constructor
  · refine foldl_rel (R := FirmwareStarted) .refl .trans (fun t q => ?_) _ s
    split
    · exact .refl t
    · exact putDesc_firmware _ _ t
  · refine foldl_same State.pln (fun t q => ?_) _ s
    split <;> rfl

/-- The calibration and the owed records change neither READY nor COPY. -/
structure StillReady (p q : Pln) : Prop where
  ready : q.ready = p.ready
  copy : q.copy = p.copy

theorem StillReady.trans {p q r : Pln} (h : StillReady p q) (k : StillReady q r) : StillReady p r :=
  ⟨k.ready.trans h.ready, k.copy.trans h.copy⟩

theorem Told.ready {s t : State} (h : Told s t) : StillReady s.pln t.pln := by
  rw [h.log.eq]
  exact ⟨rfl, rfl⟩

theorem readCal_firmware (s : State) : FirmwareStarted s (readCal s) ∧ StillReady s.pln (readCal s).pln := by
  unfold readCal
  split
  · exact ⟨modPln_firmware _ s, rfl, rfl⟩
  · have start : StillReady s.pln (modPln (fun p => { p with calU := Vector.replicate 52 0 }) s).pln := ⟨rfl, rfl⟩
    have told := logRec_told 0x0040 0 noSource 0xFFFF 0 (modPln (fun p => { p with calU := Vector.replicate 52 0 }) s)
    exact ⟨(modPln_firmware _ s).trans told.firmware, start.trans told.ready⟩

theorem logOwed_firmware (s : State) : FirmwareStarted s (logOwed s) ∧ StillReady s.pln (logOwed s).pln := by
  have start : StillReady s.pln (modPln (fun p => { p with hbOwed := [] }) s).pln := ⟨rfl, rfl⟩
  have told : Told (modPln (fun p => { p with hbOwed := [] }) s) (logOwed s) :=
    foldl_rel (R := Told) .refl .trans (fun t w => logRec_told _ _ _ _ _ t) s.pln.hbOwed _
  exact ⟨(modPln_firmware _ s).trans told.firmware, start.trans told.ready⟩

/-- The start of the firmware: the copy that the ROM starts is READY (R302). -/
theorem startFirmware_starts (s : State) : FirmwareStarted s (startFirmware s) ∧
    ∀ c, startedCopy s.pln = some c → (startFirmware s).pln.ready = true ∧ (startFirmware s).pln.copy = c := by
  unfold startFirmware
  split
  · next c hc =>
    generalize hu : modPln (fun p => { p with copy := c, firmbad := p.firmbad || c != p.fwSel, romonly := false, going := false,
                                              turn := .queue }) s = u
    dsimp only
    obtain ⟨queues, hpln⟩ := setupQueues_firmware u
    generalize setupQueues u = v at queues hpln
    obtain ⟨cal, hcal⟩ := readCal_firmware { v with pln := { v.pln with ready := true }, faultn := v.img.noimage }
    obtain ⟨owed, howed⟩ := logOwed_firmware (readCal { v with pln := { v.pln with ready := true }, faultn := v.img.noimage })
    have ready : FirmwareStarted v { v with pln := { v.pln with ready := true }, faultn := v.img.noimage } := ⟨rfl, .of_setters rfl⟩
    have still := hcal.trans howed
    refine ⟨(((hu ▸ modPln_firmware _ s : FirmwareStarted s u).trans queues).trans ready).trans (cal.trans owed), fun k hk => ?_⟩
    obtain rfl : c = k := Option.some.inj (hc.symm.trans hk)
    refine ⟨still.ready, still.copy.trans ?_⟩
    show v.pln.copy = c
    rw [hpln, ← hu]
    rfl
  · next hc => exact ⟨⟨rfl, .of_setters rfl⟩, fun k hk => by rw [hc] at hk; cases hk⟩

/-! ### The image (R342, R348) -/

/-- What the active slot brings back: memories, descriptors; every setter stays gated or not. -/
structure Reloaded (s t : State) : Prop where
  eq : t = { s with setters := t.setters, hod := { s.hod with desc := t.hod.desc }, store := { s.store with mem := t.store.mem, err := t.store.err } }
  gated : ∀ i, (t.st i).gated = (s.st i).gated

theorem Reloaded.refl (s : State) : Reloaded s s := ⟨rfl, fun _ => rfl⟩

theorem Reloaded.trans {s t u : State} (h : Reloaded s t) (k : Reloaded t u) : Reloaded s u := by
  refine ⟨?_, fun i => (k.gated i).trans (h.gated i)⟩
  rw [k.eq]
  conv_lhs => rw [h.eq]

theorem reloadSetter_reloaded (i : SetterId) (s : State) : Reloaded s (reloadSetter i s) := by
  refine ⟨rfl, fun j => ?_⟩
  unfold reloadSetter
  by_cases hj : i = j
  · subst hj
    rw [State.modS_st]
  · rw [State.modS_eq, State.putS_st_other _ _ _ _ hj]

theorem enableQueues_reloaded (x : Slot) (s : State) : Reloaded s (enableQueues x s) :=
  foldl_rel (R := Reloaded) .refl .trans (f := fun t q => putDesc q ((descOf t q).setEn true) t) (fun _ _ => ⟨rfl, fun _ => rfl⟩) _ s

theorem restoreStore_reloaded (l : List (Nat × List Byte)) (s : State) : Reloaded s (restoreStore l s) := by
  unfold restoreStore
  refine foldl_rel (R := Reloaded) .refl .trans (fun t e => ?_) l s
  exact ⟨rfl, fun _ => rfl⟩

theorem nthUpd_get (v : Vector Setter 16) (k : Nat) (f : Setter → Setter) (i : SetterId) :
    (nthUpd v k f).get i = v.get i ∨ (nthUpd v k f).get i = f (v.get i) := by
  unfold nthUpd
  split
  · next h =>
    by_cases hi : ⟨k, h⟩ = i
    · subst hi
      exact .inr (upd_get_same _ _ _)
    · exact .inl (upd_get_other _ _ _ _ hi)
  · exact .inl rfl

theorem copyBack_reloaded (l : List VaultEntry) (at_ : Nat) (s : State) : Reloaded s (copyBack l at_ s) := by
  induction l generalizing at_ s with
  | nil => exact .refl s
  | cons e l ih =>
    unfold copyBack
    refine Reloaded.trans ?_ (ih _ _)
    split
    · refine ⟨rfl, fun i => ?_⟩
      rcases nthUpd_get s.setters e.setter (fun x => { x with data := memWrite x.data e.addr (memRead s.pwr.user at_ e.len) }) i with h | h
      · exact congrArg Setter.gated h
      · exact (congrArg Setter.gated h).trans rfl
    · exact restoreStore_reloaded _ s

theorem dormantImage_image {s : State} (h : s.img.hold = false) : Reloaded s (dormantImage s) := by
  unfold dormantImage
  rw [if_neg (by simp [h])]
  exact ((foldl_rel (R := Reloaded) .refl .trans (fun t i => reloadSetter_reloaded i t) _ s).trans (enableQueues_reloaded _ _)).trans
    (copyBack_reloaded _ _ _)

theorem dormantImage_none {s : State} (h : s.img.hold = true) : dormantImage s = { s with bays := Vector.replicate 64 Bay.reset } := if_pos h

/-! ### Everything (R342, R346) -/

/-- What the wake from DORMANT has brought back at its release. -/
structure Restored (s t : State) : Prop where
  pwr : t.pwr = { s.pwr with recs := t.pwr.recs, caller := t.pwr.caller }
  img : t.img = dormantImg s.img
  regions : t.arb.rbase = s.arb.rbase ∧ t.arb.rlim = s.arb.rlim
  addr : t.irs.addr = s.irs.addr
  bays : ∀ b, (t.bay b).gated = false
  setters : ∀ i, (t.st i).gated = false
  hod : t.hod.gated = false
  store : t.store.retn = false
  back : s.pwr.caller = none → ∀ i r, (s.st i).gated = true → s.pwr.recs.get i = some r → GivenBack (t.st i) r
  firmware : ∀ k, Starts s.pln k → t.pln.ready = true ∧ t.pln.copy = k

/-- The image's part in one form, with an image and without. -/
theorem dormantImage_eq (s : State) :
    dormantImage s = { s with setters := (dormantImage s).setters, bays := (dormantImage s).bays,
                              hod := { s.hod with desc := (dormantImage s).hod.desc },
                              store := { s.store with mem := (dormantImage s).store.mem, err := (dormantImage s).store.err } } ∧
    ∀ i, ((dormantImage s).st i).gated = (s.st i).gated := by
  cases h : s.img.hold with
  | false =>
    have reloaded := dormantImage_image h
    refine ⟨?_, reloaded.gated⟩
    rw [show (dormantImage s).bays = s.bays by rw [reloaded.eq]]
    exact reloaded.eq
  | true =>
    rw [dormantImage_none h]
    exact ⟨rfl, fun _ => rfl⟩

/-- What the vault and the tables give, before the image's part (R346). -/
def dormantVault (f s : State) : State :=
  dormantHod f { s with
    arb := vaultArb s.arb, irs := vaultIrs s.irs, pln := f.pln, bst := f.bst, rpt := f.rpt.map rptRelease, rptHb := f.rptHb,
    glb := { s.glb with wprobe := f.glb.wprobe }, hst := { Hst.reset with ready := s.hst.ready },
    store := { Store.reset with mem := s.store.mem, err := s.store.err, epoch := s.store.epoch }, img := dormantImg s.img }

theorem dormantRestore_eq (nets : List (BitVec 256)) (s : State) :
    dormantRestore nets s = startFirmware (wakeAll (tableState s) nets (dormantImage (dormantVault (tableState s) s))) := rfl

theorem dormantRestore_restored (nets : List (BitVec 256)) (s : State) : Restored s (dormantRestore nets s) := by
  obtain ⟨-, hfw, hsel⟩ := tableState_carried s
  rw [dormantRestore_eq]
  generalize tableState s = f at hfw hsel
  obtain ⟨image, igated⟩ := dormantImage_eq (dormantVault f s)
  generalize dormantImage (dormantVault f s) = u at image igated
  obtain ⟨woken, -⟩ := wakeAll_wakes f nets u
  generalize wakeAll f nets u = v at woken
  obtain ⟨started, ready⟩ := startFirmware_starts v
  generalize startFirmware v = t at started ready
  have upwr : u.pwr = s.pwr := by
    rw [image]
    rfl
  have vpln : v.pln = f.pln := by
    rw [woken.eq, image]
    rfl
  constructor
  case pwr => rw [started.eq, woken.eq, upwr]
  case img =>
    rw [started.eq, woken.eq, image]
    rfl
  case regions =>
    rw [started.eq]
    obtain ⟨hbase, hlim⟩ := woken.regions
    rw [image] at hbase hlim
    exact ⟨hbase, hlim⟩
  case addr =>
    rw [started.eq, woken.eq, image]
    rfl
  case bays =>
    rw [started.eq]
    exact woken.bays
  case setters => exact fun i => (started.heard.each i).gated.trans (woken.setters i)
  case hod =>
    rw [started.eq]
    exact woken.hod
  case store => rw [started.eq, woken.eq]
  case back =>
    refine fun hc i r hg hr => (woken.back ?_ i r ?_ ?_).heard (started.heard.each i)
    · rw [upwr]
      exact hc
    · exact (igated i).trans hg
    · rw [upwr]
      exact hr
  case firmware =>
    refine fun k hk => ready k (startedCopy_of_starts ?_ ?_ hk)
    · rw [vpln, hfw]
    · rw [vpln, hsel]

/-! ### The release -/

/-- The device after the wake from DORMANT (R342, R346). -/
structure Released (s t : State) : Prop where
  state : t.pwr.state = 0 ∧ t.pwr.inflight = false ∧ t.pwr.waking = false
  event : pendBit t 555 = true
  img : t.img = dormantImg s.img
  regions : t.arb.rbase = s.arb.rbase ∧ t.arb.rlim = s.arb.rlim
  addr : t.irs.addr = s.irs.addr
  bays : ∀ b, (t.bay b).gated = false
  setters : ∀ i, (t.st i).gated = false
  hod : t.hod.gated = false
  store : t.store.retn = false
  back : s.pwr.caller = none → Back s t
  firmware : ∀ k, Starts s.pln k → t.pln.ready = true ∧ t.pln.copy = k

theorem Restored.released {s u t : State} (h : Restored s u) (k : WakeEnded u t) : Released s t := by
  have log := k.log.eq
  constructor
  case event => exact k.event
  case setters => exact fun i => (k.heard.each i).gated.trans (h.setters i)
  case back =>
    intro hc i r hg hr
    have back := (h.back hc i r hg hr).heard (k.heard.each i)
    exact ⟨back.g, back.acc, back.pc⟩
  case firmware =>
    rw [log]
    exact h.firmware
  all_goals rw [k.eq]
  case state => exact ⟨rfl, rfl, rfl⟩
  case img => exact h.img
  case regions => exact h.regions
  case addr => exact h.addr
  case bays => exact h.bays
  case hod => exact h.hod
  case store => exact h.store

theorem dormantWake_released (nets : List (BitVec 256)) (s : State) : Released s (endWake (gatedBay s) (dormantRestore nets s)) :=
  (dormantRestore_restored nets s).released (endWake_ends _ _)

section
variable {s : State} (nets : List (BitVec 256)) (h3 : s.pwr.state = 3) (hw : s.pwr.waking = true) (hr : s.pwr.stage = .run)
  (hs : s.clk.slock = true) (hh : s.clk.hlock = true)
include h3 hw hr hs hh

/-- The wake from DORMANT ends with an image loaded (R342). -/
theorem dormantWakeRelease_image (hhold : s.img.hold = false) (hp : pllsReady s.clk = true) :
    exec (.dormantWakeRelease nets) s = .next (endWake (gatedBay s) (dormantRestore nets s)) := by
  show Host.Outcome.next (if s.pwr.state != 3 || !s.pwr.waking || s.pwr.stage != .run then s else if !s.clk.slock || !s.clk.hlock then s
    else if !s.img.hold && !pllsReady s.clk then s else if !s.img.hold then _ else _) = _
  rw [h3, hw, hr, hs, hh, hhold, hp]
  rfl

/-- In the no-image state the device stays in it, RSTOUT_N low again (R288). -/
theorem dormantWakeRelease_none (hhold : s.img.hold = true) (hno : s.img.noimage = true) :
    exec (.dormantWakeRelease nets) s = .next { endWake (gatedBay s) (dormantRestore nets s) with rstout := true } := by
  show Host.Outcome.next (if s.pwr.state != 3 || !s.pwr.waking || s.pwr.stage != .run then s else if !s.clk.slock || !s.clk.hlock then s
    else if !s.img.hold && !pllsReady s.clk then s else if !s.img.hold then _ else if s.img.noimage then _ else _) = _
  rw [h3, hw, hr, hs, hh, hhold, hno]
  rfl

end

end Sys2Proof.Proofs
end

section
/-! PROOFS. O52: wakes. -/

namespace Sys2Proof.Proofs
open Sys2Proof Sys2Proof.Machine Sys2Proof.Claims

/-- Settles O52: in RUN a source is only flagged; in DOZE, in an entry to DOZE, in NAP and in DORMANT it wakes the device, and each domain
that comes back holds what its record, its plane and the tables give. -/
theorem wakes : Obligations.Wakes := by
  intro s k m v levels c d nets net p bit
  refine ⟨wakeSourceActive_run, wakeSourceActive_doze, wakeSourceActive_entry, wakeTimerExpiry_run, fun h ho hb => ?_, fun h ho hb => ?_,
    fun ho hv => ?_, wakeCell_run, domainWakeAccess_on, domainWakeAccess_off, domainWakeComplete_run net, napWake_begins,
    napWakeRelease_run nets, dormantWake_begins, fun h3 hw hr hhold hp hs hh => ?_, fun h3 hw hr hhold hno hs hh => ?_⟩
  · have put : writePwr 0x30 v ⟨0, 0, levels⟩ s = some (writeWakeen v levels s) := rfl
    rw [writeWakeen_run h hb] at put
    exact (exec_wakeEnableWrite ..).trans (congrArg Host.Outcome.next (writeAs_pwr ho (by decide) (by decide) put))
  · have put : writePwr 0x34 v ⟨0, 0, levels⟩ s = some (writeWakepol v levels s) := rfl
    rw [writeWakepol_run h hb] at put
    exact (exec_wakeEnableWrite ..).trans (congrArg Host.Outcome.next (writeAs_pwr ho (by decide) (by decide) put))
  · rw [exec_wakeTimerWrite]
    have put : writePwr 0x3C v (freeEnv s) { s with free := s.free + 2 } = some (writeWtimer v { s with free := s.free + 2 }) := rfl
    rw [writeWtimer_count hv] at put
    exact congrArg Host.Outcome.next (writeAs_pwr (regOpen_free ho _) (by decide) (by decide) put)
  · obtain ⟨⟨hstate, hinfl, hwaking⟩, hevent, himg, ⟨hbase, hlim⟩, haddr, hbays, hsetters, hhod, hstore, hback, hfirm⟩ :=
      dormantWake_released nets s
    exact ⟨_, dormantWakeRelease_image nets h3 hw hr hs hh hhold hp, hstate, hinfl, hwaking, hevent, hbays, hsetters, hhod, hstore, himg, hbase,
      hlim, haddr, hback, hfirm⟩
  · have released := dormantWake_released nets s
    have hexec := dormantWakeRelease_none nets h3 hw hr hs hh hhold hno
    generalize endWake (gatedBay s) (dormantRestore nets s) = t at released hexec
    obtain ⟨⟨hstate, hinfl, hwaking⟩, hevent, himg, ⟨hbase, hlim⟩, -, -, -, hhod, hstore, hback, -⟩ := released
    refine ⟨_, hexec, hstate, hinfl, hwaking, hevent, ?_, ?_, rfl, hhod, hstore, hbase, hlim, hback⟩
    · exact (congrArg Img.hold himg).trans hhold
    · exact (congrArg Img.noimage himg).trans hno

end Sys2Proof.Proofs
end

section
/-! PROOFS. A setter's instruction words (R75 to R77): the fields of the word formats, the words that a table of operations spells, and
the statement InstructionWords. -/

namespace Sys2Proof.Proofs
open Sys2Proof Sys2Proof.Machine Sys2Proof.Claims

/-! ### A number on top of a field -/

section Split
variable {w : Word} {j m p n k : Nat}

/-- A part of a word that holds the number k above the field x. -/
theorem field_parts {x : BitVec j} (q : Nat) (h : w.toNat % n = k * p + x.toNat) (hp : 2 ^ j = p) (hn : p * q = n) :
    w.toNat >>> j % q = k ∧ w.extractLsb' 0 j = x := by
  subst hp hn
  rw [← BitVec.toNat_inj, BitVec.extractLsb'_toNat, Nat.shiftRight_zero, Nat.shiftRight_eq_div_pow]
  constructor
  · rw [← Nat.mod_mul_right_div_self, h, Nat.mul_comm, Nat.mul_add_div (Nat.two_pow_pos j), Nat.div_eq_of_lt x.isLt, Nat.add_zero]
  · rw [← Nat.mod_mul_right_mod _ _ q, h, Nat.mul_comm, Nat.mul_add_mod, Nat.mod_eq_of_lt x.isLt]

theorem field_parts_of (w : Word) (q : Nat) (hp : 2 ^ j = p) (hn : p * q = n) :
    w.toNat % n = w.toNat >>> j % q * p + (w.extractLsb' 0 j).toNat := by
  rw [BitVec.extractLsb'_toNat, Nat.shiftRight_zero, Nat.shiftRight_eq_div_pow, hp, ← hn, Nat.mod_mul, Nat.mul_comm p, Nat.add_comm]

theorem extract_of_shift {x : BitVec m} (h : w.toNat >>> j % n = x.toNat) (hn : 2 ^ m = n) : w.extractLsb' j m = x := by
  rw [← BitVec.toNat_inj, BitVec.extractLsb'_toNat, hn, h]

theorem getLsbD_of_toNat {v : BitVec n} {b : Bool} (h : v.toNat / 2 ^ k % 2 = b.toNat) : v.getLsbD k = b := by
  rw [BitVec.getLsbD, Nat.testBit_eq_decide_div_mod_eq, h]
  cases b <;> rfl

/-- The function of a live-mask write: the operand above the bit that tells LUTWS from LUTW (R108). -/
theorem lutw_parts {x : BitVec 13} {b : Bool} (h : w.toNat % 16384 = 2 * x.toNat + b.toNat) :
    w.getLsbD 0 = b ∧ w.extractLsb' 1 13 = x := by
  have := b.toNat_le
  exact ⟨getLsbD_of_toNat (by omega), extract_of_shift (by rw [Nat.shiftRight_eq_div_pow]; omega) rfl⟩

theorem lutw_parts_of (w : Word) : w.toNat % 16384 = 2 * (w.extractLsb' 1 13).toNat + (w.getLsbD 0).toNat := by
  rw [BitVec.extractLsb'_toNat, BitVec.getLsbD, Nat.toNat_testBit, Nat.shiftRight_eq_div_pow]
  omega

end Split

/-- The multiplier's function: the operand above the operation (R91). -/
theorem mult_parts {w : Word} {k : Nat} {x : BitVec 9} (h : w.toNat % 16384 = x.toNat * 32 + k) (hk : k < 32) :
    w.toNat % 32 = k ∧ w.extractLsb' 5 9 = x :=
  ⟨by omega, extract_of_shift (by rw [Nat.shiftRight_eq_div_pow]; omega) rfl⟩

theorem mult_parts_of (w : Word) : w.toNat % 16384 = (w.extractLsb' 5 9).toNat * 32 + w.toNat % 32 := by
  rw [BitVec.extractLsb'_toNat, Nat.shiftRight_eq_div_pow]
  omega

/-! ### The formats -/

/-- The fields of a word in the A format (R75). -/
structure FormA (w : Word) (op : Nat) (r : Regs) (fn : Nat) : Prop where
  opcode : w.toNat >>> 26 = op
  regs : regsOf w = r
  function : w.toNat % 16384 = fn

/-- The fields of a word with two registers above 18 bits: the I format and the op form (R75, R93, R114). -/
structure FormI (w : Word) (op : Nat) (d a : Reg) (low : Nat) : Prop where
  opcode : w.toNat >>> 26 = op
  d : regAt w 22 = d
  a : regAt w 18 = a
  low : w.toNat % 262144 = low

/-- The fields of a branch (R100). -/
structure FormB (w : Word) (op : Nat) (c : BitVec 4) (off : BitVec 22) : Prop where
  opcode : w.toNat >>> 26 = op
  low : w.toNat % 67108864 = c.toNat * 4194304 + off.toNat

/-- The word with two registers above these 18 bits. -/
def wordL (op : Nat) (d a : Reg) (low : Nat) : Word := BitVec.ofNat 32 (op * 2 ^ 26 + d.val * 2 ^ 22 + a.val * 2 ^ 18 + low)

/-- The word of a branch. -/
def wordB (op : Nat) (c : BitVec 4) (off : BitVec 22) : Word := BitVec.ofNat 32 (op * 2 ^ 26 + c.toNat * 2 ^ 22 + off.toNat)

theorem wordI_eq (op : Nat) (d a : Reg) (mode : BitVec 2) (imm : BitVec 16) :
    wordI op d a mode imm = wordL op d a (mode.toNat * 65536 + imm.toNat) := congrArg (BitVec.ofNat 32) (Nat.add_assoc ..)

theorem wordM_eq (op : Nat) (d a : Reg) (k : Nat) (off : BitVec 14) :
    wordM op d a k off = wordL op d a (k * 16384 + off.toNat) := congrArg (BitVec.ofNat 32) (Nat.add_assoc ..)

theorem wordA_eq (op : Nat) (r : Regs) (fn : Nat) : wordA op r fn = wordL op r.d r.a (r.b.val * 16384 + fn) :=
  congrArg (BitVec.ofNat 32) (Nat.add_assoc ..)

section Forms
variable {w : Word} {op fn low : Nat} {r : Regs} {d a : Reg} {c : BitVec 4} {off : BitVec 22}

theorem formI_wordL (ho : op < 64) (hl : low < 262144) : FormI (wordL op d a low) op d a low := by
  have hw : (wordL op d a low).toNat = op * 2 ^ 26 + d.val * 2 ^ 22 + a.val * 2 ^ 18 + low := by
    rw [wordL, BitVec.toNat_ofNat, Nat.mod_eq_of_lt (by omega)]
  generalize wordL op d a low = w at hw
  constructor <;> simp only [regAt, Fin.ext_iff, hw, Nat.shiftRight_eq_div_pow] <;> omega

theorem FormI.word_eq (h : FormI w op d a low) : wordL op d a low = w := by
  obtain ⟨rfl, rfl, rfl, rfl⟩ := h
  have := w.isLt
  rw [← BitVec.toNat_inj]
  simp only [wordL, regAt, BitVec.toNat_ofNat, Nat.shiftRight_eq_div_pow]
  omega

theorem formB_wordB (ho : op < 64) : FormB (wordB op c off) op c off := by
  have hw : (wordB op c off).toNat = op * 2 ^ 26 + c.toNat * 2 ^ 22 + off.toNat := by
    rw [wordB, BitVec.toNat_ofNat, Nat.mod_eq_of_lt (by omega)]
  generalize wordB op c off = w at hw
  constructor <;> simp only [hw, Nat.shiftRight_eq_div_pow] <;> omega

theorem FormB.word_eq (h : FormB w op c off) : wordB op c off = w := by
  obtain ⟨rfl, hl⟩ := h
  have := w.isLt
  rw [← BitVec.toNat_inj]
  simp only [wordB, BitVec.toNat_ofNat, Nat.shiftRight_eq_div_pow]
  omega

/-- The A format is the one of two registers with field b on top of the function. -/
theorem formA_iff (hf : fn < 16384) : FormA w op r fn ↔ FormI w op r.d r.a (r.b.val * 16384 + fn) := by
  obtain ⟨d, a, b⟩ := r
  constructor
  · rintro ⟨rfl, hr, rfl⟩
    cases hr
    refine ⟨rfl, rfl, rfl, ?_⟩
    simp only [regAt, Nat.shiftRight_eq_div_pow]
    omega
  · rintro ⟨rfl, rfl, rfl, hl⟩
    refine ⟨rfl, ?_, by omega⟩
    simp only [regsOf, Regs.mk.injEq, true_and, regAt, Fin.ext_iff, Nat.shiftRight_eq_div_pow] at hl ⊢
    omega

theorem wordA_regsOf (ho : w.toNat >>> 26 = op) (hf : w.toNat % 16384 = fn) : wordA op (regsOf w) fn = w :=
  (wordA_eq ..).trans ((formA_iff (by omega)).1 ⟨ho, rfl, hf⟩).word_eq

/-- The I format's word from its own fields. -/
theorem wordI_fields (ho : w.toNat >>> 26 = op) :
    wordI op (regAt w 22) (regAt w 18) (w.extractLsb' 16 2) (w.extractLsb' 0 16) = w := by
  rw [wordI_eq, BitVec.extractLsb'_toNat 16 2]
  exact FormI.word_eq ⟨ho, rfl, rfl, field_parts_of w 4 rfl rfl⟩

/-- The op form's word from its own fields. -/
theorem wordM_fields (ho : w.toNat >>> 26 = op) :
    wordM op (regAt w 22) (regAt w 18) (w.toNat >>> 14 % 16) (w.extractLsb' 0 14) = w := by
  rw [wordM_eq]
  exact FormI.word_eq ⟨ho, rfl, rfl, field_parts_of w 16 rfl rfl⟩

/-- A branch's word from its own fields. -/
theorem wordB_fields (ho : w.toNat >>> 26 = op) : wordB op (w.extractLsb' 22 4) (w.extractLsb' 0 22) = w := by
  refine FormB.word_eq ⟨ho, ?_⟩
  rw [BitVec.extractLsb'_toNat 22 4]
  exact field_parts_of w 16 rfl rfl

end Forms

/-! ### The decoder on an encoded instruction -/

section Encoded
variable {s : SetterId} {op fn k : Nat} {r : Regs} {d a : Reg} {net : Bool} {nets : BitVec 256} {e : Fetched}

theorem formA_of_encode (h : some ⟨s, wordA op r fn, net, nets⟩ = some e) (ho : op < 64) (hf : fn < 16384) :
    ∃ w, e = ⟨s, w, net, nets⟩ ∧ FormA w op r fn := by
  refine ⟨_, (Option.some.inj h).symm, (formA_iff hf).2 ?_⟩
  rw [wordA_eq]
  exact formI_wordL ho (by omega)

theorem formI_of_encode {mode : BitVec 2} {imm : BitVec 16} (h : some ⟨s, wordI op d a mode imm, net, nets⟩ = some e) (ho : op < 64) :
    ∃ w, e = ⟨s, w, net, nets⟩ ∧ FormI w op d a (mode.toNat * 65536 + imm.toNat) := by
  refine ⟨_, (Option.some.inj h).symm, ?_⟩
  rw [wordI_eq]
  exact formI_wordL ho (by omega)

theorem formM_of_encode {off : BitVec 14} (h : some ⟨s, wordM op d a k off, net, nets⟩ = some e) (ho : op < 64) (hk : k < 16) :
    ∃ w, e = ⟨s, w, net, nets⟩ ∧ FormI w op d a (k * 16384 + off.toNat) := by
  refine ⟨_, (Option.some.inj h).symm, ?_⟩
  rw [wordM_eq]
  exact formI_wordL ho (by omega)

theorem formB_of_encode {c : BitVec 4} {off : BitVec 22} (h : some ⟨s, wordB op c off, net, nets⟩ = some e) (ho : op < 64) :
    ∃ w, e = ⟨s, w, net, nets⟩ ∧ FormB w op c off := ⟨_, (Option.some.inj h).symm, formB_wordB ho⟩

/-- The immediate instructions take their fields as they stand (R89). -/
theorem decodeImm_form {w : Word} {mode : BitVec 2} {imm : BitVec 16} (f : FormI w op d a (mode.toNat * 65536 + imm.toNat))
    (ins : Reg → Reg → BitVec 2 → BitVec 16 → Instr) : decodeImm ins w = ins d a mode imm := by
  obtain ⟨hm, hi⟩ := field_parts 4 f.low rfl rfl
  rw [decodeImm, f.d, f.a, extract_of_shift hm rfl, hi]

/-- A SYS word names its service (R126). -/
theorem decode_sys {n : BitVec 10} (h : some ⟨s, wordA 0x00 r (3 * 1024 + n.toNat), net, nets⟩ = some e) :
    decodeWord e.s e.word e.net e.nets = decodeSys s r n := by
  obtain ⟨w, rfl, f⟩ := formA_of_encode h (by decide) (by omega)
  obtain ⟨hk, hx⟩ := field_parts 16 f.function rfl rfl
  simp only [decodeWord, f.opcode, decodeSystem, f.regs, hk, hx]
  rfl

theorem decodeSys_undefined {n : BitVec 10} (h : n.toNat ∉ [0x010, 0x011, 0x020, 0x021, 0x030, 0x040]) :
    decodeSys s r n = .sysUndefinedService s r n := by
  simp only [List.mem_cons, List.not_mem_nil, or_false, not_or] at h
  unfold decodeSys
  split <;> simp_all

end Encoded

/-- The decoder gives back the instruction that was encoded: one case per major opcode and format (R77). -/
theorem decode_encode {c : Instr} {e : Fetched} (h : encodeWord c = some e) : decodeWord e.s e.word e.net e.nets = c := by
  cases c
  case nop s bad =>
    cases bad <;> cases h
    simp [decodeWord, decodeSystem, pick]
  case halt s r x | fence s r x | csrr s r x | csrw s r x =>
    obtain ⟨w, rfl, f⟩ := formA_of_encode h (by decide) (by omega)
    obtain ⟨hk, hx⟩ := field_parts 16 f.function rfl rfl
    simp only [decodeWord, f.opcode, decodeSystem, f.regs, hk, hx]
    rfl
  case sleep => exact decode_sys (n := 0x010) h
  case sysResume => exact decode_sys (n := 0x011) h
  case sysTest => exact decode_sys (n := 0x020) h
  case sysTestAbort => exact decode_sys (n := 0x021) h
  case sysSwap => exact decode_sys (n := 0x030) h
  case bondSwap => exact decode_sys (n := 0x040) h
  case sysUndefinedService s r n =>
    obtain ⟨hn, h⟩ := Option.ite_none_left_eq_some.1 h
    exact (decode_sys h).trans (decodeSys_undefined hn)
  case add s r | addc s r | sub s r | subb s r | and s r | or s r | xor s r | andn s r | shl s r | shr s r | sar s r | rol s r
      | min s r | max s r | minu s r | maxu s r | cmp s r | cmpu s r | clz s r | popc s r | divu s r | divs s r | remu s r
      | rems s r =>
    obtain ⟨w, rfl, f⟩ := formA_of_encode h (by decide) (by decide)
    simp only [decodeWord, f.opcode, decodeAlu, f.regs, f.function]
    rfl
  case addi s d a mode imm | andi s d a mode imm | ori s d a mode imm | xori s d a mode imm | cmpi s d a mode imm
      | lui s d a mode imm | loop s d a mode imm =>
    obtain ⟨w, rfl, f⟩ := formI_of_encode h (by decide)
    simp only [decodeWord, f.opcode, decodeImm_form f]
  case shli s d a imm | shri s d a imm | sari s d a imm | roli s d a imm =>
    obtain ⟨w, rfl, f⟩ := formI_of_encode h (by decide)
    simp only [decodeWord, f.opcode, decodeShift, decodeImm_form f]
    rfl
  case mul s r x | mulh s r x | mulhu s r x | mac s r x | macs s r x | accrd s r x | accld s r x | accclr s r x =>
    obtain ⟨w, rfl, f⟩ := formA_of_encode h (by decide) (by omega)
    obtain ⟨hk, hx⟩ := mult_parts f.function (by decide)
    simp only [decodeWord, f.opcode, decodeMult, f.regs, hk, hx]
    rfl
  case ld s d a off | ldh s d a off | ldhu s d a off | ldb s d a off | ldbu s d a off | st s d a off | sth s d a off
      | stb s d a off | sld s d a off | sst s d a off | sldq s d a off | sstq s d a off | sswap s d a off =>
    obtain ⟨w, rfl, f⟩ := formM_of_encode h (by decide) (by decide)
    obtain ⟨hk, hx⟩ := field_parts 16 f.low rfl rfl
    simp only [decodeWord, f.opcode, decodeMem, f.d, f.a, hk, hx]
    rfl
  case bld s r x | bldn s r x | band s r x | bandn s r x | bor s r x | born s r x | bxor s r x | bnot s r x | bpush s r x
      | bpop s r x | bout s r x | bset s r x | brst s r x | bedge s r x =>
    obtain ⟨w, rfl, f⟩ := formA_of_encode h (by decide) (by omega)
    obtain ⟨hk, hx⟩ := field_parts 32 f.function rfl rfl
    simp only [decodeWord, f.opcode, decodeBit, f.regs, hk, hx]
    rfl
  case tin s r x | tout s r x | tbit s r x | tedge s r x | tind s r x net | toutd s r x =>
    obtain ⟨w, rfl, f⟩ := formA_of_encode h (by decide) (by omega)
    obtain ⟨hk, hx⟩ := field_parts 16 f.function rfl rfl
    simp only [decodeWord, f.opcode, decodeTap, f.regs, hk, hx]
    rfl
  case tmrs s r x | tmrq s r x | tmrc s r x | tmrrd s r x | put s r x | get s r x | peek s r x | qst s r x | wev s r x | sev s r x
      | evq s r x =>
    obtain ⟨w, rfl, f⟩ := formA_of_encode h (by decide) (by omega)
    obtain ⟨hk, hx⟩ := field_parts 4 f.function rfl rfl
    simp only [decodeWord, f.opcode, decodeTwo, f.regs, hk, hx]
    rfl
  case frame s r nets | fcnt s r =>
    obtain ⟨w, rfl, f⟩ := formA_of_encode h (by decide) (by decide)
    simp only [decodeWord, f.opcode, decodeFrame, f.regs, f.function]
    rfl
  case lutw s r x =>
    obtain ⟨w, rfl, f⟩ := formA_of_encode h (by decide) (by omega)
    obtain ⟨hb, hx⟩ := lutw_parts (b := false) f.function
    simp only [decodeWord, f.opcode, f.regs, hb, hx]
    rfl
  case lutws s r x =>
    obtain ⟨w, rfl, f⟩ := formA_of_encode h (by decide) (by omega)
    obtain ⟨hb, hx⟩ := lutw_parts (b := true) f.function
    simp only [decodeWord, f.opcode, f.regs, hb, hx]
    rfl
  case br s c off | brl s c off =>
    obtain ⟨w, rfl, f⟩ := formB_of_encode h (by decide)
    obtain ⟨hc, ho⟩ := field_parts 16 f.low rfl rfl
    simp only [decodeWord, f.opcode, extract_of_shift hc rfl, ho]
  case jmp s r =>
    obtain ⟨w, rfl, f⟩ := formA_of_encode h (by decide) (by decide)
    simp only [decodeWord, f.opcode, f.regs, f.function]
    rfl
  all_goals cases h

/-! ### The word of a decoded instruction -/

/-- The setter and the word that an instruction is encoded for. -/
def spelling (c : Instr) : Option (SetterId × Word) := (encodeWord c).map fun e => (e.s, e.word)

/-- Where this is an instruction, this word of this setter is its own. -/
def Spells (s : SetterId) (w : Word) (c : Instr) : Prop := ¬Reserved c → spelling c = some (s, w)

section Decoded
variable {s : SetterId} {w : Word} {n op : Nat}

theorem badFunction_spells : Spells s w (badFunction s) := fun hn => absurd ⟨s, _, rfl⟩ hn

theorem spells_word {v : Word} {c : Instr} (hw : v = w) (hc : spelling c = some (s, v)) : Spells s w c := fun _ => hw ▸ hc

/-- A table of operations whose entry k stands for the word `word k`. -/
theorem pick_spells {l : List Instr} (word : Nat → Word) (hw : word n = w)
    (hl : l.map spelling = (List.range l.length).map fun k => some (s, word k)) : Spells s w (pick s l n) := by
  by_cases h : n < l.length
  · have hs := congrArg (·[n]?) hl
    exact fun _ => by simpa [pick, h, hw] using hs
  · rw [pick, List.getD_eq_default _ _ (by omega)]
    exact badFunction_spells

/-- A table whose operation stands on top of the function, above j bits of the operand. -/
theorem table_spells {l : List Instr} {j p q : Nat} (ho : w.toNat >>> 26 = op) (hp : 2 ^ j = p) (hq : p * q = 16384)
    (hl : l.map spelling = (List.range l.length).map fun k => some (s, wordA op (regsOf w) (k * p + (w.extractLsb' 0 j).toNat))) :
    Spells s w (pick s l (w.toNat >>> j % q)) :=
  pick_spells (fun k => wordA op (regsOf w) (k * p + (w.extractLsb' 0 j).toNat)) (wordA_regsOf ho (field_parts_of w q hp hq)) hl

theorem spelling_sys {n : BitVec 10} {r : Regs} : spelling (decodeSys s r n) = some (s, wordA 0x00 r (3 * 1024 + n.toNat)) := by
  by_cases h : n.toNat ∈ [0x010, 0x011, 0x020, 0x021, 0x030, 0x040]
  · have hv : n ∈ [0x010#10, 0x011#10, 0x020#10, 0x021#10, 0x030#10, 0x040#10] := by
      simpa [← BitVec.toNat_inj] using h
    fin_cases hv <;> rfl
  · rw [decodeSys_undefined h]
    simp only [spelling, encodeWord, if_neg h, plainWord, Option.map_some]

/-- Entries 0 and 3 of the system table are NOP and SYS, whose words have conditions of their own (R82, R126). -/
theorem decodeSystem_spells (ho : w.toNat >>> 26 = 0x00) : Spells s w (decodeSystem s w) := by
  have hw := wordA_regsOf ho (field_parts_of w (j := 10) 16 rfl rfl)
  unfold decodeSystem
  generalize w.toNat >>> 10 % 16 = k at hw
  rcases k with _ | _ | _ | _ | _ | _ | k
  · by_cases h0 : w = 0
    · subst h0
      exact fun _ => rfl
    · exact fun hn => absurd ⟨s, .operandRule, congrArg (Instr.nop s) (if_neg h0)⟩ hn
  · exact spells_word hw rfl
  · exact spells_word hw rfl
  · exact spells_word hw spelling_sys
  · exact spells_word hw rfl
  · exact spells_word hw rfl
  · exact badFunction_spells

theorem decodeMem_spells (loc : Bool) (ho : w.toNat >>> 26 = if loc then 0x0A else 0x0C) : Spells s w (decodeMem s loc w) := by
  refine pick_spells (fun k => wordM _ (regAt w 22) (regAt w 18) k (w.extractLsb' 0 14)) (wordM_fields ho) ?_
  cases loc <;> rfl

/-- Every word that spells an instruction is that instruction's own: one case per major opcode (R77). -/
theorem decodeWord_spells (net : Bool) (nets : BitVec 256) : Spells s w (decodeWord s w net nets) := by
  unfold decodeWord
  split
  next ho => exact decodeSystem_spells ho
  next ho => exact pick_spells (wordA 0x01 (regsOf w)) (wordA_regsOf ho rfl) rfl
  next ho => exact spells_word (wordI_fields ho) rfl
  next ho => exact spells_word (wordI_fields ho) rfl
  next ho => exact spells_word (wordI_fields ho) rfl
  next ho => exact spells_word (wordI_fields ho) rfl
  next ho =>
    refine pick_spells (fun k => wordI 0x06 (regAt w 22) (regAt w 18) (BitVec.ofNat 2 k) (w.extractLsb' 0 16)) ?_ rfl
    rw [BitVec.ofNat_toNat, BitVec.setWidth_eq]
    exact wordI_fields ho
  next ho => exact spells_word (wordI_fields ho) rfl
  next ho => exact spells_word (wordI_fields ho) rfl
  next ho =>
    exact pick_spells (fun k => wordA 0x09 (regsOf w) ((w.extractLsb' 5 9).toNat * 32 + k)) (wordA_regsOf ho (mult_parts_of w)) rfl
  next ho => exact decodeMem_spells true ho
  next ho => exact decodeMem_spells false ho
  next ho => exact table_spells ho rfl rfl rfl
  next ho => exact table_spells ho rfl rfl rfl
  next ho => exact table_spells ho rfl rfl rfl
  next ho => exact table_spells ho rfl rfl rfl
  next ho => exact table_spells ho rfl rfl rfl
  next ho => exact pick_spells (wordA 0x16 (regsOf w)) (wordA_regsOf ho rfl) rfl
  next ho =>
    have hw := wordA_regsOf ho (lutw_parts_of w)
    generalize w.getLsbD 0 = b at hw ⊢
    cases b <;> exact spells_word hw rfl
  next ho => exact spells_word (wordB_fields ho) rfl
  next ho => exact spells_word (wordB_fields ho) rfl
  next ho =>
    split
    next hf => exact spells_word (wordA_regsOf ho hf) rfl
    next => exact badFunction_spells
  next ho => exact spells_word (wordI_fields ho) rfl
  next => exact fun hn => absurd ⟨s, _, rfl⟩ hn

end Decoded

/-- Settles O60: the fields of each format read back what was put in, and each word is put together again from its fields. -/
theorem instructionWords : Obligations.InstructionWords := by
  unfold Obligations.InstructionWords
  refine ⟨fun c e => decode_encode, fun s w net nets hn => ?_, fun s net nets => ⟨rfl, rfl, rfl, rfl, rfl, rfl⟩⟩
  obtain ⟨e, he, hsw⟩ := Option.map_eq_some_iff.1 (decodeWord_spells net nets hn)
  exact ⟨e, he, (Prod.mk.inj hsw).1, (Prod.mk.inj hsw).2⟩

end Sys2Proof.Proofs
end

section
/-! PROOFS. Opcode 0x01 (R85 to R88): what a register operation leaves, the model's results as the spec's formulas, and the statements
SumsAndCompares, LogicShiftsCounts and Divisions. -/

namespace Sys2Proof.Proofs
open Sys2Proof Sys2Proof.Machine Sys2Proof.Claims

section RegOp
variable {s : State} {i : SetterId}

theorem exec_regOp {r : Regs} {c : Nat} {op : Flags → Word → Word → Word × Flags} {y : Word × Flags} (h : Ready s i)
    (hy : op (s.st i).flags ((s.st i).g.get r.a) ((s.st i).g.get r.b) = y) :
    regOp i r c op s = ran s i (wrote (s.st i) r.d y.1 y.2) (c + waits (s.st i) [r.a, r.b]) none false := by
  subst hy
  exact issue_done h rfl h.run

/-- A unary operation, whose field b is 0 (R85). -/
theorem exec_regOp1 {d a : Reg} {op : Word → Word} {v : Word} (h : Ready s i) (hv : op ((s.st i).g.get a) = v) :
    regOp1 i ⟨d, a, 0⟩ op s = ran s i (wrote (s.st i) d v (zn (s.st i).flags v)) (1 + waits (s.st i) [a]) none false := by
  subst hv
  rw [← setZN_eq_zn]
  exact (issue_needZero rfl).trans (issue_done h rfl h.run)

end RegOp

/-! ### Sums, differences and compares -/

theorem addRes_eq (a b : Word) (c : Bool) : addRes a b c = BitVec.ofNat 32 (a.toNat + b.toNat + c.toNat) := by
  simp only [addRes, BitVec.ofNat_add, BitVec.ofNat_toNat, BitVec.setWidth_eq]

theorem subRes_eq (a b : Word) (c : Bool) : subRes a b c = BitVec.ofInt 32 ((a.toNat : Int) - b.toNat - c.toNat) := by
  have := a.isLt
  have := b.isLt
  have := c.toNat_le
  rw [← BitVec.toNat_inj]
  simp only [subRes, BitVec.toNat_sub, BitVec.toNat_ofInt, BitVec.toNat_ofNat]
  omega

/-- The addition of R80 and R85. -/
theorem addition_eq (f : Flags) (a b : Word) (c : Bool) : (addRes a b c, addFlags f a b c) = sum f a b c.toNat := by
  rw [addFlags, setZN_eq_zn, addRes_eq]
  rfl

/-- The subtraction of R80 and R85. -/
theorem subtraction_eq (f : Flags) (a b : Word) (c : Bool) : (subRes a b c, subFlags f a b c) = diff f a b c.toNat := by
  rw [subFlags, setZN_eq_zn, subRes_eq]
  rfl

theorem cmp_eq (f : Flags) (a b : Word) : (cmpRes a b, subFlags f a b false) = three f a b (decide (a.toInt < b.toInt)) := by
  rw [three, ← Bool.toNat_false, ← subtraction_eq, cmpRes]
  simp only [decide_eq_true_eq]
  rfl

theorem cmpu_eq (f : Flags) (a b : Word) : (cmpuRes a b, subFlags f a b false) = three f a b (decide (a.toNat < b.toNat)) := by
  rw [three, ← Bool.toNat_false, ← subtraction_eq, cmpuRes]
  simp only [decide_eq_true_eq]
  rfl

/-- Z after a subtraction: the operands are equal. -/
theorem diff_z (f : Flags) (a b : Word) : (diff f a b 0).2.z = decide (a = b) := by
  have := a.isLt
  have := b.isLt
  simp only [diff, zn, BitVec.toNat_ofInt, ← BitVec.toNat_inj, decide_eq_decide]
  omega

/-- C after a subtraction: the first operand is the smaller one without sign. -/
theorem diff_c (f : Flags) (a b : Word) : (diff f a b 0).2.c = decide (a.toNat < b.toNat) := rfl

/-- N and V differ after a subtraction: the first operand is the smaller one with sign. -/
theorem diff_nv (f : Flags) (a b : Word) : ((diff f a b 0).2.n != (diff f a b 0).2.v) = decide (a.toInt < b.toInt) := by
  have := a.isLt
  have := b.isLt
  have hn : (diff f a b 0).2.n = decide (2 ^ 31 ≤ ((a.toNat : Int) - b.toNat) % 2 ^ 32) := by
    simp only [diff, zn, BitVec.toNat_ofInt, decide_eq_decide]
    omega
  have hv : (diff f a b 0).2.v = outside (a.toInt - b.toInt) := congrArg outside (Int.sub_zero _)
  rw [hn, hv, outside, ← Bool.decide_or, Bool.eq_iff_iff]
  simp only [bne_iff_ne, ne_eq, decide_eq_decide, decide_eq_true_eq, BitVec.toInt_eq_toNat_cond]
  split <;> split <;> omega

/-- The conditions 1 to 10 of R81 after a compare. -/
theorem conditions_three (f : Flags) (a b : Word) (lt : Bool) : ((conditions (three f a b lt).2).drop 1).take 10 =
    [decide (a = b), decide (a ≠ b), decide (a.toInt < b.toInt), decide (b.toInt ≤ a.toInt), decide (a.toInt ≤ b.toInt),
     decide (b.toInt < a.toInt), decide (a.toNat < b.toNat), decide (b.toNat ≤ a.toNat), decide (a.toNat ≤ b.toNat),
     decide (b.toNat < a.toNat)] := by
  have heq : ∀ x y : Bool, (x == y) = !(x != y) := by decide
  simp only [conditions, three, List.drop_succ_cons, List.drop_zero, List.take_succ_cons, List.take_zero, heq, diff_z, diff_c, diff_nv,
    ← decide_not, ← Bool.decide_or, ← Bool.decide_and, List.cons.injEq, and_true, decide_eq_decide]
  by_cases h : a = b
  · subst h
    simp
  · have hi := mt BitVec.toInt_inj.1 h
    have hn := mt BitVec.toNat_inj.1 h
    simp only [h, not_false_eq_true, true_and, and_true, false_or, or_false]
    omega

/-- Settles O1: each row is a register operation whose result and flags are the spec's formula. -/
theorem sumsAndCompares : Obligations.SumsAndCompares := by
  unfold Obligations.SumsAndCompares
  refine ⟨fun e he s i r h => ?_, conditions_three⟩
  fin_cases he
  · exact congrArg _ (exec_regOp h (addition_eq _ _ _ false))
  · exact congrArg _ (exec_regOp h (addition_eq ..))
  · exact congrArg _ (exec_regOp h (subtraction_eq _ _ _ false))
  · exact congrArg _ (exec_regOp h (subtraction_eq ..))
  · exact congrArg _ (exec_regOp h (cmp_eq ..))
  · exact congrArg _ (exec_regOp h (cmpu_eq ..))

/-! ### Logic, shifts, smaller and larger of two -/

theorem znOp_eq (op : Word → Word → Word) : znOp op = plain op := by
  funext f a b
  rw [znOp, setZN_eq_zn]
  rfl

theorem shiftFlags_eq (f : Flags) (r : Word) (n : Nat) (out : Bool) : (r, shiftFlags f r n out) = moved f r n out := by
  rw [shiftFlags, setZN_eq_zn]
  rfl

theorem shlRes_eq (a : Word) (n : Nat) : shlRes a n = BitVec.ofNat 32 (a.toNat * 2 ^ n) := by
  rw [← BitVec.toNat_inj, shlRes, BitVec.toNat_shiftLeft, BitVec.toNat_ofNat, Nat.shiftLeft_eq]

theorem shrRes_eq (a : Word) (n : Nat) : shrRes a n = BitVec.ofNat 32 (a.toNat / 2 ^ n) := by
  rw [← BitVec.toNat_inj, shrRes, BitVec.toNat_ushiftRight, BitVec.toNat_ofNat, Nat.shiftRight_eq_div_pow,
    Nat.mod_eq_of_lt (Nat.lt_of_le_of_lt (Nat.div_le_self ..) a.isLt)]

theorem sarRes_eq (a : Word) (n : Nat) : sarRes a n = BitVec.ofInt 32 (a.toInt / 2 ^ n) := by
  rw [sarRes, ← BitVec.ofInt_toInt (x := a.sshiftRight n), BitVec.toInt_sshiftRight, Int.shiftRight_eq_div_pow]
  norm_cast

/-- A rotation is the sum of its two halves, which share no bit. -/
theorem rolRes_eq (a : Word) {n : Nat} (hn : n < 32) : rolRes a n = BitVec.ofNat 32 (a.toNat * 2 ^ n + a.toNat / 2 ^ (32 - n)) := by
  have hlow : a.toNat / 2 ^ (32 - n) < 2 ^ n := by
    rw [Nat.div_lt_iff_lt_mul (Nat.two_pow_pos _), ← Nat.pow_add, Nat.add_sub_cancel' hn.le]
    exact a.isLt
  have hhigh : a.toNat * 2 ^ n % 2 ^ 32 = (a.toNat % 2 ^ (32 - n)) <<< n := by
    rw [Nat.shiftLeft_eq, ← Nat.mul_mod_mul_right, ← Nat.pow_add, Nat.sub_add_cancel hn.le]
  rw [← BitVec.toNat_inj, rolRes, BitVec.toNat_rotateLeft, Nat.mod_eq_of_lt hn, Nat.shiftRight_eq_div_pow, Nat.shiftLeft_eq, hhigh,
    ← Nat.shiftLeft_add_eq_or_of_lt hlow, BitVec.toNat_ofNat, Nat.add_mod, hhigh, Nat.add_mod_mod]
  refine (Nat.mod_eq_of_lt ?_).symm
  calc (a.toNat % 2 ^ (32 - n)) <<< n + a.toNat / 2 ^ (32 - n)
    _ < (a.toNat % 2 ^ (32 - n)) * 2 ^ n + 2 ^ n := by rw [Nat.shiftLeft_eq]; omega
    _ = (a.toNat % 2 ^ (32 - n) + 1) * 2 ^ n := by rw [Nat.add_mul, Nat.one_mul]
    _ ≤ 2 ^ (32 - n) * 2 ^ n := Nat.mul_le_mul_right _ (Nat.mod_lt _ (Nat.two_pow_pos _))
    _ = 2 ^ 32 := by rw [← Nat.pow_add, Nat.sub_add_cancel hn.le]

theorem shlOp_eq : shlOp = shl := by
  funext f a n
  rw [shlOp, shiftFlags_eq, shlRes_eq]
  rfl

theorem shrOp_eq : shrOp = shr := by
  funext f a n
  rw [shrOp, shiftFlags_eq, shrRes_eq]
  rfl

theorem sarOp_eq : sarOp = sar := by
  funext f a n
  rw [sarOp, shiftFlags_eq, sarRes_eq]
  rfl

theorem rolOp_eq (f : Flags) (a : Word) {n : Nat} (hn : n < 32) : rolOp f a n = rol f a n := by
  rw [rolOp, shiftFlags_eq, rolRes_eq a hn]
  rfl

theorem minResult_eq (a b : Word) : (if a.toInt ≤ b.toInt then a else b) = BitVec.ofInt 32 (min a.toInt b.toInt) := by
  rw [min_def, apply_ite (BitVec.ofInt 32), BitVec.ofInt_toInt, BitVec.ofInt_toInt]

theorem maxResult_eq (a b : Word) : (if a.toInt ≤ b.toInt then b else a) = BitVec.ofInt 32 (max a.toInt b.toInt) := by
  rw [max_def, apply_ite (BitVec.ofInt 32), BitVec.ofInt_toInt, BitVec.ofInt_toInt]

theorem minuResult_eq (a b : Word) : (if a.toNat ≤ b.toNat then a else b) = BitVec.ofNat 32 (min a.toNat b.toNat) := by
  rw [min_def, apply_ite (BitVec.ofNat 32), BitVec.ofNat_toNat, BitVec.ofNat_toNat, BitVec.setWidth_eq, BitVec.setWidth_eq]

theorem maxuResult_eq (a b : Word) : (if a.toNat ≤ b.toNat then b else a) = BitVec.ofNat 32 (max a.toNat b.toNat) := by
  rw [max_def, apply_ite (BitVec.ofNat 32), BitVec.ofNat_toNat, BitVec.ofNat_toNat, BitVec.setWidth_eq, BitVec.setWidth_eq]

/-! ### Bit counts -/

theorem leadingZeros_eq (a : Word) {n : Nat} (h : a.toNat < 2 ^ n) :
    leadingZeros a n = if a.toNat = 0 then n else n - 1 - a.toNat.log2 := by
  induction n with
  | zero => rw [if_pos (by simpa using h)]; rfl
  | succ n ih =>
    have hbit : a.getLsbD n = decide (2 ^ n ≤ a.toNat) := by
      rw [BitVec.getLsbD]
      by_cases hn : 2 ^ n ≤ a.toNat
      · rw [Nat.testBit_of_two_pow_le_and_two_pow_add_one_gt hn h, decide_eq_true hn]
      · rw [Nat.testBit_lt_two_pow (Nat.lt_of_not_le hn), decide_eq_false hn]
    rw [leadingZeros, hbit]
    by_cases hn : 2 ^ n ≤ a.toNat
    · have h0 : a.toNat ≠ 0 := by have := Nat.two_pow_pos n; omega
      rw [if_pos (decide_eq_true hn), if_neg h0, (Nat.log2_eq_iff h0).2 ⟨hn, h⟩]
      omega
    · rw [if_neg (by simpa using hn), ih (by omega)]
      split
      · omega
      · next h0 =>
        have := (Nat.log2_lt h0).2 (Nat.lt_of_not_le hn)
        omega

theorem clzRes_eq (a : Word) : clzRes a = BitVec.ofNat 32 (leadingZeros a 32) := by
  rw [clzRes, leadingZeros_eq a a.isLt]
  simp only [← BitVec.toNat_inj (x := a)]
  rfl

theorem foldl_eq_ones (a : Word) (n : Nat) : (List.range n).foldl (fun k i => k + (a.getLsbD i).toNat) 0 = ones a n := by
  induction n with
  | zero => rfl
  | succ n ih =>
    rw [List.range_succ, List.foldl_append, ih, ones, List.foldl_cons, List.foldl_nil]
    cases a.getLsbD n <;> rfl

theorem popcRes_eq (a : Word) : popcRes a = BitVec.ofNat 32 (ones a 32) := congrArg (BitVec.ofNat 32) (foldl_eq_ones a 32)

/-- Settles O2: each row is a register operation whose result and flags are the spec's formula. -/
theorem logicShiftsCounts : Obligations.LogicShiftsCounts := by
  unfold Obligations.LogicShiftsCounts
  refine ⟨fun e he s i r h => ?rows, fun s i d a h => ⟨?clz, ?popc⟩⟩
  case clz => exact congrArg _ (exec_regOp1 h (clzRes_eq _))
  case popc => exact congrArg _ (exec_regOp1 h (popcRes_eq _))
  case rows =>
    have hshift : ((s.st i).g.get r.b).toNat % 32 < 32 := Nat.mod_lt _ (by decide)
    fin_cases he
    · exact congrArg _ (exec_regOp h (by rw [znOp_eq]))
    · exact congrArg _ (exec_regOp h (by rw [znOp_eq]))
    · exact congrArg _ (exec_regOp h (by rw [znOp_eq]))
    · exact congrArg _ (exec_regOp h (by rw [znOp_eq]))
    · exact congrArg _ (exec_regOp h (by rw [shlOp_eq]; rfl))
    · exact congrArg _ (exec_regOp h (by rw [shrOp_eq]; rfl))
    · exact congrArg _ (exec_regOp h (by rw [sarOp_eq]; rfl))
    · exact congrArg _ (exec_regOp h (rolOp_eq _ _ hshift))
    · exact congrArg _ (exec_regOp h (by simp only [znOp_eq, minResult_eq]))
    · exact congrArg _ (exec_regOp h (by simp only [znOp_eq, maxResult_eq]))
    · exact congrArg _ (exec_regOp h (by simp only [znOp_eq, minuResult_eq]))
    · exact congrArg _ (exec_regOp h (by simp only [znOp_eq, maxuResult_eq]))

/-! ### Divisions -/

theorem word_eq_zero_iff (b : Word) : b = 0 ↔ b.toNat = 0 := BitVec.toNat_inj.symm

theorem divOvf_eq (a b : Word) : divOvf a b = overDiv a b := by
  simp only [divOvf, overDiv, Bool.beq_eq_decide_eq, ← BitVec.toInt_inj]
  rfl

theorem eq_of_overDiv {a b : Word} (h : overDiv a b = true) : a = 0x80000000#32 := by
  rw [← divOvf_eq, divOvf, Bool.and_eq_true, beq_iff_eq] at h
  exact h.1

theorem divFlags_eq (f : Flags) (r : Word) (v : Bool) : (r, divFlags f r v) = quot f r v := by
  rw [divFlags, setZN_eq_zn]
  rfl

/-- The zero divisor comes before every other case, and sets V (R88). -/
theorem quot_zero (f : Flags) (b z r : Word) (v : Bool) :
    ((if b = 0 then z else r), divFlags f (if b = 0 then z else r) (b == 0 || v)) =
      if b.toNat = 0 then quot f z true else quot f r v := by
  rw [divFlags_eq]
  by_cases hb : b = 0
  · simp [hb]
  · rw [if_neg hb, if_neg (mt (word_eq_zero_iff b).2 hb), beq_eq_false_iff_ne.2 hb, Bool.false_or]

/-- The one overflow sets V too (R88). -/
theorem quot_over (f : Flags) (a b z r : Word) :
    quot f (if divOvf a b then z else r) (divOvf a b) = if overDiv a b then quot f z true else quot f r false := by
  rw [divOvf_eq]
  cases overDiv a b <;> rfl

theorem divu_eq (f : Flags) (a b : Word) : (divuRes a b, divFlags f (divuRes a b) (b == 0)) =
    if b.toNat = 0 then quot f (BitVec.ofInt 32 (-1)) true else quot f (BitVec.ofNat 32 (a.toNat / b.toNat)) false := by
  rw [← Bool.or_false (b == 0)]
  exact quot_zero ..

theorem remu_eq (f : Flags) (a b : Word) : (remuRes a b, divFlags f (remuRes a b) (b == 0)) =
    if b.toNat = 0 then quot f a true else quot f (BitVec.ofNat 32 (a.toNat % b.toNat)) false := by
  rw [← Bool.or_false (b == 0)]
  exact quot_zero ..

theorem divs_eq (f : Flags) (a b : Word) : (divsRes a b, divFlags f (divsRes a b) (b == 0 || divOvf a b)) =
    if b.toNat = 0 then quot f (BitVec.ofInt 32 (-1)) true
    else if overDiv a b then quot f a true else quot f (BitVec.ofInt 32 (a.toInt.tdiv b.toInt)) false := by
  refine (quot_zero ..).trans (if_congr Iff.rfl rfl ((quot_over ..).trans ?_))
  split
  next ho => rw [← eq_of_overDiv ho]
  next => rfl

theorem rems_eq (f : Flags) (a b : Word) : (remsRes a b, divFlags f (remsRes a b) (b == 0 || divOvf a b)) =
    if b.toNat = 0 then quot f a true
    else if overDiv a b then quot f 0 true else quot f (BitVec.ofInt 32 (a.toInt.tmod b.toInt)) false :=
  (quot_zero ..).trans (if_congr Iff.rfl rfl (quot_over ..))

/-- Settles O3: each row is a register operation of 34 setter cycles; the cases are the zero divisor and the one overflow. -/
theorem divisions : Obligations.Divisions := by
  unfold Obligations.Divisions
  intro e he s i r h
  fin_cases he
  · exact congrArg _ (exec_regOp h (divu_eq ..))
  · exact congrArg _ (exec_regOp h (divs_eq ..))
  · exact congrArg _ (exec_regOp h (remu_eq ..))
  · exact congrArg _ (exec_regOp h (rems_eq ..))

end Sys2Proof.Proofs
end

section
/-! PROOFS. The immediate instructions (R89, R90): the operand of every mode, and the statement Immediates. -/

namespace Sys2Proof.Proofs
open Sys2Proof Sys2Proof.Machine Sys2Proof.Claims

/-! ### Operands -/

theorem immSigned_eq (imm : BitVec 16) : imm.signExtend 32 = BitVec.ofInt 32 imm.toInt := by
  rw [← BitVec.ofInt_toInt (x := imm.signExtend 32), BitVec.toInt_signExtend_of_le (by decide)]

theorem immUpper_eq (imm : BitVec 16) : imm.setWidth 32 <<< 16 = BitVec.ofNat 32 (imm.toNat * 65536) := by
  rw [← BitVec.toNat_inj, BitVec.toNat_shiftLeft, BitVec.toNat_setWidth, Nat.shiftLeft_eq, BitVec.toNat_ofNat]
  omega

/-- Ones above the immediate (R89). -/
theorem immOnesAbove_eq (imm : BitVec 16) : imm.setWidth 32 ||| 0xFFFF0000#32 = BitVec.ofNat 32 (0xFFFF0000 + imm.toNat) := by
  rw [← BitVec.toNat_inj, BitVec.or_comm, BitVec.toNat_or, BitVec.toNat_setWidth, BitVec.toNat_ofNat, BitVec.toNat_ofNat,
    Nat.mod_eq_of_lt (by omega : imm.toNat < 2 ^ 32)]
  exact (Nat.shiftLeft_add_eq_or_of_lt (i := 16) imm.isLt 0xFFFF).symm.trans (Nat.mod_eq_of_lt (by omega)).symm

/-- Ones below the immediate (R89). -/
theorem immOnesBelow_eq (imm : BitVec 16) : (imm.setWidth 32 <<< 16) ||| 0xFFFF#32 = BitVec.ofNat 32 (imm.toNat * 65536 + 0xFFFF) := by
  have hl : imm.toNat <<< 16 < 2 ^ 32 := by rw [Nat.shiftLeft_eq]; omega
  rw [← BitVec.toNat_inj, BitVec.toNat_or, BitVec.toNat_shiftLeft, BitVec.toNat_setWidth, BitVec.toNat_ofNat, BitVec.toNat_ofNat,
    Nat.mod_eq_of_lt (by omega : imm.toNat < 2 ^ 32), Nat.mod_eq_of_lt hl,
    Nat.mod_eq_of_lt (by omega : imm.toNat * 65536 + 0xFFFF < 2 ^ 32),
    ← Nat.shiftLeft_eq imm.toNat 16]
  exact (Nat.shiftLeft_add_eq_or_of_lt (by decide) imm.toNat).symm

theorem immAdd_operand (imm : BitVec 16) : ∀ e ∈ addOperand imm, immAdd e.1 imm = some e.2 := by
  intro e he
  fin_cases he
  · exact congrArg some (immSigned_eq imm)
  · exact congrArg some (BitVec.ofNat_toNat ..).symm
  · exact congrArg some (immUpper_eq imm)

theorem immLogic_operand (imm : BitVec 16) : ∀ e ∈ logicOperand imm, immLogic e.1 imm = e.2 := by
  intro e he
  fin_cases he
  · exact (BitVec.ofNat_toNat ..).symm
  · exact immOnesAbove_eq imm
  · exact immUpper_eq imm
  · exact immOnesBelow_eq imm

/-! ### The instructions -/

section Imm
variable {s : State} {i : SetterId} {d a : Reg} {y : Word × Flags}

theorem exec_immOp {m : Option Word} {v : Word} {op : Flags → Word → Word → Word × Flags} (h : Ready s i) (hm : m = some v)
    (hy : op (s.st i).flags ((s.st i).g.get a) v = y) :
    immOp i d a m op s = ran s i (wrote (s.st i) d y.1 y.2) (1 + waits (s.st i) [a]) none false := by
  subst hm hy
  exact issue_done h rfl h.run

theorem exec_shiftImm {op : Flags → Word → Nat → Word × Flags} {n : Fin 32} (h : Ready s i)
    (hy : op (s.st i).flags ((s.st i).g.get a) n.val = y) :
    shiftImm i d a (BitVec.ofNat 16 n.val) op s = ran s i (wrote (s.st i) d y.1 y.2) (1 + waits (s.st i) [a]) none false := by
  have hn : (BitVec.ofNat 16 n.val).toNat = n.val := by rw [BitVec.toNat_ofNat]; omega
  have hz : field (BitVec.ofNat 16 n.val) 15 5 = 0 := field_eq_zero (by omega)
  subst hy
  rw [shiftImm, issue_needZero (by rw [hz]; rfl), hn, Nat.mod_eq_of_lt n.isLt]
  exact issue_done h rfl h.run

end Imm

/-- Settles O4: each form is the register operation of its opcode on the operand that its mode gives. -/
theorem immediates : Obligations.Immediates := by
  unfold Obligations.Immediates
  intro s i d a imm h x
  refine ⟨fun e he => ?imm, fun e he n => ?shift, ?lui⟩
  case imm =>
    simp only [immRows, List.mem_append, List.mem_map] at he
    obtain (((⟨m, hm, rfl⟩ | ⟨m, hm, rfl⟩) | ⟨m, hm, rfl⟩) | ⟨m, hm, rfl⟩) | he := he
    · exact congrArg _ (exec_immOp h (immAdd_operand imm m hm) (addition_eq _ _ _ false))
    · exact congrArg _ (exec_immOp h (congrArg some (immLogic_operand imm m hm)) (by rw [znOp_eq]))
    · exact congrArg _ (exec_immOp h (congrArg some (immLogic_operand imm m hm)) (by rw [znOp_eq]))
    · exact congrArg _ (exec_immOp h (congrArg some (immLogic_operand imm m hm)) (by rw [znOp_eq]))
    · fin_cases he
      · exact congrArg _ (exec_immOp h (congrArg some (immSigned_eq imm)) (cmp_eq ..))
      · exact congrArg _ (exec_immOp h (congrArg some (BitVec.ofNat_toNat ..).symm) (cmpu_eq ..))
  case shift =>
    fin_cases he
    · exact congrArg _ (exec_shiftImm h (by rw [shlOp_eq]))
    · exact congrArg _ (exec_shiftImm h (by rw [shrOp_eq]))
    · exact congrArg _ (exec_shiftImm h (by rw [sarOp_eq]))
    · exact congrArg _ (exec_shiftImm h (rolOp_eq _ _ n.isLt))
  case lui =>
    refine congrArg _ ((issue_local1 h h.run).trans ?_)
    rw [immUpper_eq, waits_nil]
    rfl

end Sys2Proof.Proofs
end

section
/-! PROOFS. The multiplier and the accumulator (R78, R91, R92): the statement Multiplier. -/

namespace Sys2Proof.Proofs
open Sys2Proof Sys2Proof.Machine Sys2Proof.Claims

/-! ### Products -/

theorem mulResult_eq (a b : Word) : a * b = BitVec.ofNat 32 (a.toNat * b.toNat) := by
  rw [BitVec.ofNat_mul, BitVec.ofNat_toNat, BitVec.ofNat_toNat, BitVec.setWidth_eq, BitVec.setWidth_eq]

theorem mulhRes_eq (a b : Word) : mulhRes a b = BitVec.ofInt 32 (a.toInt * b.toInt / 2 ^ 32) := by
  rw [← BitVec.toNat_inj, mulhRes, BitVec.extractLsb'_toNat, BitVec.toNat_ofInt, BitVec.toNat_ofInt, Nat.shiftRight_eq_div_pow]
  generalize a.toInt * b.toInt = p
  omega

theorem mulhuRes_eq (a b : Word) : mulhuRes a b = BitVec.ofNat 32 (a.toNat * b.toNat / 2 ^ 32) := by
  rw [← BitVec.toNat_inj, mulhuRes, BitVec.extractLsb'_toNat, BitVec.toNat_ofNat, BitVec.toNat_ofNat, Nat.shiftRight_eq_div_pow]
  generalize a.toNat * b.toNat = p
  omega

/-! ### The accumulator -/

theorem macsRes_eq (v : Int) : macsRes v =
    if v < -(2 ^ 63) then BitVec.ofInt 64 (-(2 ^ 63)) else if 2 ^ 63 ≤ v then BitVec.ofInt 64 (2 ^ 63 - 1) else BitVec.ofInt 64 v := by
  rw [macsRes, clampInt]
  split_ifs <;> congr 1 <;> omega

theorem accFits_eq (v : Int) : accFits v = !outside v := by
  rw [accFits, outside, ← Bool.decide_and, ← Bool.decide_or, ← decide_not, decide_eq_decide]
  omega

theorem accRes_eq (v : Int) (sat : Bool) : accRes v sat = accWord v sat := by
  rw [accRes, accWord, accFits_eq, Bool.not_not, outside, ← Bool.decide_or]
  cases sat
  · simp
  · simp only [Bool.true_and, decide_eq_true_eq, true_and]
    by_cases hlo : v < -(2 ^ 31)
    · rw [if_pos (.inl hlo), if_pos (by omega), if_neg (by omega), if_pos hlo]
    · by_cases hhi : 2 ^ 31 ≤ v
      · rw [if_pos (.inr hhi), if_neg (by omega), if_pos hhi]
      · rw [if_neg (not_or_intro hlo hhi), if_neg hhi, if_neg hlo]

theorem accShift_eq (acc : BitVec 64) (sh : Nat) (rnd : Bool) : accShift acc sh rnd = accValue acc sh rnd := by
  simp only [accShift, accValue, Bool.and_eq_true, decide_eq_true_eq]

theorem accumulator_append (a b : Word) : a ++ b = BitVec.ofNat 64 (a.toNat * 2 ^ 32 + b.toNat) := by
  rw [← BitVec.toNat_inj, BitVec.toNat_append, BitVec.toNat_ofNat, ← Nat.shiftLeft_add_eq_or_of_lt b.isLt, Nat.shiftLeft_eq]
  omega

/-- The operand of ACCRD in its fields (R92). -/
theorem accrd_fields (sh : Fin 64) (rnd sat : Bool) :
    let hi := BitVec.ofNat 9 (sat.toNat * 128 + rnd.toNat * 64 + sh.val)
    hi.getLsbD 8 = false ∧ hi.getLsbD 7 = sat ∧ hi.getLsbD 6 = rnd ∧ (field hi 5 0).toNat = sh.val := by
  intro hi
  have := sat.toNat_le
  have := rnd.toNat_le
  have hhi : hi.toNat = sat.toNat * 128 + rnd.toNat * 64 + sh.val := by rw [BitVec.toNat_ofNat]; omega
  refine ⟨getLsbD_of_toNat (b := false) ?_, getLsbD_of_toNat ?_, getLsbD_of_toNat ?_, ?_⟩
  · rw [hhi, Bool.toNat_false]; omega
  · rw [hhi]; omega
  · rw [hhi]; omega
  · rw [toNat_field, hhi]; omega

/-! ### The instructions -/

section Mult
variable {s : State} {i : SetterId}

theorem exec_mulOp {r : Regs} {f : Word → Word → Word} {v : Word} (h : Ready s i)
    (hv : f ((s.st i).g.get r.a) ((s.st i).g.get r.b) = v) :
    mulOp i r 0 f s = ran s i (wrote (s.st i) r.d v (s.st i).flags) (1 + waits (s.st i) [r.a, r.b]) (some r.d) false := by
  subst hv
  exact issue_done h rfl h.run

theorem exec_macOp {a b : Reg} {f : Int → BitVec 64} {v : Int} {w : BitVec 64} (h : Ready s i)
    (hv : (s.st i).acc.toInt + ((s.st i).g.get a).toInt * ((s.st i).g.get b).toInt = v) (hw : f v = w) :
    macOp i ⟨0, a, b⟩ 0 f s = ran s i { s.st i with acc := w, flags := { (s.st i).flags with v := outside64 v }, pc := (s.st i).pc + 1 }
      (1 + waits (s.st i) [a, b]) none true := by
  subst hv hw
  exact issue_done h rfl h.run

/-- ACCRD right after a MAC waits one setter cycle (R78). -/
theorem interlock_accrd (x : Setter) : interlock x [] true = x.ilMac.toNat := by
  cases hm : x.ilMac <;> cases hr : x.ilReg <;> simp [interlock, hm, hr]

theorem issue_accrd {f : Setter → Setter} (h : Ready s i) (hr : (f (s.st i)).run = true) :
    issue i [] true (local1 i f) s = ran s i (f (s.st i)).adv (1 + (s.st i).ilMac.toNat) none false := by
  rw [issue_body i [] true _ s h.issues h.held h.brk h.fetch, interlock_accrd, local1, ran_eq_finish (by rw [State.modS_st]; exact hr),
    State.modS_eq, State.putS_st, ran_putS]

end Mult

/-- Settles O5: each instruction by its own work on a ready setter. -/
theorem multiplier : Obligations.Multiplier := by
  unfold Obligations.Multiplier
  intro s i r h x va vb
  refine ⟨fun e he => ?mul, fun e he => ?mac, fun sh rnd sat => ?accrd, ?accld, ?accclr⟩
  case mul =>
    fin_cases he
    · exact congrArg _ (exec_mulOp h (mulResult_eq ..))
    · exact congrArg _ (exec_mulOp h (mulhRes_eq ..))
    · exact congrArg _ (exec_mulOp h (mulhuRes_eq ..))
  case mac =>
    fin_cases he
    · exact congrArg _ (exec_macOp h rfl rfl)
    · exact congrArg _ (exec_macOp h rfl (macsRes_eq _))
  case accrd =>
    intro v hi
    obtain ⟨h8, h7, h6, hsh⟩ : hi.getLsbD 8 = false ∧ hi.getLsbD 7 = sat ∧ hi.getLsbD 6 = rnd ∧ (field hi 5 0).toNat = sh.val :=
      accrd_fields sh rnd sat
    refine congrArg _ ((issue_needZero (by rw [h8]; rfl)).trans ((issue_accrd h h.run).trans ?_))
    simp only [h7, h6, hsh, accShift_eq, accRes_eq, accFits_eq, Bool.not_not, setZN_eq_zn]
    rfl
  case accld =>
    refine congrArg _ ((issue_local1 h h.run).trans ?_)
    rw [Setter.reg, Setter.reg, accumulator_append]
    rfl
  case accclr =>
    refine congrArg _ ((issue_local1 h h.run).trans ?_)
    rw [waits_nil]
    rfl

end Sys2Proof.Proofs
end

section
/-! PROOFS. Loads from and stores to the local data memory (R93, R94): the statements LocalLoads and LocalStores. -/

namespace Sys2Proof.Proofs
open Sys2Proof Sys2Proof.Machine Sys2Proof.Claims

/-! ### Little-endian numbers (R5) -/

theorem leNat_range (g : Nat → Byte) (n : Nat) :
    leNat ((List.range n).map g) = ((List.range n).map fun k => (g k).toNat * 256 ^ k).sum := by
  induction n generalizing g with
  | zero => rfl
  | succ n ih =>
    rw [List.range_succ_eq_map, List.map_cons, List.map_cons, List.sum_cons, List.map_map, List.map_map, leNat, ih, pow_zero, mul_one,
      ← List.sum_map_mul_left]
    congr 3
    funext k
    rw [Function.comp_apply, Function.comp_apply, Nat.succ_eq_add_one, pow_succ, mul_comm 256, mul_assoc]

theorem leNat_lt (l : List Byte) : leNat l < 256 ^ l.length := by
  induction l with
  | nil => decide
  | cons b t ih =>
    have := b.isLt
    rw [leNat, List.length_cons, pow_succ]
    omega

theorem memNat_eq (x : Setter) (a n : Nat) : memNat x.data a n = dataAt x a n := leNat_range ..

theorem dataAt_lt (x : Setter) (a n : Nat) : dataAt x a n < 256 ^ n := by
  rw [← memNat_eq]
  exact (leNat_lt _).trans_eq (by rw [memRead, List.length_map, List.length_range])

theorem leBytes_getD {n k : Nat} (v : Nat) (h : k < n) : (leBytes n v).getD k 0 = BitVec.ofNat 8 (v / 256 ^ k) := by
  simp [leBytes, h]

/-! ### The address -/

section Access
variable {s : State} {i : SetterId} {x : Setter} {d a : Reg} {off : BitVec 14} {n : Nat}

theorem effAddr_eq (x : Setter) (a : Reg) (off : BitVec 14) : (effAddr (x.reg a) off).toNat = localAddr x a off := by
  rw [effAddr, localAddr, BitVec.ofInt_add, BitVec.ofInt_toInt, ← BitVec.ofInt_toInt (x := off.signExtend 32),
    BitVec.toInt_signExtend_of_le (by decide)]
  rfl

theorem exec_localLoad {f : Nat → Word} {v : Word} (h : Ready s i) (hp : Plain (s.st i) (localAddr (s.st i) a off) n)
    (hv : f (dataAt (s.st i) (localAddr (s.st i) a off) n) = v) :
    localLoad i d a off n f s = ran s i (wrote (s.st i) d v (s.st i).flags) (1 + waits (s.st i) [a]) (some d) false := by
  obtain ⟨hr, ha, he⟩ := hp
  refine issue_done h ?_ h.run
  simp only [aligned, effAddr_eq, if_neg (Nat.not_le.2 hr), ha, he, beq_self_eq_true, Bool.not_true, Bool.false_eq_true, if_false,
    memNat_eq, hv]
  rfl

theorem exec_localStore (h : Ready s i) (hp : Plain (s.st i) (localAddr (s.st i) a off) n) :
    localStore i d a off n s = ran s i { s.st i with
      data := memWrite (s.st i).data (localAddr (s.st i) a off) (leBytes n ((s.st i).g.get d).toNat), pc := (s.st i).pc + 1 }
      (1 + waits (s.st i) [a, d]) none false := by
  obtain ⟨hr, ha, he⟩ := hp
  refine issue_done h ?_ h.run
  simp only [aligned, effAddr_eq, if_neg (Nat.not_le.2 hr), ha, he, beq_self_eq_true, Bool.not_true, Bool.false_eq_true, if_false,
    ite_self, kvDel_absent _ _ he]
  rfl

end Access

theorem sextLoad_eq {k m v : Nat} (hk : 2 * m = 2 ^ k) (hk32 : k ≤ 32) (hv : v < 2 ^ k) :
    sextLoad k v = BitVec.ofInt 32 (if m ≤ v then (v : Int) - (2 ^ k : Nat) else v) := by
  rw [sextLoad, ← BitVec.ofInt_toInt (x := BitVec.signExtend 32 _), BitVec.toInt_signExtend_of_le hk32, BitVec.toInt_eq_toNat_cond,
    BitVec.toNat_ofNat, Nat.mod_eq_of_lt hv]
  congr 1
  split_ifs <;> omega

/-- Settles O6: each load passes the checks of R94 and widens the bytes at its address. -/
theorem localLoads : Obligations.LocalLoads := by
  unfold Obligations.LocalLoads
  intro e he s i d a off h x ea hp
  fin_cases he
  · exact congrArg _ (exec_localLoad h hp rfl)
  · exact congrArg _ (exec_localLoad h hp (sextLoad_eq (m := 2 ^ 15) rfl (by decide) (dataAt_lt ..)))
  · exact congrArg _ (exec_localLoad h hp rfl)
  · exact congrArg _ (exec_localLoad h hp (sextLoad_eq (m := 2 ^ 7) rfl (by decide) (dataAt_lt ..)))
  · exact congrArg _ (exec_localLoad h hp rfl)

/-- What the data memory reads after a store of n bytes. -/
theorem memByte_store (m : Mem) (ea n v k : Nat) : memByte (memWrite m ea (leBytes n v)) k =
    if ea ≤ k ∧ k < ea + n then BitVec.ofNat 8 (v / 256 ^ (k - ea)) else memByte m k := by
  rw [memByte_write, leBytes, List.length_map, List.length_range]
  refine if_ctx_congr Iff.rfl (fun hk => leBytes_getD v (by omega)) fun _ => rfl

/-- Settles O7: each store passes the checks of R94 and writes gd's low bytes. -/
theorem localStores : Obligations.LocalStores := by
  unfold Obligations.LocalStores
  intro e he s i d a off h x ea hp
  refine ⟨_, ?_, memByte_store x.data ea e.2 (x.g.get d).toNat⟩
  fin_cases he <;> exact congrArg _ (exec_localStore h hp)

end Sys2Proof.Proofs
end

section
/-! PROOFS. The bit unit (R95, R96): the statement BitLogic. -/

namespace Sys2Proof.Proofs
open Sys2Proof Sys2Proof.Machine Sys2Proof.Claims

/-- The operand of a bit instruction in its fields: F above the bit number (R95). -/
theorem bit_fields (fall : Bool) (n : Fin 32) :
    let lo := BitVec.ofNat 9 (fall.toNat * 32 + n.val)
    field lo 8 6 = 0 ∧ lo.getLsbD 5 = fall ∧ bitNo lo = n.val := by
  intro lo
  have hf := fall.toNat_le
  have hlo : lo.toNat = fall.toNat * 32 + n.val := by rw [BitVec.toNat_ofNat]; omega
  refine ⟨field_eq_zero (by omega), getLsbD_of_toNat ?_, ?_⟩
  · rw [hlo]; omega
  · rw [bitNo, toNat_field, hlo]; omega

theorem field_bitNumber (n : Fin 32) : field (BitVec.ofNat 9 n.val) 8 5 = 0 := by
  have hn : (BitVec.ofNat 9 n.val).toNat = n.val := by rw [BitVec.toNat_ofNat]; omega
  exact field_eq_zero (by omega)

theorem bitNo_ofNat (n : Fin 32) : bitNo (BitVec.ofNat 9 n.val) = n.val := by
  simpa using (bit_fields false n).2.2

theorem or_eq_ite (b v : Bool) : (b || v) = if b then true else v := by cases b <;> rfl

theorem not_and_eq_ite (b v : Bool) : (!b && v) = if b then false else v := by cases b <;> rfl

section Bits
variable {s : State} {i : SetterId} {n : Fin 32}

theorem exec_bitTest {a : Reg} {f : Bool → Bool → Bool} {b : Bool} (h : Ready s i)
    (hb : f (s.st i).flags.b (((s.st i).g.get a).getLsbD n.val) = b) :
    bitTest i ⟨0, a, 0⟩ (BitVec.ofNat 9 n.val) f s = ran s i (bFlag (s.st i) b) (1 + waits (s.st i) [a]) none false := by
  subst hb
  rw [bitTest, issue_needZero (by rw [field_bitNumber]; rfl), bitNo_ofNat]
  exact issue_local1 h h.run

theorem exec_bitWrite {d : Reg} {f : Bool → Bool → Bool} {b : Bool} (h : Ready s i)
    (hb : f (s.st i).flags.b (((s.st i).g.get d).getLsbD n.val) = b) :
    bitWrite i ⟨d, 0, 0⟩ (BitVec.ofNat 9 n.val) f s =
      ran s i (wrote (s.st i) d (withBit ((s.st i).g.get d) n.val b) (s.st i).flags) (1 + waits (s.st i) [d]) none false := by
  subst hb
  rw [bitWrite, issue_needZero (by rw [field_bitNumber]; rfl), bitNo_ofNat]
  exact issue_local1 h h.run

/-- An instruction that reads no register. -/
theorem issue_alone {body : State → Fate} {x : Setter} {c : Nat} (h : Ready s i) (hb : body s = .done (s.putS i x) c none false)
    (hr : x.run = true) : issue i [] false body s = ran s i x c none false := by
  rw [issue_done h hb hr, waits_nil, Nat.add_zero]

end Bits

/-- Settles O8: each instruction by its own work on a ready setter; BPUSH and BPOP within the depths that do not trap. -/
theorem bitLogic : Obligations.BitLogic := by
  unfold Obligations.BitLogic
  intro s i d a n h x lo b
  refine ⟨fun e he => ?test, fun e he => ?write, fun fall => ?bedge, ?bnot, fun hd => ?bpush, fun hd k => ?bpop⟩
  case test =>
    fin_cases he <;> exact congrArg _ (exec_bitTest h rfl)
  case write =>
    fin_cases he
    · exact congrArg _ (exec_bitWrite h rfl)
    · exact congrArg _ (exec_bitWrite h (or_eq_ite ..))
    · exact congrArg _ (exec_bitWrite h (not_and_eq_ite ..))
  case bedge =>
    intro m edge
    obtain ⟨hz, hf, hn⟩ := bit_fields fall n
    refine congrArg _ ((issue_needZero (by rw [hz]; rfl)).trans ((issue_local1 h h.run).trans ?_))
    simp only [hf, hn, edge, Bool.and_comm m]
    rfl
  case bnot => exact congrArg Host.Outcome.next (issue_alone h rfl h.run)
  case bpush => exact congrArg Host.Outcome.next (issue_alone h (if_neg (Nat.not_le.2 hd)) h.run)
  case bpop =>
    intro v c
    have hk : (BitVec.ofNat 9 k.val).toNat = k.val := by rw [BitVec.toNat_ofNat]; omega
    refine congrArg Host.Outcome.next ((issue_needZero ?_).trans (issue_alone h ((if_neg hd.ne').trans ?_) h.run))
    · rw [hk, decide_eq_true k.isLt]
      rfl
    · simp only [hk, c, Fin.ext_iff]
      rfl

end Sys2Proof.Proofs
end

section
/-! PROOFS. NOP, HALT, FENCE and the flow instructions (R81, R83, R84, R100 to R102): the statement Flow. -/

namespace Sys2Proof.Proofs
open Sys2Proof Sys2Proof.Machine Sys2Proof.Claims

theorem pcRel_eq {n : Nat} (pc : BitVec 14) (off : BitVec n) : pcRel pc off = displaced pc off.toInt := by
  rw [pcRel, displaced, BitVec.ofInt_add, BitVec.ofInt_natCast, BitVec.ofNat_toNat, BitVec.setWidth_eq]

/-- The sixteen conditions by their code (R81). -/
theorem conditions_get (f : Flags) (c : Fin 16) : (conditions f)[c.val]? = some (condHolds f (BitVec.ofNat 4 c.val)) := by
  fin_cases c <;> rfl

theorem returnAddress_eq (pc : BitVec 14) : (pcNext pc).setWidth 32 = BitVec.ofNat 32 ((pc.toNat + 1) % 16384) := by
  rw [pcNext, ← BitVec.ofNat_toNat, BitVec.toNat_add]
  rfl

/-- What LOOP leaves of the setter (R102). -/
theorem loop_setter (x : Setter) (d : Reg) (off : BitVec 16) {v : Word} (hv : x.reg d - 1 = v) :
    (if x.reg d - 1 ≠ 0 then { x.setReg d (x.reg d - 1) with pc := pcRel x.pc off } else (x.setReg d (x.reg d - 1)).adv) =
      { x with g := x.g.set d.val v d.isLt, pc := if v.toNat = 0 then x.pc + 1 else displaced x.pc off.toInt } := by
  subst hv
  by_cases h0 : x.reg d - 1 = 0
  · rw [if_neg (not_not_intro h0), if_pos ((word_eq_zero_iff _).1 h0)]
    rfl
  · rw [if_pos h0, if_neg (mt (word_eq_zero_iff _).2 h0), ← pcRel_eq]
    rfl

theorem sub_one_eq (a : Word) : a - 1 = BitVec.ofInt 32 ((a.toNat : Int) - 1) := by
  have := a.isLt
  rw [← BitVec.toNat_inj, BitVec.toNat_sub, BitVec.toNat_ofInt, show (1 : Word).toNat = 1 from rfl]
  omega

/-- A stop that comes with a change of the same setter, as HALT's does (R83). -/
theorem stopSetter_modS (i : SetterId) (f g : Setter → Setter) (s : State) : stopSetter i f (s.modS i g) =
    raise (setterSource i 5) (s.putS i (f { g (s.st i) with run := false, stopped := true })) := by
  rw [stopSetter, State.modS_eq (s.modS i g), State.modS_st, State.modS_eq, State.putS_putS]
  rfl

/-- Settles O10: each instruction by its own work on a ready setter; HALT by the stop that it makes. -/
theorem flow : Obligations.Flow := by
  unfold Obligations.Flow
  intro s i h x
  refine ⟨?nop, fun c off taken hc => ⟨?br, ?brl⟩, fun a ha => ?jmp, fun d off => ?loop,
    fun hl ht => ?fence, fun ho => ?fenceWaits, ?halt⟩
  case nop => exact congrArg Host.Outcome.next (issue_alone h rfl h.run)
  case br =>
    rw [conditions_get, Option.some.injEq] at hc
    rw [← pcRel_eq]
    cases taken
    · exact congrArg Host.Outcome.next (issue_alone h (if_neg (by rw [hc]; decide)) h.run)
    · exact congrArg Host.Outcome.next (issue_alone h (if_pos hc) h.run)
  case brl =>
    rw [conditions_get, Option.some.injEq] at hc
    rw [← pcRel_eq, ← returnAddress_eq]
    cases taken
    · exact congrArg Host.Outcome.next (issue_alone h (if_neg (by rw [hc]; decide)) h.run)
    · exact congrArg Host.Outcome.next (issue_alone h (if_pos hc) h.run)
  case jmp =>
    refine congrArg Host.Outcome.next (issue_done h ((if_neg (Nat.not_le.2 ha)).trans ?_) h.run)
    have hf : field (x.g.get a) 13 0 = BitVec.ofNat 14 (x.g.get a).toNat := by
      rw [← BitVec.toNat_inj, toNat_field, BitVec.toNat_ofNat, pow_zero, Nat.div_one]
    exact congrArg (fun pc => Fate.done (s.putS i { x with pc := pc }) 2 none false) hf
  case loop =>
    intro v
    have hx := loop_setter x d off (sub_one_eq (x.reg d))
    exact congrArg Host.Outcome.next (issue_done h (congrArg (fun y => Fate.done (s.putS i y) 1 none false) hx) h.run)
  case fence =>
    have hc : (x.lutw.isEmpty && x.toutd.isEmpty) = true := by rw [hl, ht]; rfl
    exact congrArg Host.Outcome.next (issue_alone h (if_pos hc) h.run)
  case fenceWaits =>
    have hc : ¬(x.lutw.isEmpty && x.toutd.isEmpty) = true := by
      simpa only [Bool.and_eq_true, List.isEmpty_iff, not_and_or] using ho
    refine ⟨fenceWidth i s, congrArg Host.Outcome.next ((issue_going h (if_neg hc)).trans ?_)⟩
    rw [waits_nil]
  case halt =>
    refine congrArg Host.Outcome.next ((issue_needZero rfl).trans ((issue_ready h _ _).trans ?_))
    rw [finish_hold, stopSetter_modS]
    rfl

end Sys2Proof.Proofs
end

section
/-! PROOFS. A SYS TEST with FORCE = 1 of a setter in the middle of a FENCE (R129, R363): the statement SysServices fails, since its clause of
an accepted TEST has the setter isolated at once. -/

namespace Sys2Proof.Proofs
open Sys2Proof Sys2Proof.Machine Sys2Proof.Claims

/-- A setter that the image lets test blocks, about to ask for SETLOGIC, one count from 0, of setter 1, with FORCE = 1 (R126, R357 to
R359). -/
def tester : Setter :=
  { Setter.reset with run := true, stopped := false, perm := 4, g := #v[0, 0x41, 0x00010004, 1, 0, 0, 0, 0, 0, 0, 0, 0, 0, 0, 0, 0] }

/-- Setter 0 is the tester; setter 1 waits in a FENCE for its TOUTD to land (R84). -/
def testOfFence : State := { State.reset with
  pwr := { Pwr.reset with stage := .run }
  setters := (Vector.replicate 16 { Setter.reset with run := true, stopped := false, wait := .fence 1, toutd := [(0, true)] }).set 0
      tester }

theorem testOfFence_ready : Ready testOfFence 0 := by constructor <;> decide +kernel

theorem testOfFence_mayTest : MayTest testOfFence (.setter 1) 0x00010004 true := by constructor <;> decide +kernel

/-- Whether setter 1 is isolated once the TEST has been answered. -/
def isolatedAfter : Option Bool :=
  match exec (.sysTest 0 noRegs) testOfFence with
  | .next t => some (t.st 1).isol
  | _ => none

/-- It is not: it completes its FENCE first. -/
theorem isolatedAfter_eq : isolatedAfter = some false := by decide +kernel

/-- The end of a setter's SYS leaves every other setter as the service left it. -/
theorem ranFree_st_other (t : State) {i j : SetterId} (x : Setter) (c : Nat) (h : i ≠ j) : (ranFree t i x c).st j = t.st j :=
  State.putS_st_other _ _ _ _ h

/-- Refutes O20: the clause of TEST has a named setter isolated and stopped in the state that the accepted TEST leaves. With FORCE = 1 a
setter may be tested that is in the middle of an instruction other than FRAME or WEV, here a FENCE; it is isolated only at its next
instruction boundary (R363). -/
theorem not_sysServices : ¬Obligations.SysServices := by
  unfold Obligations.SysServices
  rintro ⟨accepted, -⟩
  obtain ⟨-, -, -, test, -⟩ := accepted testOfFence 0 testOfFence_ready
  obtain ⟨t, ⟨c, -, -, ht⟩, started⟩ := test (.setter 1) (by decide +kernel) (by decide +kernel) (by decide) (by decide +kernel)
    testOfFence_mayTest
  obtain ⟨-, -, -, -, isolated, -⟩ := started
  have hisol : (t.st 1).isol = false := by
    have h := isolatedAfter_eq
    rw [isolatedAfter, ht] at h
    rw [← ranFree_st_other t (i := 0) (j := 1) _ _ (by decide)]
    exact Option.some.inj h
  rw [(isolated 1 rfl).1] at hisol
  cases hisol

end Sys2Proof.Proofs
end

section
/-! PROOFS. CSRR and CSRW (R122, R123): the statement ControlRegisters. -/

namespace Sys2Proof.Proofs
open Sys2Proof Sys2Proof.Machine Sys2Proof.Claims

/-! ### Instructions whose work changes more than their setter -/

section
variable {t : State} {i : SetterId} {f : Setter → Setter}

theorem finish_modS (hr : (f (t.st i)).run = true) (c w : Nat) (load : Option Reg) (mac : Bool) :
    finish i w (.done (t.modS i f) c load mac) = ran t i (f (t.st i)) (c + w) load mac := by
  rw [ran_eq_finish (by simpa using hr), State.modS_st, State.modS_eq, ran_putS]

/-- The same with a cost that is not one number (log 9). -/
theorem finish_modS_free (hr : (f (t.st i)).run = true) (c w : Nat) :
    finish i w (.done (t.modS i f).usedFree c none false) = ranFree t i (f (t.st i)) (c + w) := by
  rw [ran_eq_finish (by simpa using hr), usedFree_st, State.modS_st, ran_usedFree, State.modS_eq, ran_putS]
  rfl

end

/-! ### The two instructions -/

theorem csrBarred_reg {a : Nat} {b : Block} {off : Nat} (h : placeOf a = .reg b off) : csrBarred a = false := by
  rw [csrBarred, h]

/-- Blocks begin at word boundaries (R19). -/
theorem blockAddr_aligned (b : Block) {off : Nat} (h : off % 4 = 0) : blockAddr b off % 4 = 0 := by
  unfold blockAddr
  cases b <;> simp only <;> omega

/-- A cost of 11 to 13 setter cycles (R122, log 9). -/
theorem freeIn_cycles (s : State) : 11 ≤ freeIn 11 3 s ∧ freeIn 11 3 s ≤ 13 := by
  have := Nat.mod_lt (Config.freeCost s.free) (show 3 > 0 by decide)
  unfold freeIn
  omega

section
variable {s t : State} {i : SetterId} {a b d : Reg} {blk : Block} {off : Nat} (h : Ready s i)
  (ha : ((s.st i).g.get a).toNat = blockAddr blk off) (hp : placeOf (blockAddr blk off) = .reg blk off) (h4 : off % 4 = 0)
include h ha hp h4

theorem csrr_open {w : Word} (ho : RegOpen s i.val blk off false) (hr : blockRead blk off none s = some (w, t))
    (hrun : (t.st i).run = true) : exec (.csrr i ⟨d, a, 0⟩ 0) s =
      .next (ranFree t i (wrote (t.st i) d w (t.st i).flags) (csrCost t + waits (s.st i) [a])) := by
  refine congrArg Host.Outcome.next ((issue_needZero rfl).trans ((issue_ready h _ _).trans ?_))
  simp only [Setter.reg, ha, csrBarred_reg hp, gate_open ho hp (blockAddr_aligned blk h4), hr]
  exact finish_modS_free hrun _ _

theorem csrw_open (ho : RegOpen s i.val blk off true)
    (hw : blockWrite i.val blk off ((s.st i).g.get b) (freeEnv s) (s.putS i { s.st i with pc := (s.st i).pc + 1 }) = some t)
    (hrun : (t.st i).run = true) : exec (.csrw i ⟨0, a, b⟩ 0) s =
      .next { ran t i (t.st i) (freeIn 11 3 { t with free := t.free + 2 } + waits (s.st i) [a, b]) none false with free := t.free + 3 } :=
          by
  refine congrArg Host.Outcome.next ((issue_needZero rfl).trans ((issue_ready h _ _).trans ?_))
  have hw' : blockWrite i.val blk off ((s.st i).g.get b) (freeEnv s) (s.modS i Setter.adv) = some t := hw
  simp only [Setter.reg, ha, csrBarred_reg hp, gate_open ho hp (blockAddr_aligned blk h4), hw']
  exact ran_eq_finish (t := { t with free := t.free + 3 }) hrun _ _ _ _

end

/-- Settles O19: nothing keeps the instruction from its register, which answers by its own rules. -/
theorem controlRegisters : Obligations.ControlRegisters := by
  unfold Obligations.ControlRegisters
  intro s i d a b blk off h x ha hp h4
  exact ⟨fun ho w t hr hrun => ⟨_, (freeIn_cycles t).1, (freeIn_cycles t).2, csrr_open h ha hp h4 ho hr hrun⟩,
    fun ho t hw hrun => ⟨_, (freeIn_cycles _).1, (freeIn_cycles _).2, csrw_open h ha hp h4 ho hw hrun⟩⟩

end Sys2Proof.Proofs
end

section
/-! PROOFS. What a raise leaves of a setter that waits for neither a tick nor an event, and of the buffers of the chain's own cells
(R29, R52, R112, R245). -/

namespace Sys2Proof.Proofs
open Sys2Proof Sys2Proof.Machine Sys2Proof.Claims

/-- Neither a tick nor an event line can end what the setter does. -/
def Deaf (x : Setter) : Prop := (∀ next, x.wait ≠ .frame next) ∧ ∀ d mask timeout, x.wait ≠ .wev d mask timeout

/-- A setter without all that a tick or an event line that it does not wait for can change. -/
def quieted (x : Setter) : Setter :=
  { x with evl := 0, due := 0, late := false, missed := 0, fsrc := 0, fperiod := 0, ftb := 0, fsrcW := none, fperiodW := none, ftbW := none,
           tblost := false }

theorem deaf_of_idle {x : Setter} (h : x.wait = .none) : Deaf x := by simp [Deaf, h]

theorem deaf_of_quieted {x y : Setter} (h : quieted y = quieted x) (hx : Deaf x) : Deaf y := by
  unfold Deaf at *
  have hw : (quieted y).wait = (quieted x).wait := congrArg Setter.wait h
  rwa [show y.wait = x.wait from hw]

theorem missTick_quieted (x : Setter) (tb : Bool) : quieted (x.missTick.afterTick tb) = quieted x := by
  unfold Setter.missTick Setter.afterTick Setter.seeTb
  split_ifs <;> rfl

/-- The chain's own cells of every class but Hod, the class of NOTE, are as before, and so is setter i, if it is deaf, but for what it could
overhear. -/
structure Overheard (i : SetterId) (s t : State) : Prop where
  own : ∀ k ≠ 2, t.irs.own.get k = s.irs.own.get k
  st : Deaf (s.st i) → quieted (t.st i) = quieted (s.st i)

theorem Overheard.trans {i : SetterId} {s t u : State} (h : Overheard i s t) (k : Overheard i t u) : Overheard i s u :=
  ⟨fun n hn => (k.own n hn).trans (h.own n hn), fun hs => (k.st (deaf_of_quieted (h.st hs) hs)).trans (h.st hs)⟩

theorem Overheard.refl (i : SetterId) (s : State) : Overheard i s s := ⟨fun _ _ => rfl, fun _ => rfl⟩

theorem setPend_overheard (i : SetterId) (n : Nat) (s : State) : Overheard i s (setPend n s) := ⟨fun _ _ => rfl, fun _ => rfl⟩

theorem usedFree_overheard (i : SetterId) (s : State) : Overheard i s s.usedFree := ⟨fun _ _ => rfl, fun _ => rfl⟩

theorem keepLine_overheard (i j : SetterId) (line : Nat) (s : State) : Overheard i s (keepLine j line s) := ⟨fun _ _ => rfl, fun _ => rfl⟩

theorem sendNote_overheard {i : SetterId} {n : Nat} {s t : State} (h : sendNote n s = some t) : Overheard i s t := by
  unfold sendNote sendOwn at h
  simp only at h
  split at h
  · cases h
  · cases h
    refine ⟨fun k hk => ?_, fun _ => rfl⟩
    rw [updf, upd_get_other _ _ _ _ (Ne.symm hk)]

theorem putS_overheard_other {i j : SetterId} (hj : j ≠ i) (s : State) (x : Setter) : Overheard i s (s.putS j x) :=
  ⟨fun _ _ => rfl, fun _ => congrArg quieted (State.putS_st_other _ _ _ _ hj)⟩

theorem putS_overheard {i j : SetterId} {s : State} {x : Setter} (h : quieted x = quieted (s.st j)) : Overheard i s (s.putS j x) := by
  by_cases hj : j = i
  · subst hj
    exact ⟨fun _ _ => rfl, fun _ => by rw [State.putS_st, h]⟩
  · exact putS_overheard_other hj s x

section
variable {i : SetterId} {rs : Nat → State → State} (hrs : ∀ n s, Overheard i s (rs n s))
include hrs

/-- The end of a wait that setter i, if it is deaf, is not in. -/
theorem settleWith_overheard {j : SetterId} {s : State} (hj : j = i → ¬Deaf (s.st i)) (x : Setter) :
    Overheard i s (settleWith rs j (s.putS j x)) := by
  have put (u : State) (y : Setter) (hu : u.irs = s.irs) (hst : j ≠ i → u.st i = s.st i) : Overheard i s (u.putS j y) :=
    ⟨fun _ _ => by rw [← hu]; rfl, fun hs => by
      have hji : j ≠ i := fun h => hj h hs
      rw [State.putS_st_other _ _ _ _ hji, hst hji]⟩
  unfold settleWith
  split
  · exact put s x rfl fun _ => rfl
  · exact (put (s.putS j x) _ rfl fun h => State.putS_st_other _ _ _ _ h).trans (hrs _ _)

theorem tickWith_overheard (j : SetterId) (v : BitVec 256) (s : State) : Overheard i s (tickWith rs j v s) := by
  unfold tickWith
  simp only
  split
  · exact .refl ..
  · split
    · next hw =>
      split
      · exact putS_overheard (missTick_quieted _ _)
      · exact settleWith_overheard hrs (by rintro rfl hd; exact hd.1 _ hw) _
    · exact putS_overheard (missTick_quieted _ _)

theorem wevWith_overheard (j : SetterId) (s : State) : Overheard i s (wevWith rs j s) := by
  unfold wevWith
  simp only
  split
  · next hw =>
    split
    · exact .refl ..
    · exact (usedFree_overheard i s).trans (settleWith_overheard hrs (s := s.usedFree) (by rintro rfl hd; exact hd.2 _ _ _ hw) _)
  · exact .refl ..

theorem lineWith_overheard (wake : Bool) (j : SetterId) (line : Nat) (s : State) : Overheard i s (lineWith rs wake j line s) := by
  unfold lineWith
  simp only
  split
  · exact .refl ..
  · split
    · split
      · exact keepLine_overheard ..
      · exact .refl ..
    · refine Overheard.trans ?_ (wevWith_overheard hrs _ _)
      have h : Overheard i s (s.putS j { s.st j with evl := setBit (s.st j).evl line true }) := putS_overheard rfl
      split
      · exact h.trans ((usedFree_overheard ..).trans (tickWith_overheard hrs _ _ _))
      · exact h

theorem deliverWith_overheard (wake : Bool) (route : Word) (s : State) : Overheard i s (deliverWith rs wake route s) := by
  unfold deliverWith
  induction List.finRange 16 generalizing s with
  | nil => exact .refl ..
  | cons j l ih =>
    rw [List.foldl_cons]
    refine Overheard.trans ?_ (ih _)
    split
    · exact lineWith_overheard hrs _ _ _ _
    · exact .refl ..

end

theorem raiseF_overheard (i : SetterId) (f n : Nat) (s : State) : Overheard i s (raiseF f n s) := by
  induction f generalizing n s with
  | zero => exact setPend_overheard ..
  | succ f ih =>
    unfold raiseF
    split
    · exact .refl ..
    · split
      · exact setPend_overheard ..
      · have h : Overheard i s (deliverWith (raiseF f) (wakeSource s n) (routeOf s n) (setPend n s)) :=
          (setPend_overheard ..).trans (deliverWith_overheard ih _ _ _)
        simp only
        split
        · split
          · next hc => exact h.trans (sendNote_overheard hc)
          · exact h.trans (ih _ _)
        · exact h

/-- A raise leaves a deaf setter as it is, but for what it overhears. -/
theorem raise_overheard (i : SetterId) (n : Nat) (s : State) : Overheard i s (raise n s) := raiseF_overheard i 20 n s

end Sys2Proof.Proofs
end

section
/-! PROOFS. One operation on a queue that is not KEY: its descriptor, its element in the combining buffer, its outcome (R119, R208, R220,
R225, R226); and the queue windows (R215): the statement QueueWindows. -/

namespace Sys2Proof.Proofs
open Sys2Proof Sys2Proof.Machine Sys2Proof.Claims

/-! ### What counting an operation leaves -/

/-- All that the count of a descriptor operation and the watermarks change: their own counters, and what a raise changes (R225, R226). -/
structure Counted (s t : State) : Prop where
  eq : t = { s with evt := t.evt, setters := t.setters, irs := t.irs, pwr := t.pwr, free := t.free,
                    hod := { s.hod with wm := t.hod.wm, bankNow := t.hod.bankNow } }
  pend : ∀ n, pendBit s n = true → pendBit t n = true
  heard : ∀ i, Overheard i s t

theorem Counted.refl (s : State) : Counted s s := ⟨rfl, fun _ h => h, fun i => .refl i s⟩

theorem Counted.trans {s t u : State} (h : Counted s t) (k : Counted t u) : Counted s u := by
  refine ⟨?_, fun n hn => k.pend n (h.pend n hn), fun i => (h.heard i).trans (k.heard i)⟩
  rw [k.eq]
  conv_lhs => rw [h.eq]

theorem Counted.desc {s t : State} (h : Counted s t) : t.hod.desc = s.hod.desc := by rw [h.eq]
theorem Counted.comb {s t : State} (h : Counted s t) : t.hod.comb = s.hod.comb := by rw [h.eq]
theorem Counted.flush {s t : State} (h : Counted s t) : t.hod.flush = s.hod.flush := by rw [h.eq]
theorem Counted.store {s t : State} (h : Counted s t) : t.store = s.store := by rw [h.eq]
theorem Counted.bays {s t : State} (h : Counted s t) : t.bays = s.bays := by rw [h.eq]
theorem Counted.arb {s t : State} (h : Counted s t) : t.arb = s.arb := by rw [h.eq]

theorem Counted.descOf {s t : State} (h : Counted s t) (q : QueueId) : descOf t q = descOf s q := by
  rw [Machine.descOf, h.desc]
  rfl

theorem Counted.combGet {s t : State} (h : Counted s t) (a : Nat) : combGet t a = combGet s a := by
  rw [Machine.combGet, h.comb, h.flush]
  rfl

theorem raise_counted (n : Nat) (s : State) : Counted s (raise n s) := by
  refine ⟨?_, (raise_raised n s).pend, fun i => raise_overheard i n s⟩
  have h := raise_raised n s
  generalize raise n s = t at h
  rw [h.eq]

theorem raiseIf_counted (c : Bool) (n : Nat) (s : State) : Counted s (raiseIf c n s) := by
  cases c
  · exact .refl s
  · exact raise_counted n s

theorem crossing_counted (g : Nat) (hi : Bool) (q : QueueId) (s : State) : Counted s (crossing g hi q s) := by
  refine Counted.trans ?_ (raise_counted _ _)
  exact ⟨rfl, fun _ h => h, fun _ => ⟨fun _ _ => rfl, fun _ => rfl⟩⟩

theorem countBank_counted (q : QueueId) (s : State) : Counted s (countBank q s) := by
  unfold countBank
  split
  · exact .refl s
  · exact ⟨rfl, fun _ h => h, fun _ => ⟨fun _ _ => rfl, fun _ => rfl⟩⟩

theorem countChanged_counted (q : QueueId) (d : Desc) (c0 c1 : Nat) (s : State) : Counted s (countChanged q d c0 c1 s) := by
  have step (c : Bool) (g : Nat) (hi : Bool) (t : State) : Counted t (if c = true then crossing g hi q t else t) := by
    cases c
    · exact .refl t
    · exact crossing_counted g hi q t
  unfold countChanged
  exact (step _ _ true s).trans ((step _ _ false _).trans (raiseIf_counted ..))

/-! ### Descriptors -/

theorem readDesc_unmarked {q : QueueId} {s : State} (h : kvGet s.hod.derr q.toNat = none) : readDesc q s = s := by
  rw [readDesc, h]

theorem descOf_putDesc (q : QueueId) (d : Desc) (s : State) : descOf (putDesc q d s) q = d := by
  unfold descOf putDesc
  rw [kvGet_put_same]
  split
  · next h => exact (eq_of_beq h).symm
  · rfl

theorem descOf_putDesc_other {q k : QueueId} (d : Desc) (s : State) (h : k ≠ q) : descOf (putDesc q d s) k = descOf s k := by
  unfold descOf putDesc
  rw [kvGet_put_other _ _ _ _ _ fun e => h (BitVec.eq_of_toNat_eq e.symm)]

/-! ### The combining buffer -/

theorem combGet_of_comb {s : State} {a : Nat} {d : List Byte} (hany : ∃ e ∈ s.hod.comb, e.addr = a / 16 * 16)
    (hall : ∀ e ∈ s.hod.comb, e.addr = a / 16 * 16 → e.half a = some d) : combGet s a = some d := by
  obtain ⟨e, he, ha⟩ := hany
  unfold combGet
  split
  · next x hx =>
    have := List.find?_some hx
    simp only [Bool.and_eq_true, beq_iff_eq] at this
    exact hall x (List.mem_of_find?_eq_some hx) this.1
  · next hn =>
    have := List.find?_eq_none.mp hn e he
    simp [ha, hall e he ha] at this

theorem burstFrom_mem (l : List CombEntry) (q : QueueId) (a n : Nat) (e : CombEntry) (h : e ∈ burstFrom l q a n) : e ∈ l := by
  induction n generalizing a with
  | zero => simp [burstFrom] at h
  | succ n ih =>
    unfold burstFrom at h
    split at h
    · cases h
    · next x hx =>
      rcases List.mem_cons.mp h with rfl | h
      · exact List.mem_of_find?_eq_some hx
      · split at h
        · cases h
        · exact ih _ h

/-- The bytes of an element stay with its beat when the beat's burst leaves the buffer for a flush (R220). -/
theorem combGet_raiseFlush {s : State} {a b : Nat} {d : List Byte} (hany : ∃ e ∈ s.hod.comb, e.addr = a / 16 * 16)
    (hall : ∀ e ∈ s.hod.comb, e.addr = a / 16 * 16 → e.half a = some d) : combGet (raiseFlush b s) a = some d := by
  unfold raiseFlush
  split
  · exact combGet_of_comb hany hall
  · split
    · exact combGet_of_comb hany hall
    · next x _ =>
      generalize hl : burstFrom s.hod.comb x.q b 8 = l
      have hsub : ∀ e ∈ l, e ∈ s.hod.comb := fun e he => burstFrom_mem _ _ _ _ _ (hl ▸ he)
      obtain ⟨e, he, ha⟩ := hany
      unfold combGet
      simp only
      split
      · next y hy =>
        have := List.find?_some hy
        simp only [Bool.and_eq_true, beq_iff_eq] at this
        exact hall y (List.mem_filter.mp (List.mem_of_find?_eq_some hy)).1 this.1
      · next hn =>
        have hmem : e ∈ l := by
          by_contra hc
          have := List.find?_eq_none.mp hn e (List.mem_filter.mpr ⟨he, by simpa using hc⟩)
          simp [ha, hall e he ha] at this
        split
        · next y hy =>
          have := List.find?_some hy
          simp only [Bool.and_eq_true, beq_iff_eq] at this
          exact hall y (hsub y (List.mem_of_find?_eq_some hy)) this.1
        · next hf =>
          have := List.find?_eq_none.mp hf e hmem
          simp [ha, hall e he ha] at this

theorem half_put (e : CombEntry) (a : Nat) (d : List Byte) : (e.put a d).half a = some d := by
  unfold CombEntry.put CombEntry.half
  split <;> rfl

theorem addr_put (e : CombEntry) (a : Nat) (d : List Byte) : (e.put a d).addr = e.addr := by
  unfold CombEntry.put
  split <;> rfl

/-- An element is found where it was appended (R220). -/
theorem combGet_combPut (q : QueueId) (a : Nat) (d : List Byte) (s : State) : combGet (combPut q a d s) a = some d := by
  unfold combPut
  simp only
  generalize hl : (if s.hod.comb.any (fun e => e.addr == a / 16 * 16) = true then _ else _) = l
  have hput : (∃ e ∈ l, e.addr = a / 16 * 16) ∧ ∀ e ∈ l, e.addr = a / 16 * 16 → e.half a = some d := by
    subst hl
    split
    · next h =>
      obtain ⟨e, he, ha⟩ := List.any_eq_true.mp h
      rw [beq_iff_eq] at ha
      refine ⟨⟨_, List.mem_map_of_mem he, by rw [if_pos ha, addr_put, ha]⟩, fun x hx hxa => ?_⟩
      obtain ⟨y, -, rfl⟩ := List.mem_map.mp hx
      by_cases hy : y.addr = a / 16 * 16
      · rw [if_pos hy]
        exact half_put ..
      · rw [if_neg hy] at hxa
        exact absurd hxa hy
    · next h =>
      refine ⟨⟨_, List.mem_append_right _ (List.mem_singleton_self _), addr_put ..⟩, fun x hx hxa => ?_⟩
      rcases List.mem_append.mp hx with hx | hx
      · exact absurd (List.any_eq_true.mpr ⟨x, hx, by simpa using hxa⟩) h
      · rw [List.mem_singleton.mp hx]
        exact half_put ..
  unfold flushComplete
  split
  · exact combGet_raiseFlush hput.1 hput.2
  · exact combGet_of_comb hput.1 hput.2

theorem raiseFlush_eq (a : Nat) (s : State) : raiseFlush a s = { s with hod := { s.hod with
    comb := (raiseFlush a s).hod.comb, flush := (raiseFlush a s).hod.flush } } := by
  unfold raiseFlush
  split
  · rfl
  · split <;> rfl

theorem combPut_eq (q : QueueId) (a : Nat) (d : List Byte) (s : State) : combPut q a d s = { s with hod := { s.hod with
    comb := (combPut q a d s).hod.comb, flush := (combPut q a d s).hod.flush } } := by
  unfold combPut flushComplete
  simp only
  split
  · exact raiseFlush_eq ..
  · rfl

/-! ### PUT -/

/-- An element appended to queue q, and what its setters overhear. -/
theorem appendElem_room {q : QueueId} {s : State} (v : Word) (eob : Bool)
    (h : combRoom s ((descOf s q).elem (descOf s q).tail / 16 * 16) = true) :
    ∃ t, appendElem q v 0 false eob s = (.accepted, t) ∧ Appended s t q v 0 false eob ∧ ∀ i, Overheard i s t := by
  let e := descOf s q
  have hc := countChanged_counted q e e.count (e.count + 1) (putDesc q e.pushed s)
  refine ⟨_, if_pos h, ?_, fun i => ?_⟩
  · generalize countChanged q e e.count (e.count + 1) (putDesc q e.pushed s) = t at hc
    have hd (k : QueueId) : descOf (combPut q (e.elem e.tail) (elemBytes v (tagByte 0 false eob e.seq)) t) k =
        descOf (putDesc q e.pushed s) k := by
      rw [combPut_eq]
      exact hc.descOf k
    have hp := combPut_eq q (e.elem e.tail) (elemBytes v (tagByte 0 false eob e.seq)) t
    refine ⟨(hd q).trans (descOf_putDesc ..), fun k hk => (hd k).trans (descOf_putDesc_other _ _ hk), combGet_combPut .., ?_, ?_, ?_⟩
    · exact (congrArg State.store hp).trans hc.store
    · exact (congrArg State.bays hp).trans hc.bays
    · exact (congrArg State.arb hp).trans hc.arb
  · rw [combPut_eq]
    exact ⟨(hc.heard i).own, (hc.heard i).st⟩

theorem putRefusal_room {s : State} {m : Nat} {q : QueueId} (h : HasRoom s m q) : putRefusal m q s = none := by
  obtain ⟨ho, ⟨hp, -⟩, hr, hc, -⟩ := h
  simp [putRefusal, ho.enabled, ho.sound, hp, hr, hc]

theorem putRefusal_full {s : State} {m : Nat} {q : QueueId} (ho : QueueOpen s q) (hp : (descOf s q).pack = false)
    (hr : regionOk s m (descOf s q).base (descOf s q).ring false true = true) (hc : (descOf s q).count = (descOf s q).cap) :
    putRefusal m q s = some (.full, raise 441 s) := by
  simp [putRefusal, ho.enabled, ho.sound, hp, hr, hc]

/-- The ordinary operation's outcome and the count in the queue's bank. -/
theorem queueOp_put {s : State} {m : Nat} {q : QueueId} {v : Word} {eob : Bool} {r : QRes} {t : State}
    (hm : kvGet s.hod.derr q.toNat = none) (h : queuePut m q v eob s = (r, t)) (hr : r ≠ .waits) :
    queueOp m (.put q v eob) s = (r, countBank q t) := by
  simp only [queueOp, readDesc_unmarked hm, h]

theorem queueOp_get {s : State} {m : Nat} {q : QueueId} {r : QRes} {t : State}
    (hm : kvGet s.hod.derr q.toNat = none) (h : queueGet m q true s = (r, t)) (hr : r ≠ .waits) :
    queueOp m (.get q) s = (r, countBank q t) := by
  simp only [queueOp, readDesc_unmarked hm, h]

theorem queueOp_peek {s : State} {m : Nat} {q : QueueId} {r : QRes} {t : State}
    (hm : kvGet s.hod.derr q.toNat = none) (h : queueGet m q false s = (r, t)) (hr : r ≠ .waits) :
    queueOp m (.peek q) s = (r, countBank q t) := by
  simp only [queueOp, readDesc_unmarked hm, h]

theorem queueOp_qst {s : State} {m : Nat} {q : QueueId} (hm : kvGet s.hod.derr q.toNat = none) :
    queueOp m (.qst q) s = (.status (statusWord s q), countBank q s) := by
  simp only [queueOp, readDesc_unmarked hm]

theorem queueOp_append {s : State} {m : Nat} {q : QueueId} (v : Word) (eob : Bool) (h : HasRoom s m q) :
    ∃ t, queueOp m (.put q v eob) s = (.accepted, t) ∧ Appended s t q v 0 false eob ∧ ∀ i, Overheard i s t := by
  obtain ⟨t, ht, ⟨hq, hk, he, hst, hb, ha⟩, hh⟩ := appendElem_room v eob h.buffer
  have hc := countBank_counted q t
  refine ⟨_, queueOp_put h.isOpen.mark (by rw [queuePut, putRefusal_room h, ht]) (by decide), ?_, fun i => (hh i).trans (hc.heard i)⟩
  exact ⟨(hc.descOf q).trans hq, fun k n => (hc.descOf k).trans (hk k n), (hc.combGet _).trans he, hc.store.trans hst, hc.bays.trans hb,
    hc.arb.trans ha⟩

theorem queueOp_full {s : State} {m : Nat} {q : QueueId} (v : Word) (eob : Bool) (ho : QueueOpen s q) (hp : (descOf s q).pack = false)
    (hr : regionOk s m (descOf s q).base (descOf s q).ring false true = true) (hc : (descOf s q).count = (descOf s q).cap) :
    queueOp m (.put q v eob) s = (.full, countBank q (raise 441 s)) :=
  queueOp_put ho.mark (by rw [queuePut, putRefusal_full ho hp hr hc]) (by decide)

/-! ### GET and PEEK -/

theorem getRefusal_empty {s : State} {m : Nat} {q : QueueId} (ho : QueueOpen s q)
    (hr : regionOk s m (descOf s q).base (descOf s q).ring true false = true) (hc : (descOf s q).count = 0) :
    getRefusal m q s = some (.empty, s) := by
  simp [getRefusal, ho.enabled, ho.sound, hr, hc]

theorem getRefusal_none {s : State} {m : Nat} {q : QueueId} (ho : QueueOpen s q)
    (hr : regionOk s m (descOf s q).base (descOf s q).ring true false = true) (hc : (descOf s q).count ≠ 0) :
    getRefusal m q s = none := by
  simp [getRefusal, ho.enabled, ho.sound, hr, hc]

/-- An element that is still in the buffer (R220). -/
theorem queueGet_elem {s : State} {m : Nat} {q : QueueId} {l : List Byte} (remove : Bool) (hn : getRefusal m q s = none)
    (hl : combGet s ((descOf s q).elem (descOf s q).head) = some l) :
    queueGet m q remove s = (elemOf l, if remove then dropHead q s else s) := by
  simp only [queueGet, hn, readElem, hl]
  rfl

/-- The head element has left its queue. -/
theorem dropHead_spec (q : QueueId) (s : State) :
    Counted (putDesc q (descOf s q).popped s) (dropHead q s) := countChanged_counted ..

/-- The queue an element was taken from, and every other. -/
theorem dropHead_desc (q k : QueueId) (s : State) : descOf (dropHead q s) k = if k = q then (descOf s q).popped else descOf s k := by
  rw [(dropHead_spec q s).descOf]
  split
  · next h => rw [h, descOf_putDesc]
  · next h => exact descOf_putDesc_other _ _ h

/-! ### The windows -/

section
variable {s t : State} {m : Master} {q : QueueId} {off len : Nat} {wr : Bool} {op : HodOp} {r : QRes}

/-- A window that answers its master passes the operation's outcome on (R215). -/
theorem windowRow_open (hw : WindowOpen s m q off len wr) (hk : (descOf s q).key = false) (hop : opQueue op = q)
    (h : queueOp m.val op s = (r, t)) (hr : r ≠ .waits) : windowRow m q off len wr op s = answer m.val (windowResp op r) t := by
  have hstage : started s = true := by
    unfold started
    rcases hw.stage with e | e <;> rw [e] <;> rfl
  have hrow : ¬(m.val < 16 || !started s || s.pwr.state == 3) = true := by
    simp [hstage, hw.master, show s.pwr.state ≠ 3#2 from hw.awake]
  have hwin : windowOp m.val op s = (windowResp op r, t) := by
    have hq : qcmdDone s = s := by rw [qcmdDone, hw.free.command]
    have hkey : ¬(descOf s (opQueue op)).key = true := by rw [hop, hk]; decide
    rw [windowOp, if_neg (by simp [hw.free.on.2]), if_neg (by simp [hw.free.port])]
    simp only [hq, if_neg hkey, h]
  rw [windowRow, if_neg hrow]
  simp only [hw.region, hwin]
  rfl

end

theorem answer_eq (m : Nat) (r : Resp) (s : State) : answer m r s = { s with resp := nthUpd s.resp m (fun _ => r) } := rfl

/-- Settles O34: the window passes on what the operation finds: its queue's status, nothing, an element, room, a full ring. -/
theorem queueWindows : Obligations.QueueWindows := by
  unfold Obligations.QueueWindows
  intro s m q v ho e read
  have put (off : Nat) (eob : Bool) (hw : WindowOpen s m q off 4 true) (hr : HasRoom s m.val q) :
      ∃ t, windowRow m q off 4 true (.put q v eob) s = t ∧ Appended s t q v 0 false eob ∧ nth t.resp m.val = some ⟨.ok, []⟩ := by
    obtain ⟨t, ht, happ, -⟩ := queueOp_append v eob hr
    exact ⟨_, windowRow_open hw hr.plain.2 rfl ht (by decide), happ, nth_respond ..⟩
  refine ⟨fun hw hk => ?qst, fun hr hk hc => ?empty, fun l hr hk hc hl => ?elem, fun hw hr => ?put, fun hw hr => ?putEob,
    fun hw hp hk hr hc => ?full⟩
  case qst =>
    have h := windowRow_open hw hk rfl (queueOp_qst ho.mark) (by simp)
    exact congrArg Host.Outcome.next (h.trans (answer_eq ..))
  case empty =>
    have hg : queueGet m.val q true s = (.empty, s) := by rw [queueGet, getRefusal_empty ho hr.2 hc]
    have h := windowRow_open hr.1 hk rfl (queueOp_get ho.mark hg (by simp)) (by simp)
    exact congrArg Host.Outcome.next (h.trans (answer_eq ..))
  case elem =>
    have h : queueOp m.val (.get q) s = (elemOf l, countBank q (dropHead q s)) :=
        queueOp_get ho.mark (queueGet_elem true (getRefusal_none ho hr.2 hc) hl) (by simp [elemOf])
    have hcount := countBank_counted q (dropHead q s)
    refine ⟨_, congrArg Host.Outcome.next (windowRow_open hr.1 hk rfl h (by simp [elemOf])), ?_, fun k hkq => ?_, nth_respond .., ?_⟩
    · exact (hcount.descOf q).trans ((dropHead_desc q q s).trans (if_pos rfl))
    · exact (hcount.descOf k).trans ((dropHead_desc q k s).trans (if_neg hkq))
    · exact hcount.store.trans (dropHead_spec q s).store
  case put =>
    obtain ⟨t, ht, happ, hresp⟩ := put 0 false hw hr
    exact ⟨t, congrArg Host.Outcome.next ht, happ, hresp⟩
  case putEob =>
    obtain ⟨t, ht, happ, hresp⟩ := put 4 true hw hr
    exact ⟨t, congrArg Host.Outcome.next ht, happ, hresp⟩
  case full =>
    have h := windowRow_open hw hk rfl (queueOp_full v false ho hp hr hc) (by decide)
    exact congrArg Host.Outcome.next (h.trans (answer_eq ..))

end Sys2Proof.Proofs
end

section
/-! PROOFS. A synchronous trap of a setter between two instructions (R63 to R65, R67), and the landing, the drop and the limits of store
requests (R182, R185, R188, R194, R198 to R200): the statement StoreRequests. -/

namespace Sys2Proof.Proofs
open Sys2Proof Sys2Proof.Machine Sys2Proof.Claims

/-! ### A synchronous trap -/

/-- The setter as a trap leaves it, its source aside; without RUN it stops (R64, R67). -/
def trapTaken (x : Setter) (vec sub : Nat) (addr : Word) : Setter :=
  { x with skipBk := false, epc := x.pc, eflags := flagsBits x.flags, causeVec := BitVec.ofNat 4 vec, causeSub := BitVec.ofNat 8 sub,
           eaddr := addr, tm := true, pc := BitVec.ofNat 14 vec, scan := x.scan + 3, ilReg := none, ilMac := false, again := false,
           lutStall := none, stopped := x.stopped || !x.run }

/-- The setter as a double trap leaves it (R65). -/
def doubleTaken (x : Setter) : Setter :=
  { x with run := false, stopped := true, dbltrap := true, halted := false, skipBk := false, again := false }

/-- What nothing overheard can change. -/
theorem eq_of_quieted {α : Type} {x y : Setter} (h : quieted y = quieted x) (f : Setter →
    α) (hf : ∀ x, f (quieted x) = f x) : f y = f x := by
  rw [← hf y, h, hf]

section
variable {i : SetterId} {s : State} (h : Deaf (s.st i))
include h

theorem raise_quieted (n : Nat) : quieted ((raise n s).st i) = quieted (s.st i) := (raise_overheard i n s).st h

theorem raise_deaf (n : Nat) : Deaf ((raise n s).st i) := deaf_of_quieted (raise_quieted h n) h

theorem syncTrap_double (ht : (s.st i).tm = true) (vec sub : Nat) (addr : Word) :
    quieted ((syncTrap i vec sub addr s).st i) = quieted (doubleTaken (s.st i)) := by
  rw [syncTrap, if_pos ht]
  generalize hu : s.modS i _ = u
  have hx : u.st i = doubleTaken (s.st i) := by rw [← hu, State.modS_st]; rfl
  have hd : Deaf (u.st i) := by rw [hx]; exact h
  rw [raise_quieted (raise_deaf hd _), raise_quieted hd, hx]

theorem syncTrap_taken (ht : (s.st i).tm = false) (vec sub : Nat) (addr : Word) :
    quieted ((syncTrap i vec sub addr s).st i) = quieted (trapTaken (s.st i) vec sub addr) := by
  rw [syncTrap, if_neg (by simp [ht]), enterTrap]
  generalize hu : State.modS (s.modS i _) i _ = u
  have hx : u.st i = { trapTaken (s.st i) vec sub addr with stopped := (s.st i).stopped } := by
    rw [← hu, State.modS_st, State.modS_st]
    rfl
  have hd : Deaf (u.st i) := by rw [hx]; exact h
  have hr := raise_quieted hd (srcOf i 1)
  have hd' := raise_deaf hd (srcOf i 1)
  generalize raise (srcOf i 1) u = v at hr hd'
  rw [hx] at hr
  have hrun : (v.st i).run = (s.st i).run := eq_of_quieted hr Setter.run fun _ => rfl
  by_cases hs : (s.st i).run = true
  · rw [settle_run i v (hrun.trans hs), hr]
    simp [trapTaken, hs]
  · rw [settle_stopped i v (by rw [hrun]; simpa using hs)]
    have hm : (v.modS i (fun x => { x with stopped := true })).st i = { v.st i with stopped := true } := State.modS_st ..
    rw [raise_quieted (by rw [hm]; exact hd'), hm]
    have hq := congrArg (fun x : Setter => ({ x with stopped := true } : Setter)) hr
    refine (show _ = _ from hq).trans ?_
    simp [trapTaken, quieted, hs]

end

/-! ### Landing -/

theorem formOk_iff (m : Master) (q : StoreReq) : formOk m.val q = true ↔ LegalForm m q := by
  unfold formOk LegalForm
  rw [show (0x800000 : Nat) = storeEnd from rfl]
  by_cases hb : q.beats = 1
  · have hl : (!(q.lock && q.key)) = true ↔ ¬(q.lock = true ∧ q.key = true) :=
      by rw [← Bool.and_eq_true, Bool.not_eq_true', Bool.not_eq_true]
    by_cases hm : m.val < 16
    · simp only [hb, hm, if_true, Bool.and_eq_true, hl]
      simp [and_assoc]
    · simp only [hb, hm, if_true, if_false, Bool.and_eq_true, hl]
      simp [and_assoc]
  · simp [hb, and_assoc]

theorem onLine_iff (v : Vector Word 4) (m : Nat) : onLine v m = true ↔ OnLine v m := by
  simp [onLine, OnLine, List.any_eq_true]

theorem mayKey_iff (s : State) (m : Nat) : mayKey s m = true ↔ MayKey s m := by
  rw [mayKey, Bool.or_eq_true, Bool.or_eq_true, onLine_iff, onLine_iff, show hasKey s m =
      onLine s.arb.keyEff m from rfl, onLine_iff, or_assoc]
  rfl

theorem isKey_iff (s : State) (m : Nat) (q : StoreReq) : isKey s m q = true ↔ q.key = true ∧ MayKey s m := by
  rw [isKey, Bool.and_eq_true, mayKey_iff]

/-- A silent master may raise any request. -/
theorem taken_silent {s : State} {m : Nat} (h : Silent s m) (q : StoreReq) : taken s m q = false := by
  have hl : s.arb.locks.any (fun l => l.1 == m) = false := by simpa using fun a b hab => h.lock (a, b) hab
  have hj : s.arb.joint.any (fun e => e.1 == m && isKey s m e.2 == isKey s m q) = false := by
    rw [List.any_eq_false]
    intro e he
    simp [h.joint e he]
  have hk : reqOf s.arb.kreq m = none := h.key
  have ho : reqOf s.arb.ord m = none := h.ord
  simp [taken, hl, hj, demoted, hk, ho]

/-- The holder of a lock raises nothing but the write that releases it (R198). -/
theorem taken_locked {s : State} {m : Nat} {q : StoreReq} {l : Nat × Nat} (hl : l ∈ s.arb.locks) (hm : l.1 = m)
    (h : q.write = false ∨ ∀ k ∈ s.arb.locks, k.1 = m → k.2 / 16 ≠ q.addr.toNat / 16) : taken s m q = true := by
  have hany : s.arb.locks.any (fun l => l.1 == m) = true := List.any_eq_true.mpr ⟨l, hl, by simpa using hm⟩
  have hrel : releases s m q = false := by
    rcases h with h | h
    · simp [releases, h]
    · have hno : s.arb.locks.any (fun l => l.1 == m && beatOf l.2 == beatOf q.addr.toNat) = false := by
        rw [List.any_eq_false]
        intro k hk
        simp only [Bool.and_eq_true, beq_iff_eq, not_and, beatOf]
        intro hkm he
        exact h k hk hkm (by omega)
      simp [releases, hno]
  simp [taken, hany, hrel]

section
variable {s : State} {m : Nat} {q : StoreReq}

theorem landReq_illegal (hf : fenced s m = false) (h : formOk m q = false) : landReq m q s = ended m .busError s := by
  simp [landReq, hf, h]
  rfl

theorem landReq_region (hf : fenced s m = false) (h : formOk m q = true)
    (hr : regionOk s m q.addr.toNat (span q) (!q.write || q.lock) (q.write || q.lock) = false) :
    landReq m q s = ended m .region (raise (448 + m) { s with arb := { s.arb with
      mcause := nthUpd s.arb.mcause m (· ||| 1), maddr := nthUpd s.arb.maddr m (fun _ => q.addr) } }) := by
  have hr' : regionOk s m q.addr.toNat (reqLen q) (!q.write || q.lock) (q.write || q.lock) = false := hr
  rw [landReq, if_neg (by simp [hf]), if_neg (by simp [h]), if_pos (by simp [hr']), regionViolation, masterCause, BitVec.ofNat_toNat,
    BitVec.setWidth_eq]
  rfl

/-- Nothing keeps the request from the store's arbiter. -/
theorem landReq_raised (hf : fenced s m = false) (h : formOk m q = true)
    (hr : regionOk s m q.addr.toNat (span q) (!q.write || q.lock) (q.write || q.lock) = true) (hret : s.store.retn = false)
    (hw : s.store.waking = false) : landReq m q s = raiseReq m q (ended m .none s) := by
  have hr' : regionOk s m q.addr.toNat (reqLen q) (!q.write || q.lock) (q.write || q.lock) = true := hr
  rw [landReq, if_neg (by simp [hf]), if_neg (by simp [h]), if_neg (by simp [hr']), startWake_on (by simp [off, hret, hw])]
  rfl

end

/-! ### A cut-off -/

/-- What a cut-off records, its event and its trap aside (R195, R198). -/
def cutRecorded (m : Nat) (bits : BitVec 6) (addr : Nat) (s : State) : State :=
  let t := addResp m .cutOff [] s
  { t with arb := { s.arb with cutcnt := nthUpd s.arb.cutcnt m (fun c => BitVec.ofNat 8 (satAdd 8 c.toNat 1)),
                               locks := s.arb.locks.filter (fun l => l.1 != m), mcause := nthUpd s.arb.mcause m (· ||| bits),
                               maddr := nthUpd s.arb.maddr m (fun _ => BitVec.ofNat 32 addr) } }

/-- Beside what it records, a cut-off raises the master's source, and traps a setter between two instructions. -/
theorem cutOff_eq (m : Nat) (bits : BitVec 6) (addr : Nat) (s : State) :
    cutOff m bits addr s = (if h : m < 16 then
      (if ((raise (448 + m) (cutRecorded m bits addr s)).st ⟨m, h⟩).issues
        then syncTrap ⟨m, h⟩ 8 0 (BitVec.ofNat 32 addr) (raise (448 + m) (cutRecorded m bits addr s))
        else raise (448 + m) (cutRecorded m bits addr s))
      else raise (448 + m) (cutRecorded m bits addr s)) := rfl

theorem cutOff_raised (m : Nat) (bits : BitVec 6) (addr : Nat) (s : State) :
    Raised (raise (448 + m) (cutRecorded m bits addr s)) (cutOff m bits addr s) := by
  rw [cutOff_eq]
  split_ifs
  · exact syncTrap_raised ..
  · exact .refl _
  · exact .refl _

theorem nth_lt {α : Type} {n : Nat} (v : Vector α n) {m : Nat} (h : m < n) : nth v m = some (v.get ⟨m, h⟩) := dif_pos h

theorem nth_put {α : Type} (v : Vector α 32) {m : Nat} (hm : m < 32) (f : α → α) : nth (nthUpd v m f) m = some (f (v.get ⟨m, hm⟩)) := by
  rw [nth_nthUpd, if_pos rfl, nth_lt v hm]
  rfl

/-- The cut-off of a master whose request has been taken out of the vector that held it. -/
theorem cutOff_spec {s : State} {m : Master} {key : Bool} (bits : BitVec 6) (addr : Nat)
    (hreq : nth (if key then s.arb.kreq else s.arb.ord) m.val = some none) :
    CutOff s (cutOff m.val bits addr s) m.val key bits addr false := by
  have hm : m.val < 32 := by omega
  have hr := (raise_raised (448 + m.val) (cutRecorded m.val bits addr s)).trans (cutOff_raised m.val bits addr s)
  have hpend := (cutOff_raised m.val bits addr s).pend _ (raise_pend (448 + m.val) _ (by omega))
  generalize cutOff m.val bits addr s = t at hr hpend
  have locks : t.arb.locks = s.arb.locks.filter (fun l => l.1 != m.val) := by rw [hr.arb]; rfl
  have resp : t.resp = nthUpd s.resp m.val (fun r => ⟨.cutOff, r.data ++ []⟩) := hr.resp
  refine ⟨?_, fun l hl => ?_, fun l hl hlm => ?_, ⟨_, _, nth_lt s.arb.mcause hm, ?_, rfl⟩, ?_, ⟨_, nth_lt s.arb.cutcnt hm, ?_⟩,
    ⟨_, nth_lt s.resp hm, ?_⟩, hpend, ?_, hr.store, hr.hod⟩
  · rw [hr.arb]; exact hreq
  · rw [locks, List.mem_filter] at hl
    simpa using hl.2
  · rw [locks, List.mem_filter]
    exact ⟨hl, by simpa using hlm⟩
  · rw [hr.arb]; exact nth_put _ hm _
  · rw [hr.arb]; exact nth_put _ hm _
  · rw [hr.arb]; exact nth_put _ hm _
  · rw [resp, nth_put _ hm, List.append_nil]
  · rw [fenced, hr.arb, Bool.or_false]; rfl

/-- The same for a master in whose state only its requests, its fence and the grant have changed before. -/
theorem cutOff_since {s u t : State} {m : Nat} {key fence : Bool} {bits : BitVec 6} {addr : Nat} (h : CutOff u t m key bits addr false)
    (locks : u.arb.locks = s.arb.locks) (cause : u.arb.mcause = s.arb.mcause) (count : u.arb.cutcnt = s.arb.cutcnt) (resp : u.resp = s.resp)
    (store : u.store = s.store) (hod : u.hod = s.hod) (fenced : fenced u m = (fenced s m || fence)) : CutOff s t m key bits addr fence := by
  unfold CutOff at h ⊢
  rwa [locks, cause, count, resp, store, hod, fenced, Bool.or_false] at h

theorem cutOff_arb (m : Nat) (bits : BitVec 6) (addr : Nat) (s : State) : (cutOff m bits addr s).arb = (cutRecorded m bits addr s).arb :=
  ((raise_raised _ _).trans (cutOff_raised m bits addr s)).arb

/-- A setter between two instructions takes the trap of its cut-off. -/
theorem cutOff_trap {s : State} {i : SetterId} (h : (s.st i).issues = true) (bits : BitVec 6) (addr : Nat) :
    CutTrap s (cutOff i.val bits addr s) i addr := by
  have hd : Deaf ((cutRecorded i.val bits addr s).st i) := deaf_of_idle (wait_of_issues h)
  have hq : quieted ((raise (448 + i.val) (cutRecorded i.val bits addr s)).st i) = quieted (s.st i) := raise_quieted hd _
  have hd' := raise_deaf hd (448 + i.val)
  rw [cutOff_eq, dif_pos i.isLt]
  generalize raise (448 + i.val) (cutRecorded i.val bits addr s) = t at hq hd'
  have hi : (t.st i).issues = true := (eq_of_quieted hq Setter.issues fun _ => rfl).trans h
  rw [if_pos hi]
  have htm := eq_of_quieted hq Setter.tm fun _ => rfl
  have hpc := eq_of_quieted hq Setter.pc fun _ => rfl
  refine ⟨fun ht => ?_, fun ht => ?_⟩
  · have hy := syncTrap_taken hd' (htm.trans ht) 8 0 (BitVec.ofNat 32 addr)
    exact ⟨eq_of_quieted hy Setter.tm fun _ => rfl, eq_of_quieted hy Setter.causeVec fun _ => rfl,
        eq_of_quieted hy Setter.causeSub fun _ => rfl,
      eq_of_quieted hy Setter.eaddr fun _ => rfl, (eq_of_quieted hy Setter.epc fun _ => rfl).trans hpc,
      eq_of_quieted hy Setter.pc fun _ => rfl, (eq_of_quieted hy Setter.g fun _ => rfl).trans (eq_of_quieted hq Setter.g fun _ => rfl)⟩
  · have hy := syncTrap_double hd' (htm.trans ht) 8 0 (BitVec.ofNat 32 addr)
    exact ⟨eq_of_quieted hy Setter.dbltrap fun _ => rfl, eq_of_quieted hy Setter.run fun _ => rfl,
      eq_of_quieted hy Setter.stopped fun _ => rfl, (eq_of_quieted hy Setter.pc fun _ => rfl).trans hpc⟩

/-- A fence set where the master's control word asks for it (R198). -/
theorem fenced_fenceOn (s : State) (m : Master) : fenced (fenceOn m.val s) m.val = (fenced s m.val || fenceEn s m.val) := by
  have hm : m.val < 32 := by omega
  simp only [fenced, fenceOn, fenceEn, nth_put _ hm, nth_lt _ hm, Option.getD_some]
  split
  · next h => rw [setBit_get _ _ _ _ (by decide), if_pos rfl, h, Bool.or_true]
  · next h => rw [Bool.eq_false_iff.mpr h, Bool.or_false]

theorem find_lock {l p r : List (Nat × Nat)} {m b : Nat} (h : l = p ++ (m, b) :: r) (hp : ∀ k ∈ p, k.1 ≠ m) :
    l.find? (fun k => k.1 == m) = some (m, b) := by
  rw [h, List.find?_append, List.find?_eq_none.mpr fun k hk => by simpa using hp k hk]
  simp

theorem storeRuns_serving {s : State} (h : Serving s) : storeRuns s = true := by
  obtain ⟨hr, hw, hi, hp⟩ := h
  have hp' : s.pwr.state ≠ 3#2 := hp
  simp [storeRuns, Machine.storeCycles, hr, hw, hi, hp']

/-- Settles O30: a request lands through the checks in their order; each limit through what a cut-off records. -/
theorem storeRequests : Obligations.StoreRequests := by
  unfold Obligations.StoreRequests
  refine ⟨fun s m q hs => ?land, fun s m => ?limits⟩
  case land =>
    intro a ok idle there
    have hland (hd : s.pwr.state ≠ 3) (hi : s.store.isol = false ∨ m.val = 29) : exec (.storeRequestLand m q) s =
        .next (landReq m.val q s) := by
      refine congrArg Host.Outcome.next ?_
      rw [if_neg (by simp [taken_silent hs]), if_neg hd, if_neg (by rintro ⟨h, h29⟩; rcases hi with e | e <;> simp_all)]
    refine ⟨fun hd => ?dormant, fun hd hi hm => ?joint, fun ht hf => ?barred, fun ht hf => ⟨fun h => ?form, fun h hr => ?region,
      fun h hr hret hw => ⟨fun hk hmay => ?key, fun hk => ?ordinary⟩⟩⟩
    case dormant => exact congrArg Host.Outcome.next ((if_neg (by simp [taken_silent hs])).trans (if_pos hd))
    case joint =>
      exact congrArg Host.Outcome.next ((if_neg (by simp [taken_silent hs])).trans ((if_neg hd).trans (if_pos ⟨hi, hm⟩)))
    case barred => exact (hland ht.1 ht.2).trans (congrArg Host.Outcome.next (if_pos hf))
    case form =>
      have h' : formOk m.val q = false := by rwa [← formOk_iff, Bool.not_eq_true] at h
      exact (hland ht.1 ht.2).trans (congrArg Host.Outcome.next (landReq_illegal hf h'))
    case region =>
      exact (hland ht.1 ht.2).trans (congrArg Host.Outcome.next (landReq_region hf ((formOk_iff m q).mpr h) hr))
    case key =>
      have hkey : isKey s m.val q = true := (isKey_iff ..).mpr ⟨hk, hmay⟩
      refine (hland ht.1 ht.2).trans (congrArg Host.Outcome.next ((landReq_raised hf ((formOk_iff m q).mpr h) hr hret hw).trans ?_))
      have hkey' : isKey (ended m.val .none s) m.val q = true := hkey
      simp only [raiseReq, hkey']
      rfl
    case ordinary =>
      have hkey : isKey (ended m.val .none s) m.val q = false := Bool.eq_false_iff.mpr fun hc => hk ((isKey_iff ..).mp hc)
      refine (hland ht.1 ht.2).trans (congrArg Host.Outcome.next ((landReq_raised hf ((formOk_iff m q).mpr h) hr hret hw).trans ?_))
      simp only [raiseReq, hkey]
      rfl
  case limits =>
    have hm32 : m.val < 32 := by omega
    refine ⟨fun q l hl hm h => ?locked, fun q hm hq hg => ?drop, fun b p r hl hp => ?lock, fun g q hm hg hgm hq => ?hold, fun hm => ?never,
      fun c w hs hc hw hlim => ⟨fun h => ?starved, fun h => ?again⟩⟩
    case locked => exact congrArg Host.Outcome.next (if_pos (taken_locked hl hm h))
    case drop =>
      have hgone (v g : Vector (Option StoreReq) 32) (o : BitVec 32) (j : Nat) :
          (setBit o m.val (o.getLsbD m.val || (reqOf v m.val).isSome)).getLsbD j =
            (o.getLsbD j || (decide (j = m.val) && (entry v j).isSome)) := by
        rw [setBit_get _ _ _ _ hm32]
        by_cases hj : j = m.val
        · simp [hj, reqOf, entry]
        · simp [hj]
      refine ⟨_, _, congrArg Host.Outcome.next ((if_pos ?_).trans rfl), fun j _ => ⟨hgone s.arb.sampO s.arb.sampO _ j,
          hgone s.arb.sampK s.arb.sampK _ j⟩⟩
      have hreq : (reqOf s.arb.ord m.val).isSome = true := by rw [reqOf, hq]; rfl
      have hmay : (m.val == 17 || (decide (21 ≤ m.val) && decide (m.val ≤ 28))) = true := by simpa using hm
      rw [hreq, hmay, Bool.true_and, Bool.true_or, Bool.true_or, Bool.and_true]
      split
      next g hc => simpa using hg g hc
      next => rfl
    case lock =>
      have hcut := cutOff_spec (s := dropOrd m.val (fenceOn m.val s)) (key := false) 8 b (nth_put _ hm32 _)
      refine ⟨cutLock 8 (m.val, b) (fenceOn m.val s), ?_, ?_, fun i hi hx => ?_⟩
      · exact congrArg Host.Outcome.next (by rw [find_lock hl hp])
      · exact cutOff_since hcut rfl rfl rfl rfl rfl rfl (fenced_fenceOn s m)
      · have ht := cutOff_trap (s := dropOrd m.val (fenceOn m.val s)) hx 8 b
        rw [hi] at ht
        exact ht
    case hold =>
      let u := putReq g.key m.val none { s with arb := { s.arb with grant := none } }
      have hreq : nth (if g.key then u.arb.kreq else u.arb.ord) m.val = some none := by
        cases hk : g.key <;> simp only [u, putReq, hk] <;> exact nth_put _ hm32 _
      obtain ⟨locks, cause, count, resp, store, hod, ctl, grant⟩ : u.arb.locks = s.arb.locks ∧ u.arb.mcause = s.arb.mcause ∧
          u.arb.cutcnt = s.arb.cutcnt ∧ u.resp = s.resp ∧ u.store = s.store ∧ u.hod = s.hod ∧ u.arb.mctl = s.arb.mctl ∧
              u.arb.grant = none := by
        cases hk : g.key <;> simp only [u, putReq, hk] <;> trivial
      have hcut := cutOff_spec (s := fenceOn m.val u) (key := g.key) 4 q.addr.toNat hreq
      have hfence : fenced (fenceOn m.val u) m.val = (fenced s m.val || fenceEn s m.val) := by
        rw [fenced_fenceOn, fenced, fenceEn, ctl]
        rfl
      refine ⟨_, congrArg Host.Outcome.next ?_, cutOff_since hcut locks cause count resp store hod hfence, ?_⟩
      · have hreqOf : (if g.key = true then reqOf s.arb.kreq m.val else reqOf s.arb.ord m.val) = some q := by
          rw [← hq, granted, hgm]
          split <;> rfl
        simp only [hg]
        rw [if_pos (by simp [hgm, hm]), hreqOf]
        rfl
      · rw [cutOff_arb]
        exact grant
    case never =>
      refine congrArg Host.Outcome.next ?_
      split
      · exact if_neg (by simp [hm])
      · rfl
    case starved =>
      have hl : starveLimit s m.val ≤ ((nth s.arb.waitc m.val).getD 0).toNat := by
        rw [starveLimit, hw, hc]
        exact hlim
      exact congrArg Host.Outcome.next (if_pos (by rw [storeRuns_serving hs, decide_eq_true hl, h]; rfl))
    case again => exact congrArg Host.Outcome.next (if_neg (by simp [h]))

end Sys2Proof.Proofs
end

section
/-! PROOFS. A setter's queue instructions (R116, R118 to R121, R221, R223): the statement QueueInstructions. -/

namespace Sys2Proof.Proofs
open Sys2Proof Sys2Proof.Machine Sys2Proof.Claims

/-! ### An operation that ends without an element's bytes -/

/-- The answer of a setter's operation that R119 gives before any element is read or written, and the source that it raises. -/
def plainAnswer (m : Nat) (op : HodOp) (s : State) : Option (QRes × State) :=
  match op with
  | .put q _ _ => putRefusal m q s
  | .get q => getRefusal m q s
  | .peek q => getRefusal m q s
  | .qst q => some (.status (statusWord s q), s)

section
variable {s t : State} {m : Nat} {op : HodOp} {r : QRes}

theorem queueOp_plain (hm : kvGet s.hod.derr (opQueue op).toNat = none) (h : plainAnswer m op s = some (r, t)) (hr : r ≠ .waits) :
    queueOp m op s = (r, countBank (opQueue op) t) := by
  cases op with
  | put q v eob => exact queueOp_put hm (by rw [queuePut, show putRefusal m q s = some (r, t) from h]) hr
  | get q => exact queueOp_get hm (by rw [queueGet, show getRefusal m q s = some (r, t) from h]) hr
  | peek q => exact queueOp_peek hm (by rw [queueGet, show getRefusal m q s = some (r, t) from h]) hr
  | qst q =>
    cases h
    exact queueOp_qst hm

theorem keyStep_plain (hm : kvGet s.hod.derr (opQueue op).toNat = none) (h : plainAnswer m op s = some (r, t)) :
    keyStep m op s = (.inl r, countBank (opQueue op) t) := by
  cases op with
  | put q v eob =>
    simp only [keyStep, readDesc_unmarked (show kvGet s.hod.derr q.toNat = none from hm), show putRefusal m q s = some (r, t) from h]
    rfl
  | get q =>
    simp only [keyStep, keyRead, readDesc_unmarked (show kvGet s.hod.derr q.toNat = none from hm), show getRefusal m q s =
        some (r, t) from h]
    rfl
  | peek q =>
    simp only [keyStep, keyRead, readDesc_unmarked (show kvGet s.hod.derr q.toNat = none from hm), show getRefusal m q s =
        some (r, t) from h]
    rfl
  | qst q =>
    simp only [keyStep, readDesc_unmarked (show kvGet s.hod.derr q.toNat = none from hm)]
    cases h
    rfl

end

/-! ### The lane (R223) -/

/-- The lane without an operation. -/
def LaneFree (s : State) : Prop := s.hod.lane = none ∧ s.hod.keyWait = []

theorem runLane_free {s : State} (h : LaneFree s) (n : Nat) : runLane n s = s := by
  cases n with
  | zero => rfl
  | succ n =>
    rw [runLane, h.1]
    simp only [nextLane, h.2]
    rfl

/-- The lane after an operation's descriptor step: its outcome told, or its payload access to do. -/
def laneStepped (n : Nat) (l : LaneOp) (k : (QRes ⊕ LanePay) × State) : State :=
  k.1.elim (fun r => runLane n (deliverLane l r k.2)) (fun p => { k.2 with hod := { k.2.hod with lane := some (l, p) } })

theorem runLane_takes {s : State} {l : LaneOp} (n : Nat) (hl : s.hod.lane = none) (hn : nextLane s.hod = some l) : runLane (n + 1) s =
    laneStepped n l (keyStep l.master l.op { s with hod := { s.hod with keyWait := s.hod.keyWait.filter (fun o => o.port != l.port) } })
        := by
  rw [runLane, if_neg (by simp [hl]), hn]
  dsimp only
  split <;> next hk => rw [hk]; rfl

/-- A free lane takes the operation that reaches it. -/
theorem enterLane_free {s : State} (h : LaneFree s) (l : LaneOp) : enterLane l s = laneStepped 19 l (keyStep l.master l.op s) := by
  obtain ⟨hl, hw⟩ := h
  have hnext : nextLane { s.hod with keyWait := [l] } = some l := by
    unfold nextLane
    cases hf : List.find? (fun o => s.hod.keyports.getLsbD o.port.val) [l] with
    | none => rfl
    | some o => rw [List.mem_singleton.mp (List.mem_of_find?_eq_some hf)]
  have hself : ({ s with hod := { s.hod with keyWait := [l].filter (fun o => o.port != l.port) } } : State) = s := by
    rw [show [l].filter (fun o => o.port != l.port) = s.hod.keyWait by simp [hw]]
  rw [enterLane, hw, List.nil_append]
  exact (runLane_takes (s := { s with hod := { s.hod with keyWait := [l] } }) 19 hl hnext).trans
    (congrArg (fun u => laneStepped 19 l (keyStep l.master l.op u)) hself)

section
variable {s : State} {i : SetterId}

/-- A setter that waits for the lane (R223). -/
def atLane (s : State) (i : SetterId) (d : Reg) : State := s.modS i (fun x => { x with wait := .lane d })

/-- The setter hears its answer (R221). -/
def fromLane (s : State) (i : SetterId) : State := s.modS i (fun x => { x with wait := .none })

theorem atLane_deaf (d : Reg) : Deaf ((atLane s i d).st i) := by
  simp [atLane, Deaf]

theorem fromLane_atLane (h : (s.st i).wait = .none) (d : Reg) : fromLane (atLane s i d) i = s := by
  rw [fromLane, atLane, State.modS_eq (State.modS ..), State.modS_st, State.modS_eq, State.putS_putS, ← h]
  exact State.putS_self s i

/-- What was counted while the setter waited for the lane. -/
theorem counted_fromLane {t : State} {d : Reg} (h : (s.st i).wait = .none) (k : Counted (atLane s i d) t) : Counted s (fromLane t i) := by
  refine ⟨?_, k.pend, fun j => ⟨(k.heard j).own, fun hj => ?_⟩⟩
  · have he := k.eq
    generalize hv : (fromLane t i).setters = v
    rw [show fromLane t i = { t with setters := v } by rw [← hv]; rfl, he]
    rfl
  · by_cases hji : i = j
    · subst hji
      have hq := (k.heard i).st (atLane_deaf d)
      have hw := congrArg (fun x : Setter => { x with wait := .none }) hq
      rw [fromLane, State.modS_st]
      refine (show _ = _ from hw).trans ?_
      rw [atLane, State.modS_st, ← h]
      rfl
    · have ht : (fromLane t i).st j = t.st j := State.putS_st_other _ _ _ _ hji
      have hs : (atLane s i d).st j = s.st j := State.putS_st_other _ _ _ _ hji
      rw [ht, (k.heard j).st (by rwa [hs]), hs]

end

/-! ### An instruction at its setter -/

theorem Counted.lane {s t : State} (h : Counted s t) : t.hod.lane = s.hod.lane := by rw [h.eq]
theorem Counted.keyWait {s t : State} (h : Counted s t) : t.hod.keyWait = s.hod.keyWait := by rw [h.eq]

theorem Counted.laneFree {s t : State} (h : Counted s t) (hs : LaneFree s) : LaneFree t := ⟨h.lane.trans hs.1, h.keyWait.trans hs.2⟩

/-- What a deaf setter is after what was counted. -/
theorem Counted.quieted {s t : State} {i : SetterId} (h : Counted s t) (hd : Deaf (s.st i)) : quieted (t.st i) = quieted (s.st i) :=
  (h.heard i).st hd

theorem countBank_fromLane (q : QueueId) (s : State) (i : SetterId) : fromLane (countBank q s) i = countBank q (fromLane s i) := by
  by_cases h : s.hod.skewwin = 0
  · rw [countBank, if_pos h]
    exact (if_pos h).symm
  · rw [countBank, if_neg h]
    exact (if_neg h).symm

theorem ranFree_going (u : State) (i : SetterId) (x : Setter) (c w : Nat) : finish i w (.going (ranFree u i x c)) =
    ranFree u i x (c + w) := by
  rw [finish_going, State.modS_eq]
  have h : (ranFree u i x c).st i = (ran u i x c none false).st i := rfl
  rw [h, ran, State.putS_st]
  refine (show _ = ((ran u i x c none false).putS i _).usedFree from rfl).trans (congrArg State.usedFree ?_)
  simp only [ran, State.putS_putS, Nat.add_assoc]

theorem finish_queueDone {u : State} {i : SetterId} {f : Setter → Setter} (hrun : ∀ x, (f x).run = x.run) (hu : (u.st i).run =
    true) (w : Nat) :
    finish i w (queueDone i f u) = ranFree u i (f (u.st i)).adv (queueCost u + w) :=
  finish_modS_free (f := fun x => (f x).adv) ((hrun _).trans hu) _ _

/-- An ordinary operation that ends at once. -/
theorem queueLocal_ordinary {s t : State} {i : SetterId} {op : HodOp} {r : QRes} (hp : PortFree s i.val)
    (hk : (descOf s (opQueue op)).key = false) (h : queueOp i.val op s = (r, t)) (hr : r ≠ .waits) (ins : Instr) (d : Reg) :
    queueLocal i ins d op s = queueOutcome i d op r t := by
  rw [queueLocal, if_neg (by simp [hp.on.2]), if_neg (by simp [hp.port]), if_neg (by simp [hk])]
  simp only [h]

/-- An operation on a KEY queue is at the lane (R223). -/
theorem queueLocal_lane {s : State} {i : SetterId} {op : HodOp} (hp : PortFree s i.val) (hk : (descOf s (opQueue op)).key = true)
    (hl : LaneFree s) (ins : Instr) (d : Reg) : queueLocal i ins d op s =
      .going (laneStepped 19 ⟨⟨i.val, by omega⟩, op, .setter i d⟩ (keyStep i.val op (atLane s i d))) := by
  rw [queueLocal, if_neg (by simp [hp.on.2]), if_neg (by simp [hp.port]), if_pos hk]
  exact congrArg Fate.going (enterLane_free (s := atLane s i d) hl _)

section
variable {s : State} {i : SetterId} {d : Reg} {op : HodOp} {r : QRes} {n : Option Nat} {f : Setter → Setter}

/-- An operation that R119 answers before any element's bytes are touched, at an ordinary queue's port or at the free lane: its setter takes
the answer as `f` says. -/
theorem queueLocal_plain (h : Ready s i) (hp : PortFree s i.val) (hl : (descOf s (opQueue op)).key = false ∨ LaneFree s)
    (hm : kvGet s.hod.derr (opQueue op).toNat = none)
    (hans : ∀ v, plainAnswer i.val op { s with setters := v } = some (r, n.elim { s with setters := v } (raise · { s with setters := v })))
    (hr : r ≠ .waits) (hf : ∀ u, queueOutcome i d op r u = queueDone i f u) (hrun : ∀ x, (f x).run = x.run) (ins : Instr) (w : Nat) :
    ∃ u, Counted s u ∧ (n = none → u = countBank (opQueue op) s) ∧ (∀ k, n = some k → k < 640 → pendBit u k = true) ∧
      finish i w (queueLocal i ins d op s) = ranFree u i (f (u.st i)).adv (queueCost u + w) := by
  have hwait := wait_of_issues h.issues
  have counted (u : State) : Counted u (countBank (opQueue op) (n.elim u (raise · u))) := by
    refine Counted.trans ?_ (countBank_counted _ _)
    cases n
    · exact .refl u
    · exact raise_counted _ u
  have pend (u : State) (k : Nat) (hk : n = some k) (hk' : k < 640) : pendBit (countBank (opQueue op) (n.elim u (raise · u))) k = true := by
    rw [hk]
    exact (countBank_counted _ _).pend k (raise_pend k u hk')
  have hrun' {u : State} (hu : Counted s u) : (u.st i).run = true :=
    (eq_of_quieted (hu.quieted (deaf_of_idle hwait)) Setter.run fun _ => rfl).trans h.run
  by_cases hk : (descOf s (opQueue op)).key = true
  · have hfree : LaneFree s := hl.resolve_left (by simp [hk])
    have hc := counted (atLane s i d)
    have hpend := pend (atLane s i d)
    have hstep := keyStep_plain (s := atLane s i d) hm (hans _)
    have hnone : n = none → countBank (opQueue op) (n.elim (atLane s i d) (raise · (atLane s i d))) =
        countBank (opQueue op) (atLane s i d) := by
      rintro rfl
      rfl
    change keyStep i.val op (atLane s i d) = (.inl r, countBank (opQueue op) (n.elim (atLane s i d) (raise · (atLane s i d)))) at hstep
    generalize countBank (opQueue op) (n.elim (atLane s i d) (raise · (atLane s i d))) = t at hc hpend hstep hnone
    have hcu := counted_fromLane hwait hc
    refine ⟨fromLane t i, hcu, fun hn => ?_, hpend, ?_⟩
    · rw [hnone hn, countBank_fromLane, fromLane_atLane hwait]
    · have hlane : (t.st i).wait = .lane d := by
        have hw := eq_of_quieted (hc.quieted (atLane_deaf d)) Setter.wait fun _ => rfl
        rw [hw, atLane, State.modS_st]
      have hdel : deliverLane ⟨⟨i.val, by omega⟩, op, .setter i d⟩ r t =
          ranFree (fromLane t i) i (f ((fromLane t i).st i)).adv (queueCost (fromLane t i)) := by
        simp only [deliverLane, hlane]
        exact (congrArg (finish i 0) (hf _)).trans (finish_queueDone hrun (hrun' hcu) 0)
      rw [queueLocal_lane hp hk hfree, hstep]
      refine Eq.trans (congrArg (fun u => finish i w (.going u)) ?_) (ranFree_going ..)
      exact (congrArg (runLane 19) hdel).trans (runLane_free (show LaneFree (ranFree (fromLane t i) i _ _) from hc.laneFree hfree) 19)
  · have hop := queueOp_plain hm (hans s.setters) hr
    change queueOp i.val op s = (r, countBank (opQueue op) (n.elim s (raise · s))) at hop
    refine ⟨_, counted s, ?_, pend s, ?_⟩
    · rintro rfl
      rfl
    · rw [queueLocal_ordinary hp (by simpa using hk) hop hr, hf]
      exact finish_queueDone hrun (hrun' (counted s)) w

end

/-! ### The operand (R118) -/

theorem queueName_remote (dev : BitVec 12) (q : QueueId) (kc : Bool) : queueName (remoteQueue dev q kc) = ⟨true, kc, 0, dev, q⟩ := by
  have hd := dev.isLt
  have hq : q.toNat < 65536 := q.isLt
  have hn : (remoteQueue dev q kc).toNat = 2 ^ 31 + kc.toNat * 2 ^ 30 + dev.toNat * 2 ^ 16 + q.toNat := by
    rw [remoteQueue, BitVec.toNat_ofNat, Nat.mod_eq_of_lt]
    have := kc.toNat_le
    omega
  have bit (k : Nat) : (remoteQueue dev q kc).getLsbD k = decide ((remoteQueue dev q kc).toNat / 2 ^ k % 2 = 1) := by
    rw [BitVec.getLsbD, Nat.testBit_eq_decide_div_mod_eq]
  unfold queueName
  rw [bit, bit, hn]
  refine QName.mk.injEq .. ▸ ⟨?_, ?_, ?_, ?_, ?_⟩
  · cases kc <;> simp <;> omega
  · cases kc <;> simp <;> omega
  · rw [← BitVec.toNat_inj, toNat_field, hn]
    cases kc <;> simp <;> omega
  · rw [← BitVec.toNat_inj, toNat_field, hn]
    cases kc <;> simp <;> omega
  · rw [← BitVec.toNat_inj, toNat_field, hn]
    cases kc <;> simp <;> omega

theorem queueName_local (q : QueueId) : queueName (localQueue q) = ⟨false, false, 0, 0, q⟩ := by
  have hq : q.toNat < 65536 := q.isLt
  have hn : (localQueue q).toNat = q.toNat := by
    rw [localQueue, BitVec.toNat_ofNat, Nat.mod_eq_of_lt]
    omega
  have bit (k : Nat) (hk : 16 ≤ k) : (localQueue q).getLsbD k = false := by
    rw [BitVec.getLsbD, hn, Nat.testBit_lt_two_pow]
    exact Nat.lt_of_lt_of_le q.isLt (Nat.pow_le_pow_right (n := 2) (by decide) hk)
  unfold queueName
  rw [bit 31 (by decide), bit 30 (by decide)]
  refine QName.mk.injEq .. ▸ ⟨rfl, rfl, ?_, ?_, ?_⟩
  · exact field_eq_zero (by rw [hn]; omega)
  · exact field_eq_zero (by rw [hn]; omega)
  · rw [← BitVec.toNat_inj, toNat_field, hn]
    omega

theorem eobOperand (eob : Bool) : (field (BitVec.ofNat 12 (eob.toNat * 2048)) 10 0 == 0) = true ∧
    (BitVec.ofNat 12 (eob.toNat * 2048)).getLsbD 11 = eob := by
  cases eob <;> decide

section
variable {s : State} {i : SetterId} {d a : Reg} {q : QueueId} (h : Ready s i)
include h

theorem put_local (ha : (s.st i).g.get a = localQueue q) (eob : Bool) :
    let lo := BitVec.ofNat 12 (eob.toNat * 2048)
    exec (.put i ⟨d, a, 0⟩ lo) s = .next (finish i (waits (s.st i) [a, d])
      (queueLocal i (.put i ⟨d, a, 0⟩ lo) d (.put q ((s.st i).g.get d) eob) s)) := by
  intro lo
  refine congrArg Host.Outcome.next ((issue_needZero (eobOperand eob).1).trans ((issue_ready h _ _).trans ?_))
  simp only [Setter.reg, ha, queueNameBad, queueName_local, lo, (eobOperand eob).2]
  rfl

theorem put_remote {dev : BitVec 12} {kc : Bool} (ha : (s.st i).g.get a = remoteQueue dev q kc) (hs : asleep .hod s = false) (eob : Bool) :
    let k := remotePut 0 ⟨true, kc, 0, dev, q⟩ ((s.st i).g.get d) eob s
    exec (.put i ⟨d, a, 0⟩ (BitVec.ofNat 12 (eob.toNat * 2048))) s =
      .next (finish i (waits (s.st i) [a, d]) (queueDone i (·.setC k.1) k.2)) := by
  intro k
  refine congrArg Host.Outcome.next ((issue_needZero (eobOperand eob).1).trans ((issue_ready h _ _).trans ?_))
  simp only [Setter.reg, ha, queueNameBad, queueName_remote, (eobOperand eob).2, hs]
  rfl

theorem queueRead_local (ha : (s.st i).g.get a = localQueue q) (ins : Instr) (op : QueueId → HodOp) :
    queueRead i ins ⟨d, a, 0⟩ 0 op s = finish i (waits (s.st i) [a]) (queueLocal i ins d (op q) s) := by
  refine (issue_needZero rfl).trans ((issue_ready h _ _).trans ?_)
  simp only [Setter.reg, ha, queueNameBad, queueName_local]
  rfl

end

end Sys2Proof.Proofs
end

section
/-! PROOFS. The outcomes of a setter's queue instructions, at a local queue and at another device's (R118 to R120): the statement
QueueInstructions. -/

namespace Sys2Proof.Proofs
open Sys2Proof Sys2Proof.Machine Sys2Proof.Claims

/-! ### What the setter shows -/

theorem ranFree_st (u : State) (i : SetterId) (x : Setter) (c : Nat) : (ranFree u i x c).st i =
    { x with scan := x.scan + c, ilReg := none, ilMac := false, skipBk := false, again := false, lutStall := none } := State.putS_st ..

section
variable {u : State} {i : SetterId} {x : Setter} (h : quieted (u.st i) = quieted x)
include h

/-- PUT's answer in C (R119). -/
theorem ranFree_setC (b : Bool) (c : Nat) : let t := ranFree u i ((u.st i).setC b).adv c
    (t.st i).pc = x.pc + 1 ∧ (t.st i).g = x.g ∧ (t.st i).flags = { x.flags with c := b } := by
  intro t
  rw [ranFree_st]
  exact ⟨congrArg (· + 1) (eq_of_quieted h Setter.pc fun _ => rfl), eq_of_quieted h Setter.g fun _ => rfl,
    congrArg (fun f : Flags => { f with c := b }) (eq_of_quieted h Setter.flags fun _ => rfl)⟩

/-- GET's answer in gd, TAG and Q (R119). -/
theorem ranFree_setElem (d : Reg) (v : Word) (tag : Byte) (c : Nat) : let t := ranFree u i ((u.st i).setElem d v tag).adv c
    (t.st i).pc = x.pc + 1 ∧ (t.st i).g = x.g.set d.val v d.isLt ∧ (t.st i).tag = tag ∧
      (t.st i).flags = { x.flags with q := tag.getLsbD 7 } := by
  intro t
  rw [ranFree_st]
  exact ⟨congrArg (· + 1) (eq_of_quieted h Setter.pc fun _ => rfl),
    congrArg (fun g : Vector Word 16 => g.set d.val v d.isLt) (eq_of_quieted h Setter.g fun _ => rfl), rfl,
    congrArg (fun f : Flags => { f with q := tag.getLsbD 7 }) (eq_of_quieted h Setter.flags fun _ => rfl)⟩

end

theorem queueCost_ge (s : State) : 8 ≤ queueCost s := Nat.le_add_right ..

theorem stall_st (i : SetterId) (u : State) : (stall i u).st i = { u.st i with scan := (u.st i).scan + Config.freeCost u.free } := by
  rw [stall, usedFree_st, State.modS_st]

theorem countBank_st (q : QueueId) (s : State) (i : SetterId) : (countBank q s).st i = s.st i := by
  unfold countBank
  split <;> rfl

theorem putRefusal_disabled {s : State} {m : Nat} {q : QueueId} (h : (descOf s q).en = false) :
    putRefusal m q s = some (.disabled, raise 442 s) := by
  simp [putRefusal, h]

theorem getRefusal_disabled {s : State} {m : Nat} {q : QueueId} (h : (descOf s q).en = false) :
    getRefusal m q s = some (.disabled, raise 442 s) := by
  simp [getRefusal, h]

theorem putRefusal_pack {s : State} {m : Nat} {q : QueueId} (ho : QueueOpen s q) (h : (descOf s q).pack = true) :
    putRefusal m q s = some (.packClass, s) := by
  simp [putRefusal, ho.enabled, ho.sound, h]

/-- A queue answers alike whatever the setters do. -/
theorem queueOpen_setters {s : State} {q : QueueId} (h : QueueOpen s q) (v : Vector Setter 16) : QueueOpen { s with setters := v } q :=
  ⟨h.on, h.enabled, h.sound, h.mark, h.lane⟩

/-- An element appended is there whatever changes beside the hod. -/
theorem appended_beside {s t u : State} {q : QueueId} {v : Word} {vb : Nat} {brk eob : Bool} (h : Appended s t q v vb brk eob)
    (hod : u.hod = t.hod) (store : u.store = t.store) (bays : u.bays = t.bays) (arb : u.arb = t.arb) : Appended s u q v vb brk eob := by
  unfold Appended descOf combGet at *
  rwa [hod, store, bays, arb]

theorem putRefusal_none {s : State} {m : Nat} {q : QueueId} (ho : QueueOpen s q) (hp : (descOf s q).pack = false)
    (hr : regionOk s m (descOf s q).base (descOf s q).ring false true = true) (hc : (descOf s q).count ≠ (descOf s q).cap) :
    putRefusal m q s = none := by
  simp [putRefusal, ho.enabled, ho.sound, hp, hr, hc]

/-- An operation that changes nothing but the count in its queue's bank. -/
theorem queueLocal_only {s : State} {i : SetterId} {d : Reg} {op : HodOp} {r : QRes} {f : Setter → Setter} (h : Ready s i)
    (hp : PortFree s i.val) (hl : (descOf s (opQueue op)).key = false ∨ LaneFree s) (hm : kvGet s.hod.derr (opQueue op).toNat = none)
    (hans : ∀ v, plainAnswer i.val op { s with setters := v } = some (r, { s with setters := v })) (hr : r ≠ .waits)
    (hf : ∀ u, queueOutcome i d op r u = queueDone i f u) (hrun : ∀ x, (f x).run = x.run) (ins : Instr) (w : Nat) :
    finish i w (queueLocal i ins d op s) =
      ranFree (countBank (opQueue op) s) i (f (s.st i)).adv (queueCost (countBank (opQueue op) s) + w) := by
  obtain ⟨u, -, hu, -, ht⟩ := queueLocal_plain (n := none) h hp hl hm hans hr hf hrun ins w
  rw [ht, hu rfl, countBank_st]

/-- An operation whose payload access the lane has to do: its setter waits at its PC (R221, R223). -/
theorem queueLocal_taken {s u : State} {i : SetterId} {d : Reg} {op : HodOp} {p : LanePay} (hp : PortFree s i.val)
    (hk : (descOf s (opQueue op)).key = true) (hl : LaneFree s) (hs : keyStep i.val op (atLane s i d) = (.inr p, u))
    (hu : Overheard i (atLane s i d) u) (ins : Instr) (w : Nat) : let t := finish i w (queueLocal i ins d op s)
    (t.st i).wait = .lane d ∧ (t.st i).pc = (s.st i).pc ∧ t.hod.lane.map Prod.snd = some p ∧ t.hod.desc = u.hod.desc := by
  intro t
  have ht : t = finish i w (.going { u with hod := { u.hod with lane := some (⟨⟨i.val, by omega⟩, op, .setter i d⟩, p) } }) := by
    refine (congrArg (finish i w) (queueLocal_lane hp hk hl ins d)).trans ?_
    rw [hs]
    rfl
  have hx : (atLane s i d).st i = { s.st i with wait := .lane d } := State.modS_st s i _
  have hq := hu.st (atLane_deaf d)
  rw [hx] at hq
  rw [finish_going] at ht
  refine ⟨?_, ?_, by rw [ht]; rfl, by rw [ht]; rfl⟩
  · rw [ht, State.modS_st]
    exact eq_of_quieted hq Setter.wait fun _ => rfl
  · rw [ht, State.modS_st]
    exact eq_of_quieted hq Setter.pc fun _ => rfl

/-! ### A queue of the device -/

section
variable {s : State} {i : SetterId} {d a : Reg} {q : QueueId} {eob : Bool} (h : Ready s i) (ha : (s.st i).g.get a = localQueue q)
  (hp : PortFree s i.val)
include h ha hp

/-- A PUT that is refused with C = 1 and raises source n. -/
theorem put_refused {r : QRes} {n : Nat} (hn : n < 640) (hl : (descOf s q).key = false ∨ LaneFree s)
    (hm : kvGet s.hod.derr q.toNat = none)
    (hans : ∀ v, putRefusal i.val q { s with setters := v } = some (r, raise n { s with setters := v })) (hr : r = .full ∨ r = .disabled) :
    ∃ t, exec (.put i ⟨d, a, 0⟩ (BitVec.ofNat 12 (eob.toNat * 2048))) s = .next t ∧ (t.st i).pc = (s.st i).pc + 1 ∧
        (t.st i).g = (s.st i).g ∧
      (t.st i).flags = { (s.st i).flags with c := true } ∧ descOf t q = descOf s q ∧ pendBit t n = true ∧ t.store = s.store := by
  let op : HodOp := .put q ((s.st i).g.get d) eob
  have hf (u : State) : queueOutcome i d op r u = queueDone i (·.setC true) u := by rcases hr with rfl | rfl <;> rfl
  obtain ⟨u, hu, -, hpend, ht⟩ := queueLocal_plain (op := op) (n := some n) (f := (·.setC true)) h hp hl hm hans
    (by rcases hr with rfl | rfl <;> decide) hf (fun _ => rfl) (.put i ⟨d, a, 0⟩ (BitVec.ofNat 12 (eob.toNat * 2048)))
    (waits (s.st i) [a, d])
  obtain ⟨hpc, hg, hfl⟩ := ranFree_setC (hu.quieted (deaf_of_idle (wait_of_issues h.issues))) true (queueCost u + waits (s.st i) [a, d])
  exact ⟨_, (put_local h ha eob).trans (congrArg Host.Outcome.next ht), hpc, hg, hfl, hu.descOf q, hpend n rfl hn, hu.store⟩

/-- A PUT that is accepted on an ordinary queue. -/
theorem put_accepted (hr : HasRoom s i.val q) :
    ∃ t, exec (.put i ⟨d, a, 0⟩ (BitVec.ofNat 12 (eob.toNat * 2048))) s = .next t ∧ (t.st i).pc = (s.st i).pc + 1 ∧
        (t.st i).g = (s.st i).g ∧
      (t.st i).flags = { (s.st i).flags with c := false } ∧ Appended s t q ((s.st i).g.get d) 0 false eob := by
  obtain ⟨u, hu, happ, hh⟩ := queueOp_append ((s.st i).g.get d) eob hr
  have hq := (hh i).st (deaf_of_idle (wait_of_issues h.issues))
  obtain ⟨hpc, hg, hfl⟩ := ranFree_setC hq false (queueCost u + waits (s.st i) [a, d])
  refine ⟨_, (put_local h ha eob).trans (congrArg Host.Outcome.next ?_), hpc, hg, hfl, appended_beside happ rfl rfl rfl rfl⟩
  rw [queueLocal_ordinary (op := .put q ((s.st i).g.get d) eob) hp hr.plain.2 hu (by decide)]
  exact finish_queueDone (f := (·.setC false)) (fun _ => rfl) ((eq_of_quieted hq Setter.run fun _ => rfl).trans h.run) _

/-- A PUT to a PACK queue traps (R119). -/
theorem put_pack (ho : QueueOpen s q) (hk : (descOf s q).key = false) (hpack : (descOf s q).pack = true) :
    let x := s.st i
    ∃ t, exec (.put i ⟨d, a, 0⟩ (BitVec.ofNat 12 (eob.toNat * 2048))) s = .next t ∧ descOf t q = descOf s q ∧ t.store = s.store ∧
      (t.st i).g = x.g ∧ (t.st i).flags = x.flags ∧
      (x.tm = false → (t.st i).tm = true ∧ (t.st i).causeVec = 3 ∧ (t.st i).causeSub = 2 ∧ (t.st i).epc = x.pc ∧ (t.st i).pc = 3 ∧
        (t.st i).eaddr = BitVec.ofNat 32 (0x10000000 + 8 * q.toNat)) ∧
      (x.tm = true → (t.st i).dbltrap = true ∧ (t.st i).run = false ∧ (t.st i).stopped = true ∧ (t.st i).pc = x.pc) := by
  intro x
  have hc := countBank_counted q s
  have hx : (countBank q s).st i = x := countBank_st ..
  generalize hv : State.modS (stall i (countBank q s)) i (fun x => { x with scan := x.scan + waits (s.st i) [a, d] }) = v
  obtain ⟨k, hvi⟩ : ∃ k, v.st i = { x with scan := k } := by
    rw [← hv, State.modS_st, stall_st, hx]
    exact ⟨_, rfl⟩
  have hvc : v.hod = (countBank q s).hod ∧ v.store = (countBank q s).store := by
    rw [← hv]
    exact ⟨rfl, rfl⟩
  have hd : Deaf (v.st i) := by
    rw [hvi]
    exact deaf_of_idle (wait_of_issues h.issues)
  have hr := syncTrap_raised i 3 2 (queueAddr q) v
  refine ⟨syncTrap i 3 2 (queueAddr q) v, (put_local h ha eob).trans (congrArg Host.Outcome.next ?_), ?_, ?_, ?_⟩
  · rw [queueLocal_ordinary (op := .put q ((s.st i).g.get d) eob) hp hk (queueOp_put ho.mark (by rw [queuePut,
      putRefusal_pack ho hpack]) (by decide)) (by decide), ← hv]
    exact finish_trap ..
  · rw [descOf, hr.hod, hvc.1, hc.desc]
    rfl
  · rw [hr.store, hvc.2, hc.store]
  · cases ht : x.tm
    · have hy := syncTrap_taken hd (by rw [hvi]; exact ht) 3 2 (queueAddr q)
      rw [hvi] at hy
      exact ⟨eq_of_quieted hy Setter.g fun _ => rfl, eq_of_quieted hy Setter.flags fun _ => rfl, fun _ =>
        ⟨eq_of_quieted hy Setter.tm fun _ => rfl, eq_of_quieted hy Setter.causeVec fun _ => rfl,
            eq_of_quieted hy Setter.causeSub fun _ => rfl,
          eq_of_quieted hy Setter.epc fun _ => rfl, eq_of_quieted hy Setter.pc fun _ => rfl, eq_of_quieted hy Setter.eaddr fun _ => rfl⟩,
        nofun⟩
    · have hy := syncTrap_double hd (by rw [hvi]; exact ht) 3 2 (queueAddr q)
      rw [hvi] at hy
      exact ⟨eq_of_quieted hy Setter.g fun _ => rfl, eq_of_quieted hy Setter.flags fun _ => rfl, nofun, fun _ =>
        ⟨eq_of_quieted hy Setter.dbltrap fun _ => rfl, eq_of_quieted hy Setter.run fun _ => rfl,
            eq_of_quieted hy Setter.stopped fun _ => rfl,
          eq_of_quieted hy Setter.pc fun _ => rfl⟩⟩

/-- A GET or PEEK that finds nothing. -/
theorem read_empty (ho : QueueOpen s q) (hr : regionOk s i.val (descOf s q).base (descOf s q).ring true false = true)
    (hc : (descOf s q).count = 0) (ins : Instr) {op : QueueId → HodOp} (hop : op = .get ∨ op = .peek) :
    queueRead i ins ⟨d, a, 0⟩ 0 op s = ranFree (countBank q s) i ((s.st i).setElem d 0 0).adv
      (queueCost (countBank q s) + waits (s.st i) [a]) := by
  rw [queueRead_local h ha]
  have hans (v : Vector Setter 16) := getRefusal_empty (m := i.val) (s := { s with setters := v }) (queueOpen_setters ho v) hr hc
  rcases hop with rfl | rfl
  · exact queueLocal_only (op := .get q) (f := (·.setElem d 0 0)) (r :=
      .empty) h hp ho.lane ho.mark hans (by decide) (fun _ => rfl) (fun _ => rfl) ..
  · exact queueLocal_only (op := .peek q) (f := (·.setElem d 0 0)) (r :=
      .empty) h hp ho.lane ho.mark hans (by decide) (fun _ => rfl) (fun _ => rfl) ..

/-- QST (R118). -/
theorem read_status (hm : kvGet s.hod.derr q.toNat = none) (hl : (descOf s q).key = false ∨ LaneFree s) (ins : Instr) :
    queueRead i ins ⟨d, a, 0⟩ 0 .qst s = ranFree (countBank q s) i ((s.st i).setStatus d (statusWord s q)).adv
      (queueCost (countBank q s) + waits (s.st i) [a]) := by
  rw [queueRead_local h ha]
  exact queueLocal_only (op := .qst q) (f := (·.setStatus d (statusWord s q))) (r :=
      .status (statusWord s q)) h hp hl hm (fun _ => rfl) (by simp)
    (fun _ => rfl) (fun _ => rfl) ..

/-- A GET of a disabled queue. -/
theorem get_disabled (he : (descOf s q).en = false) (hk : (descOf s q).key = false) (hm : kvGet s.hod.derr q.toNat = none) :
    ∃ t, exec (.get i ⟨d, a, 0⟩ 0) s = .next t ∧ (t.st i).pc = (s.st i).pc + 1 ∧ (t.st i).g = (s.st i).g.set d.val 0 d.isLt ∧
      (t.st i).tag = 0 ∧ (t.st i).flags = { (s.st i).flags with q := false } ∧ descOf t q = descOf s q ∧ pendBit t 442 = true := by
  obtain ⟨u, hu, -, hpend, ht⟩ := queueLocal_plain (op := .get q) (n := some 442) (f := (·.setElem d 0 0)) (r :=
      .disabled) h hp (.inl hk) hm
    (fun v => getRefusal_disabled he) (by decide) (fun _ => rfl) (fun _ => rfl) (.get i ⟨d, a, 0⟩ 0) (waits (s.st i) [a])
  obtain ⟨hpc, hg, htag, hfl⟩ := ranFree_setElem (hu.quieted (deaf_of_idle (wait_of_issues h.issues))) d 0 0 (queueCost u + waits (s.st i)
      [a])
  exact ⟨_, congrArg Host.Outcome.next ((queueRead_local h ha _ .get).trans ht), hpc, hg, htag, hfl, hu.descOf q, hpend 442 rfl (by decide)⟩

/-- A GET or PEEK whose element is in the buffer. -/
theorem read_elem (ho : QueueOpen s q) (hk : (descOf s q).key = false)
    (hr : regionOk s i.val (descOf s q).base (descOf s q).ring true false = true) (hc : (descOf s q).count ≠ 0) {l : List Byte}
    (hl : combGet s ((descOf s q).elem (descOf s q).head) = some l) (ins : Instr) {op : QueueId → HodOp} {u : State}
    (hop : op = .get ∧ u = countBank q (dropHead q s) ∨ op = .peek ∧ u = countBank q s) :
    queueRead i ins ⟨d, a, 0⟩ 0 op s =
      ranFree u i ((u.st i).setElem d (BitVec.ofNat 32 (leNat (l.take 4))) (l.getD 4 0)).adv (queueCost u + waits (s.st i) [a]) := by
  have hn := getRefusal_none (m := i.val) ho hr hc
  have hd := deaf_of_idle (wait_of_issues h.issues)
  have done (hu : quieted (u.st i) = quieted (s.st i)) (hq : queueLocal i ins d (op q) s = queueOutcome i d (op q) (elemOf l) u) :
      queueRead i ins ⟨d, a, 0⟩ 0 op s =
        ranFree u i ((u.st i).setElem d (BitVec.ofNat 32 (leNat (l.take 4))) (l.getD 4 0)).adv (queueCost u + waits (s.st i) [a]) := by
    rw [queueRead_local h ha, hq]
    exact finish_queueDone (f := (·.setElem d (BitVec.ofNat 32 (leNat (l.take 4))) (l.getD 4 0))) (fun _ => rfl)
      ((eq_of_quieted hu Setter.run fun _ => rfl).trans h.run) _
  rcases hop with ⟨rfl, rfl⟩ | ⟨rfl, rfl⟩
  · have hget : queueOp i.val (.get q) s = (elemOf l, countBank q (dropHead q s)) :=
      queueOp_get ho.mark (queueGet_elem true hn hl) (by simp [elemOf])
    refine done ?_ (queueLocal_ordinary (op := .get q) hp hk hget (by simp [elemOf]) ..)
    have hq := ((dropHead_spec q s).trans (countBank_counted q _)).quieted (i := i) hd
    exact hq
  · have hpeek : queueOp i.val (.peek q) s = (elemOf l, countBank q s) :=
      queueOp_peek ho.mark (queueGet_elem false hn hl) (by simp [elemOf])
    exact done ((countBank_counted q s).quieted hd) (queueLocal_ordinary (op := .peek q) hp hk hpeek (by simp [elemOf]) ..)

/-- A GET that leaves its element's read to the lane (R221, R223). -/
theorem get_key (ho : QueueOpen s q) (hk : (descOf s q).key = true) (hc : (descOf s q).count ≠ 0)
    (hr : regionOk s i.val (descOf s q).base (descOf s q).ring true false = true) :
    ∃ t, exec (.get i ⟨d, a, 0⟩ 0) s = .next t ∧ (t.st i).wait = .lane d ∧ (t.st i).pc = (s.st i).pc ∧ descOf t q = (descOf s q).popped ∧
      t.hod.lane.map Prod.snd = some (.read ((descOf s q).elem (descOf s q).head)) := by
  have hn := getRefusal_none (m := i.val) (s := atLane s i d) (queueOpen_setters ho _) hr hc
  have hstep : keyStep i.val (.get q) (atLane s i d) =
      (.inr (.read ((descOf s q).elem (descOf s q).head)), countBank q (dropHead q (atLane s i d))) := by
    simp only [keyStep, keyRead, readDesc_unmarked (s := atLane s i d) ho.mark, hn]
    rfl
  have hdrop := dropHead_spec q (atLane s i d)
  have hbank := countBank_counted q (dropHead q (atLane s i d))
  have hheard : Overheard i (atLane s i d) (countBank q (dropHead q (atLane s i d))) :=
    Overheard.trans ⟨(hdrop.heard i).own, (hdrop.heard i).st⟩ (hbank.heard i)
  obtain ⟨hwait, hpc, hlane, hdesc⟩ := queueLocal_taken (op := .get q) hp hk (ho.lane.resolve_left (by simp [hk])) hstep hheard
    (.get i ⟨d, a, 0⟩ 0) (waits (s.st i) [a])
  refine ⟨_, congrArg Host.Outcome.next (queueRead_local h ha _ .get), hwait, hpc, ?_, hlane⟩
  rw [descOf, hdesc]
  exact (hbank.descOf q).trans ((dropHead_desc q q _).trans (if_pos rfl))

/-- A PUT that leaves its element's write to the lane (R221, R223). -/
theorem put_key (ho : QueueOpen s q) (hk : (descOf s q).key = true) (hpack : (descOf s q).pack = false)
    (hc : (descOf s q).count ≠ (descOf s q).cap) (hr : regionOk s i.val (descOf s q).base (descOf s q).ring false true = true) :
    let e := descOf s q
    ∃ t, exec (.put i ⟨d, a, 0⟩ (BitVec.ofNat 12 (eob.toNat * 2048))) s = .next t ∧ (t.st i).wait = .lane d ∧ (t.st i).pc = (s.st i).pc ∧
      descOf t q = e ∧
      t.hod.lane.map Prod.snd = some (.write (e.elem e.tail) (elemBytes ((s.st i).g.get d) (tagByte 0 false eob e.seq)) e.tail) := by
  intro e
  have hn := putRefusal_none (m := i.val) (s := atLane s i d) (queueOpen_setters ho _) hpack hr hc
  have hstep : keyStep i.val (.put q ((s.st i).g.get d) eob) (atLane s i d) =
      (.inr (.write (e.elem e.tail) (elemBytes ((s.st i).g.get d) (tagByte 0 false eob e.seq)) e.tail), countBank q (atLane s i d)) := by
    simp only [keyStep, readDesc_unmarked (s := atLane s i d) ho.mark, hn]
    rfl
  have hbank := countBank_counted q (atLane s i d)
  obtain ⟨hwait, hpc, hlane, hdesc⟩ := queueLocal_taken (op := .put q ((s.st i).g.get d) eob) hp hk (ho.lane.resolve_left (by simp [hk]))
      hstep
    (hbank.heard i) (.put i ⟨d, a, 0⟩ (BitVec.ofNat 12 (eob.toNat * 2048))) (waits (s.st i) [a, d])
  refine ⟨_, put_local h ha eob, hwait, hpc, ?_, hlane⟩
  rw [descOf, hdesc]
  exact hbank.descOf q

end

/-! ### A queue of another device (R120) -/

section
variable {s u : State} {i : SetterId} {d a : Reg} {q : QueueId} {eob kc b : Bool} {dev : BitVec 12} (h : Ready s i)
  (ha : (s.st i).g.get a = remoteQueue dev q kc) (hs : asleep .hod s = false)
include h ha hs

/-- A remote PUT that raises nothing. -/
theorem put_remote_done (hk : remotePut 0 ⟨true, kc, 0, dev, q⟩ ((s.st i).g.get d) eob s = (b, u)) (hu : u.st i = s.st i) :
    ∃ n, 8 ≤ n ∧ exec (.put i ⟨d, a, 0⟩ (BitVec.ofNat 12 (eob.toNat * 2048))) s =
      .next (ranFree u i { s.st i with pc := (s.st i).pc + 1, flags := { (s.st i).flags with c := b } } n) := by
  refine ⟨queueCost u + waits (s.st i) [a, d], (queueCost_ge u).trans (Nat.le_add_right ..), (put_remote h ha hs eob).trans ?_⟩
  rw [hk, finish_queueDone (f := (·.setC b)) (fun _ => rfl) (by rw [hu]; exact h.run), hu]
  rfl

/-- A remote PUT that raises source n. -/
theorem put_remote_raised {n : Nat} (hn : n < 640) {v : State}
    (hk : remotePut 0 ⟨true, kc, 0, dev, q⟩ ((s.st i).g.get d) eob s = (b, raise n v)) (hv : v.st i = s.st i) :
    ∃ t, exec (.put i ⟨d, a, 0⟩ (BitVec.ofNat 12 (eob.toNat * 2048))) s = .next t ∧ (t.st i).pc = (s.st i).pc + 1 ∧
        (t.st i).g = (s.st i).g ∧
      (t.st i).flags = { (s.st i).flags with c := b } ∧ pendBit t n = true ∧ t.irs.own.get 0 = v.irs.own.get 0 ∧
      t.irs.ownKey = v.irs.ownKey ∧ t.store = v.store ∧ t.hod = v.hod := by
  have hd : Deaf (v.st i) := by
    rw [hv]
    exact deaf_of_idle (wait_of_issues h.issues)
  have hh := raise_overheard i n v
  have hr := raise_raised n v
  have hpend := raise_pend n v hn
  generalize raise n v = u at hk hh hr hpend
  have hq := hh.st hd
  rw [hv] at hq
  obtain ⟨hpc, hg, hfl⟩ := ranFree_setC hq b (queueCost u + waits (s.st i) [a, d])
  refine ⟨_, (put_remote h ha hs eob).trans (congrArg Host.Outcome.next ?_), hpc, hg, hfl, hpend, hh.own 0 (by decide), ?_, hr.store,
      hr.hod⟩
  · rw [hk, finish_queueDone (f := (·.setC b)) (fun _ => rfl) ((eq_of_quieted hq Setter.run fun _ => rfl).trans h.run)]
  · exact (show u.irs.ownKey = v.irs.ownKey by rw [hr.eq])

end

theorem sendOwn_full {k : Fin 4} {s : State} (c : Cell) (h : Config.txRoom k.val < (s.irs.own.get k).length) : sendOwn k c s = none :=
  if_pos h

theorem sendKey_full {s : State} (c : Cell) (h : Config.txRoom 4 < s.irs.ownKey.length) : sendKey c s = none := if_pos h

theorem sendKey_room {s : State} (c : Cell) (h : s.irs.ownKey.length ≤ Config.txRoom 4) :
    sendKey c s = some (raiseIf (s.irs.keyHold || !s.irs.ownKey.isEmpty) 488
      { s with irs := { s.irs with ownKey := s.irs.ownKey ++ [c], sent := (s.irs.remember c).sent } }) := by
  rw [sendKey, if_neg (by omega), remember_sent]

theorem remotePut_noKey {s : State} (n : QName) (v : Word) (eob : Bool) (hn : n.kc = true) (hk : s.irs.ken = false ∨ s.irs.kenref = true) :
    remotePut 0 n v eob s = (true, s) := by
  rw [remotePut, if_pos hn, if_pos (by simpa using hk)]

theorem remotePut_key {s : State} (n : QName) (v : Word) (eob : Bool) (hn : n.kc = true) (hk : s.irs.ken = true) (hf : s.irs.kenref =
    false) :
    remotePut 0 n v eob s = ((sendKey (mkCell s 1 0 n.dev (qputPayload n.queue v eob)) s).elim (true, raise 441 s) ((false, ·))) := by
  rw [remotePut, if_pos hn, if_neg (by simp [hk, hf])]
  cases sendKey (mkCell s 1 0 n.dev (qputPayload n.queue v eob)) s <;> rfl

theorem remotePut_plain {s : State} (n : QName) (v : Word) (eob : Bool) (hn : n.kc = false) :
    remotePut 0 n v eob s = ((sendOwn 0 (mkCell s 1 2 n.dev (qputPayload n.queue v eob)) s).elim (true, raise 441 s) ((false, ·))) := by
  rw [remotePut, if_neg (by simp [hn])]
  cases sendOwn 0 (mkCell s 1 2 n.dev (qputPayload n.queue v eob)) s <;> rfl

/-- Settles O18: a local operation by its outcome at the queue, through the lane on a KEY queue; a remote PUT by what its buffer does. -/
theorem queueInstructions : Obligations.QueueInstructions := by
  unfold Obligations.QueueInstructions
  refine ⟨fun s i d a q eob h ha hp => ?local_, fun s i d a q dev kc eob h ha hs => ?remote⟩
  case local_ =>
    intro x e lo
    refine ⟨fun ho hpack hk hr hc hb => ?accepted, fun ho hpack hr hc => ?full, fun he hk hm => ⟨?putOff, ?getOff⟩, fun ho hr hc => ?empty,
      fun ho hk hc hr => ?keyGet, fun ho hk hpack hc hr => ?keyPut, fun ho hk hr hc l hl => ?elem, fun hm hl => ?status,
          fun ho hpack hk => ?pack⟩
    case accepted =>
      obtain ⟨t, ht, hpc, hg, hfl, hdesc, -, hget, hst, hbay, -⟩ := put_accepted (d := d) (eob := eob) h ha hp ⟨ho, ⟨hpack, hk⟩, hr, hc, hb⟩
      exact ⟨t, ht, hpc, hg, hfl, hdesc, hget, hst, hbay⟩
    case full =>
      exact put_refused h ha hp (by decide) ho.lane ho.mark
        (fun v => putRefusal_full (s := { s with setters := v }) (queueOpen_setters ho v) hpack hr hc) (.inl rfl)
    case putOff =>
      exact put_refused h ha hp (by decide) (.inl hk) hm (fun v => putRefusal_disabled (s := { s with setters := v }) he) (.inr rfl)
    case getOff => exact get_disabled h ha hp he hk hm
    case empty =>
      exact ⟨_, (queueCost_ge _).trans (Nat.le_add_right ..), congrArg Host.Outcome.next (read_empty h ha hp ho hr hc _ (.inl rfl)),
        congrArg Host.Outcome.next (read_empty h ha hp ho hr hc _ (.inr rfl))⟩
    case keyGet => exact get_key h ha hp ho hk hc hr
    case keyPut => exact put_key h ha hp ho hk hpack hc hr
    case elem =>
      intro v tag
      have hget := read_elem h ha hp (d := d) ho hk hr hc hl (.get i ⟨d, a, 0⟩ 0) (.inl ⟨rfl, rfl⟩)
      have hpeek := read_elem h ha hp (d := d) ho hk hr hc hl (.peek i ⟨d, a, 0⟩ 0) (.inr ⟨rfl, rfl⟩)
      have hdrop := dropHead_spec q s
      have hbank := countBank_counted q (dropHead q s)
      have hq := (hdrop.trans hbank).quieted (i := i) (deaf_of_idle (wait_of_issues h.issues))
      obtain ⟨hpc, hg, htag, hfl⟩ := ranFree_setElem (x := x) hq d v tag
        (queueCost (countBank q (dropHead q s)) + waits (s.st i) [a])
      refine ⟨⟨_, congrArg Host.Outcome.next hget, hpc, hg, htag, hfl, ?_, ?_⟩, ⟨queueCost (countBank q s) + waits x [a],
          (queueCost_ge _).trans (Nat.le_add_right ..), ?_⟩⟩
      · exact (hbank.descOf q).trans ((dropHead_desc q q s).trans (if_pos rfl))
      · exact hbank.store.trans hdrop.store
      · rw [countBank_st] at hpeek
        exact congrArg Host.Outcome.next hpeek
    case status =>
      intro w
      refine ⟨_, (queueCost_ge (countBank q s)).trans (Nat.le_add_right _ (waits x [a])), ?_⟩
      refine (congrArg Host.Outcome.next (read_status h ha hp hm hl _)).trans ?_
      have hz : (field w 16 0 == 0) = decide ((field w 16 0).toNat = 0) := by
        rw [Bool.beq_eq_decide_eq]
        exact decide_eq_decide.mpr (BitVec.toNat_inj (y := 0)).symm
      have hx : (x.setStatus d w).adv = wrote x d w { x.flags with z := decide ((field w 16 0).toNat = 0), n := w.getLsbD 31 } := by
        rw [Setter.setStatus, hz, BitVec.msb_eq_getLsbD_last]
        rfl
      rw [← hx]
    case pack => exact put_pack h ha hp ho hk hpack
  case remote =>
    intro x c put refused
    have refusedBy (hk : remotePut 0 ⟨true, kc, 0, dev, q⟩ (x.g.get d) eob s = (true, raise 441 s)) : refused :=
      put_remote_raised h ha hs (by decide) hk rfl
    refine ⟨fun hkc => ⟨fun hroom => ?sent, fun hfull => ?full⟩, fun hkc => ⟨fun hoff => ?noKey,
        fun hken href hroom => ⟨fun hhold hnone => ?keySent,
      fun hheld => ?keyHeld⟩, fun hken href hfull => ?keyFull⟩⟩
    case sent =>
      subst hkc
      obtain ⟨n, hn, ht⟩ := put_remote_done h ha hs ((remotePut_plain _ _ _ rfl).trans (congrArg (Option.elim · _ _) (sendOwn_room _
          hroom))) rfl
      exact ⟨n, _, hn, ht⟩
    case full =>
      exact refusedBy ((remotePut_plain _ _ _ hkc).trans (congrArg (Option.elim · _ _) (sendOwn_full _ hfull)))
    case noKey =>
      subst hkc
      exact put_remote_done h ha hs (remotePut_noKey _ _ _ rfl hoff) rfl
    case keySent =>
      subst hkc
      have hsent := sendKey_room c hroom
      rw [hhold, hnone] at hsent
      obtain ⟨n, hn, ht⟩ := put_remote_done h ha hs ((remotePut_key _ _ _ rfl hken href).trans (congrArg (Option.elim · _ _) hsent)) rfl
      exact ⟨n, _, hn, ht⟩
    case keyHeld =>
      subst hkc
      have hsent := sendKey_room c hroom
      rw [show (s.irs.keyHold || !s.irs.ownKey.isEmpty) = true by simpa using hheld] at hsent
      obtain ⟨t, ht, hpc, hg, hfl, hpend, -, hown, -⟩ := put_remote_raised h ha hs (by decide)
        ((remotePut_key _ _ _ rfl hken href).trans (congrArg (Option.elim · _ _) hsent)) rfl
      exact ⟨t, ht, hpc, hg, hfl, hpend, hown⟩
    case keyFull =>
      exact refusedBy ((remotePut_key _ _ _ hkc hken href).trans (congrArg (Option.elim · _ _) (sendKey_full _ hfull)))

end Sys2Proof.Proofs
end

section
/-! PROOFS. A setter's access to the central store that nothing keeps from it: its wait, its bytes, its registers (R114 to R117, R183, R184,
R198, R200): the statement StoreInstructions. -/

namespace Sys2Proof.Proofs
open Sys2Proof Sys2Proof.Machine Sys2Proof.Claims

/-! ### The wait -/

theorem waitmax_eq {c : Nat} (hc : c ≤ 65535) : (fun x : BitVec 16 => if x.toNat < (BitVec.ofNat 16 c).toNat then BitVec.ofNat 16 c else
    x) =
    fun x => BitVec.ofNat 16 (max x.toNat c) := by
  funext x
  rw [BitVec.toNat_ofNat, Nat.mod_eq_of_lt (by omega)]
  split
  · rw [Nat.max_eq_right (by omega)]
  · rw [Nat.max_eq_left (by omega), BitVec.ofNat_toNat, BitVec.setWidth_eq]

/-- Master m's counters after w more store cycles (R200). -/
def waited (s : State) (m w : Nat) : State :=
  let c := min 65535 (((nth s.arb.waitc m).getD 0).toNat + w)
  { s with arb := { s.arb with
    waitc := nthUpd s.arb.waitc m (fun _ => BitVec.ofNat 16 c)
    waitmax := nthUpd s.arb.waitmax m (fun x => BitVec.ofNat 16 (max x.toNat c)) } }

theorem addWait_eq (s : State) (m w : Nat) : addWait m w s = waited s m w := by
  unfold addWait waited
  simp only [waitmax_eq (Nat.min_le_left 65535 _)]

/-- The data cycle of a master, its wait over (R196, R200). -/
def dataCycle (m : Nat) (u : State) : State := { u with free := u.free + 1, arb := { u.arb with
  waitc := nthUpd u.arb.waitc m (fun _ => 0), starved := setBit u.arb.starved m false, lastGr := some m } }

/-- The wait of master m meets its limit, and STARVE is not yet reported (R200). -/
def Starves (s : State) (m w : Nat) : Prop :=
  max 64 (field ((nth s.arb.mctl m).getD 0) 15 0).toNat ≤ min 65535 (((nth s.arb.waitc m).getD 0).toNat + w) ∧
      s.arb.starved.getLsbD m = false

theorem served_starved {s : State} {m w : Nat} (h : Starves s m w) : served s m w = dataCycle m (reportStarve m (waited s m w)) :=
  congrArg (dataCycle m) (if_pos h)

theorem served_quiet {s : State} {m w : Nat} (h : ¬Starves s m w) : served s m w = dataCycle m (waited s m w) :=
  congrArg (dataCycle m) (if_neg h)

/-- The wait of a master whose data cycle comes (R200). -/
theorem passWait_served (s : State) {m : Nat} (hm : m < 32) (w : Nat) :
    { passWait m w s with free := (passWait m w s).free + 1, arb := { (passWait m w s).arb with lastGr := some m } } = served s m w := by
  have hc : ((nth (waited s m w).arb.waitc m).getD 0).toNat = min 65535 (((nth s.arb.waitc m).getD 0).toNat + w) := by
    rw [waited, nth_put _ hm, Option.getD_some, BitVec.toNat_ofNat, Nat.mod_eq_of_lt (by omega)]
  have hcond : (starveLimit (waited s m w) m ≤ ((nth (waited s m w).arb.waitc m).getD 0).toNat ∧
      (!(waited s m w).arb.starved.getLsbD m) = true) ↔ Starves s m w := by
    rw [hc, Bool.not_eq_true']
    rfl
  simp only [passWait, addWait_eq]
  by_cases h : Starves s m w
  · rw [if_pos (hcond.mpr h), served_starved h]
    rfl
  · rw [if_neg (mt hcond.mp h), served_quiet h]
    rfl

/-- The state of the store's other parts and of the setters as a master's wait finds it. -/
structure SameAccess (s v : State) : Prop where
  ctl : v.arb.mctl = s.arb.mctl
  locks : v.arb.locks = s.arb.locks
  regions : v.arb.regEff = s.arb.regEff
  store : v.store = s.store

/-- A wait and its data cycle change the counters of waits, and then what a raise changes. -/
theorem served_raised (s : State) (m w : Nat) : ∃ v, SameAccess s v ∧ v.setters = s.setters ∧ v.pwr = s.pwr ∧
    (served s m w = dataCycle m v ∨ served s m w = dataCycle m (raise (448 + m) v)) := by
  by_cases h : Starves s m w
  · exact ⟨{ waited s m w with arb := { (waited s m w).arb with
      starved := setBit (waited s m w).arb.starved m true, mcause := nthUpd (waited s m w).arb.mcause m (· ||| 2) } },
      ⟨rfl, rfl, rfl, rfl⟩, rfl, rfl, .inr (served_starved h)⟩
  · exact ⟨waited s m w, ⟨rfl, rfl, rfl, rfl⟩, rfl, rfl, .inl (served_quiet h)⟩

theorem served_access (s : State) (m w : Nat) : SameAccess s (served s m w) := by
  obtain ⟨v, ⟨hc, hl, hr, hst⟩, -, -, h | h⟩ := served_raised s m w
  · rw [h]
    exact ⟨hc, hl, hr, hst⟩
  · rw [h]
    have ha := raise_arb (448 + m) v
    exact ⟨(congrArg Arb.mctl ha).trans hc, (congrArg Arb.locks ha).trans hl, (congrArg Arb.regEff ha).trans hr,
        (raise_store _ v).trans hst⟩

theorem served_st {s : State} {i : SetterId} (h : Deaf (s.st i)) (m w : Nat) : quieted ((served s m w).st i) = quieted (s.st i) := by
  obtain ⟨v, -, hv, -, hs⟩ := served_raised s m w
  have hvi : v.st i = s.st i := congrArg (fun l : Vector Setter 16 => l.get i) hv
  rw [← hvi] at h ⊢
  rcases hs with hs | hs <;> rw [hs]
  · rfl
  · exact raise_quieted h (448 + m)

theorem served_asleep (s : State) (m w : Nat) : asleep .store (served s m w) = asleep .store s := by
  obtain ⟨v, ha, -, hp, hs⟩ := served_raised s m w
  have hv : asleep .store v = asleep .store s := by
    simp only [asleep, shut, off, stopping, hp, ha.store]
  rcases hs with hs | hs <;> rw [hs, ← hv]
  · rfl
  · show asleep .store (raise (448 + m) v) = _
    simp only [asleep, shut, off, stopping, raise_store, raise_pwr_inflight, raise_pwr_waking, raise_pwr_target, raise_pwr_reached]

/-! ### The access -/

theorem SameAccess.regionOk {s v : State} (h : SameAccess s v) (m a n : Nat) (rd wr : Bool) : regionOk v m a n rd wr =
    regionOk s m a n rd wr := by
  unfold Machine.regionOk regionHas
  rw [h.regions]

/-- An access that nothing keeps from the store still meets nothing after a data cycle. -/
theorem storeOpen_served {s : State} {m ea n : Nat} {rd wr : Bool} (h : StoreOpen s m ea n rd wr) (w : Nat) :
    StoreOpen (served s m w) m ea n rd wr := by
  have ha := served_access s m w
  refine ⟨h.inside, h.aligned, (ha.regionOk ..).trans h.region, ?_, ?_, ?_, (served_asleep s m w).trans h.awake, ?_⟩
  · rw [ha.store]; exact h.on
  · rw [fenced, ha.ctl]; exact h.fence
  · rw [ha.locks]; exact h.lock
  · rw [ha.store]
    have hb (k : Nat) : halfBad (served s m w) k = halfBad s k := by simp only [halfBad, halfUnwritten, ha.store]
    simpa only [hb] using h.ecc

theorem regionOk_mono {s : State} {m a n : Nat} {rd wr rd' wr' : Bool} (h : Machine.regionOk s m a n rd wr = true) (hr : rd' = true →
    rd = true)
    (hw : wr' = true → wr = true) : Machine.regionOk s m a n rd' wr' = true := by
  unfold Machine.regionOk at *
  rw [List.all_eq_true] at *
  intro k hk
  obtain ⟨r, hr8, hreg⟩ := List.any_eq_true.mp (h k hk)
  refine List.any_eq_true.mpr ⟨r, hr8, ?_⟩
  unfold regionHas at *
  split at hreg
  · simp only [Bool.and_eq_true, Bool.or_eq_true, Bool.not_eq_true'] at hreg ⊢
    obtain ⟨⟨⟨⟨h0, h1⟩, h2⟩, h3⟩, h4⟩ := hreg
    refine ⟨⟨⟨⟨h0, ?_⟩, ?_⟩, h3⟩, h4⟩
    · cases hrd : rd'
      · exact .inl rfl
      · exact .inr (h1.resolve_left (by simp [hr hrd]))
    · cases hwr : wr'
      · exact .inl rfl
      · exact .inr (h2.resolve_left (by simp [hw hwr]))
  · cases hreg

theorem storeOpen_mono {s : State} {m ea n : Nat} {rd wr rd' wr' : Bool} (h : StoreOpen s m ea n rd wr) (hr : rd' = true → rd = true)
    (hw : wr' = true → wr = true) : StoreOpen s m ea n rd' wr' :=
  ⟨h.inside, h.aligned, regionOk_mono h.region hr hw, h.on, h.fence, h.lock, h.awake, h.ecc⟩

theorem storeDoor_open {s : State} {m ea n : Nat} {rd wr : Bool} (h : StoreOpen s m ea n rd wr) : storeDoor m ea n rd wr s = none := by
  have hshut : shut .store s = false := (Bool.or_eq_false_iff.mp h.awake).1
  have hin : ¬storeEnd < ea + n := Nat.not_lt.mpr h.inside
  rw [storeDoor, if_neg hin, if_neg (by simp [h.on.2.2]), if_neg (by simp [h.fence]), if_neg (by simp [h.region]), if_neg (by simp [hshut])]

theorem lockBy_open {s : State} {m ea n : Nat} {rd wr : Bool} (h : StoreOpen s m ea n rd wr) : lockBy s m (beatOf ea) = none := by
  refine List.find?_eq_none.mpr fun l hl => ?_
  simp only [Bool.and_eq_true, beq_iff_eq, bne_iff_ne, ne_eq, not_and, not_not, beatOf]
  intro hb
  exact h.lock l hl (by omega)

/-- An access that nothing keeps from the store is its wait and its data (R114, R184). -/
theorem storeAccess_open {s : State} {m ea n : Nat} {wr : Option (List Byte)} (hm : m < 32) (h : StoreOpen s m ea n wr.isNone wr.isSome)
    (key : Bool) :
    storeAccess m ea n wr key s = storeBeat m ea n wr (served s m (storeWait s)) := by
  rw [storeAccess, storeDoor_open h, ← passWait_served s hm]
  simp only [lockBy_open h]
  intro l hl
  rw [lockBy_open h] at hl
  cases hl

theorem correctHalf_clean {s : State} {k : Nat} (h : kvGet s.store.err k = none) : correctHalf s k = s := by
  rw [correctHalf, h]
  rfl

/-- A read of sound data (R184). -/
theorem storeBeat_read {s : State} {m ea n : Nat} {rd wr : Bool} (h : StoreOpen s m ea n rd wr) :
    storeBeat m ea n none s = (⟨.ok, (List.range n).map (fun k => storeByteAt s (ea + k))⟩, s) := by
  have hbad : (halvesOf ea n).find? (halfBad s) = none := List.find?_eq_none.mpr fun k hk => by simp [(h.ecc k hk).2]
  have hfold : (halvesOf ea n).foldl correctHalf s = s := by
    have hclean : ∀ k ∈ halvesOf ea n, correctHalf s k = s := fun k hk => correctHalf_clean (h.ecc k hk).1
    generalize halvesOf ea n = l at hclean
    induction l with
    | nil => rfl
    | cons k l ih => rw [List.foldl_cons, hclean k (by simp), ih fun j hj => hclean j (by simp [hj])]
  rw [storeBeat, storeRead, hbad, hfold]

/-- The store with bytes written: fresh ECC for the halves they touch (R184). -/
def storeWith (st : Store) (a : Nat) (d : List Byte) : Store :=
  { st with mem := putBytes st.mem a d, err := st.err.filter (fun e => !(halvesOf a d.length).contains e.1),
            wb := st.wb.filter (fun h => !(halvesOf a d.length).contains h) }

theorem storeWith_stored (s : State) (a n v : Nat) : Stored s (storeWith s.store a (leBytes n v)) a n v := by
  refine ⟨rfl, fun b => ?_⟩
  have hlen : (leBytes n v).length = n := by simp [leBytes]
  rw [storeByteAt_putBytes s (storeWith s.store a (leBytes n v)) a (leBytes n v) b rfl rfl, hlen]
  by_cases h : a ≤ b ∧ b < a + n
  · rw [if_pos h, if_pos h, leBytes_getD v (by omega)]
  · rw [if_neg h, if_neg h]

theorem unlock_eq (m ea : Nat) (s : State) : unlock m (beatOf ea) s =
    { s with arb := { s.arb with locks := s.arb.locks.filter (fun l => !(l.1 == m && l.2 / 16 == ea / 16)) } } := by
  have hb (l : Nat × Nat) : (beatOf l.2 == beatOf ea) = (l.2 / 16 == ea / 16) := by
    rw [Bool.eq_iff_iff, beq_iff_eq, beq_iff_eq, beatOf, beatOf]
    omega
  simp only [unlock, hb]

/-- A write over sound data (R184, R198). -/
theorem storeBeat_write {s : State} {m ea n : Nat} {d : List Byte} {rd wr : Bool} (h : StoreOpen s m ea d.length rd wr) :
    storeBeat m ea n (some d) s = (⟨.ok, []⟩, unlock m (beatOf ea) { s with store := storeWith s.store ea d }) := by
  have hbad : (halvesOf ea d.length).any (fun k => !coversHalf ea d.length k && halfBad s k) = false := by
    rw [List.any_eq_false]
    intro k hk
    simp [(h.ecc k hk).2]
  simp only [storeBeat, storeWrite, hbad]
  rfl

section
variable {s : State} {m ea n : Nat} (hm : m < 32)
include hm

theorem storeAccess_read (h : StoreOpen s m ea n true false) (key : Bool) : storeAccess m ea n none key s =
    (⟨.ok, (List.range n).map (fun k => storeByteAt s (ea + k))⟩, served s m (storeWait s)) := by
  rw [storeAccess_open (wr := none) hm h, storeBeat_read (storeOpen_served h _)]
  simp only [storeByteAt, (served_access s m _).store]

theorem storeAccess_write {d : List Byte} (h : StoreOpen s m ea d.length false true) (key : Bool) :
    storeAccess m ea d.length (some d) key s = (⟨.ok, []⟩, written s m ea (storeWait s) (storeWith s.store ea d)) := by
  rw [storeAccess_open (wr := some d) hm h, storeBeat_write (storeOpen_served h _), unlock_eq, (served_access s m _).store]
  rfl

end

/-! ### The registers -/

/-- Words put into registers change nothing else. -/
theorem putWords_eq (x : Setter) (d : Reg) (l : List Byte) : x.putWords d l = { x with g := (x.putWords d l).g } := by
  induction x, d, l using Setter.putWords.induct with
  | case1 x d b0 b1 b2 b3 t ih =>
    rw [Setter.putWords]
    exact ih
  | case2 x d l h => simp [Setter.putWords]

theorem storeWord_eq (s : State) (a : Nat) : BitVec.ofNat 32 (leNat [storeByteAt s a, storeByteAt s (a + 1), storeByteAt s (a + 2),
    storeByteAt s (a + 3)]) = storeWord s a := by
  unfold storeWord
  congr 1
  simp only [leNat]
  omega

theorem putWords_word (x : Setter) (d : Reg) (s : State) (ea : Nat) :
    x.putWords d ((List.range 4).map (fun k => storeByteAt s (ea + k))) = x.setReg d (storeWord s ea) := by
  rw [← storeWord_eq]
  rfl

/-- Four words in d and the three registers after it. -/
def setQuad (x : Setter) (d : Reg) (w : Nat → Word) : Setter :=
  (((x.setReg d (w 0)).setReg (d + 1) (w 1)).setReg (d + 1 + 1) (w 2)).setReg (d + 1 + 1 + 1) (w 3)

theorem setQuad_adv (x : Setter) (d : Reg) (w : Nat → Word) :
    (setQuad x d w).adv = { x with g := (setQuad x d w).g, pc := x.pc + 1 } := rfl

theorem putWords_quad (x : Setter) (d : Reg) (s : State) (ea : Nat) :
    x.putWords d ((List.range 16).map (fun k => storeByteAt s (ea + k))) = setQuad x d (fun k => storeWord s (ea + 4 * k)) := by
  simp only [setQuad, ← storeWord_eq]
  rfl

/-- The four registers of a quad, whose first is a multiple of 4 (R114). -/
theorem setQuad_get (x : Setter) {d : Reg} (hd : d.val % 4 = 0) (w : Nat → Word) (r : Reg) :
    (setQuad x d w).g.get r = if d.val ≤ r.val ∧ r.val < d.val + 4 then w (r.val - d.val) else x.g.get r := by
  have hdl := d.isLt
  have h1 : (d + 1).val = d.val + 1 := by rw [Fin.val_add]; show (d.val + 1) % 16 = _; omega
  have h2 : (d + 1 + 1).val = d.val + 2 := by rw [Fin.val_add, h1]; show (d.val + 1 + 1) % 16 = _; omega
  have h3 : (d + 1 + 1 + 1).val = d.val + 3 := by rw [Fin.val_add, h2]; show (d.val + 2 + 1) % 16 = _; omega
  simp only [setQuad, Setter.setReg, upd_get, Fin.ext_iff, h1, h2, h3]
  by_cases h : d.val ≤ r.val ∧ r.val < d.val + 4
  · rw [if_pos h]
    obtain ⟨k, hk, hr⟩ : ∃ k, k < 4 ∧ r.val = d.val + k := ⟨r.val - d.val, by omega, by omega⟩
    rw [hr, Nat.add_sub_cancel_left]
    interval_cases k <;> simp
  · rw [if_neg h, if_neg (by omega), if_neg (by omega), if_neg (by omega), if_neg (by omega)]

/-- The bytes of one number after those of another. -/
theorem leBytes_append {m n a b : Nat} (h : a < 256 ^ m) : leBytes m a ++ leBytes n b = leBytes (m + n) (a + 256 ^ m * b) := by
  unfold leBytes
  rw [List.range_add, List.map_append, List.map_map]
  congr 1
  · refine List.map_congr_left fun k hk => BitVec.eq_of_toNat_eq ?_
    obtain ⟨j, rfl⟩ : ∃ j, m = k + (j + 1) := ⟨m - k - 1, by have := List.mem_range.mp hk; omega⟩
    rw [BitVec.toNat_ofNat, BitVec.toNat_ofNat, pow_add, mul_assoc, Nat.add_mul_div_left _ _ (by positivity),
      show (256 : Nat) ^ (j + 1) * b = 2 ^ 8 * (256 ^ j * b) by ring, Nat.add_mul_mod_self_left]
  · refine List.map_congr_left fun k _ => ?_
    rw [Function.comp_apply, pow_add, ← Nat.div_div_eq_div_mul, Nat.add_mul_div_left _ _ (by positivity), Nat.div_eq_of_lt h, Nat.zero_add]

theorem regBytes_quad (x : Setter) (d : Reg) : x.regBytes (quad d) = leBytes 16 ((x.g.get d).toNat + 2 ^ 32 * (x.g.get (d + 1)).toNat
    + 2 ^ 64 * (x.g.get (d + 2)).toNat + 2 ^ 96 * (x.g.get (d + 3)).toNat) := by
  have h (r : Reg) : (x.g.get r).toNat < 256 ^ 4 := (x.g.get r).isLt
  have hl : x.regBytes (quad d) = leBytes 4 (x.g.get d).toNat ++ (leBytes 4 (x.g.get (d + 1)).toNat ++
      (leBytes 4 (x.g.get (d + 2)).toNat ++ leBytes 4 (x.g.get (d + 3)).toNat)) := by
    simp [Setter.regBytes, quad, Setter.reg]
  rw [hl, leBytes_append (h _), leBytes_append (h _), leBytes_append (h _)]
  congr 1
  ring

/-! ### The instructions -/

section
variable {s : State} {i : SetterId} {d a : Reg} {off : BitVec 14} {n : Nat}

theorem storeGuard_open {ea : Word} {rd wr : Bool} (h : StoreOpen s i.val ea.toNat n rd wr) (hn : 0 < n) (body : State → Fate) :
    storeGuard ea n body s = body s := by
  have hin : ¬storeEnd ≤ ea.toNat := by
    have := h.inside
    have : storeEnd = 0x800000 := rfl
    omega
  rw [storeGuard, if_neg hin, if_neg (by simp [aligned, h.aligned])]

theorem storeAddr_eq (x : Setter) (a : Reg) (off : BitVec 14) : (effAddr (x.reg a) off).toNat = storeAddr x a off := effAddr_eq x a off

/-- A load that nothing keeps from the store. -/
theorem storeLoad_open (h : StoreOpen s i.val (storeAddr (s.st i) a off) n true false) (hn : 0 < n) (ins : Instr) :
    let u := served s i.val (storeWait s)
    storeLoad i ins d a off n s = .done (u.modS i (fun x =>
      (x.putWords d ((List.range n).map (fun k => storeByteAt s (storeAddr (s.st i) a off + k)))).adv)) (storeCycles (storeWait s)) none
          false := by
  intro u
  have hm : i.val < 32 := by omega
  rw [← storeAddr_eq] at h
  rw [storeLoad, storeGuard_open h hn, ← storeAddr_eq]
  simp only [storeAccess_read hm h]
  rfl

/-- A store of registers that nothing keeps from the store. -/
theorem storeStore_open {ds : List Reg} (h : StoreOpen s i.val (storeAddr (s.st i) a off) ((s.st i).regBytes ds).length false true)
    (hn : 0 < ((s.st i).regBytes ds).length) (ins : Instr) :
    let u := written s i.val (storeAddr (s.st i) a off) (storeWait s) (storeWith s.store (storeAddr (s.st i) a off) ((s.st i).regBytes ds))
    storeStore i ins ds a off s = .done (u.modS i Setter.adv) (storeCycles (storeWait s)) none false := by
  intro u
  have hm : i.val < 32 := by omega
  rw [← storeAddr_eq] at h
  rw [storeStore, storeGuard_open h hn]
  simp only [storeAccess_write hm h]
  rw [storeAddr_eq]
  rfl

end

theorem regBytes_one (x : Setter) (d : Reg) : x.regBytes [d] = leBytes 4 (x.g.get d).toNat := by
  simp [Setter.regBytes, Setter.reg]

theorem leBytes_length (n v : Nat) : (leBytes n v).length = n := by simp [leBytes]

section
variable {s u : State} {i : SetterId} {d a : Reg} {off : BitVec 14} (h : Ready s i) (hq : quieted (u.st i) = quieted (s.st i))
include h hq

/-- A load's end: words put into registers. -/
theorem finish_load (l : List Byte) (c w : Nat) :
    finish i w (.done (u.modS i (fun x => (x.putWords d l).adv)) c none false) =
        ran u i ((u.st i).putWords d l).adv (c + w) none false := by
  refine finish_modS (f := fun x => (x.putWords d l).adv) ?_ c w none false
  show ((u.st i).putWords d l).run = true
  rw [putWords_eq]
  exact (eq_of_quieted hq Setter.run fun _ => rfl).trans h.run

/-- The end of a load of one word. -/
theorem finish_loadWord (ea c w : Nat) :
    finish i w (.done (u.modS i (fun x => (x.putWords d ((List.range 4).map (fun k => storeByteAt s (ea + k)))).adv)) c none false) =
      ran u i (wrote (u.st i) d (storeWord s ea) (s.st i).flags) (c + w) none false := by
  rw [finish_load h hq, putWords_word, ← eq_of_quieted hq Setter.flags fun _ => rfl]
  rfl

/-- A store's end. -/
theorem finish_store (c w : Nat) : finish i w (.done (u.modS i Setter.adv) c none false) =
    ran u i { u.st i with pc := (s.st i).pc + 1 } (c + w) none false := by
  have hr : (u.st i).adv.run = true := (eq_of_quieted hq Setter.run fun _ => rfl).trans h.run
  rw [finish_modS hr, ← eq_of_quieted hq Setter.pc fun _ => rfl]
  rfl

end

theorem ran_g (u : State) (i : SetterId) (y : Setter) (c : Nat) (load : Option Reg) (mac : Bool) :
    ((ran u i y c load mac).st i).g = y.g := by
  rw [ran, State.putS_st]

/-- A store of registers whose bytes are those of a number. -/
theorem finish_storeStore {s : State} {i : SetterId} {a : Reg} {off : BitVec 14} {ds : List Reg} {n v : Nat} (h : Ready s i)
    (hb : (s.st i).regBytes ds = leBytes n v) (hn : 0 < n) (ho : StoreOpen s i.val (storeAddr (s.st i) a off) n false true) (ins : Instr)
        (w : Nat) :
    let t := finish i w (storeStore i ins ds a off s)
    Stored s t.store (storeAddr (s.st i) a off) n v ∧
      let u := written s i.val (storeAddr (s.st i) a off) (storeWait s) t.store
      t = ran u i { u.st i with pc := (s.st i).pc + 1 } (storeCycles (storeWait s) + w) none false := by
  intro t
  let st := storeWith s.store (storeAddr (s.st i) a off) (leBytes n v)
  have hl : ((s.st i).regBytes ds).length = n := by rw [hb, leBytes_length]
  have hq : quieted ((written s i.val (storeAddr (s.st i) a off) (storeWait s) st).st i) = quieted (s.st i) :=
    served_st (deaf_of_idle (wait_of_issues h.issues)) i.val (storeWait s)
  have ht : t = ran (written s i.val (storeAddr (s.st i) a off) (storeWait s) st) i
      { (written s i.val (storeAddr (s.st i) a off) (storeWait s) st).st i with pc := (s.st i).pc + 1 }
      (storeCycles (storeWait s) + w) none false := by
    refine (congrArg (finish i w) (storeStore_open (by rwa [hl]) (by omega) ins)).trans ?_
    rw [hb]
    exact finish_store h hq ..
  have hst : t.store = st := by
    rw [ht]
    rfl
  exact ⟨hst ▸ storeWith_stored .., hst ▸ ht⟩

/-- A swap that nothing keeps from the store: a load, and a store of what the register held (R114). -/
theorem swap_open {s : State} {i : SetterId} {d a : Reg} {off : BitVec 14} (h : Ready s i)
    (ho : StoreOpen s i.val (storeAddr (s.st i) a off) 4 true true) :
    ∃ t r w, 1 ≤ r ∧ 1 ≤ w ∧ exec (.sswap i d a off) s = .next t ∧ Stored s t.store (storeAddr (s.st i) a off) 4 ((s.st i).g.get d).toNat ∧
      let u := written (served s i.val r) i.val (storeAddr (s.st i) a off) w t.store
      t = ran u i (wrote (u.st i) d (storeWord s (storeAddr (s.st i) a off)) (s.st i).flags) (storeCycles (r + w) + waits (s.st i) [a,
          d]) none false := by
  have hm : i.val < 32 := by omega
  have hdeaf : Deaf (s.st i) := deaf_of_idle (wait_of_issues h.issues)
  have hq := served_st hdeaf i.val (storeWait s)
  have hea : (effAddr ((s.st i).reg a) off).toNat = storeAddr (s.st i) a off := storeAddr_eq (s.st i) a off
  have hread : StoreOpen s i.val (storeAddr (s.st i) a off) 4 true false := storeOpen_mono ho (fun h => h) (fun h => by cases h)
  have hguard := storeGuard_open (i := i) (ea := effAddr ((s.st i).reg a) off) (n := 4) (by rw [hea]; exact hread) (by decide)
  have hget := storeAccess_read hm hread
  have hput := storeOpen_served (storeOpen_mono ho (rd' := false) (wr' := true) (fun h => by cases h) (fun h => h)) (storeWait s)
  have hstore := (served_access s i.val (storeWait s)).store
  generalize hr : storeWait s = r at *
  generalize storeAddr (s.st i) a off = ea at *
  generalize hu : served s i.val r = u at *
  have hb : (u.st i).regBytes [d] = leBytes 4 ((s.st i).g.get d).toNat := by rw [regBytes_one, eq_of_quieted hq Setter.g fun _ => rfl]
  have hl : (leBytes 4 ((s.st i).g.get d).toNat).length = 4 := leBytes_length ..
  have hset := storeAccess_write hm (d := leBytes 4 ((s.st i).g.get d).toNat) (by rw [hl]; exact hput) false
  rw [hl, hstore] at hset
  have hqv : quieted ((written u i.val ea (storeWait u) (storeWith s.store ea (leBytes 4 ((s.st i).g.get d).toNat))).st i) =
      quieted (s.st i) := (served_st (deaf_of_quieted hq hdeaf) i.val (storeWait u)).trans hq
  refine ⟨_, r, storeWait u, hr ▸ Nat.le_add_right .., Nat.le_add_right .., congrArg Host.Outcome.next (issue_ready h _ _), ?_⟩
  generalize ht : finish _ _ _ = t
  generalize hv : written u i.val ea (storeWait u) (storeWith s.store ea (leBytes 4 ((s.st i).g.get d).toNat)) = v at hset hqv
  have htr : t = ran v i (wrote (v.st i) d (storeWord s ea) (s.st i).flags) (storeCycles (r + storeWait u) + waits (s.st i) [a,
      d]) none false := by
    refine ht.symm.trans ((congrArg (finish i _) (hguard _)).trans ?_)
    simp only [hea, storeDoor_open ho, hget, hb, hset, hr]
    exact finish_loadWord h hqv ..
  rw [← hv] at htr
  have hst : t.store = storeWith s.store ea (leBytes 4 ((s.st i).g.get d).toNat) := by
    rw [htr]
    rfl
  rw [hst, hu]
  exact ⟨storeWith_stored .., htr⟩

/-- Settles O17: each access is its wait and its data, and the setter hears only what a deaf one can. -/
theorem storeInstructions : Obligations.StoreInstructions := by
  unfold Obligations.StoreInstructions
  intro s i d a off h x ea
  have hm : i.val < 32 := by omega
  have hdeaf : Deaf (s.st i) := deaf_of_idle (wait_of_issues h.issues)
  have hw (t : State) : 1 ≤ storeWait t := Nat.le_add_right ..
  have hq := served_st hdeaf i.val (storeWait s)
  refine ⟨fun ho => ?sld, fun ho => ?sst, fun hd ho => ?sldq, fun hd ho => ?sstq, fun ho => ?sswap⟩
  case sld =>
    refine ⟨_, hw s, congrArg Host.Outcome.next ((issue_ready h _ _).trans ?_)⟩
    rw [storeLoad_open ho (by decide), finish_loadWord h hq]
  case sst =>
    obtain ⟨hst, ht⟩ := finish_storeStore h (regBytes_one x d) (by decide) ho (.sst i d a off) (waits x [a, d])
    exact ⟨_, _, hw s, congrArg Host.Outcome.next (issue_ready h _ _), hst, ht⟩
  case sldq =>
    have hd' : (d.val % 4 == 0) = true := by simpa using hd
    have hpc := eq_of_quieted hq Setter.pc fun _ => rfl
    have hregs := eq_of_quieted hq Setter.g fun _ => rfl
    generalize hu : served s i.val (storeWait s) = u at hq hpc hregs
    let w (k : Nat) : Word := storeWord s (ea + 4 * k)
    let t := ran u i (setQuad (u.st i) d w).adv (storeCycles (storeWait s) + waits x [a]) none false
    have hg : (t.st i).g = (setQuad (u.st i) d w).g := ran_g ..
    refine ⟨t, storeWait s, hw s, congrArg Host.Outcome.next ((issue_needZero hd').trans ((issue_ready h _ _).trans ?_)), fun r => ?_, ?_⟩
    · rw [storeLoad_open ho (by decide), hu, finish_load h hq, putWords_quad]
    · rw [hg, ← hregs]
      exact setQuad_get (u.st i) hd w r
    · rw [hu, hg, ← hpc]
      exact congrArg (fun y => ran u i y _ none false) (setQuad_adv ..)
  case sstq =>
    have hd' : (d.val % 4 == 0) = true := by simpa using hd
    obtain ⟨hst, ht⟩ := finish_storeStore h (regBytes_quad x d) (by decide) ho (.sstq i d a off) (waits x (a :: quad d))
    exact ⟨_, _, hw s, congrArg Host.Outcome.next ((issue_needZero hd').trans (issue_ready h _ _)), hst, ht⟩
  case sswap => exact swap_open h ho

end Sys2Proof.Proofs
end

section
/-! PROOFS. What the event controller and the log do beside the repointers: a raise neither reads nor changes a repointer, and raises and
log records leave the loader, the bays, the store and the hod as they are (R26, R298, R323). -/

namespace Sys2Proof.Proofs
open Sys2Proof Sys2Proof.Machine Sys2Proof.Claims

/-! ### Reports -/

/-- What raises, log records and marks in the plinth leave alone; no pending bit clears. -/
structure Reported (s t : State) : Prop where
  rpt : t.rpt = s.rpt
  img : t.img = s.img
  bays : t.bays = s.bays
  store : t.store = s.store
  hod : t.hod = s.hod
  pend : ∀ n, pendBit s n = true → pendBit t n = true

theorem Reported.refl (s : State) : Reported s s := ⟨rfl, rfl, rfl, rfl, rfl, fun _ h => h⟩

theorem Reported.trans {s t u : State} (h : Reported s t) (k : Reported t u) : Reported s u :=
  ⟨k.rpt.trans h.rpt, k.img.trans h.img, k.bays.trans h.bays, k.store.trans h.store, k.hod.trans h.hod, fun n hn => k.pend n (h.pend n hn)⟩

theorem raise_reported (n : Nat) (s : State) : Reported s (raise n s) :=
  ⟨raise_rpt n s, raise_img n s, raise_bays n s, raise_store n s, raise_hod n s, (raise_raised n s).pend⟩

theorem modPln_reported (f : Pln → Pln) (s : State) : Reported s (modPln f s) := ⟨rfl, rfl, rfl, rfl, rfl, fun _ h => h⟩

theorem logRec_reported (code sev src : Nat) (d0 d1 : Word) (s : State) : Reported s (logRec code sev src d0 d1 s) := by
  obtain ⟨q, -, h | h⟩ := logRec_cases code sev src d0 d1 s <;> rw [h]
  · exact modPln_reported (fun _ => q) s
  · exact (modPln_reported (fun _ => q) s).trans (raise_reported 550 _)

theorem declareLasting_reported (c u : Nat) (s : State) : Reported s (declareLasting c u s) := by
  have h : Reported s (raise (544 + c) (logRec 0x0020 2 (544 + c) (valAt 0 c) (valAt 0 u)
      (modPln (fun p => { p with fltLast := nthUpd p.fltLast c (fun m => setBit m u true) }) s))) :=
    (modPln_reported ..).trans ((logRec_reported ..).trans (raise_reported ..))
  unfold declareLasting raiseIf
  simp only
  split
  · exact h.trans (raise_reported ..)
  · exact h

theorem logHeartbeat_reported (w : Nat) (s : State) : Reported s (logHeartbeat w s) := by
  unfold logHeartbeat
  split
  · exact logRec_reported ..
  · exact modPln_reported ..

/-- A bit once raised stands over what is reported after it. -/
theorem Reported.raised {n : Nat} {s t : State} (h : Reported (raise n s) t) (hn : n < 640) : pendBit t n = true :=
    h.pend n (raise_pend n s hn)

/-! ### A raise and the repointers -/

/-- The state with other repointers. -/
def putRpt (r : Vector Rpt 4) (s : State) : State := { s with rpt := r }

theorem netVal_putRpt (r : Vector Rpt 4) (s : State) (n : Nat) : netVal (putRpt r s) n = netVal s n := by
  induction n with
  | zero => rfl
  | succ n ih =>
    funext b net
    cases net <;> simp only [netVal, ih] <;> rfl

theorem netNow_putRpt (r : Vector Rpt 4) (s : State) : netNow (putRpt r s) = netNow s := by
  funext b e
  exact congrFun (congrFun (netVal_putRpt r s netDepth) b) e

theorem sampleTaps_putRpt (r : Vector Rpt 4) (i : SetterId) (v : BitVec 256) (s : State) :
    sampleTaps i v (putRpt r s) = sampleTaps i v s := by
  unfold sampleTaps netSample
  rw [netNow_putRpt]
  rfl

theorem putS_putRpt (r : Vector Rpt 4) (i : SetterId) (x : Setter) (s : State) : (putRpt r s).putS i x = putRpt r (s.putS i x) := rfl

section
variable {rs : Nat → State → State} {r : Vector Rpt 4} (hrs : ∀ n s, rs n (putRpt r s) = putRpt r (rs n s))
include hrs

theorem settleWith_putRpt (i : SetterId) (s : State) : settleWith rs i (putRpt r s) = putRpt r (settleWith rs i s) := by
  unfold settleWith
  rw [show (putRpt r s).st i = s.st i from rfl]
  split
  · rfl
  · exact hrs (srcOf i 5) (s.modS i fun x => { x with stopped := true })

theorem tickWith_putRpt (i : SetterId) (v : BitVec 256) (s : State) : tickWith rs i v (putRpt r s) = putRpt r (tickWith rs i v s) := by
  unfold tickWith
  rw [show (putRpt r s).st i = s.st i from rfl]
  simp only
  split
  · rfl
  · split
    · split
      · rfl
      · rw [putS_putRpt, settleWith_putRpt hrs]
        rfl
    · rfl

theorem wevWith_putRpt (i : SetterId) (s : State) : wevWith rs i (putRpt r s) = putRpt r (wevWith rs i s) := by
  unfold wevWith
  rw [show (putRpt r s).st i = s.st i from rfl]
  simp only
  split
  · split
    · rfl
    · rw [putS_putRpt]
      exact settleWith_putRpt hrs i (State.usedFree _)
  · rfl

theorem lineWith_putRpt (wake : Bool) (i : SetterId) (line : Nat) (s : State) :
    lineWith rs wake i line (putRpt r s) = putRpt r (lineWith rs wake i line s) := by
  unfold lineWith
  rw [show (putRpt r s).st i = s.st i from rfl]
  simp only
  split
  · rfl
  · split
    · split <;> rfl
    · rw [sampleTaps_putRpt, ← wevWith_putRpt hrs]
      split
      · rw [← tickWith_putRpt hrs]
        rfl
      · rfl

theorem deliverWith_putRpt (wake : Bool) (route : Word) (s : State) :
    deliverWith rs wake route (putRpt r s) = putRpt r (deliverWith rs wake route s) := by
  unfold deliverWith
  induction List.finRange 16 generalizing s with
  | nil => rfl
  | cons i l ih =>
    rw [List.foldl_cons, List.foldl_cons, ← ih]
    split
    · rw [lineWith_putRpt hrs]
    · rfl

end

theorem sendNote_putRpt (r : Vector Rpt 4) (n : Nat) (s : State) : sendNote n (putRpt r s) = (sendNote n s).map (putRpt r) := by
  unfold sendNote sendOwn
  rw [show (putRpt r s).irs = s.irs from rfl]
  simp only
  split <;> rfl

theorem raiseF_putRpt (r : Vector Rpt 4) (f n : Nat) (s : State) : raiseF f n (putRpt r s) = putRpt r (raiseF f n s) := by
  induction f generalizing n s with
  | zero => rfl
  | succ f ih =>
    unfold raiseF
    rw [show pendBit (putRpt r s) n = pendBit s n from rfl, show (putRpt r s).pwr = s.pwr from rfl,
      show routeOf (putRpt r s) n = routeOf s n from rfl, show setPend n (putRpt r s) = putRpt r (setPend n s) from rfl,
      show wakeSource (putRpt r s) n = wakeSource s n from rfl]
    split
    · rfl
    · split
      · rfl
      · simp only [deliverWith_putRpt ih, sendNote_putRpt]
        split
        · cases sendNote n (deliverWith (raiseF f) (wakeSource s n) (routeOf s n) (setPend n s)) with
          | none => exact ih 440 _
          | some u => rfl
        · rfl

/-- A raise neither reads nor changes the repointers. -/
theorem raise_putRpt (r : Vector Rpt 4) (n : Nat) (s : State) : raise n (putRpt r s) = putRpt r (raise n s) := raiseF_putRpt r 20 n s

end Sys2Proof.Proofs
end

section
/-! PROOFS. The repointers: a visit, the heartbeat monitor, RPT_CTRLw (R138, R295 to R299). -/

namespace Sys2Proof.Proofs
open Sys2Proof Sys2Proof.Machine Sys2Proof.Claims

/-! ### One repointer changed -/

theorem modRpt_eq (w : Wing) (f : Rpt → Rpt) (s : State) : modRpt w.val f s = withRpt s w (f (s.rpt.get w)) := by
  unfold modRpt nthUpd
  rw [dif_pos w.isLt]
  rfl

theorem withRpt_get (s : State) (w : Wing) (x : Rpt) : (withRpt s w x).rpt.get w = x := upd_get_same ..

theorem modRpt_withRpt (s : State) (w : Wing) (x : Rpt) (f : Rpt → Rpt) : modRpt w.val f (withRpt s w x) = withRpt s w (f x) := by
  rw [modRpt_eq, withRpt_get]
  show { s with rpt := (s.rpt.set w.val x).set w.val (f x) } = withRpt s w (f x)
  rw [Vector.set_set]
  rfl

/-- A change of a repointer commutes with a raise. -/
theorem modRpt_raise (w n : Nat) (f : Rpt → Rpt) (s : State) : modRpt w f (raise n s) = raise n (modRpt w f s) := by
  show putRpt (nthUpd (raise n s).rpt w f) (raise n s) = raise n (putRpt (nthUpd s.rpt w f) s)
  rw [raise_rpt, raise_putRpt]

theorem modRpt_reportFault (w c u n : Nat) (f : Rpt → Rpt) (s : State) : modRpt w f (reportFault c u n s) =
    reportFault c u n (modRpt w f s) :=
  rfl

theorem withRpt_modBay (s : State) (w : Wing) (x : Rpt) (b : BayId) (f : Bay → Bay) :
    (withRpt s w x).modBay b f = withRpt (s.modBay b f) w x := rfl

/-! ### A visit -/

theorem vote_replicate (c : Word) : vote (Vector.replicate 3 c) = c := by
  simp [vote, Vector.get]

theorem fixVote_agree {x : Rpt} {c : Word} (h : Agree x c) : fixVote x = x := by
  have hv : vote x.copy = c := by rw [h, vote_replicate]
  have hn : (x.copy.toList.filter (· != c)).length = 0 := by rw [show x.copy = Vector.replicate 3 c from h]; simp
  have hs : BitVec.ofNat 8 (satAdd 8 x.votefix.toNat 0) = x.votefix := by
    have hx := x.votefix.isLt
    rw [satAdd, Nat.add_zero, Nat.min_eq_left (by omega), BitVec.ofNat_toNat, BitVec.setWidth_eq]
  have hc : Vector.replicate 3 c = x.copy := Eq.symm h
  simp only [fixVote, hv, hn, hs, hc]

theorem advanceRpt_eq (x : Rpt) : advanceRpt x = { x with first := false, bay := (following x).1, frame := (following x).2 } := by
  unfold advanceRpt following
  by_cases hf : x.first = true
  · simp [hf]
  · by_cases h9 : x.frame.toNat < 959
    · simp [hf, h9]
    · simp [hf, h9]

theorem endVisit_eq (x : Rpt) : endVisit x = { x with pass := if x.bay = 15 ∧ x.frame.toNat = 959 then x.pass + 1 else x.pass } := by
  unfold endVisit
  split <;> rfl

/-- A repointer that has arrived at its next position. -/
def arrived (x : Rpt) : Rpt := { x with first := false, skip := false, bay := (following x).1, frame := (following x).2 }

theorem endVisit_arrived (x : Rpt) : endVisit (arrived x) = moved1 x := by
  have h9 : (following x).2.toNat = 959 ↔ (following x).2 = 959 := by
    rw [← BitVec.toNat_inj]
    rfl
  simp only [endVisit_eq, moved1, arrived, h9]

/-! ### What a visit finds -/

section
variable {s : State} {w : Wing} {c : Word} (hr : Runs s) (ha : Agree (s.rpt.get w) c) (hen : c.getLsbD 31 = true)

/-- The bay that repointer w visits next. -/
def nextBay (s : State) (w : Wing) : Nat := 16 * w.val + (following (s.rpt.get w)).1.toNat

theorem nextBay_lt (s : State) (w : Wing) : nextBay s w < 64 := by
  have h := (following (s.rpt.get w)).1.isLt
  unfold nextBay
  omega

theorem rptRuns_of_runs (hr : Runs s) : rptRuns s = true := by
  obtain ⟨hh, hs, h3⟩ := hr
  rw [rptRuns, hh, hs, bne_iff_ne.mpr h3]
  rfl

theorem rptEn_agree (ha : Agree (s.rpt.get w) c) (hen : c.getLsbD 31 = true) : rptEn (s.rpt.get w) = true := by
  rw [rptEn, show (s.rpt.get w).copy = Vector.replicate 3 c from ha, vote_replicate, hen]

include hr ha hen in
/-- A visit to a bay that runs: the position, what the frame shows, the end of a pass (R295, R296). -/
theorem visit_eq (hb : ∀ q : BayId, q.val = nextBay s w → (s.bay q).runs = true) : exec (.repointerVisit w) s =
    .next (modRpt w.val endVisit (visitFrame w.val (nextBay s w) (following (s.rpt.get w)).2.toNat (withRpt s w (arrived (s.rpt.get w)))))
        := by
  have hn : w.val * 16 + (following (s.rpt.get w)).1.toNat = nextBay s w := by rw [Nat.mul_comm]; rfl
  have hbay : s.bayN (nextBay s w) = some (s.bay ⟨nextBay s w, nextBay_lt s w⟩) := dif_pos (nextBay_lt s w)
  have hrun := hb ⟨nextBay s w, nextBay_lt s w⟩ rfl
  refine congrArg Host.Outcome.next ((if_neg ?_).trans ?_)
  · simp [rptRuns_of_runs hr, rptEn_agree ha hen]
  · simp only [fixVote_agree ha, advanceRpt_eq, hn, hbay, hrun, Bool.not_true, Bool.false_eq_true, if_false, modRpt_eq w (fun _ => _) s]
    rfl

end

theorem visitFrame_sound {s : State} {w b f : Nat} (h : kvGet (baySlot s b).planeErr (b * 960 + f) = none) :
    visitFrame w b f s = if 631 < f then s else repairRow w b f s := by
  unfold visitFrame
  simp only [show kvGet (slotOf s.img ((nth s.img.bayslot b).getD 0).toNat).planeErr (b * 960 + f) = none from h]
  rfl

theorem visitFrame_double {s : State} {w b f : Nat} (h : kvGet (baySlot s b).planeErr (b * 960 + f) = some .double) :
    visitFrame w b f s = planeFault w ((nth s.img.bayslot b).getD 0).toNat b f s := by
  unfold visitFrame
  simp only [show kvGet (slotOf s.img ((nth s.img.bayslot b).getD 0).toNat).planeErr (b * 960 + f) = some .double from h]

theorem bayN_val (s : State) (q : BayId) : s.bayN q.val = some (s.bay q) := dif_pos q.isLt

theorem repairRow_sound {s : State} {w f : Nat} {q : BayId} (h : kvGet (s.bay q).upset f = none) : repairRow w q.val f s = s := by
  unfold repairRow
  simp only [bayN_val, Option.bind_some, h]

theorem repairRow_upset {s : State} {w f : Nat} {q : BayId} {e : RowErr} (h : kvGet (s.bay q).upset f = some e) : repairRow w q.val f s =
    reportFault 0 q.val 1 (raise (4 * q.val) (modRpt w (countRow e q.val f) (s.modBay q (fun x => { x with upset := kvDel f x.upset }))))
        := by
  unfold repairRow
  simp only [bayN_val, Option.bind_some, h]
  congr 3
  exact congrArg (fun v => { s with bays := v }) (dif_pos q.isLt)

/-- What a visit counts and where it stands do not meet. -/
theorem endVisit_countRow (e : RowErr) (b f : Nat) (x : Rpt) : endVisit (countRow e b f x) = countRow e b f (endVisit x) := by
  rw [endVisit_eq, endVisit_eq]
  cases e <;> rfl

theorem countRow_moved1 (e : RowErr) (b f : Nat) (x : Rpt) : countRow e b f (moved1 x) =
    { found x (if e = .single then 1 else 2) b f with
      corr := if e = .double then x.corr else more x.corr, reload := if e = .single then x.reload else more x.reload } := by
  cases e <;> rfl

section
variable {s : State} {w : Wing} {c : Word} (hr : Runs s) (ha : Agree (s.rpt.get w) c) (hen : c.getLsbD 31 = true)
  (hb : ∀ q : BayId, q.val = nextBay s w → (s.bay q).runs = true)
include hr ha hen hb

/-- A visit to a sound frame moves on (R295). -/
theorem visit_sound (hp : kvGet (baySlot s (nextBay s w)).planeErr (nextBay s w * 960 + (following (s.rpt.get w)).2.toNat) = none)
    (hu : 631 < (following (s.rpt.get w)).2.toNat ∨
      ∀ q : BayId, q.val = nextBay s w → kvGet (s.bay q).upset (following (s.rpt.get w)).2.toNat = none) :
    exec (.repointerVisit w) s = .next (withRpt s w (moved1 (s.rpt.get w))) := by
  rw [visit_eq hr ha hen hb, visitFrame_sound (by exact hp)]
  have hrep (h : ¬631 < (following (s.rpt.get w)).2.toNat) : repairRow w.val (nextBay s w) (following (s.rpt.get w)).2.toNat
      (withRpt s w (arrived (s.rpt.get w))) = withRpt s w (arrived (s.rpt.get w)) :=
    repairRow_sound (q := ⟨nextBay s w, nextBay_lt s w⟩) (hu.resolve_left h _ rfl)
  rw [ite_eq_left_iff.mpr hrep, modRpt_withRpt, endVisit_arrived]

/-- A visit to an upset row corrects or reloads it (R138, R296, R297). -/
theorem visit_upset (hp : kvGet (baySlot s (nextBay s w)).planeErr (nextBay s w * 960 + (following (s.rpt.get w)).2.toNat) = none)
    (hf : (following (s.rpt.get w)).2.toNat ≤ 631) {q : BayId} (hq : q.val = nextBay s w) {e : RowErr}
    (hu : kvGet (s.bay q).upset (following (s.rpt.get w)).2.toNat = some e) :
    exec (.repointerVisit w) s = .next (reportFault 0 (nextBay s w) 1 (raise (4 * nextBay s w)
      ((withRpt s w (countRow e (nextBay s w) (following (s.rpt.get w)).2.toNat (moved1 (s.rpt.get w)))).modBay q
        (fun x => { x with upset := kvDel (following (s.rpt.get w)).2.toNat x.upset })))) := by
  rw [visit_eq hr ha hen hb, visitFrame_sound (by exact hp), if_neg (by omega), ← hq, repairRow_upset (by exact hu),
    modRpt_reportFault, modRpt_raise, withRpt_modBay, withRpt_modBay, modRpt_withRpt, modRpt_withRpt, endVisit_countRow, endVisit_arrived]

end

/-! ### A plane record that cannot be read -/

/-- The slot and the repointer as a plane fault marks them (R296, R328). -/
def faulted (w slot b f : Nat) (s : State) : State :=
  modSlot slot (fun x => { x with state := 3 }) (modRpt w (fun x => setLast 3 b f { x with planeErr := true }) s)

theorem planeFault_reported (w slot b f : Nat) (s : State) :
    Reported (raise 611 (faulted w slot b f s)) (planeFault w slot b f s) ∧
      ∃ u, Reported (raise (4 * b + 1) u) (planeFault w slot b f s) := by
  have h : Reported (raise (4 * b + 1) (raise 611 (faulted w slot b f s))) (planeFault w slot b f s) := by
    have log (u : State) : Reported u (logRec 0x0021 2 (4 * b + 1) (valAt 0 b) (valAt 0 f) u) := logRec_reported ..
    unfold planeFault
    simp only
    split
    · exact log _
    · exact (log _).trans (declareLasting_reported ..)
  exact ⟨(raise_reported ..).trans h, _, h⟩

theorem endVisit_faulted (b f : Nat) (x : Rpt) :
    endVisit (setLast 3 b f { arrived x with planeErr := true }) = { found x 3 b f with planeErr := true } := by
  rw [found, ← endVisit_arrived, endVisit_eq, endVisit_eq]
  rfl

theorem slotOf_modSlot {n : Nat} (f : Slot → Slot) (s : State) (h : n < 3) : slotOf (modSlot n f s).img n = f (slotOf s.img n) := by
  show (nth (nthUpd s.img.slots n f) n).getD Slot.empty = f ((nth s.img.slots n).getD Slot.empty)
  rw [nth_nthUpd, if_pos rfl, nth, dif_pos h]
  rfl

/-- A visit that finds a plane record that cannot be read (R296, R328). -/
theorem visit_planeErr {s : State} {w : Wing} {c : Word} (hr : Runs s) (ha : Agree (s.rpt.get w) c) (hen : c.getLsbD 31 = true)
    (hb : ∀ q : BayId, q.val = nextBay s w → (s.bay q).runs = true) {k f : Nat} (hk : ((nth s.img.bayslot (nextBay s w)).getD 0).toNat = k)
    (hf : (following (s.rpt.get w)).2.toNat = f) (h3 : k < 3) (hp : kvGet (imgSlot s k).planeErr (nextBay s w * 960 + f) = some .double) :
    ∃ t, exec (.repointerVisit w) s = .next t ∧
      t.rpt = (withRpt s w { found (s.rpt.get w) 3 (nextBay s w) f with planeErr := true }).rpt ∧
      (imgSlot t k).state = 3 ∧ OtherSlots s t k ∧ pendBit t 611 = true ∧ pendBit t (4 * nextBay s w + 1) = true ∧ t.bays = s.bays := by
  have hv : exec (.repointerVisit w) s =
      .next (modRpt w.val endVisit (planeFault w.val k (nextBay s w) f (withRpt s w (arrived (s.rpt.get w))))) := by
    subst hk hf
    rw [visit_eq hr ha hen hb, visitFrame_double (by exact hp)]
    rfl
  obtain ⟨hrep, v, hbit⟩ := planeFault_reported w.val k (nextBay s w) f (withRpt s w (arrived (s.rpt.get w)))
  have hlt := nextBay_lt s w
  have hmark := (raise_reported ..).trans hrep
  generalize planeFault _ _ _ _ _ = p at hv hrep hbit hmark
  refine ⟨_, hv, ?_, ?_, fun j hj => ?_, hrep.raised (by decide), hbit.raised (by omega), hmark.bays⟩
  · show nthUpd p.rpt w.val endVisit = _
    rw [hmark.rpt]
    show (modRpt w.val endVisit (modRpt w.val _ (withRpt s w (arrived (s.rpt.get w))))).rpt = _
    rw [modRpt_withRpt, modRpt_withRpt, endVisit_faulted]
  · show (slotOf p.img _).state = 3
    rw [hmark.img]
    exact congrArg Slot.state (slotOf_modSlot _ _ h3)
  · show nth p.img.slots j = _
    rw [hmark.img]
    exact (nth_nthUpd ..).trans (if_neg (Ne.symm hj))

/-! ### The heartbeat monitor -/

theorem more8_eq (c : Byte) : BitVec.ofNat 8 (satAdd 8 c.toNat 1) = more8 c := rfl

/-- A repointer that the monitor restarts (R298). -/
def restarted (x : Rpt) : Rpt := { x with copy := Vector.replicate 3 x.shad, restarts := more8 x.restarts }

theorem heartbeat_eq {s : State} {w : Wing} (hr : Runs s) (hs : (s.rpt.get w).shad.getLsbD 31 = true) :
    exec (.repointerHeartbeatRestart w) s = .next (logHeartbeat w.val (raise (613 + w.val) (withRpt s w (restarted (s.rpt.get w))))) := by
  refine congrArg Host.Outcome.next ((if_neg (by simp [rptRuns_of_runs hr, hs])).trans ?_)
  simp only [modRpt_eq]
  rfl

theorem logHeartbeat_owed {w : Nat} {s : State} (h : s.pln.ready = false) : (logHeartbeat w s).pln.hbOwed = s.pln.hbOwed ++ [w] := by
  rw [logHeartbeat, h]
  rfl

theorem heartbeat_restarts {s : State} {w : Wing} (hr : Runs s) (hs : (s.rpt.get w).shad.getLsbD 31 = true) :
    ∃ t, exec (.repointerHeartbeatRestart w) s = .next t ∧ t.rpt = (withRpt s w (restarted (s.rpt.get w))).rpt ∧
      (s.pln.ready = false → t.pln.hbOwed = s.pln.hbOwed ++ [w.val]) ∧
      pendBit t (613 + w.val) = true ∧ t.img = s.img ∧ t.bays = s.bays ∧ t.store = s.store := by
  have hlog := logHeartbeat_reported w.val (raise (613 + w.val) (withRpt s w (restarted (s.rpt.get w))))
  have hall := (raise_reported ..).trans hlog
  refine ⟨_, heartbeat_eq hr hs, hall.rpt, fun hready => ?_, hlog.raised (by omega), hall.img, hall.bays, hall.store⟩
  have hpln := raise_pln (613 + w.val) (withRpt s w (restarted (s.rpt.get w)))
  rw [logHeartbeat_owed (by rw [hpln]; exact hready), hpln]
  rfl

/-! ### RPT_CTRLw -/

theorem blockAddr_rpt (off : Nat) : blockAddr .rpt off = off + 0x20050000 := rfl

theorem placeOf_rpt {off : Nat} (h : off < 0x10000) : placeOf (blockAddr .rpt off) = .reg .rpt off := by
  have ha := blockAddr_rpt off
  rw [placeOf, if_neg (by omega), if_neg (by omega), if_pos (by omega), show (blockAddr .rpt off - 0x20000000) / 0x10000 = 5 by omega,
    show blockAddr .rpt off % 0x10000 = off by omega]
  rfl

/-- A write of RPT_CTRLw: master 16's alone (R298). -/
theorem writeRpt_ctrl (m : Nat) (w : Wing) (v : Word) (s : State) :
    writeRpt m (0x100 + 0x20 * w.val) v s = if m = 16 then some (modRpt w.val (rptWrite v) s) else none := by
  have hw := w.isLt
  have hoff : (0x100 + 0x20 * w.val - 0x100) / 0x20 = w.val := by omega
  have hreg : (0x100 + 0x20 * w.val) % 0x20 = 0 := by omega
  rw [writeRpt, if_neg (by omega), if_neg (by omega), if_neg (by omega), hoff, hreg]
  rfl

theorem rptWrite_agree {x : Rpt} {c : Word} (v : Word) (h : Agree x c) : rptWrite v x =
    let n := (v &&& 0x80000000#32) ||| (if v.toNat % 256 = 0 then c &&& 0xFF#32 else v &&& 0xFF#32)
    { x with copy := Vector.replicate 3 n, shad := n } := by
  have hv : vote x.copy = c := by rw [show x.copy = Vector.replicate 3 c from h, vote_replicate]
  have hf : field v 7 0 = 0 ↔ v.toNat % 256 = 0 := by
    rw [← BitVec.toNat_inj, toNat_field, pow_zero, Nat.div_one]
    rfl
  simp only [rptWrite, hv, hf]

section
variable {s : State} {m : Master} {w : Wing} {v : Word} (h : RegOpen s m.val .rpt (0x100 + 0x20 * w.val) true)
include h

theorem rptCtrlWrite_plinth (hm : m.val = 16) :
    exec (.rptCtrlWrite m w v) s = .next (wroteOk m (withRpt s w (rptWrite v (s.rpt.get w)))) := by
  have hw := w.isLt
  refine congrArg Host.Outcome.next ((writeAs_open (regOpen_free h (s.free + 2)) (placeOf_rpt (by omega))
    (by rw [blockAddr_rpt]; omega) ((writeRpt_ctrl ..).trans (if_pos hm))).trans ?_)
  rw [modRpt_eq]
  rfl

theorem rptCtrlWrite_other (hm : m.val ≠ 16) : exec (.rptCtrlWrite m w v) s =
    .next (ended m.val .busError { s with free := s.free + 2 }) := by
  have hw := w.isLt
  have hnone : blockWrite m.val .rpt (0x100 + 0x20 * w.val) v (freeEnv s) { s with free := s.free + 2 } = none :=
    (writeRpt_ctrl ..).trans (if_neg hm)
  refine congrArg Host.Outcome.next ?_
  show writeAs m.val (blockAddr .rpt (0x100 + 0x20 * w.val)) v (freeEnv s) { s with free := s.free + 2 } = _
  simp only [writeAs, busWrite, gate_open (regOpen_free h (s.free + 2)) (placeOf_rpt (by omega)) (by rw [blockAddr_rpt]; omega), hnone]
  exact settleAccess_ended _ (by decide)

end

end Sys2Proof.Proofs
end

section
/-! PROOFS. A swap: its release, the transfer to its setters, its end (R128, R164, R291, R293, R294); with the repointers, the statement
SwapsAndRepointers. -/

namespace Sys2Proof.Proofs
open Sys2Proof Sys2Proof.Machine Sys2Proof.Claims

/-! ### The named bays that are held -/

theorem filterMap_ite_some {α β : Type} (p : α → Bool) (f : α → β) (l : List α) :
    l.filterMap (fun a => if p a then some (f a) else none) = (l.filter p).map f := by
  induction l with
  | nil => rfl
  | cons a l ih => cases h : p a <;> simp [h, ih]

theorem heldBays_eq (x : Swap) (s : State) :
    heldBays x s = ((List.finRange 64).filter (fun b => x.bays.getLsbD b.val && (s.bay b).held)).map (·.val) :=
  filterMap_ite_some ..

theorem inBays_heldBays (x : Swap) (s : State) (b : BayId) :
    inBays (heldBays x s) b.val = true ↔ x.bays.getLsbD b.val = true ∧ (s.bay b).held = true := by
  rw [heldBays_eq, inBays, List.contains_iff_mem, List.mem_map]
  constructor
  · rintro ⟨c, hc, hcb⟩
    obtain rfl : c = b := Fin.ext hcb
    simpa using hc
  · intro h
    exact ⟨b, by simpa using h, rfl⟩

/-! ### One bay -/

/-- What a swap's release keeps until its end: the swap itself, the store, the hod. -/
structure Swapping (s u : State) : Prop where
  swap : u.img.swap = s.img.swap
  store : u.store = s.store
  hod : u.hod = s.hod

theorem Swapping.refl (s : State) : Swapping s s := ⟨rfl, rfl, rfl⟩

theorem Swapping.trans {s t u : State} (h : Swapping s t) (k : Swapping t u) : Swapping s u :=
  ⟨k.swap.trans h.swap, k.store.trans h.store, k.hod.trans h.hod⟩

theorem Reported.swapping {s t : State} (h : Reported s t) : Swapping s t := ⟨congrArg Img.swap h.img, h.store, h.hod⟩

theorem putBaySlot_swapping (b : BayId) (k : BitVec 2) (s : State) : Swapping s (putBaySlot b k s) := ⟨rfl, rfl, rfl⟩

theorem modBay_swapping (b : BayId) (f : Bay → Bay) (s : State) : Swapping s (s.modBay b f) := ⟨rfl, rfl, rfl⟩

/-- A bay that a swap names or not: its latches and its active slot. -/
def swapView (u : State) (b : BayId) : Bay × BitVec 2 := (u.bay b, u.img.bayslot.get b)

theorem releaseBay_eq (b : BayId) (s : State) : ∃ y, releaseBay b s = s.modBay b (fun _ => y) ∧ y.ffs = [] ∧ y.held = false := by
  obtain ⟨y, hy, hf⟩ := reloadBay_eq b true s
  exact ⟨{ y with held := false }, (congrArg (fun u : State => u.modBay b _) hy).trans (modBay_modBay s b y _), hf, rfl⟩

theorem releaseBay_swapping (b : BayId) (s : State) : Swapping s (releaseBay b s) ∧ (releaseBay b s).img = s.img := by
  obtain ⟨y, hy, -⟩ := releaseBay_eq b s
  rw [hy]
  exact ⟨modBay_swapping .., rfl⟩

theorem putBaySlot_get (b : BayId) (k : BitVec 2) (s : State) : (putBaySlot b k s).img.bayslot.get b = k := upd_get_same ..

theorem putBaySlot_get_other {b c : BayId} (h : b ≠ c) (k : BitVec 2) (s : State) :
    (putBaySlot b k s).img.bayslot.get c = s.img.bayslot.get c := upd_get_other _ _ _ _ h

/-- A named bay that is held takes the new plane and is released (R291). -/
theorem swapIn_bay (x : Swap) (l : List Nat) (b : BayId) (u : State) :
    let t := if inBays l b.val then releaseBay b (putBaySlot b x.slot u) else u
    Swapping u t ∧ (if inBays l b.val then (swapView t b).2 = x.slot ∧ (swapView t b).1.held = false ∧ (swapView t b).1.ffs = []
      else swapView t b = swapView u b) ∧ ∀ c, b ≠ c → swapView t c = swapView u c := by
  intro t
  by_cases h : inBays l b.val = true
  · obtain ⟨y, hy, hf, hh⟩ := releaseBay_eq b (putBaySlot b x.slot u)
    have ht : t = (putBaySlot b x.slot u).modBay b (fun _ => y) := (if_pos h).trans hy
    rw [if_pos h, ht]
    refine ⟨(putBaySlot_swapping ..).trans (modBay_swapping ..), ⟨putBaySlot_get .., ?_, ?_⟩, fun c hc => ?_⟩
    · exact (congrArg Bay.held (modBay_bay ..)).trans hh
    · exact (congrArg Bay.ffs (modBay_bay ..)).trans hf
    · exact Prod.ext (modBay_bay_other _ _ _ _ hc) (putBaySlot_get_other hc ..)
  · have ht : t = u := if_neg h
    rw [if_neg h, ht]
    exact ⟨.refl u, rfl, fun _ _ => rfl⟩

/-- A named bay goes back to its former slot (R294). -/
theorem revertBay_slot (x : Swap) (l : List Nat) (b : BayId) (u : State) :
    Swapping u (revertBay x l b u) ∧ (revertBay x l b u).img.bayslot.get b = x.oldSlot.get b ∧
      ∀ c, b ≠ c → (revertBay x l b u).img.bayslot.get c = u.img.bayslot.get c := by
  have hk : (nth x.oldSlot b.val).getD 0 = x.oldSlot.get b := by
    rw [nth, dif_pos b.isLt]
    rfl
  have put (v : State) (hs : Swapping (putBaySlot b (x.oldSlot.get b) u) v) (hv : v.img = (putBaySlot b (x.oldSlot.get b) u).img) :
      Swapping u v ∧ v.img.bayslot.get b = x.oldSlot.get b ∧ ∀ c, b ≠ c → v.img.bayslot.get c = u.img.bayslot.get c := by
    refine ⟨(putBaySlot_swapping ..).trans hs, ?_, fun c hc => ?_⟩
    · rw [hv, putBaySlot_get]
    · rw [hv, putBaySlot_get_other hc]
  unfold revertBay
  rw [hk]
  simp only
  split
  · exact put _ (.refl _) rfl
  · split
    · exact put _ (raise_reported ..).swapping (raise_img ..)
    · exact put _ (releaseBay_swapping ..).1 (releaseBay_swapping ..).2

/-! ### The release -/

theorem swapIn_each (x : Swap) (l : List Nat) (s : State) :
    let t := eachBay x.bays (fun b t => if inBays l b.val then releaseBay b (putBaySlot b x.slot t) else t) s
    Swapping s t ∧
      (∀ b : BayId, x.bays.getLsbD b.val = true → inBays l b.val = true →
        t.img.bayslot.get b = x.slot ∧ (t.bay b).held = false ∧ (t.bay b).ffs = []) ∧
      ∀ b : BayId, (x.bays.getLsbD b.val = false ∨ inBays l b.val = false) → t.img.bayslot.get b = s.img.bayslot.get b ∧
          t.bay b = s.bay b := by
  intro t
  obtain ⟨hs, hin, hout⟩ := foldl_each (get := swapView) (I := Swapping s) (m := fun b : BayId => x.bays.getLsbD b.val)
    (Q := fun b p q => if inBays l b.val then q.2 = x.slot ∧ q.1.held = false ∧ q.1.ffs = [] else q = p)
    (f := fun b t => if inBays l b.val then releaseBay b (putBaySlot b x.slot t) else t)
    (fun b u hu => ⟨hu.trans (swapIn_bay x l b u).1, (swapIn_bay x l b u).2⟩) (List.nodup_finRange 64) (Swapping.refl s)
  have same (b : BayId) (h : swapView t b = swapView s b) : t.img.bayslot.get b = s.img.bayslot.get b ∧ t.bay b = s.bay b :=
    ⟨congrArg Prod.snd h, congrArg Prod.fst h⟩
  refine ⟨hs, fun b hm hb => ?_, fun b hb => ?_⟩
  · have h := hin b (List.mem_finRange b) hm
    rw [if_pos hb] at h
    exact h
  · by_cases hm : x.bays.getLsbD b.val = true
    · have h := hin b (List.mem_finRange b) hm
      rw [if_neg (by simp [hb.resolve_left (by simp [hm])])] at h
      exact same b h
    · exact same b (hout b (.inr (by simpa using hm)))

theorem revert_each (x : Swap) (l : List Nat) (s : State) :
    Swapping s (eachBay x.bays (revertBay x l) s) ∧
      ∀ b : BayId, x.bays.getLsbD b.val = true → (eachBay x.bays (revertBay x l) s).img.bayslot.get b = x.oldSlot.get b := by
  obtain ⟨hs, hin, -⟩ := foldl_each (get := fun u b => u.img.bayslot.get b) (I := Swapping s) (m := fun b : BayId => x.bays.getLsbD b.val)
    (Q := fun b _ q => q = x.oldSlot.get b) (f := revertBay x l)
    (fun b u hu => ⟨hu.trans (revertBay_slot x l b u).1, (revertBay_slot x l b u).2⟩) (List.nodup_finRange 64) (Swapping.refl s)
  exact ⟨hs, fun b hb => hin b (List.mem_finRange b) hb⟩

/-- A swap whose frames load (R291). -/
theorem swapIn_ends {s : State} {x : Swap} (h : s.img.swap = some x) (l : List Nat) :
    (swapIn x l s).img.swap = some { x with rel := true } ∧ (swapIn x l s).store = s.store ∧ (swapIn x l s).hod = s.hod ∧
      (∀ b : BayId, x.bays.getLsbD b.val = true → inBays l b.val = true →
        (swapIn x l s).img.bayslot.get b = x.slot ∧ ((swapIn x l s).bay b).held = false ∧ ((swapIn x l s).bay b).ffs = []) ∧
      ∀ b : BayId, (x.bays.getLsbD b.val = false ∨ inBays l b.val = false) →
        (swapIn x l s).img.bayslot.get b = s.img.bayslot.get b ∧ (swapIn x l s).bay b = s.bay b := by
  obtain ⟨hs, hin, hout⟩ := swapIn_each x l s
  unfold swapIn
  generalize eachBay x.bays _ s = u at *
  exact ⟨congrArg (Option.map _) (hs.swap.trans h), hs.store, hs.hod, hin, hout⟩

/-- A swap of which a frame fails (R294). -/
theorem revertSwap_ends {s : State} {x : Swap} (h : s.img.swap = some x) (l : List Nat) (bay : Nat) :
    ∃ y, (revertSwap x l bay s).img.swap = some y ∧ y.rel = true ∧ (y.result = 2 ∨ y.result = 3) ∧ y.bay = BitVec.ofNat 6 bay ∧ y.left = 0 ∧
      (revertSwap x l bay s).store = s.store ∧ (revertSwap x l bay s).hod = s.hod ∧
      ∀ b : BayId, x.bays.getLsbD b.val = true → (revertSwap x l bay s).img.bayslot.get b = x.oldSlot.get b := by
  obtain ⟨hs, hslot⟩ := revert_each x l s
  have same {β : Type} (g : State → β) (hg : ∀ u i f, g (State.modS u i f) = g u) (u : State) :
      g (eachSet x.setters (fun i t => t.modS i (fun y => { y with shadow := none })) u) = g u := eachSet_same g (fun i u => hg u i _) _ u
  unfold revertSwap
  generalize eachBay x.bays (revertBay x l) s = u at *
  simp only
  generalize List.any l _ = left
  generalize hv : returnHold _ u = v
  generalize ht : eachSet _ _ v = t
  have himg : t.img = u.img := by rw [← ht, same State.img fun _ _ _ => rfl, ← hv]; rfl
  have hstore : t.store = u.store := by rw [← ht, same State.store fun _ _ _ => rfl, ← hv]; rfl
  have hhod : t.hod = u.hod := by rw [← ht, same State.hod fun _ _ _ => rfl, ← hv]; rfl
  have hswap : t.img.swap = some x := by rw [himg, hs.swap, h]
  refine ⟨_, congrArg (Option.map _) hswap, rfl, ?_, rfl, rfl, hstore.trans hs.store, hhod.trans hs.hod, fun b hb => ?_⟩
  · cases left
    · exact .inl rfl
    · exact .inr rfl
  · show t.img.bayslot.get b = _
    rw [himg, hslot b hb]

theorem swapRelease_in {s : State} {x : Swap} (h : s.img.swap = some x) (hr : x.rel = false)
    (hbad : badFrame (imgSlot s x.slot.toNat) (heldBays x s) = none) : exec .swapRelease s = .next (swapIn x (heldBays x s) s) := by
  refine congrArg Host.Outcome.next ?_
  simp only [h, hr, show badFrame (slotOf s.img x.slot.toNat) (heldBays x s) = none from hbad]
  rfl

theorem swapRelease_reverts {s : State} {x : Swap} (h : s.img.swap = some x) (hr : x.rel = false) {e : Nat × Nat × Nat}
    (hbad : badFrame (imgSlot s x.slot.toNat) (heldBays x s) = some e) :
    exec .swapRelease s = .next (revertSwap x (heldBays x s) e.2.1 s) := by
  refine congrArg Host.Outcome.next ?_
  simp only [h, hr, show badFrame (slotOf s.img x.slot.toNat) (heldBays x s) = some e from hbad]
  rfl

/-- The release of a swap (R291, R294). -/
theorem swapRelease_ends {s : State} {x : Swap} (h : s.img.swap = some x) (hr : x.rel = false) :
    let l := (List.finRange 64).filter (fun b => x.bays.getLsbD b.val && (s.bay b).held)
    ∃ t y, exec .swapRelease s = .next t ∧ t.img.swap = some y ∧ y.rel = true ∧ t.store = s.store ∧ t.hod = s.hod ∧
      (badFrame (imgSlot s x.slot.toNat) (l.map (·.val)) = none → y = { x with rel := true } ∧
        (∀ b, b ∈ l → t.img.bayslot.get b = x.slot ∧ (t.bay b).held = false ∧ (t.bay b).ffs = []) ∧
        (∀ b, b ∉ l → t.img.bayslot.get b = s.img.bayslot.get b ∧ t.bay b = s.bay b)) ∧
      (∀ e, badFrame (imgSlot s x.slot.toNat) (l.map (·.val)) = some e →
        (y.result = 2 ∨ y.result = 3) ∧ y.bay = BitVec.ofNat 6 e.2.1 ∧ y.left = 0 ∧
        ∀ b, x.bays.getLsbD b.val = true → t.img.bayslot.get b = x.oldSlot.get b) := by
  intro l
  have hmem (b : BayId) : b ∈ l ↔ x.bays.getLsbD b.val = true ∧ inBays (heldBays x s) b.val = true := by
    rw [inBays_heldBays, List.mem_filter, Bool.and_eq_true]
    simp
  rw [← heldBays_eq]
  cases hbad : badFrame (imgSlot s x.slot.toNat) (heldBays x s) with
  | none =>
    obtain ⟨hswap, hstore, hhod, hin, hout⟩ := swapIn_ends h (heldBays x s)
    refine ⟨_, _, swapRelease_in h hr hbad, hswap, rfl, hstore, hhod, fun _ => ⟨rfl, fun b hb => ?_, fun b hb => hout b ?_⟩, nofun⟩
    · obtain ⟨hm, hl⟩ := (hmem b).mp hb
      exact hin b hm hl
    · rw [hmem] at hb
      cases hm : x.bays.getLsbD b.val
      · exact .inl rfl
      · exact .inr (by simpa [hm] using hb)
  | some e =>
    obtain ⟨y, hswap, hrel, hres, hbay, hleft, hstore, hhod, hslot⟩ := revertSwap_ends h (heldBays x s) e.2.1
    refine ⟨_, y, swapRelease_reverts h hr hbad, hswap, hrel, hstore, hhod, nofun, ?_⟩
    rintro _ ⟨⟩
    exact ⟨hres, hbay, hleft, hslot⟩

/-! ### The transfer and the end -/

/-- The shadow banks of the setters named are filled, and nothing else (R293). -/
theorem fillShadow_each (x : Swap) (m : BitVec 16) (s : State) :
    let t := eachSet m (fillShadow x) s
    t = { s with setters := t.setters } ∧ (∀ i : SetterId, m.getLsbD i.val = true → ∃ z, t.st i = { s.st i with shadow := some z }) ∧
      ∀ i : SetterId, m.getLsbD i.val = false → t.st i = s.st i := by
  have step (i : SetterId) (u : State) (hu : u = { s with setters := u.setters }) :
      fillShadow x i u = { s with setters := (fillShadow x i u).setters } ∧
          (∃ z, (fillShadow x i u).st i = { u.st i with shadow := some z }) ∧
        ∀ j, i ≠ j → (fillShadow x i u).st j = u.st j :=
    ⟨congrArg (fun w : State => { w with setters := (fillShadow x i u).setters }) hu, ⟨_, State.modS_st ..⟩,
      fun j hj => State.putS_st_other _ _ _ _ hj⟩
  obtain ⟨hs, hin, hout⟩ := foldl_each (get := State.st) (I := fun u => u = { s with setters := u.setters })
    (m := fun i : SetterId => m.getLsbD i.val) (Q := fun _ p q => ∃ z, q =
        { p with shadow := some z }) step (List.nodup_finRange 16) (s := s) rfl
  exact ⟨hs, fun i hi => hin i (List.mem_finRange i) hi, fun i hi => hout i (.inr hi)⟩

theorem swapTransfer_fills {s : State} {x : Swap} (h : s.img.swap = some x) (hm : x.moved = false) (hl : x.left ≠ 0) :
    ∃ t, exec .swapSetterTransferDone s = .next t ∧
      t = { s with setters := t.setters, img := { s.img with swap := some { x with moved := true } } } ∧
      (∀ i, x.left.getLsbD i.val = true → ∃ z, (t.st i).shadow = some z ∧ t.st i = { s.st i with shadow := some z }) ∧
      (∀ i, x.left.getLsbD i.val = false → t.st i = s.st i) := by
  have hexec : exec .swapSetterTransferDone s = .next (modSwap (fun w => { w with moved := true }) (eachSet x.left (fillShadow x) s)) := by
    refine congrArg Host.Outcome.next ?_
    simp only [h, hm]
    exact if_neg (by rw [Bool.false_or, beq_iff_eq]; exact hl)
  obtain ⟨hs, hin, hout⟩ := fillShadow_each x x.left s
  refine ⟨_, hexec, ?_, fun i hi => ?_, hout⟩
  · conv_lhs => rw [hs]
    unfold modSwap modImg
    simp only [h]
    rfl
  · obtain ⟨z, hz⟩ := hin i hi
    exact ⟨z, congrArg Setter.shadow hz, hz⟩

theorem swapEnd_ends {s : State} {x : Swap} (h : s.img.swap = some x) (hr : x.rel = true) (hl : x.left = 0) :
    ∃ t, exec .swapEnd s = .next t ∧ t.img = { s.img with swap := none, swResult := x.result, swBay := x.bay } ∧ pendBit t 612 = true ∧
      t.bays = s.bays ∧ t.store = s.store ∧ t.hod = s.hod := by
  let u := modImg (fun i => { i with swap := none, swResult := x.result, swBay := x.bay }) s
  have hlog := logRec_reported 0x0041 (if x.result = 1 then 0 else 2) 612 (swStat u.img) 0 (raise 612 u)
  have hall := (raise_reported ..).trans hlog
  have hexec : exec .swapEnd s = .next (logRec 0x0041 (if x.result = 1 then 0 else 2) 612 (swStat u.img) 0 (raise 612 u)) := by
    refine congrArg Host.Outcome.next ?_
    simp only [h, hr, hl]
    rfl
  exact ⟨_, hexec, hall.img, hlog.raised (by decide), hall.bays, hall.store, hall.hod⟩

/-! ### The statement -/

/-- Settles O47: each clause is the lemma on its instruction. -/
theorem swapsAndRepointers : Obligations.SwapsAndRepointers := by
  unfold Obligations.SwapsAndRepointers
  intro s x w m v c y b f k
  refine ⟨swapRelease_ends, swapTransfer_fills, swapEnd_ends, fun hr ha hen hb => ⟨fun hp => ⟨fun hu => ?_, fun hf q hq e he => ?_⟩,
    fun h3 hp => ?_⟩, heartbeat_restarts, fun h => ⟨fun hm ha => ?_, rptCtrlWrite_other h⟩⟩
  · exact visit_sound hr ha hen hb hp hu
  · rw [visit_upset hr ha hen hb hp hf hq he, countRow_moved1]
    rfl
  · exact visit_planeErr hr ha hen hb rfl rfl h3 hp
  · rw [rptCtrlWrite_plinth h hm, rptWrite_agree v ha]

end Sys2Proof.Proofs
end

section
/-! PROOFS. The live-mask checker and the bay joints (R139, R140, R143): what parity, neighbour and a change of one joint come to; and the
statement BayTraffic. -/

namespace Sys2Proof.Proofs
open Sys2Proof Sys2Proof.Machine Sys2Proof.Claims

/-! ### The checker -/

/-- Bits combined one after another give 1 where an odd number of them is 1. -/
theorem foldl_xor_range (f : Nat → Bool) (n : Nat) :
    (List.range n).foldl (fun p i => xor p (f i)) false = decide ((List.range n).countP f % 2 = 1) := by
  induction n with
  | zero => rfl
  | succ n ih =>
    rw [List.range_succ, List.foldl_append, List.foldl_cons, List.foldl_nil, ih, List.countP_append, List.countP_singleton]
    cases f n
    · simp
    · simp only [if_true, Bool.xor_true, ← decide_not, decide_eq_decide]
      omega

theorem maskBad_iff (m : BitVec 17) : maskBad m = true ↔ oddMask m := by
  have low : parity16 (field m 15 0) = decide ((List.range 16).countP (fun i => m.getLsbD i) % 2 = 1) := by
    rw [← foldl_xor_range]
    refine List.foldl_ext _ _ _ fun p i hi => ?_
    have hi : i < 16 := List.mem_range.1 hi
    rw [field, BitVec.getLsbD_extractLsb', Nat.zero_add, decide_eq_true (show i < 15 - 0 + 1 by omega), Bool.true_and]
  rw [maskBad, low, ← foldl_xor_range, oddMask, ← decide_eq_true_iff (p := _ % 2 = 1), ← foldl_xor_range, List.range_succ (n := 16),
    List.foldl_append]
  rfl

theorem runs_iff (x : Bay) : x.runs = true ↔ Running x := by
  simp [Bay.runs, Running, and_assoc]

theorem exec_liveMaskCheck {b : BayId} {s : State} (h : s.img.hold = false) : exec (.liveMaskCheck b) s =
    .next (if (s.bay b).runs && maskBad (maskOf (s.bay b) (s.bay b).chk.toNat) && !(s.bay b).lrep.contains (s.bay b).chk.toNat then
      reportFault 5 b.val 1 (raise (256 + 8 * ownerSetter b (s.bay b) (s.bay b).chk.toNat + 2)
        ((s.modBay b fun y => { y with chk := y.chk + 1 }).modBay b (·.report (s.bay b).chk.toNat)))
    else s.modBay b fun y => { y with chk := y.chk + 1 }) :=
  congrArg Host.Outcome.next (if_neg (by simp [h]))

/-- What the checker looks for at its course. -/
theorem check_iff (x : Bay) (c : Nat) : (x.runs && maskBad (maskOf x c) && !x.lrep.contains c) = true ↔
    Running x ∧ oddMask ((kvGet x.lmask c).getD 0) ∧ c ∉ x.lrep := by
  simp [runs_iff, maskBad_iff, maskOf, and_assoc]

/-! ### The joints -/

theorem gridOf_eq (b : BayId) : gridOf b = (bayCol b.val, bayRow b.val) := by
  simp only [gridOf, bayCol, bayRow, Nat.div_div_eq_div_mul]

theorem gridOf_lt (b : BayId) : bayCol b.val < 8 ∧ bayRow b.val < 8 := by
  have hb := b.isLt
  unfold bayCol bayRow
  omega

/-- A place of the grid is the bay that stands there. -/
theorem bayAt_iff {c r : Nat} (hc : c < 8) (d : BayId) : bayAt c r = d.val ↔ bayCol d.val = c ∧ bayRow d.val = r := by
  have hd := d.isLt
  unfold bayAt bayCol bayRow
  omega

theorem bayAt_lt {c r : Nat} (hc : c < 8) (hr : r < 8) : bayAt c r < 64 := by
  unfold bayAt
  omega

/-- A step on the grid, unless it leaves it. -/
theorem gridStep_iff {p : Prop} [Decidable p] {c r : Nat} (hc : ¬p → c < 8) (d : BayId) :
    (if p then none else some (bayAt c r)) = some d.val ↔ ¬p ∧ bayCol d.val = c ∧ bayRow d.val = r := by
  by_cases hp : p
  · simp [hp]
  · rw [if_neg hp, Option.some.injEq, bayAt_iff (hc hp)]
    simp [hp]

theorem gridStep_lt {p : Prop} [Decidable p] {c r n : Nat} (hc : ¬p → c < 8 ∧ r < 8)
    (h : (if p then none else some (bayAt c r)) = some n) : n < 64 := by
  by_cases hp : p
  · simp [hp] at h
  · rw [if_neg hp, Option.some.injEq] at h
    exact h ▸ bayAt_lt (hc hp).1 (hc hp).2

theorem neighbour_iff (b d : BayId) (dir : Dir) : neighbour b.val dir = some d.val ↔ Adjacent b dir d := by
  obtain ⟨hb, -⟩ := gridOf_lt b
  obtain ⟨hd, hr⟩ := gridOf_lt d
  cases dir <;> simp only [Adjacent, gridOf_eq] <;> refine (gridStep_iff (fun _ => by omega) d).trans ?_ <;> omega

theorem neighbour_lt {b : BayId} {dir : Dir} {n : Nat} (h : neighbour b.val dir = some n) : n < 64 := by
  obtain ⟨hb, hr⟩ := gridOf_lt b
  cases dir <;> exact gridStep_lt (fun _ => by omega) h

/-- A change of a joint is known from what it does to the joint that stands there. -/
theorem withJoint_congr {x : Bay} {dir : Dir} {j : Fin 8} {f g : Joint → Joint} (h : f (jointOf x dir j) = g (jointOf x dir j)) :
    withJoint x dir j f = withJoint x dir j g := by
  unfold jointOf nth at h
  unfold withJoint nthUpd updf
  split
  · next hn =>
    rw [dif_pos hn, Option.getD_some] at h
    rw [h]
  · rfl

theorem withJoint_id (x : Bay) (dir : Dir) (j : Fin 8) : withJoint x dir j id = x := by
  unfold withJoint nthUpd updf
  simp

theorem modJoint_changed {b : BayId} {dir : Dir} {j : Fin 8} {f : Joint → Joint} {s : State} (g : Joint → Joint)
    (h : f (jointOf (s.bay b) dir j) = g (jointOf (s.bay b) dir j)) :
    modJoint b (jointNo dir j) f s = s.modBay b fun _ => withJoint (s.bay b) dir j g :=
  (modBay_eq s b fun x => withJoint x dir j f).trans (by rw [withJoint_congr h])

theorem modJoint_same {b : BayId} {dir : Dir} {j : Fin 8} {f : Joint → Joint} {s : State}
    (h : f (jointOf (s.bay b) dir j) = jointOf (s.bay b) dir j) : modJoint b (jointNo dir j) f s = s := by
  rw [modJoint_changed id h, withJoint_id]
  show { s with bays := upd s.bays b (s.bays.get b) } = s
  rw [upd_self]

theorem sendEdge_held {s : State} {b : BayId} {n : Nat} (h : ¬Running (s.bay b) ∨ s.img.hold = true) : sendEdge s b n = false := by
  rw [← runs_iff] at h
  unfold sendEdge
  rcases h with h | h <;> simp [h]

section
variable {s : State} {b d : BayId} {dir : Dir} {j : Fin 8} {v : Word}

theorem exec_bayJointSend_none (h : neighbour b.val dir = none) : exec (.bayJointSend b dir j v) s = .next s := by
  show execBayJointSend b dir j v s = _
  simp only [execBayJointSend, h]

theorem exec_bayJointSend (h : Adjacent b dir d) : exec (.bayJointSend b dir j v) s = .next (if sendEdge s b (jointNo dir j) then
    modJoint b (jointNo dir j) (fun x => if x.busy then x else { x with busy := true, flight := some v }) s else s) := by
  show execBayJointSend b dir j v s = _
  simp only [execBayJointSend, (neighbour_iff b d dir).2 h]

theorem exec_bayJointSend_still (h : sendEdge s b (jointNo dir j) = false) : exec (.bayJointSend b dir j v) s = .next s := by
  cases hn : neighbour b.val dir with
  | none => exact exec_bayJointSend_none hn
  | some n =>
    rw [exec_bayJointSend (d := ⟨n, neighbour_lt hn⟩) ((neighbour_iff ..).1 hn), if_neg (by simp [h])]

theorem exec_bayJointArrival (h : Adjacent b dir d) : exec (.bayJointArrival b dir j) s =
    .next (if (s.bay d).runs && !landEdge s d.val (jointNo dir j) then s
      else if (s.bay d).runs then
        modJoint b (jointNo dir j) (fun x =>
          match x.flight with
          | some v => { x with flight := none, out := v, arrived := true, ack := true }
          | none => x) s
      else modJoint b (jointNo dir j) (fun x => if x.flight.isSome then { x with flight := none, ack := true } else x) s) := by
  show execBayJointArrival b dir j s = _
  simp only [execBayJointArrival, (neighbour_iff b d dir).2 h, Option.bind_some, bayN_val, Option.map_some] <;> rfl

end

/-- Settles O25: the checker reports at its course what it had not reported, and a joint changes only what stands at its place. -/
theorem bayTraffic : Obligations.BayTraffic := by
  unfold Obligations.BayTraffic
  intro s b dir j v x c m y q
  refine ⟨?quiet, ?reports, sendEdge_held, exec_bayJointSend_still, ?send, ?edge, fun d hd hq => ⟨?stands, ?lands, ?discarded⟩,
    ⟨?acknowledged, ?noEdge⟩⟩
  case quiet =>
    intro h hn
    rw [exec_liveMaskCheck h, if_neg (mt (check_iff x c).1 hn)]
    rfl
  case reports =>
    intro h hr ho hc
    rw [exec_liveMaskCheck h, if_pos ((check_iff x c).2 ⟨hr, ho, hc⟩), modBay_eq s b fun y => { y with chk := y.chk + 1 }, modBay_modBay]
    rfl
  case send =>
    intro d hd he
    rw [exec_bayJointSend hd, if_pos he]
    by_cases hb : q.busy = true
    · rw [if_pos hb]
      exact congrArg _ (modJoint_same (if_pos hb))
    · rw [if_neg hb]
      exact congrArg _ (modJoint_changed _ (if_neg hb))
  case edge =>
    intro h
    refine exec_bayJointSend_none (Option.eq_none_iff_forall_ne_some.2 fun n hn => ?_)
    exact h ⟨n, neighbour_lt hn⟩ ((neighbour_iff ..).1 hn)
  case stands =>
    intro hr he
    rw [exec_bayJointArrival hd, if_pos (by simp [(runs_iff _).2 hr, he])]
  case lands =>
    intro hr he
    rw [exec_bayJointArrival hd, if_neg (by simp [he]), if_pos ((runs_iff _).2 hr), modJoint_changed]
    simp only [show (jointOf (s.bay b) dir j).flight = some v from hq]
  case discarded =>
    intro hr
    have hr : ¬(s.bay d).runs = true := mt (runs_iff _).1 hr
    rw [exec_bayJointArrival hd, if_neg (by simp [hr]), if_neg hr, modJoint_changed]
    exact if_pos (by rw [show (jointOf (s.bay b) dir j).flight = some v from hq]; rfl)
  case acknowledged =>
    intro hq he
    show execBayJointAck b dir j s = _
    unfold execBayJointAck
    rw [if_neg (by simp [he])]
    exact congrArg _ (modJoint_changed _ (if_pos hq))
  case noEdge =>
    intro he
    exact congrArg Host.Outcome.next (if_pos (by simp [he]))

end Sys2Proof.Proofs
end

section
/-! PROOFS. Pins (R157 to R163, R280, R331, R372, R380, R384, R388): the register write of a pin, HALT_N and VIO; the row of R163, said once
for each condition, with the drive and the level that follow from it; and the statement Pins. -/

namespace Sys2Proof.Proofs
open Sys2Proof Sys2Proof.Machine Sys2Proof.Claims

/-! ### Bank registers -/

theorem blockAddr_iob (k : Bank) (off : Nat) : blockAddr (.iob k) off = off + (0x30000000 + 0x1000 * k.val) := rfl

theorem placeOf_iob (k : Bank) {off : Nat} (h : off < 0x1000) : placeOf (blockAddr (.iob k) off) = .reg (.iob k) off := by
  have hk := k.isLt
  have ha := blockAddr_iob k off
  rw [placeOf, if_neg (by omega), if_neg (by omega), if_neg (by omega), dif_neg (by omega), dif_neg (by omega), dif_pos (by omega)]
  simp only [Place.reg.injEq, Block.iob.injEq, Fin.ext_iff]
  omega

/-- The state with a bank put. -/
def withBank (s : State) (k : Bank) (y : IoBank) : State := { s with io := { s.io with bank := s.io.bank.set k.val y k.isLt } }

theorem modBank_eq (k : Bank) (f : IoBank → IoBank) (s : State) : modBank k f s = withBank s k (f (s.io.bank.get k)) := rfl

theorem nthUpd_fin {α : Type} {n : Nat} (v : Vector α n) (i : Fin n) (f : α → α) : nthUpd v i.val f = v.set i.val (f (v.get i)) i.isLt :=
  dif_pos i.isLt

/-- IOB_PINi: the bits that are not locked, after the keepers took what is on their balls (R8, R157, R388). -/
theorem writeIob_pin (k : Bank) (i : PinId) (v : Word) (s : State) : writeIob k (0x100 + 4 * i.val) v s =
    some (withBank (keeping s (latchKeepers s).io.keeper) k { s.io.bank.get k with
      pin := (s.io.bank.get k).pin.set i.val (maskWrite (pinMask s.img.locked) ((s.io.bank.get k).pin.get i) v) i.isLt }) := by
  have hi := i.isLt
  have at_ : (0x100 + 4 * i.val - 0x100) / 4 = i.val := by omega
  unfold writeIob
  simp only
  rw [if_neg (by omega), if_neg (by omega), if_neg (by omega), if_pos (by omega), at_, latchKeepers_eq, modBank_eq, nthUpd_fin]
  rfl

theorem pinOptionWrite_writes {s : State} {m : Master} {k : Bank} {i : PinId} {v : Word}
    (h : RegOpen s m.val (.iob k) (0x100 + 4 * i.val) true) : exec (.pinOptionWrite m k i v) s =
    .next (answeredOk m.val [] (withBank (keeping { s with free := s.free + 2 } (latchKeepers { s with free := s.free + 2 }).io.keeper) k
      { s.io.bank.get k with
        pin := (s.io.bank.get k).pin.set i.val (maskWrite (pinMask s.img.locked) ((s.io.bank.get k).pin.get i) v) i.isLt })) := by
  have hi := i.isLt
  have hk := k.isLt
  exact congrArg Host.Outcome.next (writeAs_open (regOpen_free h _) (placeOf_iob k (by omega)) (by rw [blockAddr_iob]; omega)
    (writeIob_pin k i v { s with free := s.free + 2 }))

theorem exec_bitslip (k : Bank) (i : PinId) (s : State) : exec (.bitslip k i) s =
    .next (if (field (pinCfg s (22 * k.val + i.val)) 21 20).toNat = 0 then s
      else withBank s k { s.io.bank.get k with slip := (s.io.bank.get k).slip.set i.val (BitVec.ofNat 3
        ((((s.io.bank.get k).slip.get i).toNat + 1) % 2 ^ (field (pinCfg s (22 * k.val + i.val)) 21 20).toNat)) i.isLt }) := by
  rw [Nat.mul_comm]
  rfl

/-! ### HALT_N and VIO -/

theorem vio4_iff (s : State) : vio4 s = true ↔ (s.io.bank.get 4).band ≠ none := Option.isSome_iff_ne_none

theorem haltSlice_none {s : State} (h : s.bst.slice = none) : haltSlice s = s := by
  simp only [haltSlice, sliceBlock, h, Option.bind_none]

theorem exec_haltAssert {s : State} (hh : s.io.halt = false) (hv : vio4 s = true) (hs : s.bst.slice = none) :
    exec .haltAssert s = .next (raise 623 { keeping s (latchKeepers s).io.keeper with
      io := { s.io with keeper := (latchKeepers s).io.keeper, halt := true, haltW := BitVec.allOnes 132 } }) := by
  show execHaltAssert s = _
  unfold execHaltAssert
  rw [if_neg (by simp [hh, hv]), latchKeepers_eq]
  exact congrArg _ (haltSlice_none (by rw [raise_bst]; exact hs))

theorem exec_vioLoss (k : Bank) (s : State) : ∃ w, KeepersTake (withBank s k { s.io.bank.get k with band := none }) w ∧
    exec (.vioLoss k) s =
      .next (if s.io.halt && !vio4 (withBank s k { s.io.bank.get k with band := none }) then
        haltOff (keeping (withBank s k { s.io.bank.get k with band := none }) w)
      else keeping (withBank s k { s.io.bank.get k with band := none }) w) := by
  refine ⟨_, keepersTake_latch _, ?_⟩
  show execVioLoss k s = _
  unfold execVioLoss
  rw [latchKeepers_eq, modBank_eq]
  rfl

theorem vio4_withBank (s : State) (k : Bank) (y : IoBank) : vio4 (withBank s k y) = if k = 4 then y.band.isSome else vio4 s := by
  show (((upd s.io.bank k y).get 4).band).isSome = _
  rw [upd_get]
  split <;> rfl

/-- Bits cleared where a condition fails. -/
theorem foldl_clear_get {w n : Nat} (f : Nat → Bool) (v : BitVec w) (hn : n ≤ w) (p : Nat) :
    ((List.range n).foldl (fun v p => if f p then v else setBit v p false) v).getLsbD p = (v.getLsbD p && (f p || decide (n ≤ p))) := by
  induction n with
  | zero => simp
  | succ n ih =>
    rw [List.range_succ, List.foldl_append, List.foldl_cons, List.foldl_nil]
    by_cases hp : p = n
    · subst hp
      cases hf : f p
      · simp [setBit_get _ _ _ _ (show p < w by omega)]
      · simp [ih (by omega), hf]
    · have hle : decide (n + 1 ≤ p) = decide (n ≤ p) := by
        rw [decide_eq_decide]
        omega
      rw [hle, ← ih (by omega)]
      split
      · rfl
      · rw [setBit_get _ _ _ _ (show n < w by omega), if_neg hp]

theorem keepOwned_get (s : State) (w : BitVec 132) {p : Nat} (h : p < 132) :
    (keepOwned s w).getLsbD p = (w.getLsbD p && ownedByRunning s p) := by
  rw [keepOwned, foldl_clear_get _ _ (le_refl 132), decide_eq_false (by omega), Bool.or_false]

/-! ### The row of R163 -/

/-- The bank gives its pins a supply, and the device is past stage 1 (R163 row 1, R331, R349, R384). -/
def Supplied (s : State) (b : IoBank) : Prop :=
  b.band ≠ none ∧ ¬(∃ v, b.band = some v ∧ v.toNat < b.vio.toNat ∧ b.inEffect = true) ∧ s.pwr.stage ≠ .off ∧ s.pwr.stage ≠ .ao

theorem lost_iff (b : IoBank) :
    b.lost = true ↔ b.band = none ∨ ∃ v, b.band = some v ∧ v.toNat < b.vio.toNat ∧ b.inEffect = true := by
  unfold IoBank.lost
  cases b.band <;> simp [and_comm]

theorem supplied_iff (s : State) (b : IoBank) : (b.lost || s.pwr.stage == .off || s.pwr.stage == .ao) = true ↔ ¬Supplied s b := by
  simp only [Bool.or_eq_true, lost_iff, beq_iff_eq, Supplied, ne_eq, not_and_or, not_not, or_assoc]

/-- HALT_N holds the pin at its safe value, or has held it and the pin has not returned (R162). -/
def HaltHolds (s : State) (p : Nat) : Prop := s.io.halt = true ∨ s.io.haltW.getLsbD (pinEntry s p) = true

/-- A boundary-scan instruction has the balls (R371, R373). -/
def Scanning (s : State) : Prop := s.tap.ir = 0 ∨ s.tap.ir = 3 ∨ s.tap.ir = 4

theorem scanControls_iff (s : State) : scanControls s = true ↔ Scanning s := by
  simp [scanControls, Scanning, or_assoc]

section Row
variable {s : State} {p : Nat} {b : IoBank} (hb : nth s.io.bank (p / 22) = some b)
include hb

theorem pinRow_eq : pinRow s p =
    if b.lost || s.pwr.stage == .off || s.pwr.stage == .ao then 1
    else if s.io.trip && pinLive s p then 2
    else if (s.io.halt || s.io.haltW.getLsbD (pinEntry s p)) && pinLive s p then 3
    else if scanControls s then 4
    else if !pinLive s p then 5
    else if padTest s p then 8
    else if pinHold s p then 6
    else 7 := by
  simp only [pinRow, pinBank, hb]

theorem pinRow_unsupplied (h : ¬Supplied s b) : pinRow s p = 1 := by
  rw [pinRow_eq hb, if_pos ((supplied_iff s b).2 h)]

/-- The rows below the first. -/
theorem pinRow_supplied (h : Supplied s b) : pinRow s p =
    if s.io.trip && pinLive s p then 2
    else if (s.io.halt || s.io.haltW.getLsbD (pinEntry s p)) && pinLive s p then 3
    else if scanControls s then 4
    else if !pinLive s p then 5
    else if padTest s p then 8
    else if pinHold s p then 6
    else 7 := by
  rw [pinRow_eq hb, if_neg (mt (supplied_iff s b).1 (not_not_intro h))]

theorem pinRow_ne_one (h : Supplied s b) : pinRow s p ≠ 1 := by
  rw [pinRow_supplied hb h]
  split_ifs <;> decide

theorem pinRow_trip (h : Supplied s b) (hl : pinLive s p = true) (ht : s.io.trip = true) : pinRow s p = 2 := by
  rw [pinRow_supplied hb h, if_pos (by simp [hl, ht])]

theorem pinRow_halt (h : Supplied s b) (hl : pinLive s p = true) (ht : s.io.trip = false) (hh : HaltHolds s p) : pinRow s p = 3 := by
  rw [pinRow_supplied hb h, if_neg (by simp [ht]), if_pos]
  rw [Bool.and_eq_true, Bool.or_eq_true]
  exact ⟨hh, hl⟩

/-- Below rows 2 and 3, which only a live pin can meet. -/
theorem pinRow_unforced (h : Supplied s b) (hf : pinLive s p = false ∨ (s.io.trip = false ∧ ¬HaltHolds s p)) : pinRow s p =
    if scanControls s then 4 else if !pinLive s p then 5 else if padTest s p then 8 else if pinHold s p then 6 else 7 := by
  rw [pinRow_supplied hb h]
  rcases hf with hl | ⟨ht, hh⟩
  · rw [if_neg (by simp [hl]), if_neg (by simp [hl])]
  · rw [if_neg (by simp [ht]), if_neg]
    rw [Bool.and_eq_true, Bool.or_eq_true]
    exact fun e => hh e.1

theorem pinRow_scan (h : Supplied s b) (hf : pinLive s p = false ∨ (s.io.trip = false ∧ ¬HaltHolds s p)) (hs : Scanning s) :
    pinRow s p = 4 := by
  rw [pinRow_unforced hb h hf, if_pos ((scanControls_iff s).2 hs)]

theorem pinRow_unconfigured (h : Supplied s b) (hl : pinLive s p = false) (hs : ¬Scanning s) : pinRow s p = 5 := by
  rw [pinRow_unforced hb h (.inl hl), if_neg (mt (scanControls_iff s).1 hs), if_pos (by simp [hl])]

/-- A live pin that nothing above row 6 takes. -/
theorem pinRow_live (h : Supplied s b) (hl : pinLive s p = true) (ht : s.io.trip = false) (hh : ¬HaltHolds s p) (hs : ¬Scanning s) :
    pinRow s p = if padTest s p then 8 else if pinHold s p then 6 else 7 := by
  rw [pinRow_unforced hb h (.inr ⟨ht, hh⟩), if_neg (mt (scanControls_iff s).1 hs), if_neg (by simp [hl])]

end Row

/-! ### Drives and levels -/

/-- A pin whose driver is off (R157, R159, R388). -/
theorem idleDrive_eq (s : State) (p : Nat) : idleDrive s p = if (pinCfg s p).getLsbD 23 then .off else
    match (field (pinCfg s p) 13 12).toNat with
    | 1 => .weak true
    | 2 => .weak false
    | 3 => .keeper (s.io.keeper.getLsbD p)
    | _ => .off := by
  unfold idleDrive pinPull
  cases (pinCfg s p).getLsbD 23 <;> rfl

/-- The safe value (R161). -/
theorem safeDrive_eq (s : State) (p : Nat) : safeDrive s p = match (field (pinCfg s p) 31 30).toNat with
    | 0 => .level (decide (pinEntry s p ≠ p))
    | 1 => if (pinCfg s p).getLsbD 19 && !(pinCfg s p).getLsbD 23 then idleDrive s p else .level (decide (pinEntry s p = p))
    | _ => idleDrive s p := by
  have complement : (pinEntry s p != p) = decide (pinEntry s p ≠ p) := by
    by_cases h : pinEntry s p = p <;> simp [h]
  unfold safeDrive safeDrives pinSafe openDrain
  rw [complement]
  rcases (field (pinCfg s p) 31 30).toNat with _ | _ | n
  · simp
  · cases (pinCfg s p).getLsbD 19 && !(pinCfg s p).getLsbD 23 <;> simp
  · rfl

/-- What drives a pin in a row, fabric's drive being as its nets have it. -/
theorem pinDrive_of_row {s : State} {p n : Nat} : pinRow s p = n → pinDrive s p = match n with
    | 2 => safeDrive s p
    | 3 => safeDrive s p
    | 4 => scanDrive s p
    | 5 => weakPull s p
    | 6 => if (pinCfg s p).getLsbD 29 then safeDrive s p else keptDrive s p
    | 7 => fabDrive s p (fabricLevel s p) (fabricOn s p)
    | 8 => .free
    | _ => .off := by
  rintro rfl
  rfl

theorem pinLevel_row1 {s : State} {p : Nat} (h : pinRow s p = 1) : pinLevel s p = false := by
  rw [pinLevel, inputLevel, h]
  rfl

theorem pinLevel_ball {s : State} {p : Nat} (h : pinRow s p ≠ 1) : pinLevel s p = ballLevel s p (pinDrive s p) := by
  rw [pinLevel, inputLevel, bne_iff_ne.2 h, Bool.true_and]

/-- On a ball that the board drives, a pin whose driver is off reads the board. -/
theorem ballLevel_board {s : State} {p : Nat} {d : PinDrive} (hb : Config.boardDrives s.free p = true) (hd : ∀ v, d ≠ .level v) :
    ballLevel s p d = Config.boardLevel s.free p := by
  cases d with
  | level v => exact absurd rfl (hd v)
  | free => rfl
  | off | weak up | keeper v => simp [ballLevel, onBall, hb]

/-- On a ball that nothing drives, a pull or a keeper gives the level (R388). -/
theorem ballLevel_alone {s : State} {p : Nat} (hb : Config.boardDrives s.free p = false) (v : Bool) :
    ballLevel s p (.weak v) = v ∧ ballLevel s p (.keeper v) = v := by
  simp [ballLevel, onBall, hb]

/-- Settles O27: the commands of the pins by their own lemmas, then each row of R163 under its conditions. -/
theorem pins : Obligations.Pins := by
  unfold Obligations.Pins
  constructor
  · intro s m k i v bk put gone moment mask ser
    refine ⟨fun h => ⟨_, keepersTake_latch moment, pinOptionWrite_writes h⟩, fun h => ?slip, fun h => ?noSlip, fun hh hv hs =>
      ⟨_, keepersTake_latch s, exec_haltAssert hh ((vio4_iff s).2 hv) hs⟩, fun h => ?unsensed, fun h => ?released, ?returns, fun h => ?lost,
      fun hh hk => ?lost4, fun band => rfl⟩
    case slip =>
      rw [exec_bitslip, if_neg h]
      rfl
    case noSlip => rw [exec_bitslip, if_pos h]
    case unsensed =>
      have hv : vio4 s = false := by rw [vio4, h]; rfl
      exact congrArg Host.Outcome.next (if_pos (by simp [hv]))
    case released => exact congrArg Host.Outcome.next (if_pos h)
    case returns =>
      refine ⟨_, _, rfl, fun h => if_pos h, fun p hp => ⟨fun h => ?_, keepOwned_get s _ hp⟩⟩
      rw [if_neg (by simp [h]), keepOwned_get s _ hp]
    case lost =>
      obtain ⟨w, hw, he⟩ := exec_vioLoss k s
      refine ⟨w, hw, he.trans (congrArg _ (if_neg ?_))⟩
      rw [vio4_withBank]
      rcases h with ⟨hk, hv⟩ | hh
      · simp [hk, (vio4_iff s).2 hv]
      · simp [hh]
    case lost4 =>
      obtain ⟨w, hw, he⟩ := exec_vioLoss k s
      refine ⟨w, hw, he.trans (congrArg _ (if_pos ?_))⟩
      rw [vio4_withBank, if_pos hk, hh]
      rfl
  · intro s p bk hp hb port stop low on conf drain idles free fabric
    have hidle : idleDrive s p = idles := idleDrive_eq s p
    have complement : (pinEntry s p != p) = decide (pinEntry s p ≠ p) := by
      by_cases h : pinEntry s p = p <;> simp [h]
    refine ⟨fun h => ?row1, fun h hl ht => ?row2, fun h hl ht hs => ?row3, fun h hf hs => ?row4, fun h hl hs => ?row5, fun h ht => ?row8,
      fun h hh => ?row6, fun h hh => ?row7, hidle ▸ safeDrive_eq s p, fun h => ?level⟩
    case row1 =>
      have hr := pinRow_unsupplied hb h
      exact ⟨hr, pinDrive_of_row hr, pinLevel_row1 hr⟩
    case row2 =>
      have hr := pinRow_trip hb h hl ht
      exact ⟨hr, pinDrive_of_row hr⟩
    case row3 =>
      have hr := pinRow_halt hb h hl ht hs
      exact ⟨hr, pinDrive_of_row hr⟩
    case row4 =>
      have hr := pinRow_scan hb h hf hs
      refine ⟨hr, (pinDrive_of_row hr).trans ?_⟩
      rw [← complement]
      simp [scanDrive]
    case row5 =>
      have hr := pinRow_unconfigured hb h hl hs
      exact ⟨hr, pinDrive_of_row hr⟩
    case row8 =>
      obtain ⟨hon, hl, htr, hs, hsc⟩ := h
      rw [pinRow_live hb hon hl htr hs hsc, if_pos ht]
    case row6 =>
      obtain ⟨⟨hon, hl, htr, hs, hsc⟩, hpt⟩ := h
      have hr : pinRow s p = 6 := by rw [pinRow_live hb hon hl htr hs hsc, if_neg (by simp [hpt]), if_pos hh]
      refine ⟨hr, fun hk => (pinDrive_of_row hr).trans (if_pos hk), fun hk => (pinDrive_of_row hr).trans ?_⟩
      rw [← hidle]
      exact if_neg (ne_true_of_eq_false hk)
    case row7 =>
      obtain ⟨⟨hon, hl, htr, hs, hsc⟩, hpt⟩ := h
      have hr : pinRow s p = 7 := by rw [pinRow_live hb hon hl htr hs hsc, if_neg (by simp [hpt]), if_neg (by simp [hh])]
      have hd : pinDrive s p = fabDrive s p (fabricLevel s p) (fabricOn s p) := pinDrive_of_row hr
      have hod : openDrain s p = true ↔ drain := by simp [openDrain, drain, conf]
      rw [hd, ← hidle, ← complement]
      refine ⟨hr, fun hoff => if_pos (by simp [hoff]), fun hon hdr hlv => if_pos (by simp [hlv, hod.2 hdr]), fun hon hdr => if_neg ?_⟩
      rw [hon]
      rcases hdr with hdr | hlv
      · simp [mt hod.1 hdr]
      · simp [hlv]
    case level =>
      rw [pinLevel_ball (pinRow_ne_one hb h)]
      refine ⟨fun v hv => by rw [hv]; rfl, fun hbd => ⟨fun v hv => ?_, fun v hv => ?_⟩, fun hbd hd => ballLevel_board hbd hd⟩
      · rw [hv, (ballLevel_alone hbd v).1]
      · rw [hv, (ballLevel_alone hbd v).2]

end Sys2Proof.Proofs
end

section
/-! PROOFS. Supplies and resets (R163, R345, R349 to R355): what a reset of the whole device leaves, what the end of a save leaves, what a
brown-out's first steps leave alone, and the bytes that RESTORE gives back; and the statement SuppliesAndResets. -/

namespace Sys2Proof.Proofs
open Sys2Proof Sys2Proof.Machine Sys2Proof.Claims

/-! ### Resets of the whole device -/

theorem get_replicate {α : Type} {n : Nat} (x : α) (i : Fin n) : (Vector.replicate n x).get i = x := by
  rw [get_eq, Vector.getElem_replicate]

theorem resetDevice_allReset (g : Stage) (s : State) : AllReset s (resetDevice g s) g where
  stage := ⟨rfl, rfl, rfl⟩
  setters := get_replicate _
  bays := get_replicate _
  blocks := ⟨rfl, rfl, rfl, rfl, rfl, rfl⟩
  kept := ⟨rfl, rfl, rfl, rfl, rfl, rfl, rfl, rfl, rfl⟩
  hold := ⟨rfl, rfl, rfl⟩

/-- The blocks of `AllReset` that a restart writes after its reset: the log, and fields of the power controller. -/
theorem allReset_beside {s t : State} {g : Stage} {p : Pwr} {q : Pln} {st : Store} (h : AllReset s t g)
    (hp : (p.stage, p.state, p.inflight) = (t.pwr.stage, t.pwr.state, t.pwr.inflight)) (hq : Logged t.pln q) :
    AllReset s { t with store := st, pwr := p, pln := q } g := by
  simp only [Prod.mk.injEq] at hp
  obtain ⟨hstage, hstate, hflight⟩ := hp
  obtain ⟨h1, h2, h3⟩ := h.stage
  obtain ⟨k1, k2, k3, k4, k5, k6, k7, k8, k9⟩ := h.kept
  refine ⟨⟨hstage.trans h1, hstate.trans h2, hflight.trans h3⟩, h.setters, h.bays, h.blocks, ?_, h.hold⟩
  rw [hq.eq]
  exact ⟨k1, k2, k3, k4, k5, k6, k7, k8, k9⟩

theorem exec_powerOn {s : State} (h : s.pwr.stage ≠ .saved) :
    ∃ t, exec .powerOn s = .next t ∧ t = { resetDevice .ao { loseStore s with tap := Tap.reset } with
      img := { (resetDevice .ao { loseStore s with tap := Tap.reset }).img with everRel := false }
      pwr := { (resetDevice .ao { loseStore s with tap := Tap.reset }).pwr with holdok := false } } :=
  ⟨_, congrArg Host.Outcome.next (if_neg (by simp [h])), rfl⟩

theorem exec_porstAssert_saved {s : State} (h : s.pwr.stage = .saved) : exec .porstAssert s = .next (resetSaved s) := by
  show execPorstAssert s = _
  simp only [execPorstAssert, h]

theorem exec_porstAssert_run {s : State} (h : s.pwr.stage = .run) : exec .porstAssert s = .next (resetDevice .core s) := by
  show execPorstAssert s = _
  simp only [execPorstAssert, h]

/-! ### The end of a save -/

theorem saveEnds_over (s : State) : SaveOver s (saveEnds s) s.pwr.saving := by
  unfold saveEnds
  rw [latchKeepers_eq]
  rfl

theorem saveRuns_iff (s : State) : saveRuns s = true ↔ s.pwr.stage = .saved ∧ s.io.trip = true := by
  simp [saveRuns]

theorem saveMoves_cases {s : State} (h : saveRuns s = true) :
    SaveOver s (saveMoves s) s.pwr.saving ∨ saveMoves s = { s with free := s.free + 1 } := by
  unfold saveMoves
  rw [if_neg (by simp [h])]
  split
  · exact .inl (saveEnds_over s.usedFree)
  · exact .inr rfl

/-- What an absence of VSUP takes from a device that has tripped: the store's contents, and the test access port (R349, R354). -/
def unpowered (s : State) : State := { loseStore s with tap := Tap.reset }

theorem exec_powerOn_saving {s : State} (h : s.pwr.stage = .saved) (ht : s.io.trip = true) :
    exec .powerOn s = .next (saveEnds (unpowered s)) :=
  congrArg Host.Outcome.next ((if_pos (by simp [h])).trans (if_pos ((saveRuns_iff (unpowered s)).2 ⟨h, ht⟩)))

theorem exec_powerOn_saved {s : State} (h : s.pwr.stage = .saved) (ht : s.io.trip = false) : exec .powerOn s = .next (unpowered s) :=
  congrArg Host.Outcome.next ((if_pos (by simp [h])).trans
    (if_neg (mt (saveRuns_iff (unpowered s)).1 fun e => absurd ht (ne_false_of_eq_true e.2))))

/-! ### The brown-out's first steps -/

/-- The chain interface leaves the ring: beside it only setters, what a raise changes, and the vault's event latches (R247, R255). -/
theorem chainOff_eq (s : State) : ∃ e x r q n, r.bypopen = false ∧
    chainOff s = { s with evt := e, setters := x, irs := r, pwr := { s.pwr with recs := q }, free := n } := by
  unfold chainOff setTb
  split
  · exact ⟨s.evt, s.setters, _, s.pwr.recs, s.free, rfl, rfl⟩
  · rw [(raise_raised _ _).eq]
    exact ⟨_, _, _, _, _, rfl, rfl⟩

/-- The state of a brown-out's trip before the chain interface leaves the ring and the wing PLLs stop. -/
def tripped (s : State) : State :=
  { s with
    pwr := { s.pwr with stage := .saved, saving := some (savePage s), trips := BitVec.ofNat 16 (satAdd 16 s.pwr.trips.toNat 1),
                        vsup := (nth s.pln.rail 0).getD 0, inflight := false, caller := none, holdok := false },
    io := { s.io with trip := true },
    img := { s.img with stream := none },
    bst := { s.bst with slice := none },
    arb := { s.arb with grant := none },
    hod := { s.hod with gated := true },
    hst := { s.hst with ready := false, frames := [] },
    pln := { s.pln with ready := false, romonly := false, going := false },
    setters := s.setters.map (fun x => { x with gated := true }),
    bays := s.bays.map (fun x => { x with gated := true }) }

theorem exec_brownoutTrip {s : State} (h : s.pwr.stage = .run) :
    exec .brownoutTrip s = .next (wingClocksOff (chainOff (tripped s))) :=
  congrArg Host.Outcome.next (if_neg (by simp [h]))

theorem wingClocksOff_pll (s : State) (k : PllId) :
    ((wingClocksOff s).clk.pll.get k).lock = false ∧ ((wingClocksOff s).clk.pll.get k).outs = 0 := by
  unfold wingClocksOff
  simp only [get_eq, Vector.getElem_map]
  trivial

theorem savePage_recs (s : State) (i : SetterId) : (savePage s).recs.get i = (s.pwr.recs.get i).getD (recOf (s.st i)) :=
  Vector.getElem_ofFn ..

theorem savePage_store {s : State} (h : s.pwr.state ≠ 3) : (savePage s).store = savedRanges s :=
  if_neg (mt eq_of_beq h)

/-! ### RESTORE and DISCARD -/

/-- PWR_BOCTL as a command writes it (R354). -/
theorem boctl_writes {s : State} {m : Master} {v : Word} (h : RegOpen s m.val .pwr 0x44 true) :
    writeReg m .pwr 0x44 v s = answeredOk m.val [] (writeBoctl v { s with free := s.free + 2 }) :=
  writeAs_pwr (regOpen_free h _) (by decide) (by decide) rfl

theorem writeBoctl_valid {s : State} {v : Word} (hb : s.pwr.bor = true) (hi : s.pwr.bobusy = false) : writeBoctl v s =
    if v.getLsbD 0 then modPwr (fun p => { p with bobusy := true }) s
    else if v.getLsbD 1 then modPwr (fun p => { p with bor := false }) s
    else s := if_neg (by simp [hb, hi])

/-- The store with one range of the page (R354). -/
def withRange (s : State) (e : Nat × List Byte) : State :=
  { s with store := { s.store with
    mem := putBytes s.store.mem e.1 e.2
    err := s.store.err.filter (fun h => !(halvesOf e.1 e.2.length).contains h.1) } }

/-- RESTORE changes bytes of the store and their ECC, and the bytes are those that were there under the page's ranges, later ranges last. -/
theorem restoreStore_bytes (l : List (Nat × List Byte)) (s : State) :
    (restoreStore l s = { s with store := { s.store with mem := (restoreStore l s).store.mem, err := (restoreStore l s).store.err } }) ∧
      ∀ a, storeByteAt (restoreStore l s) a = overlay l (storeByteAt s) a := by
  induction l generalizing s with
  | nil => exact ⟨rfl, fun _ => rfl⟩
  | cons e l ih =>
    obtain ⟨heq, hbytes⟩ := ih (withRange s e)
    refine ⟨heq, fun a => (hbytes a).trans ?_⟩
    have one := storeByteAt_putBytes s (withRange s e).store e.1 e.2 a rfl rfl
    unfold overlay
    rw [List.foldl_cons, ← one]
    rfl

theorem exec_brownoutRestoreDone {s : State} {g : SavePage} (hb : s.pwr.bobusy = true) (hp : s.pwr.page = some g) :
    exec .brownoutRestoreDone s = .next (modPwr (fun p => { p with bobusy := false, restored := true, bor := false, user := g.user })
      (restoreStore g.store s)) := by
  show execBrownoutRestoreDone s = _
  unfold execBrownoutRestoreDone
  rw [if_neg (by simp [hb]), hp]

theorem exec_brownoutRestart_saved {s : State} {g : SavePage} (h : s.pwr.stage = .saved) (hs : s.pwr.saving = some g) :
    exec .brownoutRestart s = .next { loseStore (resetDevice .core s) with
      pwr := { (resetDevice .core s).pwr with page := some g, bor := true, incomplete := false, nostore := g.noStore }
      pln := flushLog 32 { (resetDevice .core s).pln with ram := g.tail } } := by
  show execBrownoutRestart s = _
  unfold execBrownoutRestart
  rw [if_neg (by simp [h]), hs]
  rfl

theorem exec_brownoutRestart_unsaved {s : State} (h : s.pwr.stage = .saved) (hs : s.pwr.saving = none) :
    exec .brownoutRestart s = .next { loseStore (resetDevice .core s) with
      pwr := { (resetDevice .core s).pwr with incomplete := true } } := by
  show execBrownoutRestart s = _
  unfold execBrownoutRestart
  rw [if_neg (by simp [h]), hs]
  rfl

/-- Settles O53: each supply or reset step by its own lemma. -/
theorem suppliesAndResets : Obligations.SuppliesAndResets := by
  unfold Obligations.SuppliesAndResets
  intro s m p
  refine ⟨fun h => ?on, fun h => ?buck, fun h => ?drop, fun h => ?porst, fun h => ?porstSaved, fun h => ?hold, fun h => ?trip,
    fun h ht => ?abandon, fun h ht => ?abandoned, fun h => ?onSaved, fun h ht => ?moves, fun h => ?restart, fun h hb hi => ?boctl,
    fun g hb hp => ?restored⟩
  case on =>
    obtain ⟨t, he, rfl⟩ := exec_powerOn h
    obtain ⟨h1, h2, h3, h4, h5, h6⟩ := resetDevice_allReset .ao { loseStore s with tap := Tap.reset }
    exact ⟨_, he, ⟨h1, h2, h3, h4, h5, h6⟩, rfl, rfl, rfl, rfl, rfl, rfl⟩
  case buck => exact congrArg Host.Outcome.next (if_pos (by simp [show s.pwr.stage = .ao from h]))
  case drop =>
    have he : exec .vsupEarlyDrop s = .next (resetDevice .ao (loseStore s)) :=
      congrArg Host.Outcome.next (if_pos (by simp [show s.pwr.stage = .core from h]))
    obtain ⟨h1, h2, h3, h4, h5, h6⟩ := resetDevice_allReset .ao (loseStore s)
    exact ⟨_, he, ⟨h1, h2, h3, h4, h5, h6⟩, rfl, rfl, rfl, rfl⟩
  case porst =>
    exact ⟨_, exec_porstAssert_run h, resetDevice_allReset .core s, rfl, rfl, rfl, rfl, rfl, rfl, rfl⟩
  case porstSaved =>
    obtain ⟨h1, h2, h3, h4, h5, h6⟩ := resetDevice_allReset .saved s
    refine ⟨_, exec_porstAssert_saved h, ⟨h1, h2, h3, h4, h5, h6⟩, rfl, ?_⟩
    show (if Config.freeLevel s.free then s.pwr.saving else none) = _ ∨ (if Config.freeLevel s.free then s.pwr.saving else none) = _
    split
    · exact .inl rfl
    · exact .inr rfl
  case hold => exact congrArg Host.Outcome.next (if_neg (by simp [show s.pwr.stage = .run from h]))
  case trip =>
    obtain ⟨e, x, r, q, n, hclosed, heq⟩ := chainOff_eq (tripped s)
    refine ⟨_, savePage s, exec_brownoutTrip h, ?_⟩
    have pll := wingClocksOff_pll (chainOff (tripped s))
    revert pll
    rw [heq]
    intro pll
    exact ⟨rfl, rfl, rfl, rfl, rfl, hclosed, rfl, rfl, rfl, rfl, rfl, pll, rfl, rfl, rfl, savePage_recs s, savePage_store⟩
  case abandon =>
    refine ⟨_, congrArg Host.Outcome.next (if_pos ((saveRuns_iff s).2 ⟨h, ht⟩)), ?_⟩
    exact saveEnds_over (modPwr (fun p => { p with saving := none }) s)
  case abandoned => exact congrArg Host.Outcome.next (if_neg (by simp [saveRuns_iff, ht]))
  case onSaved =>
    by_cases ht : s.io.trip = true
    · refine ⟨_, exec_powerOn_saving h ht, ?_⟩
      rw [saveEnds_over (unpowered s)]
      exact ⟨rfl, rfl, h, rfl, rfl, rfl, fun _ => ⟨rfl, rfl, rfl⟩⟩
    · rw [Bool.not_eq_true] at ht
      exact ⟨_, exec_powerOn_saved h ht, rfl, rfl, h, rfl, rfl, ht, fun e => absurd ht (ne_false_of_eq_true e)⟩
  case moves => exact saveMoves_cases ((saveRuns_iff s).2 ⟨h, ht⟩)
  case restart =>
    have reset : AllReset s (loseStore (resetDevice .core s)) .core := allReset_beside (resetDevice_allReset .core s) rfl (.refl _)
    cases hs : s.pwr.saving with
    | some g =>
      have log : Logged (resetDevice .core s).pln (flushLog 32 { (resetDevice .core s).pln with ram := g.tail }) :=
        Logged.trans ⟨rfl⟩ (flushLog_logged 32 { (resetDevice .core s).pln with ram := g.tail })
      refine ⟨_, exec_brownoutRestart_saved h hs, allReset_beside reset rfl log, rfl, fun k hk => ?_, fun e => nomatch e⟩
      obtain rfl : g = k := Option.some.inj hk
      exact ⟨rfl, rfl, rfl, rfl⟩
    | none =>
      exact ⟨_, exec_brownoutRestart_unsaved h hs, allReset_beside reset rfl (.refl _), rfl, fun k hk => (nomatch hk),
        fun _ => ⟨rfl, rfl, rfl⟩⟩
  case boctl =>
    constructor
    · exact congrArg Host.Outcome.next ((boctl_writes h).trans (congrArg _ (writeBoctl_valid (s := { s with free := s.free + 2 }) hb hi)))
    · exact congrArg Host.Outcome.next ((boctl_writes h).trans (congrArg _ (writeBoctl_valid (s := { s with free := s.free + 2 }) hb hi)))
  case restored =>
    obtain ⟨heq, hbytes⟩ := restoreStore_bytes g.store s
    refine ⟨_, exec_brownoutRestoreDone hb hp, ?_, hbytes⟩
    conv_lhs => rw [heq]
    rfl

end Sys2Proof.Proofs
end

section
/-! PROOFS. The loader's state and the slots over an access to the store, the hod's work down to its drain, and an entry to a power state
(R230, R265, R337): none of them reaches either. -/

namespace Sys2Proof.Proofs
open Sys2Proof Sys2Proof.Machine Sys2Proof.Claims

/-- The state of an operation that answers with a result too. -/
theorem snd_img {α : Type} {s t : State} {p : α × State} {a : α} (h : p.2.img = s.img) (e : p = (a, t)) : t.img = s.img := by
  rw [e] at h
  exact h

@[simp] theorem raiseIf_img (c : Bool) (n : Nat) (s : State) : (raiseIf c n s).img = s.img := (raiseIf_raised c n s).img

@[simp] theorem settle_img (i : SetterId) (s : State) : (settle i s).img = s.img := (settle_raised i s).img

@[simp] theorem syncTrap_img (i : SetterId) (vec sub : Nat) (addr : Word) (s : State) : (syncTrap i vec sub addr s).img = s.img :=
  (syncTrap_raised i vec sub addr s).img

@[simp] theorem finish_img (i : SetterId) (il : Nat) (f : Fate) : (finish i il f).img = f.state.img := (finish_raised i il f).img

@[simp] theorem addResp_img (m : Nat) (code : RespCode) (d : List Byte) (s : State) : (addResp m code d s).img = s.img := rfl

@[simp] theorem markFault_img (q : QueueId) (s : State) : (markFault q s).img = s.img := rfl

/-! ### The store -/

@[simp] theorem startWake_img (d : Domain) (s : State) : (startWake d s).img = s.img := by
  cases d <;> simp [startWake, apply_ite State.img]

@[simp] theorem cutOff_img (m : Nat) (bits : BitVec 6) (addr : Nat) (s : State) : (cutOff m bits addr s).img = s.img := by
  unfold cutOff
  simp only
  split
  · split <;> simp [masterCause]
  · simp [masterCause]

@[simp] theorem passWait_img (m n : Nat) (s : State) : (passWait m n s).img = s.img := by
  unfold passWait
  simp only
  split <;> simp [endWait, reportStarve, addWait]

@[simp] theorem storeRead_img (a n : Nat) (s : State) : (storeRead a n s).2.img = s.img := by
  unfold storeRead
  split
  · rfl
  · exact foldl_same State.img (fun t h => by simp only [correctHalf]; split <;> rfl) _ _

@[simp] theorem storeWrite_img (a : Nat) (d : List Byte) (s : State) : (storeWrite a d s).2.img = s.img := by
  unfold storeWrite
  simp only
  split <;> rfl

@[simp] theorem storeBeat_img (m a n : Nat) (wr : Option (List Byte)) (s : State) : (storeBeat m a n wr s).2.img = s.img := by
  unfold storeBeat
  cases wr with
  | none =>
    dsimp only
    split <;> exact snd_img (storeRead_img a n s) ‹_›
  | some d =>
    have h := storeWrite_img a d s
    revert h
    dsimp only
    generalize storeWrite a d s = r
    intro h
    rcases r with ⟨_ | _, t⟩ <;> exact h

theorem storeDoor_img {m a n : Nat} {rd wr : Bool} {s : State} {r : Resp × State} (h : storeDoor m a n rd wr s = some r) :
    r.2.img = s.img := by
  unfold storeDoor at h
  split_ifs at h <;> cases h <;> simp [regionViolation, masterCause, setBarred]

@[simp] theorem storeAccess_img (m a n : Nat) (wr : Option (List Byte)) (key : Bool) (s : State) :
    (storeAccess m a n wr key s).2.img = s.img := by
  unfold storeAccess
  split
  · exact storeDoor_img ‹_›
  · split
    · rfl
    · simp only [storeBeat_img, passWait_img]
      split <;> simp [cutLock, dropOrd]

/-! ### Queues -/

@[simp] theorem readDesc_img (q : QueueId) (s : State) : (readDesc q s).img = s.img := by
  unfold readDesc
  split <;> simp

@[simp] theorem countBank_img (q : QueueId) (s : State) : (countBank q s).img = s.img := by
  simp [countBank, apply_ite State.img]

@[simp] theorem putDesc_img (q : QueueId) (d : Desc) (s : State) : (putDesc q d s).img = s.img := rfl

@[simp] theorem countChanged_img (q : QueueId) (d : Desc) (c0 c1 : Nat) (s : State) : (countChanged q d c0 c1 s).img = s.img := by
  simp [countChanged, crossing, apply_ite State.img]

@[simp] theorem flushError_img (q : QueueId) (s : State) : (flushError q s).img = s.img := by
  simp [flushError]

@[simp] theorem raiseFlush_img (a : Nat) (s : State) : (raiseFlush a s).img = s.img := by
  unfold raiseFlush
  split
  · rfl
  · split <;> rfl

@[simp] theorem flushComplete_img (s : State) : (flushComplete s).img = s.img := by
  unfold flushComplete
  split <;> simp

@[simp] theorem combPut_img (q : QueueId) (a : Nat) (d : List Byte) (s : State) : (combPut q a d s).img = s.img := by
  simp [combPut]

@[simp] theorem writeBurst_img (l : List CombEntry) (failAt : Option Nat) (s : State) : (writeBurst l failAt s).2.img = s.img := by
  induction l generalizing failAt s with
  | nil => rfl
  | cons e t ih =>
    unfold writeBurst
    split
    · simp
    · exact ih _ _
    · split
      · exact (ih _ _).trans (snd_img (storeAccess_img ..) ‹_›)
      · exact snd_img (storeAccess_img ..) ‹_›
      · exact (flushError_img ..).trans (snd_img (storeAccess_img ..) ‹_›)

@[simp] theorem flushDone_img (failAt : Option Nat) (s : State) : (flushDone failAt s).img = s.img := by
  unfold flushDone
  split
  · rfl
  · split <;> simp [snd_img (writeBurst_img ..) ‹_›]

@[simp] theorem flushAll_img (n : Nat) (s : State) : (flushAll n s).img = s.img := by
  induction n generalizing s with
  | zero => rfl
  | succ n ih =>
    unfold flushAll
    split <;> simp [ih]

@[simp] theorem appendElem_img (q : QueueId) (v : Word) (vb : Nat) (brk eob : Bool) (s : State) :
    (appendElem q v vb brk eob s).2.img = s.img := by
  unfold appendElem
  simp only
  split
  · simp
  · split <;> simp

theorem putRefusal_img {m : Nat} {q : QueueId} {s : State} {r : QRes × State} (h : putRefusal m q s = some r) : r.2.img = s.img := by
  unfold putRefusal at h
  simp only at h
  split_ifs at h <;> cases h <;> simp

theorem getRefusal_img {m : Nat} {q : QueueId} {s : State} {r : QRes × State} (h : getRefusal m q s = some r) : r.2.img = s.img := by
  unfold getRefusal at h
  simp only at h
  split_ifs at h <;> cases h <;> simp

@[simp] theorem dropHead_img (q : QueueId) (s : State) : (dropHead q s).img = s.img := by
  simp [dropHead]

@[simp] theorem qcmd_img (m c : Nat) (s : State) : (qcmd m c s).img = s.img := by
  simp [qcmd, apply_ite State.img, qresult, clearFault]

@[simp] theorem qcmdDone_img (s : State) : (qcmdDone s).img = s.img := by
  unfold qcmdDone
  split <;> simp

/-! ### The KEY lane -/

@[simp] theorem keyRead_img (m : Nat) (q : QueueId) (remove : Bool) (s : State) : (keyRead m q remove s).2.img = s.img := by
  unfold keyRead
  simp only
  split
  · next h => simpa using getRefusal_img h
  · simp [apply_ite State.img]

@[simp] theorem keyStep_img (m : Nat) (op : HodOp) (s : State) : (keyStep m op s).2.img = s.img := by
  unfold keyStep
  cases op with
  | put q v eob =>
    simp only
    split
    · next h => simpa using putRefusal_img h
    · simp
  | get q => exact keyRead_img ..
  | peek q => exact keyRead_img ..
  | qst q => simp

@[simp] theorem keyPayload_img (q : QueueId) (err : Bool) (p : LanePay) (s : State) : (keyPayload q err p s).2.img = s.img := by
  unfold keyPayload
  cases p with
  | write a bytes tail =>
    simp only
    split
    · simp
    · split <;> simp [snd_img (storeAccess_img ..) ‹_›, keyAppended, apply_ite State.img]
  | read a =>
    simp only
    split
    · rfl
    · split <;> exact snd_img (storeAccess_img ..) ‹_›

@[simp] theorem queueOutcome_img (i : SetterId) (d : Reg) (op : HodOp) (r : QRes) (s : State) :
    (queueOutcome i d op r s).state.img = s.img := by
  cases r with
  | disabled => cases op <;> rfl
  | _ => rfl

@[simp] theorem cellOutcome_img (c : Cell) (q : QueueId) (r : QRes) (s : State) : (cellOutcome c q r s).img = s.img := by
  unfold cellOutcome
  split
  · split <;> simp
  · rfl

@[simp] theorem deliverLane_img (l : LaneOp) (r : QRes) (s : State) : (deliverLane l r s).img = s.img := by
  unfold deliverLane
  split
  · simp only
    split <;> simp [apply_ite State.img, answer]
  · split <;> simp
  · simp

@[simp] theorem runLane_img (n : Nat) (s : State) : (runLane n s).img = s.img := by
  induction n generalizing s with
  | zero => rfl
  | succ n ih =>
    unfold runLane
    split
    · rfl
    · split
      · rfl
      · split <;> simp [ih, snd_img (keyStep_img ..) ‹_›]

@[simp] theorem laneDone_img (err : Bool) (s : State) : (laneDone err s).img = s.img := by
  unfold laneDone
  split
  · rfl
  · split
    · exact snd_img (keyPayload_img ..) ‹_›
    · simp [snd_img (keyPayload_img ..) ‹_›]

@[simp] theorem drainLane_img (n : Nat) (s : State) : (drainLane n s).img = s.img := by
  induction n generalizing s with
  | zero => rfl
  | succ n ih => simp [drainLane, apply_ite State.img, ih]

/-! ### Packers and the drain -/

@[simp] theorem dropWord_img (p src : Nat) (s : State) : (dropWord p src s).img = s.img := by
  simp [dropWord]

@[simp] theorem appendPacked_img (p : Nat) (v : Word) (tag : BitVec 8) (s : State) : (appendPacked p v tag s).2.img = s.img := by
  unfold appendPacked
  split
  · simp
  · simp only
    split
    · simp
    · split
      · simp [dropFrom]
      · split
        · split <;> simp [dropFrom, holdWord]
        · split
          · next h => simpa using snd_img (appendElem_img ..) h
          · next h => simpa [holdWord] using snd_img (appendElem_img ..) h

@[simp] theorem stallClose_img (p : Nat) (s : State) : (stallClose p s).img = s.img := by
  simp [stallClose, closeWord, apply_ite State.img]

@[simp] theorem drainHod_img (s : State) : (drainHod s).img = s.img := by
  unfold drainHod
  rw [flushAll_img]
  exact (foldl_same State.img (fun t p => stallClose_img p t) _ _).trans (by simp)

/-! ### An entry to a power state, and what an active wake source does -/

theorem eachSet_img {f : SetterId → State → State} (h : ∀ i s, (f i s).img = s.img) (m : BitVec 16) (s : State) :
    (eachSet m f s).img = s.img :=
  foldl_same State.img (fun t i => by split <;> simp [h]) _ _

theorem eachBay_img {f : BayId → State → State} (h : ∀ b s, (f b s).img = s.img) (m : BitVec 64) (s : State) :
    (eachBay m f s).img = s.img :=
  foldl_same State.img (fun t i => by split <;> simp [h]) _ _

@[simp] theorem keepPins_img (m : BitVec 132) (s : State) : (keepPins m s).img = s.img := rfl

@[simp] theorem stepTwo_img (s : State) : (stepTwo s).img = s.img := by
  have stop : (eachSet (stopSets s.pwr s.pwr.target.toNat) stopSetterClock s).img = s.img := eachSet_img (f := stopSetterClock) (fun _ _ => rfl) _ _
  unfold stepTwo
  refine (eachBay_img (fun b t => by simp) _ _).trans ?_
  split
  · exact stop
  · simp [apply_ite State.img, stop]

@[simp] theorem passPoint_img (s : State) : (passPoint s).img = s.img := by
  unfold passPoint
  simp only [modPwr_img]
  split
  · simp
  · simp [stepThree, fillUser, apply_ite State.img]
  · rfl

@[simp] theorem passTo_img (k : Nat) (s : State) : (passTo k s).img = s.img := foldl_same State.img (fun t _ => passPoint_img t) _ _

@[simp] theorem abortEntry_img (point : Nat) (s : State) : (abortEntry point s).img = s.img := by
  unfold abortEntry
  simp only
  split <;> simp [apply_ite State.img, sleepDone, retire, returnHold, restartClocks]

@[simp] theorem logRec_img (code sev src : Nat) (d0 d1 : Word) (s : State) : (logRec code sev src d0 d1 s).img = s.img := by
  obtain ⟨q, -, h | h⟩ := logRec_cases code sev src d0 d1 s <;> simp [h]

@[simp] theorem wakeCaller_img (i : SetterId) (s : State) : (wakeCaller i s).img = s.img := by
  unfold wakeCaller
  split <;> simp

@[simp] theorem endDoze_img (s : State) : (endDoze s).img = s.img := by
  unfold endDoze
  simp only
  split <;> simp [logPower, restartClocks]

@[simp] theorem activate_img (m : BitVec 20) (s : State) : (activate m s).img = s.img := by
  simp [activate, apply_ite State.img]

@[simp] theorem raiseWake_img (n : Nat) (s : State) : (raiseWake n s).img = s.img := by
  simp [raiseWake, apply_ite State.img]

end Sys2Proof.Proofs
end

section
/-! PROOFS. The loader's state and the slots over an image's tables (R8, R273, R274, R347): no register write by master 20 reaches them,
and of the records only TYPE 7 does, in its entries. -/

namespace Sys2Proof.Proofs
open Sys2Proof Sys2Proof.Machine Sys2Proof.Claims

/-- What a write that may be refused leaves where it is taken. -/
structure Taken (R : State → Prop) (o : Option State) : Prop where
  of : ∀ t, o = some t → R t

theorem Taken.none {R : State → Prop} : Taken R none := ⟨fun _ h => by cases h⟩

theorem Taken.some {R : State → Prop} {t : State} (h : R t) : Taken R (some t) := ⟨fun _ e => by cases e; exact h⟩

theorem Taken.mono {R Q : State → Prop} {o : Option State} (h : Taken R o) (k : ∀ t, R t → Q t) : Taken Q o := ⟨fun t ht => k t (h.of t ht)⟩

theorem ite_taken {R : State → Prop} {o p : Option State} {c : Prop} [Decidable c] (h : Taken R o) (k : Taken R p) :
    Taken R (if c then o else p) := by
  split
  · exact h
  · exact k

/-- A change of one part of a state under a condition. -/
theorem ite_img {s t u : State} {c : Prop} [Decidable c] (h : t.img = s.img) (k : u.img = s.img) : (if c then t else u).img = s.img := by
  split
  · exact h
  · exact k

/-! ### Register blocks -/

theorem writeGlb_keepsImg (off : Nat) (v : Word) (s : State) : Taken (·.img = s.img) (writeGlb off v s) := by
  unfold writeGlb
  exact ite_taken .none (ite_taken (.some rfl) (ite_taken (.some rfl) (ite_taken (.some rfl) .none)))

theorem writeKeyLine_img (k : Nat) (v : Word) (s : State) : (writeKeyLine k v s).img = s.img := by
  unfold writeKeyLine
  exact ite_img rfl rfl

theorem writeRegion_keepsImg (by_ m r : Nat) (lim : Bool) (v : Word) (s : State) : Taken (·.img = s.img) (writeRegion by_ m r lim v s) := by
  unfold writeRegion
  exact ite_taken .none (ite_taken (.some rfl) (ite_taken (.some rfl) (.some rfl)))

theorem writeStr_keepsImg (m off : Nat) (v : Word) (s : State) : Taken (·.img = s.img) (writeStr m off v s) := by
  unfold writeStr
  refine ite_taken .none (ite_taken (ite_taken .none (.some (modBond_img ..))) (ite_taken (writeRegion_keepsImg ..) (ite_taken (.some rfl)
    (ite_taken (.some rfl) (ite_taken (.some rfl) (ite_taken (.some rfl) ?_))))))
  split
  case h_1 => exact .some (ite_img rfl rfl)
  case h_7 => exact .some (ite_img (modBond_img ..) rfl)
  case h_3 | h_4 | h_5 | h_6 => exact .some (writeKeyLine_img ..)
  case h_12 => exact .none
  all_goals exact .some rfl

theorem qcmdMaybe_img (s : State) : (qcmdMaybe s).img = s.img :=
  ite_img rfl (ite_img (qcmdDone_img _) rfl)

theorem whenIdle_keepsImg {f : State → State} (hf : ∀ t, (f t).img = t.img) (s : State) : Taken (·.img = s.img) (whenIdle f s) :=
  ite_taken .none (.some ((hf _).trans (qcmdMaybe_img s)))

theorem writeHod_keepsImg (m off : Nat) (v : Word) (s : State) : Taken (·.img = s.img) (writeHod m off v s) := by
  unfold writeHod
  refine ite_taken .none (ite_taken (.some rfl) (ite_taken (.some rfl) ?_))
  split
  case h_2 => exact .some (ite_img rfl rfl)
  case h_3 | h_4 | h_5 | h_6 | h_7 | h_8 =>
    refine whenIdle_keepsImg (fun _ => ?_) s
    rfl
  case h_17 => exact .none
  all_goals exact .some rfl

@[simp] theorem setTb_img (b : Bool) (s : State) : (setTb b s).img = s.img :=
  ite_img rfl (raise_img _ _)

@[simp] theorem headTb_img (s : State) : (headTb s).img = s.img := ite_img (setTb_img ..) rfl

@[simp] theorem writeIrsCtrl_img (v : Word) (s : State) : (writeIrsCtrl v s).img = s.img :=
  ite_img rfl (ite_img (setTb_img ..) (headTb_img _))

@[simp] theorem writeTbper_img (n : BitVec 14) (s : State) : (writeTbper n s).img = s.img := ite_img (headTb_img _) rfl

@[simp] theorem chainSwap_img (s : State) : (chainSwap s).img = s.img := by
  unfold chainSwap
  refine ite_img rfl ?_
  split
  simp

@[simp] theorem sendEnum_img (keep : Bool) (s : State) : (sendEnum keep s).img = s.img := by
  unfold sendEnum
  simp [queueHead, setBypassed]

@[simp] theorem headCommand_img (code : Nat) (s : State) : (headCommand code s).img = s.img := by
  unfold headCommand
  refine ite_img rfl ?_
  split <;> simp [queueHead]

theorem writeIrs_keepsImg (off : Nat) (v : Word) (s : State) : Taken (·.img = s.img) (writeIrs off v s) := by
  unfold writeIrs
  refine ite_taken .none (ite_taken .none (ite_taken (ite_taken .none (.some (modIrs_img ..)))
    (ite_taken (.some (modIrs_img ..)) (ite_taken (.some (modIrs_img ..)) ?_))))
  split
  case h_1 => exact .some (writeIrsCtrl_img ..)
  case h_8 => exact .some (writeTbper_img ..)
  case h_15 => exact .some (ite_img (chainSwap_img s) rfl)
  case h_18 => exact .some (headCommand_img ..)
  case h_19 => exact .none
  case h_2 | h_7 | h_17 => exact .some (modIrs_img ..)
  all_goals exact .some rfl

theorem writeRpt_keepsImg (m off : Nat) (v : Word) (s : State) : Taken (·.img = s.img) (writeRpt m off v s) := by
  unfold writeRpt
  refine ite_taken .none (ite_taken (ite_taken .none (ite_taken (.some rfl) (.some rfl))) (ite_taken .none ?_))
  split
  case h_1 => exact ite_taken (.some rfl) .none
  case h_4 => exact .some (ite_img rfl rfl)
  case h_6 => exact .none
  all_goals exact .some rfl

theorem askState_img (st : Nat) (caller : Option SetterId) (s : State) : (askState st caller s).2.img = s.img := by
  simp only [askState, apply_ite Prod.snd]
  exact ite_img rfl (ite_img rfl (ite_img rfl (ite_img rfl (abortEntry_img ..))))

theorem askResume_img (s : State) : (askResume s).2.img = s.img := by
  simp [askResume, apply_ite Prod.snd, apply_ite State.img]

theorem writeReq_img (v : Word) (s : State) : (writeReq v s).img = s.img := by
  unfold writeReq
  exact ite_img (ite_img (ite_img rfl rfl) (ite_img (askResume_img s) (askResume_img s)))
    (ite_img rfl (ite_img (askState_img ..) (askState_img ..)))

theorem writePwr_keepsImg (off : Nat) (v : Word) (e : WriteEnv) (s : State) : Taken (·.img = s.img) (writePwr off v e s) := by
  unfold writePwr
  refine ite_taken .none (ite_taken (.some rfl) (ite_taken (.some rfl) ?_))
  split
  case h_2 => exact .some (writeReq_img ..)
  case h_9 | h_10 | h_12 => exact .some (ite_img (activate_img ..) rfl)
  case h_14 => exact .some (ite_img rfl (ite_img rfl (ite_img rfl rfl)))
  case h_15 => exact .none
  all_goals exact .some rfl

theorem writeBst_keepsImg (off : Nat) (v : Word) (s : State) : Taken (·.img = s.img) (writeBst off v s) := by
  unfold writeBst
  refine ite_taken .none (ite_taken (.some rfl) ?_)
  split
  case h_3 => exact .some (ite_img rfl rfl)
  case h_4 => exact .none
  all_goals exact .some rfl

theorem writeClk_keepsImg (off : Nat) (v : Word) (s : State) : Taken (·.img = s.img) (writeClk off v s) := by
  unfold writeClk
  refine ite_taken .none (ite_taken ?_ ?_)
  · split
    case h_1 | h_2 => exact .some (ite_img rfl rfl)
    all_goals exact .some rfl
  · split
    case h_1 | h_2 => exact .some (ite_img rfl rfl)
    case h_6 => exact .none
    all_goals exact .some rfl

theorem writeEvt_keepsImg (off : Nat) (v : Word) (e : WriteEnv) (s : State) : Taken (·.img = s.img) (writeEvt raiseWake off v e s) := by
  unfold writeEvt
  refine ite_taken .none (ite_taken (.some (ite_img (raiseWake_img ..) rfl)) (ite_taken (.some ?_)
    (ite_taken (.some rfl) (ite_taken (.some rfl) .none))))
  exact foldl_same State.img (fun t i => ite_img (raiseWake_img _ t) rfl) _ _

theorem writePln_keepsImg (off : Nat) (v : Word) (s : State) : Taken (·.img = s.img) (writePln off v s) := by
  unfold writePln
  refine ite_taken .none (ite_taken (.some rfl) (ite_taken (ite_taken (.some rfl) .none) (ite_taken (.some rfl)
    (ite_taken (.some rfl) (ite_taken (.some rfl) (ite_taken (.some rfl) (ite_taken (.some rfl)
    (ite_taken (.some rfl) (ite_taken (.some rfl) (ite_taken (.some rfl) (ite_taken (.some rfl) ?_)))))))))))
  split
  case h_4 => exact ite_taken (.some rfl) (.some rfl)
  case h_9 => exact .none
  all_goals exact .some rfl

theorem writeRst_img (b : BayId) (v : BitVec 4) (s : State) : (writeRst b v s).img = s.img :=
  foldl_same State.img (fun _ _ => ite_img (State.modBay_img ..) (State.modBay_img ..)) _ _

theorem writeBay_keepsImg (b : BayId) (off : Nat) (v : Word) (s : State) : Taken (·.img = s.img) (writeBay b off v s) := by
  unfold writeBay
  exact ite_taken .none (ite_taken (.some (ite_img rfl rfl)) (ite_taken (.some rfl) (ite_taken (.some (writeRst_img ..))
    (ite_taken (.some rfl) (ite_taken (.some rfl) (ite_taken (.some rfl) (ite_taken (.some rfl) .none)))))))

theorem stateWrite_keepsImg (i : SetterId) (s : State) (f : Setter → Setter) : Taken (·.img = s.img) (stateWrite i s f) :=
  ite_taken (.some rfl) .none

theorem writeTimer_keepsImg (i : SetterId) (t : TimerId) (sub : Nat) (v : Word) (s : State) : Taken (·.img = s.img) (writeTimer i t sub v s) := by
  unfold writeTimer
  split
  case h_4 => exact .none
  all_goals exact stateWrite_keepsImg ..

@[simp] theorem startSetter_img (i : SetterId) (v : BitVec 256) (run : Bool) (s : State) : (startSetter i v run s).img = s.img :=
  ite_img (t := initSnap i v s) rfl rfl

@[simp] theorem stopRequest_img (i : SetterId) (own : Bool) (s : State) : (stopRequest i own s).img = s.img :=
  ite_img rfl (ite_img rfl (stopSetter_raised ..).img)

@[simp] theorem srst_img (i : SetterId) (v : BitVec 256) (s : State) : (srst i v s).img = s.img :=
  ite_img rfl (raiseIf_img ..)

theorem writeCtrl_img (i : SetterId) (own : Bool) (v : Word) (nets : BitVec 256) (s : State) : (writeCtrl i own v nets s).img = s.img := by
  simp [writeCtrl, apply_ite State.img]

theorem writeSet_keepsImg (m : Nat) (i : SetterId) (off : Nat) (v : Word) (e : WriteEnv) (s : State) :
    Taken (·.img = s.img) (writeSet m i off v e s) := by
  unfold writeSet
  refine ite_taken .none (ite_taken (stateWrite_keepsImg ..) (ite_taken .none (ite_taken (stateWrite_keepsImg ..)
    (ite_taken (.some rfl) ?_))))
  split
  · exact writeTimer_keepsImg ..
  · refine ite_taken .none ?_
    split
    · exact stateWrite_keepsImg ..
    · split
      case h_1 => exact .some (writeCtrl_img ..)
      case h_3 | h_4 | h_11 | h_12 | h_13 | h_14 => exact stateWrite_keepsImg ..
      case h_9 | h_18 => exact ite_taken (.some rfl) .none
      case h_26 => exact .none
      all_goals exact .some rfl

theorem writeIob_keepsImg (k : Bank) (off : Nat) (v : Word) (s : State) : Taken (·.img = s.img) (writeIob k off v s) := by
  unfold writeIob
  exact ite_taken .none (ite_taken (.some (ite_img rfl rfl)) (ite_taken (.some (ite_img rfl rfl))
    (ite_taken (.some rfl) .none)))

theorem writeImg_keepsImg {m : Nat} (hm : m ≠ 16) (off : Nat) (v : Word) (s : State) : Taken (·.img = s.img) (writeImg m off v s) := by
  unfold writeImg
  rw [if_neg hm]
  refine ite_taken .none ?_
  cases readImg off s with
  | none => exact .none
  | some r => exact .some rfl

/-- IMG_BOOT is the only way from a register to the loader's state, and takes writes of the plinth only (R8). -/
theorem blockWrite_keepsImg {m : Nat} (hm : m ≠ 16) (b : Block) (off : Nat) (v : Word) (e : WriteEnv) (s : State) :
    Taken (·.img = s.img) (blockWrite m b off v e s) := by
  cases b with
  | glb => exact writeGlb_keepsImg ..
  | str => exact writeStr_keepsImg ..
  | hod => exact writeHod_keepsImg ..
  | irs => exact writeIrs_keepsImg ..
  | hst => exact ite_taken (.some rfl) .none
  | img => exact writeImg_keepsImg hm ..
  | rpt => exact writeRpt_keepsImg ..
  | pwr => exact writePwr_keepsImg ..
  | bst => exact writeBst_keepsImg ..
  | clk => exact writeClk_keepsImg ..
  | evt => exact writeEvt_keepsImg ..
  | pln => exact writePln_keepsImg ..
  | bay b => exact writeBay_keepsImg ..
  | set i => exact ite_taken .none (writeSet_keepsImg ..)
  | iob k => exact writeIob_keepsImg ..

/-! ### The tables -/

/-- The loader's state but for the vault entries. -/
def LoaderKept (s t : State) : Prop := t.img = { s.img with ventries := t.img.ventries }

theorem LoaderKept.of_img {s t : State} (h : t.img = s.img) : LoaderKept s t := by rw [LoaderKept, h]

theorem LoaderKept.trans {s t u : State} (h : LoaderKept s t) (k : LoaderKept t u) : LoaderKept s u := by
  rw [LoaderKept, k, h]

theorem Taken.bind {s : State} {o : Option State} {f : State → Option State} (h : Taken (LoaderKept s) o)
    (k : ∀ t, Taken (LoaderKept t) (f t)) : Taken (LoaderKept s) (o.bind f) := by
  cases o with
  | none => exact .none
  | some t => exact (k t).mono fun u hu => (h.of t rfl).trans hu

theorem tableWrite_keepsImg (a : Nat) (v : Word) (s : State) : Taken (·.img = s.img) (tableWrite a v s) := by
  unfold tableWrite
  refine ite_taken .none ?_
  split
  · next b off _ =>
    refine ite_taken .none (ite_taken (ite_taken .none (.some rfl)) ?_)
    cases h : blockWrite 20 b off v (freeEnv s) { s with free := s.free + 2 } with
    | none => exact .none
    | some t =>
      refine .some (Eq.trans ?_ ((blockWrite_keepsImg (m := 20) (by decide) b off v _ { s with free := s.free + 2 }).of t h))
      cases b <;> rfl
  · exact .none

theorem tableWrites_keepsLoader (l : List (Nat × Word)) (s : State) : Taken (LoaderKept s) (tableWrites l s) := by
  induction l generalizing s with
  | nil => exact .some rfl
  | cons w l ih => exact Taken.bind ((tableWrite_keepsImg w.1 w.2 s).mono fun _ => .of_img) ih

theorem applyRecord_keepsLoader (pay : Mem) (r : TableRec) (s : State) : Taken (LoaderKept s) (applyRecord pay r s) := by
  unfold applyRecord
  split
  · exact ite_taken (tableWrites_keepsLoader ..) .none
  · unfold tapMap
    simp only
    split
    · exact ite_taken (.some rfl) .none
    · exact .none
  · unfold setterTable
    simp only
    split
    · exact ite_taken (.some rfl) .none
    · exact .none
  · exact ite_taken (.some rfl) .none
  · exact ite_taken (.some rfl) .none
  · exact ite_taken (.some rfl) .none
  · exact ite_taken (.some rfl) .none
  · exact .none

theorem applyRecords_keepsLoader (pay : Mem) (l : List TableRec) (s : State) : Taken (LoaderKept s) (applyRecords pay l s) := by
  induction l generalizing s with
  | nil => exact .some rfl
  | cons r l ih => exact (applyRecord_keepsLoader pay r s).bind ih

theorem tablesEnd_keepsLoader (pay : Mem) (s : State) : Taken (LoaderKept s) (tablesEnd pay s) := by
  unfold tablesEnd
  split
  · exact ite_taken (.some rfl) .none
  · exact .none

/-- An attempt's tables leave the loader's state but for the vault entries. -/
theorem applyTables_keepsLoader (x : Slot) (s : State) : Taken (LoaderKept s) (applyTables x s) := by
  unfold applyTables
  split
  · exact .none
  · refine ite_taken (Taken.bind ?_ (tablesEnd_keepsLoader x.payload)) .none
    exact ⟨(applyRecords_keepsLoader x.payload _ _).of⟩

end Sys2Proof.Proofs
end

section
/-! PROOFS. What a load's reset leaves (R230, R283), what a failed attempt undoes (R287), and the record of the failure. -/

namespace Sys2Proof.Proofs
open Sys2Proof Sys2Proof.Machine Sys2Proof.Claims

/-! ### The reset of a load -/

/-- The queues of the plinth are set up in their descriptors alone (R206). -/
theorem setupQueues_hod (s : State) : setupQueues s = { s with hod := (setupQueues s).hod } := by
  refine foldl_rel (R := fun s t => t = { s with hod := t.hod }) (fun _ => rfl) (fun h k => ?_) (fun t q => ?_) _ s
  · rw [k]
    conv_lhs => rw [h]
  · split <;> rfl

/-- What a load does not reset, but for what it says of the loader and of the plinth (R283). -/
structure Spared (s t : State) : Prop where
  img : t.img = s.img
  pln : t.pln = s.pln
  faultn : t.faultn = s.faultn
  stage : t.pwr.stage = s.pwr.stage ∧ t.pwr.on = s.pwr.on
  pend : ∀ n, pendBit s n = true → pendBit t n = true

theorem Spared.refl (s : State) : Spared s s := ⟨rfl, rfl, rfl, ⟨rfl, rfl⟩, fun _ h => h⟩

theorem Spared.raised {s r t : State} (k : Spared s r) (h : Raised r t) : Spared s t :=
  ⟨h.img.trans k.img, h.pln.trans k.pln, by rw [h.eq, ← k.faultn], by rw [h.eq]; exact k.stage, fun n hn => h.pend n (k.pend n hn)⟩

/-- A slice cut short leaves its record and its raises (R366). -/
theorem cutSlice_spared (s : State) : Spared s (cutSlice s) := by
  have hraise : ∀ (c : Bool) (u : State), Spared s u → Spared s (raiseIf c 618 (raise 617 u)) :=
    fun c u h => (h.raised (raise_raised 617 u)).raised (raiseIf_raised ..)
  have hfin : Spared s (finishRecord 3 3 0xFF s) := by
    unfold finishRecord
    split
    · exact .refl s
    · exact hraise _ _ ⟨rfl, rfl, rfl, ⟨rfl, rfl⟩, fun _ h => h⟩
  unfold cutSlice
  split
  · exact .refl s
  · exact ⟨hfin.img, hfin.pln, hfin.faultn, hfin.stage, hfin.pend⟩

/-- The device at a load's reset: every setter and bay at its reset value, the loader with no image, the power controller in RUN. -/
structure AtLoad (s r : State) : Prop where
  setters : r.setters = Vector.replicate 16 Setter.reset
  bays : r.bays = Vector.replicate 64 Bay.reset
  rstout : r.rstout = true
  img : r.img = { s.img with hold := true, locked := false, load := none, swap := none, ventries := [], digest := 0 }
  faultn : r.faultn = s.faultn
  stage : r.pwr.stage = s.pwr.stage ∧ r.pwr.on = s.pwr.on
  run : r.pwr.state = 0 ∧ r.pwr.inflight = false
  pln : r.pln = { s.pln with qdrop := false, posts := [] }
  route : r.evt.route = []
  pend : ∀ n, pendBit s n = true → pendBit r n = true

theorem AtLoad.setupQueues {s r : State} (h : AtLoad s r) : AtLoad s (setupQueues r) := by
  rw [setupQueues_hod]
  exact ⟨h.setters, h.bays, h.rstout, h.img, h.faultn, h.stage, h.run, h.pln, h.route, h.pend⟩

theorem loadReset_atLoad (s : State) : AtLoad s (loadReset s) := by
  have cut := cutSlice_spared s
  unfold loadReset
  simp only
  split
  · refine AtLoad.setupQueues ⟨rfl, rfl, rfl, ?_, cut.faultn, cut.stage, ⟨rfl, rfl⟩, ?_, rfl, cut.pend⟩
    · rw [← cut.img]
    · rw [← cut.pln]
  · refine ⟨rfl, rfl, rfl, ?_, cut.faultn, cut.stage, ⟨rfl, rfl⟩, ?_, rfl, cut.pend⟩
    · rw [← cut.img]
    · rw [← cut.pln]

@[simp] theorem loadReset_img (s : State) : (loadReset s).img =
    { s.img with hold := true, locked := false, load := none, swap := none, ventries := [], digest := 0 } := (loadReset_atLoad s).img

/-- A load holds the device. -/
theorem loadReset_held (s : State) : Held (loadReset s) := by
  obtain ⟨hs, hb, hr, hi, -⟩ := loadReset_atLoad s
  exact ⟨by rw [hi], hr, fun i => by rw [hs, get_replicate], fun b => by rw [hb, get_replicate]⟩

/-! ### What a failed attempt undoes -/

/-- The plinth's, the power controller's and the self-test's registers have changed, which begins no power state. -/
structure Undone (s t : State) : Prop where
  eq : t = { s with pln := t.pln, pwr := t.pwr, bst := t.bst }
  run : t.pwr.state = 0 ∧ t.pwr.inflight = false

theorem Undone.trans {s t u : State} (h : Undone s t) (k : Undone t u) : Undone s u := by
  refine ⟨?_, k.run⟩
  rw [k.eq]
  conv_lhs => rw [h.eq]

/-- In RUN an active wake source is flagged, no more (R338). -/
theorem activate_undone {m : BitVec 20} {s t : State} (h : Undone s t) : Undone s (activate m t) := by
  rw [activate_still h.run.2 (by rw [h.run.1]; decide)]
  exact h.trans ⟨rfl, h.run⟩

theorem ite_undone {s t u : State} {c : Prop} [Decidable c] (h : Undone s t) (k : Undone s u) : Undone s (if c then t else u) := by
  split
  · exact h
  · exact k

section
variable {s : State} (hs : s.pwr.state = 0 ∧ s.pwr.inflight = false)
include hs

theorem pln_undone (p : Pln) : Undone s { s with pln := p } := ⟨rfl, hs⟩

theorem bst_undone (b : Bst) : Undone s { s with bst := b } := ⟨rfl, hs⟩

/-- The power controller's state and what it has in progress stand. -/
theorem pwr_undone {p : Pwr} (h : p.state = s.pwr.state) (k : p.inflight = s.pwr.inflight) : Undone s { s with pwr := p } :=
  ⟨rfl, h.trans hs.1, k.trans hs.2⟩

theorem writePln_undone (off : Nat) (v : Word) : Taken (Undone s) (writePln off v s) := by
  have put : ∀ f : Pln → Pln, Taken (Undone s) (some (modPln f s)) := fun f => .some (pln_undone hs _)
  have same : Taken (Undone s) (some s) := .some (pln_undone hs s.pln)
  unfold writePln
  refine ite_taken .none (ite_taken same (ite_taken (ite_taken same .none) (ite_taken (put _) (ite_taken same (ite_taken same
    (ite_taken same (ite_taken (put _) (ite_taken (put _) (ite_taken same (ite_taken (put _) (ite_taken same ?_)))))))))))
  split
  case h_4 => exact ite_taken same (put _)
  case h_9 => exact .none
  case h_1 | h_5 | h_6 => exact put _
  all_goals exact same

theorem writeBst_undone (off : Nat) (v : Word) : Taken (Undone s) (writeBst off v s) := by
  unfold writeBst
  refine ite_taken .none (ite_taken (.some (bst_undone hs s.bst)) ?_)
  split
  case h_3 => exact .some (ite_undone (bst_undone hs s.bst) (bst_undone hs _))
  case h_4 => exact .none
  all_goals exact .some (bst_undone hs _)

/-- A register of the power controller takes a value; PWR_REQ no request. -/
theorem writePwr_undone {off : Nat} {v : Word} (e : WriteEnv) (hv : off = 0x04 → v = 0) : Taken (Undone s) (writePwr off v e s) := by
  have same : Undone s s := pwr_undone hs (p := s.pwr) rfl rfl
  unfold writePwr
  refine ite_taken .none (ite_taken (.some (pwr_undone hs rfl rfl)) (ite_taken (.some same) ?_))
  split
  case h_2 =>
    rw [hv rfl]
    exact .some same
  case h_9 | h_10 | h_12 => exact .some (ite_undone (activate_undone (pwr_undone hs rfl rfl)) (pwr_undone hs rfl rfl))
  case h_14 => exact .some (ite_undone same (ite_undone (pwr_undone hs rfl rfl) (ite_undone (pwr_undone hs rfl rfl) same)))
  case h_15 => exact .none
  case h_1 | h_6 | h_7 | h_8 | h_13 => exact .some same
  all_goals exact .some (pwr_undone hs rfl rfl)

/-- One register of those returns to reset. -/
theorem blockWrite_undone {a : Nat} {w : Block × Nat} {v : Word} {u : State} (e : WriteEnv) (hw : lateReg a = some w)
    (hv : blockRead w.1 w.2 none State.reset = some (v, u)) : Taken (Undone s) (blockWrite 16 w.1 w.2 v e s) := by
  unfold lateReg at hw
  split at hw <;> cases hw
  · exact writePln_undone hs _ _
  · refine writePwr_undone hs e fun ho => ?_
    subst ho
    cases hv
    rfl
  · exact writeBst_undone hs _ _

end

/-- What an attempt wrote and its failure takes back lies in those registers (R287). -/
theorem undoWrites_undone (x : Slot) (cause : Nat) {s : State} (hs : s.pwr.state = 0 ∧ s.pwr.inflight = false) :
    Undone s (undoWrites x cause s) := by
  unfold undoWrites
  generalize writtenIn x cause s = l
  induction l generalizing s with
  | nil => exact ⟨rfl, hs⟩
  | cons a l ih =>
    rw [List.filterMap_cons]
    split
    · exact ih hs
    · next w hw =>
      rw [List.foldl_cons]
      split
      · next v u hv =>
        cases h : blockWrite 16 w.1 w.2 v (freeEnv s) s with
        | none => exact ih hs
        | some t =>
          have step := (blockWrite_undone hs _ hw hv).of t h
          exact step.trans (ih step.run)
      · exact ih hs

/-! ### A failure -/

/-- IMG_FAIL takes a cause, and one more attempt has failed (R286). -/
def failNoted (slot cause bay frame : Nat) (i : Img) : Img :=
  { i with failSlot := BitVec.ofNat 2 slot, failCause := BitVec.ofNat 4 cause,
           failBay := BitVec.ofNat 6 bay, failFrame := BitVec.ofNat 10 frame, failed := i.failed + 1 }

theorem loadFailed_told (slot cause bay frame : Nat) (s : State) :
    Told (modImg (failNoted slot cause bay frame) s) (loadFailed slot cause bay frame s) := logRec_told ..

/-- The loader's state once an attempt has failed: its reset, the failure noted, these candidates left (R286 to R288). -/
def afterFailure (slot cause bay frame : Nat) (rest : List (BitVec 2)) (s : State) : Img :=
  let i := failNoted slot cause bay frame (loadReset s).img
  { i with cands := rest, noimage := i.noimage || rest.isEmpty }

/-- The end of an attempt on the slot whose turn it was. -/
theorem failAttempt_leaves {s : State} {slot : BitVec 2} {rest : List (BitVec 2)} (hc : s.img.cands = slot :: rest) (cause bay frame : Nat) :
    (failAttempt slot.toNat cause bay frame s).img = afterFailure slot.toNat cause bay frame rest s ∧
    (failAttempt slot.toNat cause bay frame s).rstout = true ∧
    (rest = [] → (failAttempt slot.toNat cause bay frame s).faultn = true) := by
  have held := loadReset_atLoad s
  have undo := undoWrites_undone (slotOf s.img slot.toNat) cause held.run
  unfold failAttempt
  generalize undoWrites (slotOf s.img slot.toNat) cause (loadReset s) = u at undo
  have told := loadFailed_told slot.toNat cause bay frame u
  simp only
  generalize loadFailed slot.toNat cause bay frame u = t at told
  have timg : t.img = failNoted slot.toNat cause bay frame (loadReset s).img := by rw [told.eq, undo.eq]; rfl
  have tout : t.rstout = true := by rw [told.eq, undo.eq]; exact held.rstout
  have htail : t.img.cands.tail = rest := by rw [timg, loadReset_img]; exact congrArg List.tail hc
  cases rest with
  | nil =>
    rw [if_pos (by simp [htail])]
    refine ⟨?_, rfl, fun _ => rfl⟩
    simp [noImage, timg, afterFailure]
  | cons k rest =>
    rw [if_neg (by simp [htail])]
    refine ⟨?_, tout, nofun⟩
    rw [modImg_img, List.drop_one, htail, timg]
    simp [afterFailure]

/-- An attempt on the slot whose turn it was ends with a cause (R286 to R288). -/
theorem failAttempt_failed {s : State} {slot : BitVec 2} {rest : List (BitVec 2)} (hc : s.img.cands = slot :: rest) (cause bay frame : Nat) :
    Failed s (failAttempt slot.toNat cause bay frame s) slot cause bay frame rest := by
  obtain ⟨himg, hout, hfault⟩ := failAttempt_leaves hc cause bay frame
  constructor <;> rw [himg] <;> simp [afterFailure, failNoted, hout]
  exact fun hlast => ⟨.inr hlast, hfault hlast⟩

end Sys2Proof.Proofs
end

section
/-! PROOFS. What a manifest says (R267 to R269), and the causes that its header gives an attempt (R282 step 1, R286). -/

namespace Sys2Proof.Proofs
open Sys2Proof Sys2Proof.Machine Sys2Proof.Claims

/-! ### Fields of a manifest -/

theorem memNat_lt (m : Mem) (a n : Nat) : memNat m a n < 256 ^ n :=
  (leNat_lt _).trans_eq (by rw [memRead, List.length_map, List.length_range])

theorem memWord_toNat (m : Mem) (a : Nat) : (memWord m a).toNat = memNat m a 4 := by
  have := memNat_lt m a 4
  rw [memWord, BitVec.toNat_ofNat, Nat.mod_eq_of_lt (by omega)]

theorem flags_get (m : Mem) {k : Nat} (hk : k < 32) : (mFlags m).getLsbD k = decide (memNat m 12 4 / 2 ^ k % 2 = 1) := by
  rw [mFlags, memWord, BitVec.getLsbD_ofNat, decide_eq_true hk, Bool.true_and, Nat.testBit_eq_decide_div_mod_eq]

theorem fStrict_eq (m : Mem) : fStrict m = decide (memNat m 12 4 / 2 % 2 = 1) := flags_get m (k := 1) (by decide)

theorem fDbgwr_eq (m : Mem) : fDbgwr m = decide (memNat m 12 4 / 8 % 2 = 1) := flags_get m (k := 3) (by decide)

theorem magicOk_iff (m : Mem) (n : Nat) : magicOk m n = true ↔ memNat m 0 4 = 0x4D49575A ∧ memNat m 4 4 = n := by
  rw [magicOk, Bool.and_eq_true, beq_iff_eq, beq_iff_eq, ← BitVec.toNat_inj, memWord_toNat]
  rfl

theorem flagsOk_iff (m : Mem) : flagsOk m = true ↔ memNat m 12 4 < 16 := by
  rw [flagsOk, decide_eq_true_iff, mFlags, memWord_toNat]

/-- The part of MMARK that TARGET is held against does not depend on the minor number (R2). -/
theorem targetOk_iff (m : Mem) : targetOk m = true ↔ memNat m 8 4 / 16 = 0x5A57091 := by
  have hmark : field mmark 31 4 = 0x5A57091#28 := by
    unfold mmark
    generalize Config.minor = k
    revert k
    decide
  have := memNat_lt m 8 4
  rw [targetOk, beq_iff_eq, hmark, ← BitVec.toNat_inj, toNat_field, memWord_toNat, Nat.mod_eq_of_lt (by omega)]
  rfl

theorem keyPass_iff (i : Img) (m : Mem) : keyPass i m = true ↔
    memNat m 0x14 4 < 4 ∧ i.prog.getLsbD (memNat m 0x14 4) = true ∧ i.rev.getLsbD (memNat m 0x14 4) = false ∧
      i.minsvn.toNat ≤ memNat m 16 4 := by
  simp only [keyPass, keyUsable, Bool.and_eq_true, decide_eq_true_eq, Bool.not_eq_true', and_assoc]
  rfl

/-! ### The first four causes -/

/-- The four header checks in order, each with its cause. -/
theorem headerCause_eq (i : Img) (x : Slot) : headerCause i x =
    if ¬x.state = 2 then some 3
    else if ¬(x.manErr = false ∧ memNat x.manifest 0 4 = 0x4D49575A ∧ memNat x.manifest 4 4 = 1 ∧ memNat x.manifest 12 4 < 16) then some 1
    else if ¬memNat x.manifest 8 4 / 16 = 0x5A57091 then some 2
    else if ¬(memNat x.manifest 0x14 4 < 4 ∧ i.prog.getLsbD (memNat x.manifest 0x14 4) = true ∧
      i.rev.getLsbD (memNat x.manifest 0x14 4) = false ∧ i.minsvn.toNat ≤ memNat x.manifest 16 4) then some 4
    else none := by
  refine if_congr Iff.rfl rfl (if_congr ?_ rfl (if_congr ?_ rfl (if_congr ?_ rfl rfl)))
  · rw [← flagsOk_iff, ← and_assoc (c := flagsOk x.manifest = true), ← magicOk_iff]
    cases x.manErr <;> cases magicOk x.manifest 1 <;> cases flagsOk x.manifest <;> decide
  · rw [← targetOk_iff, Bool.not_eq_true', Bool.not_eq_true]
  · rw [← keyPass_iff, Bool.not_eq_true', Bool.not_eq_true]

theorem headerCause_none {i : Img} {x : Slot} (h : ∀ e ∈ headerChecks i x, e.2) : headerCause i x = none := by
  simp only [headerChecks, List.forall_mem_cons] at h
  obtain ⟨h3, h1, h2, h4, -⟩ := h
  rw [headerCause_eq, if_neg (not_not.2 h3), if_neg (not_not.2 h1), if_neg (not_not.2 h2), if_neg (not_not.2 h4)]

theorem headerCause_fails {i : Img} {x : Slot} {c : Nat} (h : HeaderFails i x c) : headerCause i x = some c := by
  obtain ⟨k, e, he, rfl, hfail, hbefore⟩ := h
  have hk : k < 4 := (List.getElem?_eq_some_iff.1 he).1
  have pass : ∀ j d, (headerChecks i x)[j]? = some d → j < k → d.2 := fun j d hd hj => hbefore j d hj hd
  rw [headerCause_eq]
  interval_cases k <;> obtain rfl := Option.some.inj he
  · exact if_pos hfail
  · rw [if_neg (not_not.2 (pass 0 _ rfl (by decide)))]
    exact if_pos hfail
  · rw [if_neg (not_not.2 (pass 0 _ rfl (by decide))), if_neg (not_not.2 (pass 1 _ rfl (by decide)))]
    exact if_pos hfail
  · rw [if_neg (not_not.2 (pass 0 _ rfl (by decide))), if_neg (not_not.2 (pass 1 _ rfl (by decide))),
      if_neg (not_not.2 (pass 2 _ rfl (by decide)))]
    exact if_pos hfail

end Sys2Proof.Proofs
end

section
/-! PROOFS. The causes that an attempt's frames and setter areas give, and the first of them (R282 steps 4 and 5, R286). -/

namespace Sys2Proof.Proofs
open Sys2Proof Sys2Proof.Machine Sys2Proof.Claims

variable {x : Slot}

/-- A frame fails for cause 7, which its CRC-16 or its decayed record gives, or for cause 6 where those are right. -/
theorem frameCause_iff {c b f : Nat} (hb : b < 64) (hf : f < 960) : frameCause x b f = some c ↔ FrameBad x c b f := by
  have hat : frameAt x.manifest b f = recordOf x b f := rfl
  unfold frameCause FrameBad
  simp only [frameBytes, hat]
  generalize recordOf x b f = a
  generalize (kvGet x.planeErr (b * 960 + f)).isSome = decayed
  generalize crc16 (memRead x.payload a 130) = crc, BitVec.ofNat 16 (memNat x.payload (a + 130) 2) = kept
  generalize (Config.frameCheck (memRead x.payload a 128)).toNat = check, memNat x.payload (a + 128) 2 = bits
  generalize Config.frameRoutingOk f (memRead x.payload a 128) = routed
  by_cases hcrc : crc = kept
  · by_cases hbits : check = bits
    · cases decayed <;> cases routed <;> simp [hcrc, hbits, hb, hf, eq_comm (b := c)]
    · cases decayed <;> simp [hcrc, hbits, hb, hf, Ne.symm hbits, eq_comm (b := c)]
  · cases decayed <;> simp [hcrc, hb, hf, eq_comm (b := c)]

theorem frameBad_cause {c b f : Nat} (h : FrameBad x c b f) : c = 6 ∨ c = 7 := by
  obtain ⟨-, -, ⟨hc, -⟩ | ⟨hc, -⟩⟩ := h
  · exact .inr hc
  · exact .inl hc

/-- The lowest bay whose frame f fails for this cause. -/
theorem badBay_some {b f c : Nat} (hf : f < 960) (h : FrameBad x c b f) (hfirst : ∀ k, k < b → ¬FrameBad x c k f) :
    badBay x (List.range 64) f c = some (c, b, f) := by
  have hb := h.1
  have hfind : (List.range 64).find? (fun b => frameCause x b f == some c) = some b := by
    rw [List.find?_range_eq_some]
    refine ⟨by simp [(frameCause_iff hb hf).2 h], List.mem_range.2 hb, fun k hk => ?_⟩
    have := mt (frameCause_iff (c := c) (hk.trans hb) hf).1 (hfirst k hk)
    simpa using this
  rw [badBay, hfind]
  rfl

theorem badBay_none {f c : Nat} (hf : f < 960) (h : ∀ b, ¬FrameBad x c b f) : badBay x (List.range 64) f c = none := by
  have hfind : (List.range 64).find? (fun b => frameCause x b f == some c) = none := by
    refine List.find?_eq_none.2 fun b hb e => h b ((frameCause_iff (List.mem_range.1 hb) hf).1 (beq_iff_eq.1 e))
  rw [badBay, hfind]
  rfl

/-- What the frames give is a failure of one of them. -/
theorem badBay_bad {f c : Nat} {r : Nat × Nat × Nat} (hf : f < 960) (h : badBay x (List.range 64) f c = some r) :
    FrameBad x r.1 r.2.1 r.2.2 := by
  obtain ⟨b, hfind, rfl⟩ := Option.map_eq_some_iff.1 h
  have hb := List.mem_range.1 (List.mem_of_find?_eq_some hfind)
  have hcause := List.find?_some hfind
  exact (frameCause_iff hb hf).1 (beq_iff_eq.1 hcause)

theorem badFrame_bad {r : Nat × Nat × Nat} (h : badFrame x (List.range 64) = some r) : FrameBad x r.1 r.2.1 r.2.2 := by
  obtain ⟨f, hf, h⟩ := List.exists_of_findSome?_eq_some h
  rcases Option.or_eq_some_iff.1 h with h | ⟨-, h⟩
  · exact badBay_bad (List.mem_range.1 hf) h
  · exact badBay_bad (List.mem_range.1 hf) h

theorem badFrame_none (h : ∀ c b f, ¬FrameBad x c b f) : badFrame x (List.range 64) = none := by
  cases hr : badFrame x (List.range 64) with
  | none => rfl
  | some r => exact (h _ _ _ (badFrame_bad hr)).elim

/-- The first number of a range that a function answers for. -/
theorem findSome?_range {α : Type} {g : Nat → Option α} {n k : Nat} {r : α} (hk : k < n) (h : g k = some r)
    (hbefore : ∀ j, j < k → g j = none) : (List.range n).findSome? g = some r := by
  induction n with
  | zero => omega
  | succ n ih =>
    rw [List.range_succ, List.findSome?_append]
    by_cases hn : k < n
    · rw [ih hn]
      rfl
    · obtain rfl : k = n := by omega
      have none : (List.range k).findSome? g = none := List.findSome?_eq_none_iff.2 fun j hj => hbefore j (List.mem_range.1 hj)
      rw [none, List.findSome?_singleton, h]
      rfl

/-- The first failure of the frames (R286). -/
theorem badFrame_first {c b f : Nat} (h : FirstBad x c b f) : badFrame x (List.range 64) = some (c, b, f) := by
  obtain ⟨hbad, hfirst⟩ := h
  have hf := hbad.2.1
  have hc := frameBad_cause hbad
  -- nothing stands in an earlier frame: causes lie at most one frame's time apart
  have before : ∀ c' b' k, k < f → ¬FrameBad x c' b' k := fun c' b' k hk hbad' => by
    have := hfirst c' b' k hbad'
    simp only [frameMoment] at this
    split_ifs at this <;> omega
  refine findSome?_range hf ?_ fun k hk => ?_
  · have lower : ∀ k, k < b → ¬FrameBad x c k f := fun k hk hbad' => by
      have := hfirst c k f hbad'
      omega
    rcases hc with rfl | rfl
    · rw [badBay_some hf hbad lower]
      rfl
    · have none6 : ∀ k, ¬FrameBad x 6 k f := fun k hbad' => by
        have := hfirst 6 k f hbad'
        simp [frameMoment] at this
      rw [badBay_none hf none6, badBay_some hf hbad lower]
      rfl
  · rw [badBay_none (hk.trans hf) fun b' => before _ _ _ hk, badBay_none (hk.trans hf) fun b' => before _ _ _ hk]
    rfl

/-! ### Frames and setter areas alongside one another -/

theorem memoryCause_frame {c b f : Nat} (h : FirstBad x c b f) (ha : ∀ n, x.areaErr = some n → frameMoment c f ≤ areaMoment n) :
    memoryCause x = some (c, b, f) := by
  unfold memoryCause
  rw [badFrame_first h]
  cases hn : x.areaErr with
  | none => rfl
  | some n =>
    have hle : ¬areaTime (n % 24576) < frameTime c f := Nat.not_lt.2 (ha n hn)
    exact if_neg hle

theorem memoryCause_area {n : Nat} (hn : x.areaErr = some n) (h : ∀ c b f, FrameBad x c b f → areaMoment n < frameMoment c f) :
    memoryCause x = some (13, 0, 0) := by
  unfold memoryCause
  rw [hn]
  cases hr : badFrame x (List.range 64) with
  | none => rfl
  | some r =>
    have hlt : areaTime (n % 24576) < frameTime r.1 r.2.2 := h _ _ _ (badFrame_bad hr)
    exact if_pos hlt

theorem memoryCause_none (hn : x.areaErr = none) (h : ∀ c b f, ¬FrameBad x c b f) : memoryCause x = none := by
  unfold memoryCause
  rw [badFrame_none h, hn]

end Sys2Proof.Proofs
end

section
/-! PROOFS. The memories that a loaded slot's planes give (R141, R269, R272): live masks, block memories, programs and data. -/

namespace Sys2Proof.Proofs
open Sys2Proof Sys2Proof.Machine Sys2Proof.Claims

/-! ### Lists of keys -/

/-- A key among those that a function of a list of keys answers for. -/
theorem kvGet_filterMap {α : Type} (g : Nat → Option α) (l : List Nat) (c : Nat) :
    kvGet (l.filterMap fun c => (g c).map (Prod.mk c)) c = if c ∈ l then g c else none := by
  induction l with
  | nil => rfl
  | cons a l ih =>
    rw [List.filterMap_cons]
    cases hg : g a with
    | none =>
      rw [Option.map_none]
      simp only
      rw [ih]
      by_cases hc : c = a
      · subst hc
        simp [hg]
      · simp [hc]
    | some v =>
      simp only [Option.map_some, kvGet]
      by_cases hc : a = c
      · subst hc
        simp [hg]
      · rw [if_neg hc, ih]
        simp [Ne.symm hc]

/-- In canonical form a key has the value listed with it. -/
theorem kvGet_mem {α : Type} {drop : α → Bool} {m : List (Nat × α)} (h : kvWf drop m = true) {k : Nat} {v : α} :
    kvGet m k = some v ↔ (k, v) ∈ m := by
  induction m with
  | nil => simp [kvGet]
  | cons e t ih =>
    obtain ⟨j, w⟩ := e
    simp only [kvWf, Bool.and_eq_true] at h
    obtain ⟨⟨-, habove⟩, ht⟩ := h
    rw [kvGet, List.mem_cons, ← ih ht]
    by_cases hj : j = k
    · subst hj
      rw [kvGet_above j j t habove (le_refl j)]
      simp [eq_comm]
    · simp [hj, Ne.symm hj]

/-- Bits kept by the places at 1 alone. -/
theorem kvGet_ones {m : List (Nat × Bool)} (h : ∀ e ∈ m, e.2 = true) (k : Nat) : (kvGet m k).getD false = true ↔ (k, true) ∈ m := by
  induction m with
  | nil => simp [kvGet]
  | cons e t ih =>
    obtain ⟨j, w⟩ := e
    obtain rfl : w = true := h (j, w) (List.mem_cons_self ..)
    rw [kvGet, List.mem_cons, ← ih fun e he => h e (List.mem_cons_of_mem _ he)]
    by_cases hj : j = k
    · simp [hj]
    · simp [hj, Ne.symm hj]

/-! ### Live masks -/

theorem field_maskPar (m : BitVec 16) : field (maskPar m) 15 0 = m := by
  rw [← BitVec.toNat_inj, toNat_field, maskPar, BitVec.toNat_ofNat]
  have := m.isLt
  cases parity16 m <;> simp <;> omega

/-- A mask written with its parity is not odd (R143). -/
theorem not_oddMask_maskPar (m : BitVec 16) : ¬oddMask (maskPar m) := by
  have hpar : (maskPar m).getLsbD 16 = parity16 m := by
    rw [maskPar, BitVec.getLsbD_ofNat, Nat.testBit_eq_decide_div_mod_eq]
    have := m.isLt
    cases parity16 m <;> simp <;> omega
  rw [← maskBad_iff, maskBad, field_maskPar, hpar]
  simp

/-- The mask of a course that the image gives. -/
def courseMask (x : Slot) (b c : Nat) : BitVec 16 := BitVec.ofNat 16 (memNat x.payload (recordOf x b (956 + c / 64) + 2 * (c % 64)) 2)

theorem maskOf_loadBay (x : Slot) (b : Nat) (y : Bay) {c : Nat} (hc : c < 256) : maskOf (loadBay x b y) c = maskPar (courseMask x b c) := by
  have hlist : imageMasks x b = (List.range 256).filterMap fun c =>
      (if courseMask x b c = 0 then none else some (maskPar (courseMask x b c))).map (Prod.mk c) := by
    refine List.filterMap_congr fun k _ => ?_
    show (if courseMask x b k = 0 then none else some (k, maskPar (courseMask x b k))) = _
    split <;> rfl
  rw [maskOf, loadBay, hlist]
  show (kvGet _ c).getD 0 = _
  rw [kvGet_filterMap, if_pos (List.mem_range.2 hc)]
  split
  · next h => 
    rw [h]
    decide
  · rfl

/-! ### Block memories -/

theorem memByte_bit {m : Mem} (h : kvWf isZeroByte m = true) (a i : Nat) :
    (memByte m a).getLsbD i = true ↔ ∃ v : Byte, (a, v) ∈ m ∧ v.getLsbD i = true := by
  rw [memByte]
  constructor
  · intro hb
    cases hv : kvGet m a with
    | none =>
      rw [hv] at hb
      simp at hb
    | some v =>
      rw [hv] at hb
      exact ⟨v, (kvGet_mem h).1 hv, hb⟩
  · rintro ⟨v, hv, hb⟩
    rw [(kvGet_mem h).2 hv]
    exact hb

theorem imageBram_mem (x : Slot) (b : Nat) (k : Nat) (v : Bool) : (k, v) ∈ imageBram x b ↔ v = true ∧ ∃ e ∈ x.payload,
    (recordOf x b 632 ≤ e.1 ∧ e.1 < recordOf x b 632 + 132 * 324 ∧ (e.1 - recordOf x b 632) % 132 < 128) ∧
      ∃ i, i < 8 ∧ e.2.getLsbD i = true ∧ k = 1024 * ((e.1 - recordOf x b 632) / 132) + 8 * ((e.1 - recordOf x b 632) % 132) + i := by
  have hat : frameAt x.manifest b 632 = recordOf x b 632 := rfl
  simp only [imageBram, hat, List.mem_flatMap]
  constructor
  · rintro ⟨e, he, hmem⟩
    split at hmem
    · next hin =>
      obtain ⟨i, hi, heq⟩ := List.mem_filterMap.1 hmem
      split at heq
      · next hbit =>
        cases heq
        exact ⟨rfl, e, he, hin, i, List.mem_range.1 hi, hbit, rfl⟩
      · cases heq
    · cases hmem
  · rintro ⟨rfl, e, he, hin, i, hi, hbit, rfl⟩
    refine ⟨e, he, ?_⟩
    rw [if_pos hin]
    exact List.mem_filterMap.2 ⟨i, List.mem_range.2 hi, if_pos hbit⟩

/-- A bit of a block memory, in its frame's record (R272). -/
theorem imageBram_get {x : Slot} (h : kvWf isZeroByte x.payload = true) (b : Nat) {k : Nat} (hk : k < 324 * 1024) :
    (kvGet (imageBram x b) k).getD false = (memByte x.payload (recordOf x b (632 + k / 1024) + k % 1024 / 8)).getLsbD (k % 8) := by
  have hat : recordOf x b (632 + k / 1024) = recordOf x b 632 + 132 * (k / 1024) := by
    simp only [recordOf]
    omega
  rw [Bool.eq_iff_iff, kvGet_ones (fun e he => ((imageBram_mem x b e.1 e.2).1 he).1), imageBram_mem, memByte_bit h, hat]
  generalize recordOf x b 632 = lo
  constructor
  · rintro ⟨-, ⟨a, v⟩, he, ⟨hlo, hhi, hdata⟩, i, hi, hbit, hkey⟩
    dsimp only at hlo hhi hdata hbit hkey
    have hplace : lo + 132 * (k / 1024) + k % 1024 / 8 = a := by omega
    have hnum : k % 8 = i := by omega
    exact ⟨v, hplace ▸ he, hnum ▸ hbit⟩
  · rintro ⟨v, he, hbit⟩
    refine ⟨rfl, _, he, ⟨?_, ?_, ?_⟩, k % 8, Nat.mod_lt _ (by decide), hbit, ?_⟩ <;> dsimp only <;> omega

/-! ### Setter areas -/

/-- A byte of a setter's data, in its area (R269). -/
theorem imageData_get (x : Slot) (i : Nat) {a : Nat} (ha : a < 32768) :
    memByte (imageData x i) a = memByte x.payload (memNat x.manifest 0x90 4 + 32768 * i + a) := by
  have hbase : secAt x.manifest 2 = memNat x.manifest 0x90 4 := rfl
  simp only [memByte, imageData, hbase]
  generalize memNat x.manifest 0x90 4 + 32768 * i = base
  congr 1
  induction x.payload with
  | nil => rfl
  | cons e t ih =>
    obtain ⟨j, v⟩ := e
    rw [List.filterMap_cons]
    by_cases hj : base ≤ j ∧ j < base + 32768
    · simp only [if_pos hj, kvGet, ih]
      refine if_congr ?_ rfl rfl
      omega
    · simp only [if_neg hj, kvGet, ih]
      rw [if_neg (by omega)]

/-! ### Words of a memory -/

theorem leNat_testBit (l : List Byte) (i : Nat) : (leNat l).testBit i = ((l[i / 8]?).getD 0).getLsbD (i % 8) := by
  induction l generalizing i with
  | nil => simp [leNat]
  | cons b t ih =>
    have hb : b.toNat < 2 ^ 8 := b.isLt
    rw [leNat, Nat.add_comm, show (256 : Nat) = 2 ^ 8 from rfl, Nat.testBit_two_pow_mul_add _ hb]
    by_cases hi : i < 8
    · rw [if_pos hi, Nat.div_eq_of_lt hi, Nat.mod_eq_of_lt hi]
      rfl
    · obtain ⟨j, rfl⟩ := Nat.exists_eq_add_of_le (Nat.not_lt.1 hi)
      rw [if_neg hi, ih, Nat.add_sub_cancel_left, Nat.add_mod_left, Nat.add_div_left _ (by decide)]
      rfl

theorem memWord_get (m : Mem) (a : Nat) {i : Nat} (hi : i < 32) : (memWord m a).getLsbD i = (memByte m (a + i / 8)).getLsbD (i % 8) := by
  have hj : i / 8 < 4 := by omega
  rw [memWord, BitVec.getLsbD_ofNat, decide_eq_true hi, Bool.true_and, memNat, leNat_testBit, memRead, List.getElem?_map,
    List.getElem?_range hj]
  rfl

theorem valAt_get (lo : Nat) (b : Byte) {i : Nat} (hi : i < 32) :
    (valAt lo b.toNat).getLsbD i = (decide (lo ≤ i) && b.getLsbD (i - lo)) := by
  rw [valAt, BitVec.getLsbD_ofNat, decide_eq_true hi, Bool.true_and, Nat.testBit_mul_two_pow]
  rfl

/-- A word of a memory with one byte below the others listed. -/
theorem memWord_cons {t : Mem} {j : Nat} (v : Byte) (h : kvAbove j t = true) (a : Nat) : memWord ((j, v) :: t) a =
    if a ≤ j ∧ j < a + 4 then valAt (8 * (j - a)) v.toNat ||| memWord t a else memWord t a := by
  apply BitVec.eq_of_getLsbD_eq
  intro i hi
  have hbyte : memByte ((j, v) :: t) (a + i / 8) = if j = a + i / 8 then v else memByte t (a + i / 8) := by
    rw [memByte, kvGet]
    split <;> rfl
  rw [memWord_get _ _ hi, hbyte]
  by_cases hj : j = a + i / 8
  · subst hj
    have hzero : memByte t (a + i / 8) = 0#8 := by rw [memByte, kvGet_above _ _ t h (le_refl _)]; rfl
    rw [if_pos rfl, if_pos (by omega), BitVec.getLsbD_or, valAt_get _ _ hi, memWord_get _ _ hi, hzero, BitVec.getLsbD_zero, Bool.or_false,
      decide_eq_true (by omega), Bool.true_and]
    congr 1
    omega
  · rw [if_neg hj, ← memWord_get t a hi]
    split
    · next hin =>
      have hout : (decide (8 * (j - a) ≤ i) && v.getLsbD (i - 8 * (j - a))) = false := by
        by_cases hle : 8 * (j - a) ≤ i
        · rw [BitVec.getLsbD_of_ge _ _ (by omega), Bool.and_false]
        · rw [decide_eq_false hle, Bool.false_and]
      rw [BitVec.getLsbD_or, valAt_get _ _ hi, hout, Bool.false_or]
    · rfl

/-! ### Words gathered from bytes -/

/-- A byte joins the words of those above it. -/
def gatherOne (k : Nat) (w : Word) (l : List (Nat × Word)) : List (Nat × Word) :=
  match l with
  | (k', w') :: t => if k' = k then (k, w ||| w') :: t else (k, w) :: l
  | [] => [(k, w)]

theorem gatherWords_cons (base n j : Nat) (v : Byte) (t : Mem) : gatherWords base n ((j, v) :: t) =
    if base ≤ j ∧ j < base + 4 * n then gatherOne ((j - base) / 4) (valAt (8 * ((j - base) % 4)) v.toNat) (gatherWords base n t)
    else gatherWords base n t := rfl

/-- Keys strictly rising from lo on. -/
def Rising (lo : Nat) (l : List (Nat × Word)) : Prop := l.Pairwise (fun p q => p.1 < q.1) ∧ ∀ p ∈ l, lo ≤ p.1

theorem Rising.mono {lo k : Nat} {l : List (Nat × Word)} (h : Rising k l) (hk : lo ≤ k) : Rising lo l := ⟨h.1, fun p hp => hk.trans (h.2 p hp)⟩

theorem gatherOne_rising {k : Nat} {w : Word} {l : List (Nat × Word)} (h : Rising k l) : Rising k (gatherOne k w l) := by
  obtain ⟨hpair, hlow⟩ := h
  unfold gatherOne
  split
  · next k' w' t =>
    obtain ⟨habove, ht⟩ := List.pairwise_cons.1 hpair
    split
    · next hk =>
      subst hk
      exact ⟨List.pairwise_cons.2 ⟨habove, ht⟩, List.forall_mem_cons.2 ⟨le_refl _, fun p hp => hlow p (List.mem_cons_of_mem _ hp)⟩⟩
    · next hk =>
      have hlt : k < k' := lt_of_le_of_ne (hlow _ (List.mem_cons_self ..)) (Ne.symm hk)
      have hfirst : ∀ p ∈ (k', w') :: t, k < p.1 := List.forall_mem_cons.2 ⟨hlt, fun p hp => hlt.trans (habove p hp)⟩
      exact ⟨List.pairwise_cons.2 ⟨hfirst, hpair⟩, List.forall_mem_cons.2 ⟨le_refl _, hlow⟩⟩
  · exact ⟨List.pairwise_singleton .., by simp⟩

theorem kvGet_lower {k : Nat} {l : List (Nat × Word)} (h : ∀ p ∈ l, k < p.1) : kvGet l k = none :=
  kvGet_above k k l (by simpa [kvAbove] using h) (le_refl k)

theorem gatherOne_get {k : Nat} {w : Word} {l : List (Nat × Word)} (h : Rising k l) (a : Nat) :
    (kvGet (gatherOne k w l) a).getD 0 = if a = k then w ||| (kvGet l k).getD 0 else (kvGet l a).getD 0 := by
  obtain ⟨hpair, hlow⟩ := h
  unfold gatherOne
  split
  · next k' w' t =>
    obtain ⟨habove, -⟩ := List.pairwise_cons.1 hpair
    split
    · next hk =>
      subst hk
      by_cases ha : k' = a <;> simp [kvGet, ha, eq_comm (a := a)]
    · next hk =>
      have hlt : k < k' := lt_of_le_of_ne (hlow _ (List.mem_cons_self ..)) (Ne.symm hk)
      have hnone : kvGet ((k', w') :: t) k = none := kvGet_lower (List.forall_mem_cons.2 ⟨hlt, fun p hp => hlt.trans (habove p hp)⟩)
      rw [hnone]
      by_cases ha : a = k
      · simp [kvGet, ha]
      · rw [if_neg ha, kvGet, if_neg (Ne.symm ha)]
  · by_cases ha : k = a <;> simp [kvGet, ha, eq_comm (a := a)]

theorem gatherWords_rising {base n lo : Nat} {l : Mem} (h : kvWf isZeroByte l = true) (hlo : ∀ e ∈ l, lo ≤ e.1) :
    Rising ((lo - base) / 4) (gatherWords base n l) := by
  induction l generalizing lo with
  | nil => exact ⟨.nil, by simp [gatherWords]⟩
  | cons e t ih =>
    obtain ⟨j, v⟩ := e
    simp only [kvWf, Bool.and_eq_true] at h
    obtain ⟨⟨-, habove⟩, ht⟩ := h
    have hj := hlo _ (List.mem_cons_self ..)
    have htail : Rising ((j - base) / 4) (gatherWords base n t) := ih ht fun e he => by
      have := List.all_eq_true.1 habove e he
      exact (of_decide_eq_true this).le
    rw [gatherWords_cons]
    refine Rising.mono ?_ (Nat.div_le_div_right (Nat.sub_le_sub_right hj base))
    split
    · exact gatherOne_rising htail
    · exact htail

/-- The words gathered are those of the memory (R269). -/
theorem gatherWords_get {base n : Nat} {l : Mem} (h : kvWf isZeroByte l = true) {a : Nat} (ha : a < n) :
    (kvGet (gatherWords base n l) a).getD 0 = memWord l (base + 4 * a) := by
  induction l with
  | nil => 
    apply BitVec.eq_of_getLsbD_eq
    intro i hi
    rw [memWord_get _ _ hi]
    simp [gatherWords, kvGet, memByte]
  | cons e t ih =>
    obtain ⟨j, v⟩ := e
    have hwf := h
    simp only [kvWf, Bool.and_eq_true] at h
    obtain ⟨⟨-, habove⟩, ht⟩ := h
    have htail : Rising ((j - base) / 4) (gatherWords base n t) := gatherWords_rising ht fun e he => by
      have := List.all_eq_true.1 habove e he
      exact (of_decide_eq_true this).le
    rw [gatherWords_cons, memWord_cons v habove, ← ih ht]
    by_cases hin : base ≤ j ∧ j < base + 4 * n
    · rw [if_pos hin, gatherOne_get htail]
      by_cases hk : a = (j - base) / 4
      · subst hk
        rw [if_pos rfl, if_pos (by omega)]
        congr 2
        omega
      · rw [if_neg hk, if_neg (by omega)]
    · rw [if_neg hin, if_neg (by omega)]

/-- A word of a setter's program, in its area (R269). -/
theorem imageProg_get {x : Slot} (h : kvWf isZeroByte x.payload = true) (i : Nat) {a : Nat} (ha : a < 16384) :
    (kvGet (imageProg x i) a).getD 0 = BitVec.ofNat 32 (memNat x.payload (memNat x.manifest 0x88 4 + 65536 * i + 4 * a) 4) :=
  gatherWords_get h ha

end Sys2Proof.Proofs
end

section
/-! PROOFS. A load attempt (R280, R282, R286): its start, its end with a cause, and what a loaded slot leaves. -/

namespace Sys2Proof.Proofs
open Sys2Proof Sys2Proof.Machine Sys2Proof.Claims

/-! ### The end of the tables -/

theorem pllValid_admitted {khz : Option Nat} {x : Pll} (h : pllValid khz x = true) : Admitted khz x.ctrl x.odiv := by
  unfold pllValid fref at h
  unfold Admitted
  split at h
  · cases h
  · next f hf =>
    simp only [Bool.and_eq_true, decide_eq_true_eq, List.all_eq_true, List.mem_range, Bool.or_eq_true, Bool.not_eq_true'] at h
    obtain ⟨⟨⟨⟨h1, h2⟩, h3⟩, h4⟩, h5⟩ := h
    refine ⟨f, hf, h1, h2, h3, h4, fun o ho hen => ?_⟩
    rcases h5 o ho with hoff | hmax
    · exact absurd (hoff.symm.trans hen) (by decide)
    · exact hmax

theorem clocksOk_admitted {c : Clk} (h : clocksOk c = true) (p : PllId) : (p.val % 2 = 0 → (c.pll.get p).ctrl.getLsbD 31 = true) ∧
    ((c.pll.get p).ctrl.getLsbD 31 = true → Admitted c.khz (c.pll.get p).ctrl (c.pll.get p).odiv) := by
  have hp := List.all_eq_true.1 h p (List.mem_finRange p)
  simp only [Bool.and_eq_true, Bool.or_eq_true, beq_iff_eq, Bool.not_eq_true'] at hp
  obtain ⟨⟨⟨hen, hvalid⟩, -⟩, -⟩ := hp
  refine ⟨fun heven => hen.resolve_right (by omega), fun hon => ?_⟩
  exact pllValid_admitted (hvalid.resolve_left fun hoff => absurd (hoff.symm.trans hon) (by decide))

/-- What the last checks of the tables leave (R169, R283). -/
structure TablesDone (u : State) : Prop where
  clocks : clocksOk u.clk = true
  stand : ∀ i, (u.st i).run = false ∧ (u.st i).stopped = true

theorem tablesEnd_done {pay : Mem} {s u : State} (h : tablesEnd pay s = some u) : TablesDone u := by
  unfold tablesEnd at h
  split at h
  · split at h
    · next hok =>
      cases h
      simp only [Bool.and_eq_true] at hok
      obtain ⟨⟨⟨hclk, -⟩, -⟩, -⟩ := hok
      refine ⟨hclk, fun i => ?_⟩
      simp [State.st]
    · cases h
  · cases h

theorem applyTables_done {x : Slot} {s u : State} (h : applyTables x s = some u) : TablesDone u := by
  unfold applyTables at h
  split at h
  · cases h
  · split at h
    · obtain ⟨v, -, hv⟩ := Option.bind_eq_some_iff.1 h
      exact tablesEnd_done hv
    · cases h

/-- A first record whose TYPE is above 7 is a format error (R273). -/
theorem applyTables_undefined {x : Slot} (h : 7 < memNat x.payload (memNat x.manifest 0x80 4) 2) (s : State) : applyTables x s = none := by
  have hrecs : tableRecords x = none ∨ ∃ r l, tableRecords x = some (r :: l) ∧ 7 < r.type := by
    have hat : secAt x.manifest 0 = memNat x.manifest 0x80 4 := rfl
    unfold tableRecords recordsFrom
    rw [hat]
    simp only
    split_ifs with hstop hzero hlen
    · exact .inl rfl
    · omega
    · exact .inl rfl
    · generalize recordsFrom _ _ _ _ = o
      cases o with
      | none => exact .inl rfl
      | some l => exact .inr ⟨_, l, rfl, h⟩
  have hrec : ∀ (r : TableRec) (u : State), 7 < r.type → applyRecord x.payload r u = none := by
    intro r u hr
    unfold applyRecord
    split
    case h_8 => rfl
    all_goals omega
  unfold applyTables
  rcases hrecs with he | ⟨r, l, he, hr⟩
  · rw [he]
  · rw [he]
    simp only [applyRecords, hrec r _ hr]
    simp

/-! ### A loaded slot -/

/-- A setter as its memories leave it. -/
def loadSetter (x : Slot) (i : Nat) (y : Setter) : Setter :=
  { y with prog := imageProg x i, data := imageData x i, dbgwr := fDbgwr x.manifest }

theorem loadMemories_bay (x : Slot) (u : State) (b : BayId) : (loadMemories x u).bay b = loadBay x b.val (u.bay b) := by
  simp [loadMemories, State.bay]

theorem loadMemories_st (x : Slot) (u : State) (i : SetterId) : (loadMemories x u).st i = loadSetter x i.val (u.st i) := by
  simp [loadMemories, State.st, loadSetter]

theorem loadMemories_loaded {x : Slot} {s u : State} (h : applyTables x s = some u) : Loaded x u (loadMemories x u) := by
  obtain ⟨hclocks, hstand⟩ := applyTables_done h
  refine ⟨rfl, fun b => ?_, fun i => ?_, clocksOk_admitted hclocks⟩
  · rw [loadMemories_bay]
    refine ⟨rfl, fun c hc => ?_, fun hwf k hk => imageBram_get hwf b.val hk⟩
    rw [maskOf_loadBay x b.val _ hc]
    exact ⟨field_maskPar _, not_oddMask_maskPar _⟩
  · rw [loadMemories_st]
    exact ⟨by rw [← fDbgwr_eq]; rfl, (hstand i).1, (hstand i).2,
      fun hwf => ⟨fun a ha => imageProg_get hwf i.val ha, fun a ha => imageData_get x i.val ha⟩⟩

/-! ### Its start and its end -/

section
variable {s : State} {slot : BitVec 2} {rest : List (BitVec 2)}

theorem clearTrial_begun (s : State) (slot : BitVec 2) :
    clearTrial slot (modImg (fun i => { i with load := some slot }) (loadReset s)) = begun s slot := rfl

/-- The loader's state as an attempt begins. -/
theorem begun_img (s : State) (slot : BitVec 2) : (begun s slot).img =
    { (loadReset s).img with
      load := some slot, trial := if field s.img.mode 1 0 = 0 ∧ s.img.trial ≠ 0 ∧ s.img.trial = slot then 0 else s.img.trial } := by
  unfold begun
  simp only [loadReset_img]
  split <;> simp

theorem mayAttempt_turn (h : TurnOf s slot rest) : mayAttempt slot s = true := by
  obtain ⟨hstage, hstate, hhold, hnone, hturn, hcopy⟩ := h
  unfold mayAttempt
  rw [hstage, hhold, hnone, hturn]
  cases hx : s.img.stream with
  | none => simpa using hstate
  | some x => simpa [hcopy x hx] using hstate

theorem slotOf_begun (s : State) (slot : BitVec 2) (n : Nat) : slotOf (begun s slot).img n = imgSlot s n := by
  rw [begun_img, loadReset_img]
  rfl

/-- The attempt of the slot whose turn it is: what its steps give. -/
theorem exec_loadAttempt (h : TurnOf s slot rest) : exec (.loadAttempt slot) s =
    .next ((attempt (imgSlot s slot.toNat) (begun s slot)).elim
      (fun r => failAttempt slot.toNat r.1 r.2.1 r.2.2 (begun s slot)) id) := by
  have hexec : exec (.loadAttempt slot) s = execLoadAttempt slot s := rfl
  rw [hexec, execLoadAttempt]
  simp only [mayAttempt_turn h, Bool.not_true, Bool.false_eq_true, if_false, clearTrial_begun, slotOf_begun]
  generalize attempt (imgSlot s slot.toNat) (begun s slot) = r
  rcases r with ⟨c, b, f⟩ | t
  · simp only [Sum.elim_inl]
  · simp only [Sum.elim_inr, id]

/-- Only the loader's slots, and how many attempts failed before, matter to what a failure leaves. -/
theorem failed_before {u t : State} {c b f : Nat} (h : Failed u t slot c b f rest) (hs : u.img.slots = s.img.slots)
    (hf : u.img.failed = s.img.failed) : Failed s t slot c b f rest := by
  obtain ⟨hl, hc, ⟨h1, h2, h3, h4, h5⟩, hh, hlast, hslots⟩ := h
  exact ⟨hl, hc, ⟨h1, h2, h3, h4, hf ▸ h5⟩, hh, hlast, hslots.trans hs⟩

/-- An attempt whose steps give a cause fails with it (R286). -/
theorem loadAttempt_fails (h : TurnOf s slot rest) {c b f : Nat}
    (ha : attempt (imgSlot s slot.toNat) (begun s slot) = .inl (c, b, f)) :
    ∃ t, exec (.loadAttempt slot) s = .next t ∧ Failed s t slot c b f rest ∧
      (field s.img.mode 1 0 = 0 → s.img.trial = slot → t.img.trial = 0) := by
  have hturn : (begun s slot).img.cands = slot :: rest := by rw [begun_img, loadReset_img]; exact h.turn
  have hexec : exec (.loadAttempt slot) s = .next (failAttempt slot.toNat c b f (begun s slot)) := by
    rw [exec_loadAttempt h, ha, Sum.elim_inl]
  refine ⟨_, hexec, failed_before (failAttempt_failed hturn c b f) ?_ ?_, fun hm ht => ?_⟩
  · rw [begun_img, loadReset_img]
  · rw [begun_img, loadReset_img]
  · rw [(failAttempt_leaves hturn c b f).1]
    simp only [afterFailure, failNoted, loadReset_img, begun_img]
    split
    · rfl
    · next hn => exact not_not.1 fun hne => hn ⟨hm, hne, ht⟩

/-- What the header gives an attempt. -/
theorem attempt_header {x : Slot} {c : Nat} (h : headerCause s.img x = some c) : attempt x (begun s slot) = .inl (c, 0, 0) := by
  have hcause : headerCause (begun s slot).img x = headerCause s.img x := by rw [begun_img, loadReset_img]; rfl
  rw [attempt, hcause, h]

theorem attempt_tables {x : Slot} (h : headerCause s.img x = none) (ht : applyTables x (begun s slot) = none) :
    attempt x (begun s slot) = .inl (5, 0, 0) := by
  have hcause : headerCause (begun s slot).img x = headerCause s.img x := by rw [begun_img, loadReset_img]; rfl
  rw [attempt, hcause, h, ht]

theorem attempt_memories {x : Slot} {u : State} (h : headerCause s.img x = none) (ht : applyTables x (begun s slot) = some u) :
    attempt x (begun s slot) = (memoryCause x).elim (.inr (loadMemories x u)) .inl := by
  have hcause : headerCause (begun s slot).img x = headerCause s.img x := by rw [begun_img, loadReset_img]; rfl
  rw [attempt, hcause, h, ht]
  simp only
  cases memoryCause x <;> rfl

/-- A slot whose header, tables and planes all pass is loaded and its load goes on (R282). -/
theorem loadAttempt_loads (h : TurnOf s slot rest) {u : State} (ht : applyTables (imgSlot s slot.toNat) (begun s slot) = some u)
    (ha : attempt (imgSlot s slot.toNat) (begun s slot) = .inr (loadMemories (imgSlot s slot.toNat) u)) :
    ∃ t, exec (.loadAttempt slot) s = .next t ∧ Loaded (imgSlot s slot.toNat) u t ∧ t.img.load = some slot ∧ t.img.cands = slot :: rest := by
  have hkept : u.img = _ := (applyTables_keepsLoader _ _).of u ht
  have hexec : exec (.loadAttempt slot) s = .next (loadMemories (imgSlot s slot.toNat) u) := by
    rw [exec_loadAttempt h, ha, Sum.elim_inr, id]
  refine ⟨_, hexec, loadMemories_loaded ht, ?_, ?_⟩
  · show u.img.load = _
    rw [hkept, begun_img]
  · show u.img.cands = _
    rw [hkept, begun_img, loadReset_img]
    exact h.turn

end

end Sys2Proof.Proofs
end

section
/-! PROOFS. The boot's start (R280, R281, R349), a PLL that does not lock (R177), and the global release (R158, R282 steps 6 and 7, R284). -/

namespace Sys2Proof.Proofs
open Sys2Proof Sys2Proof.Machine Sys2Proof.Claims

/-! ### The boot -/

/-- A full load has begun with its candidates (R280, R283). -/
structure Starting (s t : State) (cands : List (BitVec 2)) : Prop where
  held : Held t
  pwr : t.pwr.stage = s.pwr.stage ∧ t.pwr.on = s.pwr.on
  faultn : t.faultn = s.faultn
  pln : t.pln.bootcnt = s.pln.bootcnt ∧ t.pln.i2caddr = s.pln.i2caddr
  img : t.img.load = none ∧ t.img.failed = 0 ∧ t.img.slots = s.img.slots ∧ t.img.mode = s.img.mode
  cands : t.img.cands = cands
  pend : ∀ n, pendBit s n = true → pendBit t n = true

theorem beginLoad_starting (cands : List (BitVec 2)) (s : State) : Starting s (beginLoad cands s) cands := by
  have load := loadReset_atLoad s
  obtain ⟨hhold, hout, hsetters, hbays⟩ := loadReset_held s
  refine ⟨⟨hhold, hout, hsetters, hbays⟩, load.stage, load.faultn, ?_, ?_, rfl, load.pend⟩
  · show (loadReset s).pln.bootcnt = _ ∧ (loadReset s).pln.i2caddr = _
    rw [load.pln]
    exact ⟨rfl, rfl⟩
  · simp [beginLoad]

theorem openStream_starting {s t : State} {cands : List (BitVec 2)} (h : Starting s t cands) (src : StreamSource) (ch : Channel) (target : Nat)
    (boot : Bool) : Starting s (openStream src ch target boot t) cands := by
  obtain ⟨⟨hhold, hout, hsetters, hbays⟩, hpwr, hfaultn, hpln, himg, hcands, hpend⟩ := h
  exact ⟨⟨hhold, hout, hsetters, hbays⟩, hpwr, hfaultn, hpln, himg, hcands, hpend⟩

/-- The state whose boot copies an image into EXTSLOT first: no stream is in progress. -/
def noStream (s : State) : State := { s with img := { s.img with stream := none } }

/-- The boot from EXTSLOT, with the stream that fills it (R281). -/
theorem streamBoot_starting (src : StreamSource) (s : State) (t : State)
    (h : t = openStream src .queue s.img.extslot.toNat true (beginLoad (thenZero s.img.extslot) (noStream s))) :
    Starting s t (after0 s.img.extslot) ∧ ∃ x, t.img.stream = some x ∧ x.boot = true ∧ x.target = s.img.extslot.toNat ∧ x.got = 0 ∧
      x.src = src := by
  subst h
  obtain ⟨held, pwr, faultn, pln, img, cands, pend⟩ :=
    openStream_starting (beginLoad_starting (thenZero s.img.extslot) (noStream s)) src .queue s.img.extslot.toNat true
  exact ⟨⟨held, pwr, faultn, pln, img, cands, pend⟩, _, rfl, rfl, rfl, rfl, rfl⟩

/-- The boot source decides what the boot starts with (R280). -/
theorem startBoot_starting (s : State) : ∃ cands, Starting s (startBoot s) cands ∧
    (s.img.mode.toNat % 4 = 0 → cands = after0 (if s.img.trial ≠ 0 then s.img.trial else s.img.primary)) ∧
    (s.img.mode.toNat % 4 = 1 ∨ s.img.mode.toNat % 4 = 2 → cands = after0 s.img.extslot ∧
      ∃ x, (startBoot s).img.stream = some x ∧ x.boot = true ∧ x.target = s.img.extslot.toNat ∧ x.got = 0 ∧
        x.src = if s.img.mode.toNat % 4 = 1 then .cfg else .chain) ∧
    (s.img.mode.toNat % 4 = 3 → cands = []) := by
  have hfield : (field s.img.mode 1 0).toNat = s.img.mode.toNat % 4 := by
    rw [toNat_field]
    omega
  have hlt : s.img.mode.toNat % 4 < 4 := Nat.mod_lt _ (by decide)
  have hboot : startBoot s = match s.img.mode.toNat % 4 with
      | 0 => beginLoad (thenZero (if s.img.trial ≠ 0 then s.img.trial else s.img.primary)) s
      | 1 => openStream .cfg .queue s.img.extslot.toNat true (beginLoad (thenZero s.img.extslot) (noStream s))
      | 2 => openStream .chain .queue s.img.extslot.toNat true (beginLoad (thenZero s.img.extslot) (noStream s))
      | _ => beginLoad [] s := by
    rw [← hfield]
    rfl
  generalize startBoot s = t at hboot
  interval_cases s.img.mode.toNat % 4
  · exact ⟨_, hboot ▸ beginLoad_starting _ s, fun _ => rfl, by simp, by simp⟩
  · obtain ⟨hstart, hstream⟩ := streamBoot_starting .cfg s t hboot
    exact ⟨_, hstart, by simp, fun _ => ⟨rfl, hstream⟩, by simp⟩
  · obtain ⟨hstart, hstream⟩ := streamBoot_starting .chain s t hboot
    exact ⟨_, hstart, by simp, fun _ => ⟨rfl, hstream⟩, by simp⟩
  · exact ⟨_, hboot ▸ beginLoad_starting _ s, by simp, by simp, fun _ => rfl⟩

/-- The device as the boot starts, its boot source sampled and the plinth running (R280, R349, R380). -/
def booting (mode : BitVec 3) (s : State) : State :=
  { s with
    pwr := { s.pwr with stage := .run, on := true }
    img := { s.img with mode := mode }
    pln := { s.pln with bootcnt := s.pln.bootcnt + 1, i2caddr := BitVec.ofNat 7 (0x58 + mode.toNat) }
    faultn := true }

/-- The start and a brown-out's cause are logged (R326). -/
def bootLogged (cause : StartCause) (vsup : BitVec 16) (s : State) : State :=
  let t := logRec 0x0001 0 noSource (valAt 0 (causeCode cause)) mmark s
  if cause = .brownout then logRec 0x0031 2 noSource (vsup.setWidth 32) 0 t else t

theorem bootLogged_told (cause : StartCause) (vsup : BitVec 16) (s : State) : Told s (bootLogged cause vsup s) := by
  unfold bootLogged
  simp only
  split
  · exact (logRec_told ..).trans (logRec_told ..)
  · exact logRec_told ..

theorem exec_bootStart {s : State} (h : s.pwr.stage = .core) (straps : BitVec 3) (cause : StartCause) :
    exec (.bootStart straps cause) s = .next (startBoot (bootLogged cause s.pwr.vsup (booting (if vio4 s then straps else 0) s))) := by
  have hexec : exec (.bootStart straps cause) s = execBootStart straps cause s := rfl
  rw [hexec, execBootStart, h, if_neg (by decide)]
  simp only [bootLogged, booting]

/-! ### A load's PLLs -/

theorem exec_loadLockTimeout {s : State} {slot : BitVec 2} {p : PllId} (hl : s.img.load = some slot) (he : (s.clk.pll.get p).en = true)
    (hk : (s.clk.pll.get p).lock = false) : exec (.loadLockTimeout p) s = .next (failAttempt slot.toNat 8 0 0 s) := by
  have hexec : exec (.loadLockTimeout p) s = execLoadLockTimeout p s := rfl
  rw [hexec, execLoadLockTimeout, hl]
  simp only [he, hk, Bool.true_or, Bool.not_false, Bool.and_self, if_true]

theorem globalRelease_waits {s : State} {slot : BitVec 2} (hl : s.img.load = some slot)
    (h : pllsReady s.clk = false ∨ (s.pln.ready = false ∧ s.pln.romonly = false)) (nets : List (BitVec 256)) :
    exec (.globalRelease nets) s = .next s := by
  have hexec : exec (.globalRelease nets) s = execGlobalRelease nets s := rfl
  rw [hexec, execGlobalRelease, hl]
  rcases h with h | ⟨hr, ho⟩
  · simp [h]
  · simp [hr, ho]

theorem globalRelease_refused {s : State} {slot : BitVec 2} (hl : s.img.load = some slot) (hp : pllsReady s.clk = true)
    (hr : s.pln.ready = true) (hs : fStrict (imgSlot s slot.toNat).manifest = true) (hd : digestOk (imgSlot s slot.toNat) = false)
    (nets : List (BitVec 256)) : exec (.globalRelease nets) s = .next (failAttempt slot.toNat 9 0 0 s) := by
  have hexec : exec (.globalRelease nets) s = execGlobalRelease nets s := rfl
  have hslot : slotOf s.img slot.toNat = imgSlot s slot.toNat := rfl
  rw [hexec, execGlobalRelease, hl]
  simp only [hp, hr, hslot, hs, hd, Bool.not_true, Bool.true_or, Bool.or_self, Bool.not_false, Bool.and_self, if_true, Bool.false_eq_true,
    if_false]

theorem globalRelease_releases {s : State} {slot : BitVec 2} (hl : s.img.load = some slot) (hp : pllsReady s.clk = true)
    (hr : s.pln.ready = true) (hd : fStrict (imgSlot s slot.toNat).manifest = true → digestOk (imgSlot s slot.toNat) = true)
    (nets : List (BitVec 256)) : exec (.globalRelease nets) s = .next (releaseAll slot nets s) := by
  have hexec : exec (.globalRelease nets) s = execGlobalRelease nets s := rfl
  have hslot : slotOf s.img slot.toNat = imgSlot s slot.toNat := rfl
  rw [hexec, execGlobalRelease, hl]
  simp only [hp, hr, hslot, Bool.not_true, Bool.true_or, Bool.or_self, Bool.false_eq_true, if_false]
  rw [if_neg]
  simpa using hd

end Sys2Proof.Proofs
end

section
/-! PROOFS. The setters that a global release starts (R38, R67, R284), which no raise stops; and the release itself. -/

namespace Sys2Proof.Proofs
open Sys2Proof Sys2Proof.Machine Sys2Proof.Claims

/-! ### Setters that go on -/

/-- A setter whose RUN is 1 stops no more than it did; whether it is enabled stands. -/
structure Going (x y : Setter) : Prop where
  enabled : y.enabled = x.enabled
  run : y.run = x.run
  stopped : x.run = true → y.stopped = x.stopped

theorem Going.refl (x : Setter) : Going x x := ⟨rfl, rfl, fun _ => rfl⟩

theorem Going.trans {x y z : Setter} (h : Going x y) (k : Going y z) : Going x z :=
  ⟨k.enabled.trans h.enabled, k.run.trans h.run, fun hx => (k.stopped (h.run.trans hx)).trans (h.stopped hx)⟩

/-- All setters go on. -/
structure GoingAll (s t : State) : Prop where
  each : ∀ i, Going (s.st i) (t.st i)

theorem GoingAll.of_setters {s t : State} (h : t.setters = s.setters) : GoingAll s t :=
  ⟨fun i => (show t.st i = s.st i from congrArg (fun v : Vector Setter 16 => v.get i) h) ▸ .refl _⟩

theorem GoingAll.refl (s : State) : GoingAll s s := .of_setters rfl

theorem GoingAll.trans {s t u : State} (h : GoingAll s t) (k : GoingAll t u) : GoingAll s u := ⟨fun i => (h.each i).trans (k.each i)⟩

theorem putS_going {s : State} {i : SetterId} {x : Setter} (h : Going (s.st i) x) : GoingAll s (s.putS i x) := by
  refine ⟨fun j => ?_⟩
  by_cases hj : i = j
  · subst hj
    simpa using h
  · rw [State.putS_st_other _ _ _ _ hj]
    exact .refl _

theorem usedFree_going (s : State) : GoingAll s s.usedFree := .of_setters rfl

theorem missTick_going (x : Setter) (tb : Bool) : Going x (x.missTick.afterTick tb) := by
  unfold Setter.missTick Setter.afterTick Setter.seeTb
  split_ifs <;> exact ⟨rfl, rfl, fun _ => rfl⟩

theorem takeTick_going (x : Setter) (next : BitVec 14) (v : BitVec 256) (tb : Bool) : Going x ((x.takeTick next v).afterTick tb) := by
  unfold Setter.takeTick Setter.afterTick Setter.seeTb
  split_ifs <;> exact ⟨rfl, rfl, fun _ => rfl⟩

theorem endWev_going (x : Setter) (d : Reg) (v : Word) (c : Nat) : Going x (x.endWev d v c) := ⟨rfl, rfl, fun _ => rfl⟩

section
variable {rs : Nat → State → State} (hrs : ∀ n s, GoingAll s (rs n s))
include hrs

/-- The end of an instruction stops a setter whose RUN is 0 alone (R67). -/
theorem settleWith_going (i : SetterId) (s : State) : GoingAll s (settleWith rs i s) := by
  unfold settleWith
  split
  · exact .refl s
  · next h =>
    exact GoingAll.trans (t := s.putS i { s.st i with stopped := true }) (putS_going ⟨rfl, rfl, fun hr => absurd hr h⟩) (hrs ..)

theorem tickWith_going (i : SetterId) (v : BitVec 256) (s : State) : GoingAll s (tickWith rs i v s) := by
  unfold tickWith
  simp only
  split
  · exact .refl s
  · split
    · split
      · exact putS_going (missTick_going ..)
      · exact (putS_going (takeTick_going ..)).trans (settleWith_going hrs ..)
    · exact putS_going (missTick_going ..)

theorem wevWith_going (i : SetterId) (s : State) : GoingAll s (wevWith rs i s) := by
  unfold wevWith
  simp only
  split
  · split
    · exact .refl s
    · refine GoingAll.trans ?_ (settleWith_going hrs ..)
      exact (putS_going (endWev_going ..)).trans (usedFree_going _)
  · exact .refl s

theorem lineWith_going (wake : Bool) (i : SetterId) (line : Nat) (s : State) : GoingAll s (lineWith rs wake i line s) := by
  unfold lineWith
  simp only
  split
  · exact .refl s
  · split
    · split
      · exact .of_setters rfl
      · exact .refl s
    · have h : GoingAll s (s.putS i { s.st i with evl := setBit (s.st i).evl line true }) := putS_going ⟨rfl, rfl, fun _ => rfl⟩
      refine GoingAll.trans ?_ (wevWith_going hrs ..)
      split
      · exact (h.trans (usedFree_going _)).trans (tickWith_going hrs ..)
      · exact h

end

theorem raiseF_going (f n : Nat) (s : State) : GoingAll s (raiseF f n s) := by
  induction f generalizing n s with
  | zero => exact .of_setters rfl
  | succ f ih =>
    unfold raiseF
    split
    · exact .refl s
    · split
      · exact .of_setters rfl
      · have pended : GoingAll s (setPend n s) := .of_setters rfl
        have told : ∀ wake route, GoingAll (setPend n s) (deliverWith (raiseF f) wake route (setPend n s)) := fun wake route =>
          foldl_rel .refl .trans (fun t i => by
            split
            · exact lineWith_going ih ..
            · exact .refl t) _ _
        have h := pended.trans (told (wakeSource s n) (routeOf s n))
        simp only
        split
        · split
          · next hc => exact h.trans (.of_setters (sendOwn_setters hc))
          · exact h.trans (ih ..)
        · exact h

theorem raise_going (n : Nat) (s : State) : GoingAll s (raise n s) := raiseF_going 20 n s

theorem raiseIf_going (c : Bool) (n : Nat) (s : State) : GoingAll s (raiseIf c n s) := by
  unfold raiseIf
  split
  · exact raise_going n s
  · exact .refl s

theorem logRec_going (code sev src : Nat) (d0 d1 : Word) (s : State) : GoingAll s (logRec code sev src d0 d1 s) := by
  obtain ⟨q, -, h | h⟩ := logRec_cases code sev src d0 d1 s <;> rw [h]
  · exact .of_setters rfl
  · exact GoingAll.trans (t := { s with pln := q }) (.of_setters rfl) (raise_going ..)

/-! ### The steps of the release -/

/-- What the log, the queues, the starts and the raises of a release leave. -/
structure Settled (s t : State) : Prop where
  img : t.img = s.img
  lines : t.rstout = s.rstout ∧ t.faultn = s.faultn
  bays : t.bays = s.bays
  io : t.io = s.io
  store : t.store = s.store
  clk : t.clk = s.clk
  pend : ∀ n, pendBit s n = true → pendBit t n = true

theorem Settled.refl (s : State) : Settled s s := ⟨rfl, ⟨rfl, rfl⟩, rfl, rfl, rfl, rfl, fun _ h => h⟩

theorem Settled.trans {s t u : State} (h : Settled s t) (k : Settled t u) : Settled s u :=
  ⟨k.img.trans h.img, ⟨k.lines.1.trans h.lines.1, k.lines.2.trans h.lines.2⟩, k.bays.trans h.bays, k.io.trans h.io, k.store.trans h.store,
    k.clk.trans h.clk, fun n hn => k.pend n (h.pend n hn)⟩

theorem logRec_settled (code sev src : Nat) (d0 d1 : Word) (s : State) : Settled s (logRec code sev src d0 d1 s) := by
  have h := logRec_told code sev src d0 d1 s
  have he := h.eq
  exact ⟨by rw [he], ⟨by rw [he], by rw [he]⟩, by rw [he], by rw [he], by rw [he], by rw [he], h.pend⟩

theorem raiseIf_settled (c : Bool) (n : Nat) (s : State) : Settled s (raiseIf c n s) := by
  have h := raiseIf_raised c n s
  have he := h.eq
  exact ⟨by rw [he], ⟨by rw [he], by rw [he]⟩, by rw [he], by rw [he], by rw [he], by rw [he], h.pend⟩

theorem raiseIf_pend {n : Nat} (hn : n < 640) (s : State) : pendBit (raiseIf true n s) n = true := raise_pend n s hn

/-- Banks whose comparison failed are logged, no more. -/
theorem logBanks_settled (s : State) : Settled s (logBanks s) ∧ GoingAll s (logBanks s) := by
  refine ⟨foldl_rel .refl .trans (fun t k => ?_) _ s, foldl_rel .refl .trans (fun t k => ?_) _ s⟩
  · simp only
    split
    · exact logRec_settled ..
    · exact .refl t
  · simp only
    split
    · exact logRec_going ..
    · exact .refl t

theorem enableQueues_settled (x : Slot) (s : State) : Settled s (enableQueues x s) ∧ GoingAll s (enableQueues x s) :=
  ⟨foldl_rel .refl .trans (f := fun t q => putDesc q ((descOf t q).setEn true) t)
      (fun _ _ => ⟨rfl, ⟨rfl, rfl⟩, rfl, rfl, rfl, rfl, fun _ h => h⟩) _ s,
    foldl_rel .refl .trans (f := fun t q => putDesc q ((descOf t q).setEn true) t) (fun _ _ => .of_setters rfl) _ s⟩

/-- A setter as the release leaves it: started where it is enabled (R38). -/
def Started (x y : Setter) : Prop := x.enabled = true → y.run = true ∧ y.stopped = false

/-- One setter's turn at the release: TBLOST follows the time base, and it starts where it is enabled. -/
def releaseSetter (v : BitVec 256) (i : SetterId) (s : State) : State :=
  let u := s.modS i (fun x => x.seeTb s.irs.tbvalid)
  if (s.st i).enabled then startSetter i v true u else u

theorem startSetter_settled (i : SetterId) (v : BitVec 256) (s : State) : Settled s (startSetter i v true s) := by
  unfold startSetter
  split <;> exact ⟨rfl, ⟨rfl, rfl⟩, rfl, rfl, rfl, rfl, fun _ h => h⟩

theorem releaseSetter_settled (v : BitVec 256) (i : SetterId) (s : State) : Settled s (releaseSetter v i s) := by
  have see : Settled s (s.modS i (fun x => x.seeTb s.irs.tbvalid)) := ⟨rfl, ⟨rfl, rfl⟩, rfl, rfl, rfl, rfl, fun _ h => h⟩
  unfold releaseSetter
  simp only
  split
  · exact see.trans (startSetter_settled ..)
  · exact see

theorem releaseSetter_started (v : BitVec 256) (i : SetterId) (s : State) : Started (s.st i) ((releaseSetter v i s).st i) := by
  intro he
  simp [releaseSetter, he, startSetter]

theorem modS_other {i j : SetterId} (h : i ≠ j) (f : Setter → Setter) (s : State) : (s.modS i f).st j = s.st j := by
  rw [State.modS_eq, State.putS_st_other _ _ _ _ h]

theorem startSetter_other (v : BitVec 256) {i j : SetterId} (h : i ≠ j) (s : State) : (startSetter i v true s).st j = s.st j := by
  refine (modS_other h ..).trans ?_
  split
  · exact modS_other h ..
  · rfl

theorem releaseSetter_other (v : BitVec 256) {i j : SetterId} (h : i ≠ j) (s : State) : (releaseSetter v i s).st j = s.st j := by
  unfold releaseSetter
  simp only
  split
  · exact (startSetter_other v h _).trans (modS_other h ..)
  · exact modS_other h ..

theorem startEnabled_starts (nets : List (BitVec 256)) (s : State) :
    Settled s (startEnabled nets s) ∧ ∀ i, Started (s.st i) ((startEnabled nets s).st i) := by
  obtain ⟨hsettled, hstarted⟩ := foldl_every (get := State.st) (I := Settled s) (Q := fun _ => Started)
    (f := fun i u => releaseSetter (sampleTaps i (nets.getD i.val 0) s) i u)
    (fun i u hu => ⟨hu.trans (releaseSetter_settled ..), releaseSetter_started _ i u, fun j hj => releaseSetter_other _ hj u⟩)
    (List.nodup_finRange 16) (Settled.refl s)
  exact ⟨hsettled, fun i => hstarted i (List.mem_finRange i)⟩

/-! ### The release -/

/-- The device at the moment of the release, before its log and its starts (R284). -/
def released (slot : BitVec 2) (s : State) : State :=
  let m := (imgSlot s slot.toNat).manifest
  { s with
    img := { s.img with load := none, cands := [], hold := false, locked := true, everRel := true, noimage := false,
                        fallback := decide (0 < s.img.failed), digest := if fStrict m then 1 else 0, strict := fStrict m,
                        mismatch := fMismatch m, dbgwr := fDbgwr m, bootslot := slot, tableid := mTableid m,
                        bayslot := Vector.replicate 64 slot, setslot := Vector.replicate 16 slot,
                        iopay := (imgSlot s slot.toNat).payload }
    arb := settleArb s.arb
    bays := s.bays.map (fun b => { b with
      rstSrc := b.rstSrc.map (fun w => setBit w 0 false), rclk := b.rclk.map RClk.released })
    io := { s.io with bank := s.io.bank.map bankRelease }
    rpt := s.rpt.map rptRelease
    rstout := false
    faultn := !s.pln.ready }

theorem releaseAll_eq (slot : BitVec 2) (nets : List (BitVec 256)) (s : State) : releaseAll slot nets s =
    let u := startEnabled nets (enableQueues (imgSlot s slot.toNat) (logBanks (released slot s)))
    raiseIf s.pwr.bor 554 (raiseIf (decide (0 < s.img.failed)) 609 (logRec 0x0002 (if decide (0 < s.img.failed) then 1 else 0)
      (if decide (0 < s.img.failed) then 609 else noSource) (valAt 0 slot.toNat) (imgStatus u.img) u)) := rfl

theorem releaseAll_settled (slot : BitVec 2) (nets : List (BitVec 256)) (s : State) : Settled (released slot s) (releaseAll slot nets s) := by
  rw [releaseAll_eq]
  exact ((((logBanks_settled _).1.trans (enableQueues_settled _ _).1).trans (startEnabled_starts nets _).1).trans (logRec_settled ..)).trans
    ((raiseIf_settled ..).trans (raiseIf_settled ..))

theorem releaseAll_started (slot : BitVec 2) (nets : List (BitVec 256)) (s : State) (i : SetterId) :
    Started (s.st i) ((releaseAll slot nets s).st i) := by
  have hbefore : GoingAll (released slot s) (enableQueues (imgSlot s slot.toNat) (logBanks (released slot s))) :=
    (logBanks_settled _).2.trans (enableQueues_settled ..).2
  have hafter : GoingAll (startEnabled nets (enableQueues (imgSlot s slot.toNat) (logBanks (released slot s)))) (releaseAll slot nets s) := by
    rw [releaseAll_eq]
    exact (logRec_going ..).trans ((raiseIf_going ..).trans (raiseIf_going ..))
  intro he
  obtain ⟨hrun, hstop⟩ := (startEnabled_starts nets _).2 i ((hbefore.each i).enabled.trans he)
  exact ⟨(hafter.each i).run.trans hrun, ((hafter.each i).stopped hrun).trans hstop⟩

theorem releaseAll_raises (slot : BitVec 2) (nets : List (BitVec 256)) (s : State) :
    (0 < s.img.failed → pendBit (releaseAll slot nets s) 609 = true) ∧ (s.pwr.bor = true → pendBit (releaseAll slot nets s) 554 = true) := by
  rw [releaseAll_eq]
  refine ⟨fun hf => (raiseIf_settled ..).pend 609 ?_, fun hb => ?_⟩
  · rw [decide_eq_true hf]
    exact raiseIf_pend (by decide) _
  · rw [hb]
    exact raiseIf_pend (by decide) _

end Sys2Proof.Proofs
end

section
/-! PROOFS. The background digest (R285), and booting and loading as a whole (R280 to R288). -/

namespace Sys2Proof.Proofs
open Sys2Proof Sys2Proof.Machine Sys2Proof.Claims

/-! ### The background digest -/

/-- The slot last fully loaded is found not to be the one that was signed (R285, R326). -/
def digestFailed (s : State) : State :=
  let slot := s.img.bootslot
  logRec 0x0004 2 608 (valAt 0 slot.toNat) 0 (invalidate slot.toNat (raise 608 (modImg (fun i => { i with digest := 2 }) s)))

theorem exec_backgroundDigest {s : State} (hh : s.img.hold = false) (hd : s.img.digest = 0) (hs : s.img.strict = false)
    (hp : s.pwr.state ≠ 3) (hr : s.pwr.stage = .run) : exec .backgroundDigestDone s = .next (
      if digestOk (imgSlot s s.img.bootslot.toNat) then modImg (fun i => { i with digest := 1 }) s
      else if (digestFailed s).img.mismatch && s.img.bootslot != 0
        then loadFailed s.img.bootslot.toNat 12 0 0 (beginLoad [0] (digestFailed s)) else digestFailed s) := by
  have hexec : exec .backgroundDigestDone s = execBackgroundDigestDone s := rfl
  have hslot : slotOf s.img s.img.bootslot.toNat = imgSlot s s.img.bootslot.toNat := rfl
  have hgo : (s.img.hold || s.img.digest != 0 || s.img.strict || s.pwr.state == 3 || s.pwr.stage != .run) = false := by
    rw [hh, hd, hs, hr]
    simpa using hp
  rw [hexec, execBackgroundDigestDone, hgo]
  simp only [Bool.false_eq_true, if_false, hslot]
  rfl

theorem digestFailed_img (s : State) : (digestFailed s).img =
    { s.img with digest := 2, slots := nthUpd s.img.slots s.img.bootslot.toNat (fun x => { x with state := 3 }) } := by
  simp [digestFailed, invalidate, modSlot]

theorem digestFailed_bays (s : State) : (digestFailed s).bays = s.bays := by
  rw [digestFailed, (logRec_settled ..).bays]
  simp [invalidate, modSlot, modImg]

theorem digestFailed_raises (s : State) : pendBit (digestFailed s) 608 = true ∧ pendBit (digestFailed s) 611 = true := by
  have raised := raise_pend 608 (modImg (fun i => { i with digest := 2 }) s) (by decide)
  refine ⟨(logRec_settled ..).pend _ ((raise_raised 611 _).pend _ ?_), (logRec_settled ..).pend _ (raise_pend 611 _ (by decide))⟩
  exact raised

/-- The slot is INVALID, and no other slot changes. -/
theorem digestFailed_slots {s : State} (h : s.img.bootslot.toNat < 3) :
    (imgSlot (digestFailed s) s.img.bootslot.toNat).state = 3 ∧ OtherSlots s (digestFailed s) s.img.bootslot.toNat := by
  constructor
  · rw [imgSlot, digestFailed_img, nth_nthUpd, if_pos rfl, nth, dif_pos h]
    rfl
  · intro k hk
    rw [digestFailed_img, nth_nthUpd, if_neg (Ne.symm hk)]

/-- A record logged while nothing is routed changes no setter. -/
theorem logRec_held {s : State} (h : Held s) (hr : s.evt.route = []) (code sev src : Nat) (d0 d1 : Word) :
    Held (logRec code sev src d0 d1 s) := by
  obtain ⟨hhold, hout, hsetters, hbays⟩ := h
  have settled := logRec_settled code sev src d0 d1 s
  refine ⟨settled.img ▸ hhold, settled.lines.1.trans hout, fun i => ?_, fun b => settled.bays ▸ hbays b⟩
  rw [← hsetters i]
  obtain ⟨q, -, e | e⟩ := logRec_cases code sev src d0 d1 s <;> rw [e]
  cases hp : pendBit { s with pln := q } 550 with
  | false => rw [raise_unrouted _ _ hp (by rw [routeOf, hr]; rfl)]; rfl
  | true => rw [raise_again _ _ hp]

/-- The load that a digest's failure starts under MISMATCH, with cause 12 (R285, R286). -/
theorem digestLoad_starts (s : State) (slot : BitVec 2) :
    let t := loadFailed slot.toNat 12 0 0 (beginLoad [0] s)
    Held t ∧ t.img.cands = [0] ∧ t.img.load = none ∧ t.img.failSlot = slot ∧ t.img.failCause = 12 ∧ t.img.slots = s.img.slots ∧
      ∀ n, pendBit s n = true → pendBit t n = true := by
  have start := beginLoad_starting [0] s
  obtain ⟨hhold, hout, hsetters, hbays⟩ := start.held
  have held : Held (modImg (failNoted slot.toNat 12 0 0) (beginLoad [0] s)) := ⟨hhold, hout, hsetters, hbays⟩
  have himg : (loadFailed slot.toNat 12 0 0 (beginLoad [0] s)).img = failNoted slot.toNat 12 0 0 (beginLoad [0] s).img := by
    rw [(loadFailed_told ..).eq]
    rfl
  refine ⟨logRec_held held (loadReset_atLoad s).route .., ?_, ?_, ?_, ?_, ?_, fun n hn => (loadFailed_told ..).pend n (start.pend n hn)⟩
  · rw [himg]; exact start.cands
  · rw [himg]; exact start.img.1
  · rw [himg]; simp [failNoted]
  · rw [himg]; rfl
  · rw [himg]; exact start.img.2.2.1

/-! ### The global release -/

/-- What the global release leaves of the loader, of the lines, of the bays and of the banks (R158, R284). -/
theorem releaseAll_leaves {s : State} (slot : BitVec 2) (nets : List (BitVec 256)) (hr : s.pln.ready = true) :
    let t := releaseAll slot nets s
    t.img = (released slot s).img ∧ t.rstout = false ∧ t.faultn = false ∧
    (∀ b n, ((t.bay b).rstSrc.get n).getLsbD 0 = false ∧ ((t.bay b).rclk.get n).busy = false) ∧
    (∀ k, t.io.bank.get k = bankRelease (s.io.bank.get k)) ∧ t.store = s.store ∧ t.clk = s.clk := by
  have h := releaseAll_settled slot nets s
  refine ⟨h.img, h.lines.1, h.lines.2.trans ?_, fun b n => ?_, fun k => ?_, h.store, h.clk⟩
  · simp [released, hr]
  · have hbay : (releaseAll slot nets s).bay b = { s.bay b with
                  rstSrc := (s.bay b).rstSrc.map (fun w => setBit w 0 false), rclk := (s.bay b).rclk.map RClk.released } := by
      rw [State.bay, h.bays]
      simp [released, State.bay]
    rw [hbay]
    constructor
    · have hget : ((s.bay b).rstSrc.map (fun w => setBit w 0 false)).get n = setBit ((s.bay b).rstSrc.get n) 0 false := Vector.getElem_map ..
      exact (congrArg (·.getLsbD 0) hget).trans ((setBit_get _ 0 0 false (by decide)).trans (if_pos rfl))
    · simp [RClk.released]
  · rw [h.io]
    simp [released]

/-- A bank's row of the release (R158). -/
theorem bankRelease_conf {b : IoBank} (h : b.conf = true) : bankRelease b =
    if b.band = some b.vio then { b with inEffect := true } else { b with vioerr := true } := if_pos h

/-- An attempt's outcome, cause by cause (R282, R286). -/
theorem loadAttempt_outcome {s : State} {slot : BitVec 2} {rest : List (BitVec 2)} (h : TurnOf s slot rest) :
    ∃ t, exec (.loadAttempt slot) s = .next t ∧
      (∀ c b f, attempt (imgSlot s slot.toNat) (begun s slot) = .inl (c, b, f) → Failed s t slot c b f rest) ∧
      (∀ u, applyTables (imgSlot s slot.toNat) (begun s slot) = some u →
        attempt (imgSlot s slot.toNat) (begun s slot) = .inr (loadMemories (imgSlot s slot.toNat) u) →
        Loaded (imgSlot s slot.toNat) u t ∧ t.img.load = some slot ∧ t.img.cands = slot :: rest) ∧
      (field s.img.mode 1 0 = 0 → s.img.trial = slot → (imgSlot s slot.toNat).state ≠ 2 → t.img.trial = 0) := by
  have hstate : (imgSlot s slot.toNat).state ≠ 2 → headerCause s.img (imgSlot s slot.toNat) = some 3 := fun hs =>
    (headerCause_eq ..).trans (if_pos hs)
  cases ha : attempt (imgSlot s slot.toNat) (begun s slot) with
  | inl r =>
    obtain ⟨c, b, f⟩ := r
    obtain ⟨t, ht, hfail, htrial⟩ := loadAttempt_fails h ha
    refine ⟨t, ht, fun c' b' f' e => ?_, fun u _ e => (nomatch e), fun hm hs _ => htrial hm hs⟩
    cases e
    exact hfail
  | inr v =>
    refine ⟨v, by rw [exec_loadAttempt h, ha, Sum.elim_inr, id], fun c b f e => (nomatch e), fun u hu e => ?_, fun _ _ hs => ?_⟩
    · obtain ⟨t, ht, hloaded⟩ := loadAttempt_loads h hu (ha.trans e)
      cases e
      rw [exec_loadAttempt h, ha, Sum.elim_inr, id] at ht
      cases ht
      exact hloaded
    · rw [attempt_header (hstate hs)] at ha
      cases ha

/-- Settles O46: the boot's start, an attempt cause by cause, a PLL's timeout, the release and the background digest, each from the lemma
that says what its operation leaves. -/
theorem loads : Obligations.Loads := by
  unfold Obligations.Loads
  intro s straps cause slot rest p nets
  dsimp only
  refine ⟨fun hstage => ?_, fun hturn => ?_, fun hl hc he hk => ?_, fun hl hc hp hr hs hd => ?_, fun hl h => ?_, fun hl hp hr hd => ?_,
    fun hh hd hs hp hr hb hm => ?_, fun hh hd hs hp hr hb hm hfail => ?_⟩
  · have told := bootLogged_told cause s.pwr.vsup (booting (if vio4 s then straps else 0) s)
    refine ⟨_, exec_bootStart hstage straps cause, ?_⟩
    generalize bootLogged cause s.pwr.vsup (booting (if vio4 s then straps else 0) s) = u at told
    have himg : u.img = { s.img with mode := if vio4 s then straps else 0 } := by rw [told.eq]; rfl
    have hpwr : u.pwr.stage = .run ∧ u.pwr.on = true := by rw [told.eq]; exact ⟨rfl, rfl⟩
    have hfault : u.faultn = true := by rw [told.eq]; rfl
    have hpln : u.pln.bootcnt = s.pln.bootcnt + 1 ∧ u.pln.i2caddr = BitVec.ofNat 7 (0x58 + (if vio4 s then straps else 0).toNat) := by
      rw [told.log.eq]
      exact ⟨rfl, rfl⟩
    obtain ⟨cands, start, h0, h12, h3⟩ := startBoot_starting u
    obtain ⟨hload, hfailed, hslots, hmode⟩ := start.img
    rw [himg] at h0 h12 h3 hslots hmode
    refine ⟨start.held, start.pwr.1.trans hpwr.1, start.pwr.2.trans hpwr.2, hmode, start.faultn.trans hfault, hload, hfailed,
      start.pln.1.trans hpln.1, ?_, hslots, fun h => start.cands.trans (h0 h), fun h => ⟨start.cands.trans (h12 h).1, (h12 h).2⟩,
      fun h => start.cands.trans (h3 h)⟩
    rw [start.pln.2, hpln.2, BitVec.toNat_ofNat, Nat.mod_eq_of_lt]
    have := (if vio4 s then straps else 0).isLt
    omega
  · obtain ⟨t, ht, hfail, hloads, htrial⟩ := loadAttempt_outcome hturn
    refine ⟨t, ht, fun c _ hc => hfail _ _ _ (attempt_header (headerCause_fails hc)), fun hpass => ?_, fun hpass htype => ?_, htrial⟩
    · have hnone := headerCause_none hpass
      cases htab : applyTables (imgSlot s slot.toNat) (begun s slot) with
      | none => exact hfail _ _ _ (attempt_tables hnone htab)
      | some u =>
        have hmem := attempt_memories hnone htab
        refine ⟨fun c b f hfirst harea => hfail _ _ _ ?_, fun n hn hlate => hfail _ _ _ ?_, fun hn hsound => hloads u htab ?_⟩
        · rw [hmem, memoryCause_frame hfirst harea]; rfl
        · rw [hmem, memoryCause_area hn hlate]; rfl
        · rw [hmem, memoryCause_none hn hsound]; rfl
    · exact hfail _ _ _ (attempt_tables (headerCause_none hpass) (applyTables_undefined htype _))
  · exact ⟨_, exec_loadLockTimeout hl he hk, failAttempt_failed hc 8 0 0⟩
  · exact ⟨_, globalRelease_refused hl hp hr ((fStrict_eq _).trans hs) hd nets, failAttempt_failed hc 9 0 0⟩
  · exact globalRelease_waits hl h nets
  · obtain ⟨himg, hout, hfault, hbays, hbanks, hstore, hclk⟩ := releaseAll_leaves slot nets hr
    obtain ⟨h609, h554⟩ := releaseAll_raises slot nets s
    refine ⟨_, globalRelease_releases hl hp hr (fun h => hd ((fStrict_eq _).symm.trans h)) nets, ?_⟩
    rw [himg, ← fStrict_eq]
    exact ⟨rfl, rfl, rfl, rfl, rfl, rfl, rfl, rfl, rfl, fun b => get_replicate .., fun i => get_replicate .., hout, hfault, h609, h554,
      releaseAll_started slot nets s, hbays, fun k hk => (hbanks k).trans (bankRelease_conf hk), hstore, hclk⟩
  · refine ⟨_, exec_backgroundDigest hh hd hs hp hr, fun hok => ?_, fun hbad => ?_⟩
    · rw [if_pos hok]
      rfl
    · have hstay : ((digestFailed s).img.mismatch && s.img.bootslot != 0) = false := by rw [digestFailed_img, hm]; rfl
      obtain ⟨h608, h611⟩ := digestFailed_raises s
      obtain ⟨hstate, hothers⟩ := digestFailed_slots hb
      rw [hbad, if_neg (by decide), hstay, if_neg (by decide)]
      exact ⟨by rw [digestFailed_img], hstate, hothers, h608, h611, by rw [digestFailed_img]; exact hh, digestFailed_bays s⟩
  · have hgo : ((digestFailed s).img.mismatch && s.img.bootslot != 0) = true := by
      rw [digestFailed_img, hm]
      rcases hb with hb | hb <;> rw [hb] <;> rfl
    have hlt : s.img.bootslot.toNat < 3 := by rcases hb with hb | hb <;> rw [hb] <;> decide
    obtain ⟨h608, h611⟩ := digestFailed_raises s
    obtain ⟨held, hcands, hload, hslot, hcause, hslots, hpend⟩ := digestLoad_starts (digestFailed s) s.img.bootslot
    refine ⟨_, exec_backgroundDigest hh hd hs hp hr, ?_⟩
    rw [hfail, if_neg (by decide), if_pos hgo]
    refine ⟨held, hcands, hload, hslot, hcause, ?_, hpend _ h608, hpend _ h611⟩
    rw [imgSlot, hslots]
    exact (digestFailed_slots hlt).1

end Sys2Proof.Proofs
end
